-- ==== Sys2Proof/Word.lean ====
section
/-!
DEFINITION. Sys2Proof/Word.lean: the byte of packets, frames, registers and memory (R5: every
multi-byte field is little-endian; the conversions themselves stand in Machine/Bits.lean).
-/
namespace Sys2Proof

/-- One byte, as packets, frames, mailboxes and memory carry it. -/
abbrev Byte := BitVec 8

end Sys2Proof
end

