-- ==== Sys2Proof/Records.lean ====
section
/-!
DEFINITION. Sys2Proof/Records.lean: the parts of a station's state that twin members copy from one to the other at a block boundary
(R507). State holds them, and the STATE_FRAME command carries them.
-/
namespace Sys2Proof.Machine

/-- A sparse table by index, in one canonical form: indices strictly rising, no entry equal to the table's own
default (each table's reader names its default). The empty table is "every entry at its reset value". -/
abbrev Tab (α : Type) := List (Nat × α)

/-- The tracker's states (R253). -/
inductive RegState where
  | idle | acquire | tracking | coasting
  deriving DecidableEq, Repr

/-- A 128-bit postmark (R174). -/
structure Postmark where
  /-- TIME. Width: 64. (R174) -/
  time : Nat := 0
  /-- POSITION. Width: 48. (R174) -/
  pos : Int := 0
  /-- SOURCE. Width: 4. (R174) -/
  source : Nat := 0
  /-- FLAGS. Width: 12. (R175) -/
  flags : BitVec 12 := 0
  deriving DecidableEq, Repr

/-- What a record needs to know of an output line (R262, R299). -/
structure LineMark where
  /-- Width: 64. (R299) -/
  line : Nat := 0
  /-- Width: 128. (R299) -/
  postmark : Postmark := {}
  /-- REPEAT. Width: 32. (R262) -/
  rep : Nat := 0
  /-- predicted specimen line. Width: 24. (R262) -/
  pos : Nat := 0
  /-- Width: 3. (R218) -/
  seam : BitVec 3 := 0
  /-- Width: 16. (R207) -/
  flags : BitVec 16 := 0
  /-- Width: 8. (R262) -/
  regFlags : BitVec 8 := 0
  deriving DecidableEq, Repr

/-- One tile of a registration field (R260, R272). -/
structure TileEntry where
  /-- DX. Width: 16. (R272) -/
  dx : Int := 0
  /-- DY. Width: 16. (R272) -/
  dy : Int := 0
  /-- Q. Width: 8. (R272) -/
  q : Nat := 0
  /-- Width: 1. (R272) -/
  confident : Bool := false
  /-- Width: 1. (R272) -/
  inherited : Bool := false
  /-- NONE. Width: 1. (R272) -/
  noField : Bool := false
  deriving DecidableEq, Repr

/-- The counts of one column over one repeat (R270). -/
structure StreakCol where
  /-- F. Width: 32. (R270) -/
  flat : Nat := 0
  /-- P+. Width: 32. (R270) -/
  plus : Nat := 0
  /-- P-. Width: 32. (R270) -/
  minus : Nat := 0
  /-- of h over the flat lines. Width: sum. (R271) -/
  sumH : Int := 0
  deriving DecidableEq, Repr

/-- A streak the device tracks (R271, R274). -/
structure Streak where
  /-- FIRST. Width: 16. (R274) -/
  first : Nat := 0
  /-- LAST. Width: 16. (R274) -/
  last : Nat := 0
  /-- SIGN. Width: 1. (R274) -/
  dark : Bool := false
  /-- COVER_PCT. Width: 8. (R274) -/
  cover : Nat := 0
  /-- MEAN_DL. Width: 16. (R274) -/
  mean : Int := 0
  /-- FOUND_REPEAT. Width: 32. (R274) -/
  found : Nat := 0
  /-- repeat ends since its last finding. Width: count. (R271) -/
  since : Nat := 0
  deriving DecidableEq, Repr

/-- The feature sums of a blob or a storm record (R287), on absolute columns and lines. -/
structure Sums where
  /-- Width: 32. (R287) -/
  n : Nat := 0
  /-- Width: 32. (R287) -/
  seeds : Nat := 0
  /-- Width: exact. (R287) -/
  sx : Int := 0
  /-- Width: exact. (R287) -/
  sy : Int := 0
  /-- Width: exact. (R287) -/
  sxx : Int := 0
  /-- Width: exact. (R287) -/
  syy : Int := 0
  /-- Width: exact. (R287) -/
  sxy : Int := 0
  /-- Width: exact. (R287) -/
  de : Int := 0
  /-- Width: exact. (R287) -/
  dl : Int := 0
  /-- Width: exact. (R287) -/
  da : Int := 0
  /-- Width: exact. (R287) -/
  db : Int := 0
  /-- Width: 12. (R286) -/
  deMax : Nat := 0
  /-- Width: 64. (R286) -/
  peakLine : Nat := 0
  /-- Width: 16. (R286) -/
  peakCol : Nat := 0
  /-- Width: 8. (R286) -/
  sevMax : Nat := 0
  /-- Width: 16. (R286) -/
  colFirst : Nat := 0
  /-- Width: 16. (R286) -/
  colLast : Nat := 0
  /-- pixels from SUSPENDED lines. Width: count. (R289) -/
  suspended : Nat := 0
  deriving DecidableEq, Repr

/-- An open blob (R277-R289). -/
structure Blob where
  /-- runs of the last MERGE_GAP + 1 lines. Width: line, first, last. (R277) -/
  runs : List (Nat × Nat × Nat) := []
  /-- its first line. (R286) -/
  first : LineMark := {}
  /-- its last line. (R286) -/
  last : LineMark := {}
  /-- (R287) -/
  sums : Sums := {}
  /-- SEG_FLAGS so far. Width: 16. (R289) -/
  flags : BitVec 16 := 0
  /-- districts its runs lie in. Width: 6. (R278) -/
  ports : BitVec 6 := 0
  deriving DecidableEq, Repr

/-- A gate: a stretch of web positions over which an output is asserted (R310). -/
structure Gate where
  /-- Width: 48. (R310) -/
  opens : Int := 0
  /-- Width: 48. (R310) -/
  closes : Int := 0
  deriving DecidableEq, Repr

/-- A gate that has opened and still asserts its output (R311). -/
structure OpenGate where
  /-- (R311) -/
  gate : Gate := {}
  /-- Width: ns. (R311) -/
  firedAt : Nat := 0
  deriving DecidableEq, Repr

/-- A second-look job (R316, R324). -/
structure LookJob where
  /-- Width: 2. (R316) -/
  station : Nat := 0
  /-- the entry's header. Width: 48 bytes. (R300) -/
  header : List Byte := []
  /-- the entry's class. Width: 5. (R322) -/
  cls : Nat := 0
  /-- the entry's severity. Width: 8. (R322) -/
  sev : Nat := 0
  /-- Width: 3. (R316) -/
  origin : Nat := 0
  /-- the entry's LEDGER_SEQ. Width: 64. (R324) -/
  seq : Nat := 0
  /-- first line of the crop. Width: 64. (R317) -/
  line0 : Nat := 0
  /-- first column of the crop. Width: 16. (R317) -/
  col0 : Nat := 0
  /-- it ran on a district taken as a stand-in. Width: 1. (R326) -/
  returned : Bool := false
  /-- the specimen channels as taken at issue; empty for ORIGIN 1. Width: 64 x 64 x 3 x 8. (R317) -/
  spec : List (Nat × Nat × Nat) := []
  deriving DecidableEq, Repr

/-- A planned mark (R340-R342). -/
structure Mark where
  /-- Width: 2. (R339) -/
  station : Nat := 0
  /-- the entry's header. Width: 48 bytes. (R300) -/
  header : List Byte := []
  /-- Width: 5. (R300) -/
  cls : Nat := 0
  /-- Width: 8. (R300) -/
  sev : Nat := 0
  /-- the station's encoder. Width: 3. (R337) -/
  encoder : Nat := 0
  /-- S, where its slot begins. Width: 48. (R337) -/
  slot : Int := 0
  /-- where its planned slot begins. Width: 48. (R340) -/
  planned : Int := 0
  /-- MARK_OFFSET. Width: 32. (R340) -/
  offset : Int := 0
  /-- MARK_MOVED. Width: 1. (R340) -/
  moved : Bool := false
  /-- rows of dark modules. Width: SIZE x SIZE. (R336) -/
  modules : List (List Bool) := []
  /-- drop size of its dots. Width: 2. (R345) -/
  drop : Nat := 2
  /-- EDGE_DROP raised alike. Width: 2. (R345) -/
  edge : Nat := 3
  /-- columns printed. Width: 7. (R346) -/
  done : Nat := 0
  /-- MARK_POSTMARK. Width: 128. (R348) -/
  firstMark : Postmark := {}
  /-- 0 none, 1 joined the rewind in progress, 2 waits for one of its own. Width: 2. (R350) -/
  rewind : Nat := 0
  deriving DecidableEq, Repr

/-- The state of a station at a block boundary, as STATE frames carry it (R507). -/
structure StationCopy where
  /-- tracker state. Width: 2. (R507) -/
  tracker : RegState := .idle
  /-- P. Width: 64. (R507) -/
  phase : Int := 0
  /-- s. Width: 32. (R507) -/
  stretch : Int := 0
  /-- X. Width: 16. (R507) -/
  lateral : Int := 0
  /-- REPEAT. Width: 32. (R507) -/
  repeatNo : Nat := 0
  /-- coast count. Width: 16. (R507) -/
  coast : Nat := 0
  /-- the current field's rows so far. Width: tiles. (R507) -/
  cur : List TileEntry := []
  /-- what the tracker held at each tile of them. Width: tiles. (R507) -/
  curC : List (Int × Int) := []
  /-- how many rows. Width: 16. (R507) -/
  rowsDone : Nat := 0
  /-- F_prev. Width: tiles. (R507) -/
  prev : Option (List TileEntry) := none
  /-- F_old. Width: tiles. (R507) -/
  old : Option (List TileEntry) := none
  /-- streak ring. Width: per repeat and column. (R507) -/
  streakRing : List (List StreakCol) := []
  /-- sums of the repeat in progress. Width: per column. (R507) -/
  streakNow : List StreakCol := []
  /-- the tracked streaks. Width: streaks. (R507) -/
  streaks : List Streak := []
  /-- open blobs with their sums. Width: up to 4,096. (R507) -/
  blobs : List Blob := []
  /-- last runs of split blobs. Width: runs. (R507) -/
  split : List (Nat × Nat × Nat) := []
  /-- open fragments. Width: up to 4,096 per district. (R507) -/
  frags : Tab (List (List (Nat × Nat × Nat))) := []
  /-- storm sums. (R507) -/
  storm : Option Blob := none
  /-- runs of the storm record. Width: 32. (R507) -/
  stormRuns : Nat := 0
  /-- serial counter of the station. Width: 56. (R507) -/
  serial : Nat := 0
  /-- rule, its pending gates. Width: up to 32 per rule. (R507) -/
  gates : List (Nat × List Gate) := []
  /-- LATCH holds. Width: 5. (R507) -/
  latched : BitVec 5 := 0
  /-- head, a mark of its queue. Width: marks. (R507) -/
  marks : List (Nat × Mark) := []
  /-- second-look jobs. Width: jobs. (R507) -/
  jobs : List LookJob := []
  /-- applied reduction steps. Width: 2. (R507) -/
  applied : BitVec 2 := 0
  /-- NEXT_SEQ of the journal, as reported only. Width: 64. (R507) -/
  nextSeq : Nat := 0
  /-- newest track latch of each encoder in use. Width: encoder, postmark. (R507) -/
  tracks : List (Nat × Postmark) := []
  /-- P0, in the active's count space. Width: 1/65536 count. (R507) -/
  origin : Int := 0
  /-- its pitch. Width: 16. (R508) -/
  pitch : Nat := 320
  /-- number of the line that starts at the origin. Width: 64. (R508) -/
  lineBase : Nat := 0
  /-- P0 of R189. Width: 1/65536 count. (R508) -/
  p0 : Int := 0
  /-- number of the next output line. Width: 64. (R507) -/
  nextLine : Nat := 0
  deriving DecidableEq, Repr

end Sys2Proof.Machine
end

