-- ==== Sys2Proof/Syntax.lean ====
section
/-!
DEFINITION. Sys2Proof/Syntax.lean: the commands the block takes, one constructor of Instr for each row of
spec/opcode_table.json, and the operands they carry. A command packet's row carries the packet as Args; the row of
an event carries what the event brings with it (a line packet, an encoder edge, a measured temperature) and
`t`, the reading of the 1 GHz timestamp counter at which it happens (assumption 2).
-/
namespace Sys2Proof

/-- The twelve modes (R70). -/
inductive Mode where
  | sentry | standby | enumerate | configure | calibrate | learn
  | inspect | reduced | shadow | drain | maintain | faultHold
  deriving DecidableEq, Repr

/-- Where a command packet came from (R34, R39, R45, R50). -/
inductive Source where
  /-- Command mailbox m, 0 to 15. -/
  | mailbox (m : Nat)
  /-- The SPI service port. -/
  | service
  /-- Relayed along the chain: the origin's postcode and the reference its REPLY frame carries back. -/
  | chain (origin ref : Nat)
  deriving DecidableEq, Repr

/-- A command packet as it arrived: the header of R34 and the parameters (R40, R41). -/
structure Args where
  /-- Timestamp counter at arrival, ns. -/
  t : Nat := 0
  src : Source := .mailbox 0
  flags : Nat := 0
  cls : Nat := 1
  tag : Nat := 0
  postcode : Nat := 0xFE
  block : Nat := 0
  /-- PARAM_LENGTH. -/
  plen : Nat := 0
  /-- The six reserved bytes of the header as one number. -/
  resv : Nat := 0
  /-- The parameters, inline or as read from the parameter buffer. -/
  params : List Byte := []
  /-- Bytes 16-35 of a by-reference mailbox entry: parameter buffer, reply buffer, reply buffer size. -/
  paramAddr : Nat := 0
  replyAddr : Nat := 0
  replySize : Nat := 0
  /-- Bytes 36-63 of a by-reference mailbox entry are all zero (R40). -/
  tailZero : Bool := true
  /-- The parameter buffer could be read (R422). -/
  refOk : Bool := true
  /-- Of a command that works on a medium, how it fails, if it does: after how many bytes the medium stops answering (R459), the address of a
  burst that cannot be corrected (R407), which channels fail (R403), how a transfer ends (R553). -/
  fails : Option Nat := none
  /-- Of a command that reaches outside: the bytes an I2C peripheral returns, the eight mean codes of the auxiliary ADC (R552, R553). -/
  seen : List Byte := []
  deriving DecidableEq, Repr

/-- A waiting command packet: its opcode and the rest of it (R50). -/
structure Packet where
  op : Nat
  args : Args
  deriving DecidableEq, Repr

/-- Bytes the host has written into its own memory from an address on, as the device finds them there: the entries it posts before
it rings (R421), the data a Courier channel reads. -/
abbrev HostWrite := Nat × List Byte

/-- What a lane's receiver has settled on after adapting (R117: CTLE_CODE, DFE_TAP1, EYE_HEIGHT). -/
structure Equaliser where
  ctle : Fin 256 := 0
  dfe : Fin 256 := 0
  eye : Fin 256 := 0
  deriving DecidableEq, Repr

/-- What has come to a lane's receiver: how many invalid sync headers, the types of the control blocks, and in TEST the bits of the raw
line (R100, R115, R117). -/
structure LaneWindow where
  syncErrs : Nat := 0
  controls : List (Fin 256) := []
  bits : List Bool := []
  deriving DecidableEq, Repr

/-- A supply that has been low: its level in mV, and for how many ns it has been there (R90). -/
structure RailLevel where
  mv : Nat := 0
  ns : Nat := 0
  deriving DecidableEq, Repr

/-- A supply that has risen again: its level in mV, and the lowest it was (R90, R91). -/
structure RailRise where
  mv : Nat := 0
  lowest : Nat := 0
  deriving DecidableEq, Repr

/-- A chain port: the upstream one (L48-L51) or the downstream one (L52-L55). -/
inductive ChainPort where
  | up | down
  deriving DecidableEq, Repr

/-- What every received chain frame carries (R486, R488): the port it arrived on, the originating postcode, the
destination, its LINK_SEQ, and its CRC. -/
structure ChainFrame where
  port : ChainPort := .up
  source : Nat := 0
  dest : Nat := 0
  linkSeq : Nat := 0
  crc : BitVec 32 := 0
  deriving DecidableEq, Repr

/-- What every received twin frame carries (R506): the sender's and the receiver's postcodes, its LINK_SEQ, and its CRC. -/
structure TwinFrame where
  source : Nat := 0
  dest : Nat := 0
  linkSeq : Nat := 0
  crc : BitVec 32 := 0
  deriving DecidableEq, Repr

/-- What a sensor port's receiver takes from one control block to the next (R120, R122): the control block's type, none for data blocks that
no control block opened; its bytes 1 to 7 with the bytes of the data blocks after it; and when the block arrived, less the fixed receive
delay. -/
structure PortPacket where
  start : Option (Fin 256) := some 0xB0
  bytes : List Byte := []
  arrival : Nat := 0
  deriving DecidableEq, Repr

/-- What a quadrature channel's inputs show in a sample (R164, R166): a change of level in the sequence A leads B, one in the
opposite sequence, or both lines changing at once. -/
inductive EdgeKind where
  | aLeads | bLeads | illegal
  deriving DecidableEq, Repr

/-- A change of a quadrature channel's inputs, and for how many ns the new level has been held (R164, R165). -/
structure QuadEdge where
  kind : EdgeKind := .aLeads
  held : Nat := 0
  deriving DecidableEq, Repr

/-- A rising Z input of a quadrature channel, and for how many ns it has been held (R165, R171). -/
structure IndexPulse where
  q : Fin 4 := 0
  held : Nat := 0
  deriving DecidableEq, Repr

/-- A level of a GPIO input, and for how many ns it has been held (R551). -/
structure GpioLevel where
  high : Bool := false
  ns : Nat := 0
  deriving DecidableEq, Repr

/-- A task that waits at a district's tile queue: its class (R35), its pipeline stage (R23) and its operation count (R370). -/
structure TileTask where
  cls : Fin 4 := 0
  stage : Fin 16 := 0
  ops : Nat := 0
  deriving DecidableEq, Repr

/-- What the ECC makes of a burst of DRAM that is read: clean, a corrected error on a lane, or an error it cannot correct; the
beats in error with each (R405). -/
inductive ReadOutcome where
  | clean
  | corrected (beats : Fin 65536) (lane : Fin 40)
  | uncorrectable (beats : Fin 65536)
  deriving DecidableEq, Repr

/-- The errors that one burst of a longer read of DRAM meets: the burst's place in what is read, and per beat the lanes in error (R405). -/
structure ReadErrors where
  burst : Nat := 0
  errors : List (BitVec 40) := []
  deriving DecidableEq, Repr

/-- What a STATE frame carries: the bytes of its part, and the copy that the parts spell with it (R507). -/
structure StatePart where
  bytes : List Byte := []
  copy : Machine.StationCopy := {}
  deriving DecidableEq, Repr

/-- An instruction of the test access port (R550). -/
inductive TapInstr where
  | bypass | idcode | sample | extest
  | other (code : Nat)
  deriving DecidableEq, Repr

/-- What a full read of a superblock found: sectors decoded at step 2 and at step 3, the most bits a hard decode
corrected, and the objects (area code, key, LEDGER_SEQ), slots and resume image with an uncorrectable sector (R446). -/
structure MediumRead where
  retries : Nat := 0
  softs : Nat := 0
  bits : Nat := 0
  lost : List (Nat × Nat × Nat) := []
  slots : List (Fin 2) := []
  resume : Bool := false
  /-- Journal entries lost with a spill sector: the first SEQ and how many (R446). -/
  spill : Option (Nat × Nat) := none
  deriving DecidableEq, Repr

/-- A command the block takes: one constructor for each row of the table, with the row's operands. -/
inductive Instr where
  /-- COMMAND_DISPATCH (R50). -/
  | commandDispatch (t : Nat)
  /-- NOP (R61). -/
  | nop (a : Args)
  /-- GET_IDENTITY (R61). -/
  | getIdentity (a : Args)
  /-- READ_CAPABILITY (R61). -/
  | readCapability (a : Args)
  /-- GET_HEALTH (R61). -/
  | getHealth (a : Args)
  /-- CANCEL (R61). -/
  | cancel (a : Args)
  /-- KEY_CHALLENGE (R62). -/
  | keyChallenge (a : Args)
  /-- KEY_RESPONSE (R62). -/
  | keyResponse (a : Args)
  /-- KEY_REVOKE (R62). -/
  | keyRevoke (a : Args)
  /-- WRITE_PACKET (R43). -/
  | writePacket (t : Nat) (frame : List Byte)
  /-- READ_STATUS (R43). -/
  | readStatus (t : Nat)
  /-- READ_REPLY (R43). -/
  | readReply (t : Nat) (n : Nat)
  /-- STAGING_TIMEOUT (R55). -/
  | stagingTimeout (t : Nat)
  /-- FR_IDENTIFY (R63). -/
  | frIdentify (a : Args)
  /-- FR_SET_PORT (R63). -/
  | frSetPort (a : Args)
  /-- FR_SET_PITCH (R63). -/
  | frSetPitch (a : Args)
  /-- FR_LEARN (R63). -/
  | frLearn (a : Args)
  /-- FR_INSPECT (R63). -/
  | frInspect (a : Args)
  /-- FR_HALT (R63). -/
  | frHalt (a : Args)
  /-- FR_SET_THRESHOLD (R274). -/
  | frSetThreshold (a : Args)
  /-- FR_READ_DEFECTS (R63). -/
  | frReadDefects (a : Args)
  /-- FR_JOURNAL_POLICY (R472). -/
  | frJournalPolicy (a : Args)
  /-- REGISTER_WRITE (R65). -/
  | registerWrite (t : Nat) (fn : Fin 2) (size : Nat) (offset value : Nat) (host : List HostWrite)
  /-- SET_MODE (R73). -/
  | setMode (a : Args)
  /-- ENTER_SENTRY (R83). -/
  | enterSentry (a : Args)
  /-- WAKE (R79). -/
  | wake (a : Args)
  /-- GET_RESET_CAUSE (R84). -/
  | getResetCause (a : Args)
  /-- SET_SAFE_STATE (R71). -/
  | setSafeState (a : Args)
  /-- RESET (R84). -/
  | reset (a : Args)
  /-- SOFT_RESET_BEGIN (R84). -/
  | softResetBegin (t : Nat)
  /-- FORCE_SAFE (R77). -/
  | forceSafe (a : Args)
  /-- WAKE_N_ASSERTED (R545). -/
  | wakeNAsserted (t : Nat)
  /-- CHAIN_WAKE_DETECT (R496). -/
  | chainWakeDetect (t : Nat)
  /-- ALARM_WAKE (R79). -/
  | alarmWake (t : Nat)
  /-- BOOT_COMPLETE (R81). -/
  | bootComplete (t : Nat) (norGood : Bool) (version trainedMask : Nat)
  /-- POR_RELEASE (R537). -/
  | porRelease (t : Nat) (head twin test : Bool)
  /-- RAIL_BELOW_RESET (R85). -/
  | railBelowReset (t : Nat) (x : Fin 9 × RailLevel)
  /-- RESET_N_ASSERTED (R545). -/
  | resetNAsserted (t : Nat)
  /-- PIN_RESET_RELEASE (R545). -/
  | pinResetRelease (t : Nat) (head twin test : Bool)
  /-- RAIL_BELOW_WARNING (R91). -/
  | railBelowWarning (t : Nat) (r : Fin 9) (x : RailLevel)
  /-- RAIL_RECOVERED (R91). -/
  | railRecovered (t : Nat) (r : Fin 9) (x : RailRise)
  /-- BROWNOUT_PAUSE_END (R91). -/
  | brownoutPauseEnd (t : Nat)
  /-- WATCHDOG_WARN (R86). -/
  | watchdogWarn (t : Nat)
  /-- WATCHDOG_EXPIRY (R86). -/
  | watchdogExpiry (t : Nat)
  /-- AUTO_DRAIN_STOP_DETECT (R76). -/
  | autoDrainStopDetect (t : Nat)
  /-- DRAIN_COMPLETE (R73). -/
  | drainComplete (t : Nat)
  /-- RAIL_GROUP_UP (R538). -/
  | railGroupUp (t : Nat) (g : Fin 2)
  /-- RAIL_GROUP_TIMEOUT (R539). -/
  | railGroupTimeout (t : Nat) (g : Fin 2)
  /-- RAIL_RETRY (R539). -/
  | railRetry (t : Nat)
  /-- RAIL_DISCHARGED (R540). -/
  | railDischarged (t : Nat) (g : Fin 2)
  /-- LANE_SET (R119). -/
  | laneSet (a : Args)
  /-- LANE_REG_READ (R119). -/
  | laneRegRead (a : Args)
  /-- LANE_REG_WRITE (R119). -/
  | laneRegWrite (a : Args)
  /-- LANE_SLIP (R112). -/
  | laneSlip (t : Nat) (l : Fin 58)
  /-- LANE_RESTART (R117). -/
  | laneRestart (t : Nat) (l : Fin 58)
  /-- LANE_COUNT_CLEAR (R117). -/
  | laneCountClear (t : Nat) (l : Fin 58)
  /-- LANE_INJECT_ONE (R116). -/
  | laneInjectOne (t : Nat) (l : Fin 58)
  /-- LANE_INJECT_PERIODIC (R116). -/
  | laneInjectPeriodic (t : Nat) (l : Fin 58)
  /-- LANE_TEST_ENTER (R115). -/
  | laneTestEnter (t : Nat) (l : Fin 58) (gen chk : Bool)
  /-- LANE_SIGNAL_DETECTED (R105). -/
  | laneSignalDetected (t : Nat) (l : Fin 58)
  /-- LANE_BIT_LOCKED (R105). -/
  | laneBitLocked (t : Nat) (l : Fin 58)
  /-- LANE_BLOCK_LOCKED (R112). -/
  | laneBlockLocked (t : Nat) (l : Fin 58) (pos : Fin 66)
  /-- LANE_TRAIN_RECEIVED (R104). -/
  | laneTrainReceived (t : Nat) (l : Fin 58) (payload : List Byte) (adapted : Bool) (fit : Equaliser) (preset : Fin 8)
  /-- LANE_BLIND_ADAPT_DONE (R113). -/
  | laneBlindAdaptDone (t : Nat) (l : Fin 58) (fit : Equaliser)
  /-- LANE_ALIGN_RECEIVED (R101). -/
  | laneAlignReceived (t : Nat) (l : Fin 58) (index groupSize : Fin 16) (seq : Fin 65536) (row : Nat)
  /-- LANE_CAPS_RECEIVED (R110). -/
  | laneCapsReceived (t : Nat) (l : Fin 58) (caps : List Byte)
  /-- LANE_BRINGUP_TIMEOUT (R105). -/
  | laneBringupTimeout (t : Nat) (l : Fin 58)
  /-- LANE_BLOCK_LOCK_LOST (R106). -/
  | laneBlockLockLost (t : Nat) (l : Fin 58)
  /-- LANE_BACKOFF_EXPIRED (R105). -/
  | laneBackoffExpired (t : Nat) (l : Fin 58)
  /-- LANE_ELASTIC_SLIP (R103). -/
  | laneElasticSlip (t : Nat) (l : Fin 58)
  /-- LANE_ERR_WINDOW (R117). -/
  | laneErrWindow (t : Nat) (l : Fin 58) (counts : LaneWindow)
  /-- LANE_MARKER_SEND (R102). -/
  | laneMarkerSend (t : Nat) (l : Fin 58) (filler : Bool)
  /-- LINE_PACKET_RECEIVED (R126). -/
  | linePacketReceived (t : Nat) (n : Fin 12) (p : PortPacket)
  /-- LINE_RATE_WINDOW (R132). -/
  | lineRateWindow (t : Nat) (n : Fin 12)
  /-- CLOCK_MAP_WINDOW (R129). -/
  | clockMapWindow (t : Nat) (n : Fin 12)
  /-- CAMERA_ACK_RECEIVED (R138). -/
  | cameraAckReceived (t : Nat) (n : Fin 12) (msg : List Byte)
  /-- CAMERA_INFO_RECEIVED (R135). -/
  | cameraInfoReceived (t : Nat) (n : Fin 12) (head body : List Byte) (crc : BitVec 32)
  /-- VENDOR_REPLY_RECEIVED (R134). -/
  | vendorReplyReceived (t : Nat) (n : Fin 12) (head body : List Byte) (crc : BitVec 32)
  /-- CAMERA_MSG_RESEND (R134). -/
  | cameraMsgResend (t : Nat) (n : Fin 12)
  /-- PORT_SET (R143). -/
  | portSet (a : Args)
  /-- PORT_STATUS (R143). -/
  | portStatus (a : Args)
  /-- CAMERA_SET (R138). -/
  | cameraSet (a : Args)
  /-- CAMERA_MESSAGE (R143). -/
  | cameraMessage (a : Args)
  /-- CAMERA_INFO (R143). -/
  | cameraInfo (a : Args)
  /-- PHOTO_STORE_BASE (R151). -/
  | photoStoreBase (a : Args)
  /-- PHOTO_SELECT_BASE (R152). -/
  | photoSelectBase (a : Args)
  /-- PHOTO_SET_TRIM (R155). -/
  | photoSetTrim (a : Args)
  /-- PHOTO_READ (R162). -/
  | photoRead (a : Args)
  /-- PHOTO_STATUS (R162). -/
  | photoStatus (a : Args)
  /-- PHOTO_CAPTURE (R160). -/
  | photoCapture (a : Args)
  /-- PHOTO_CAPTURE_DONE (R160). -/
  | photoCaptureDone (t : Nat) (n : Fin 12)
  /-- PHOTO_CAPTURE_TIMEOUT (R161). -/
  | photoCaptureTimeout (t : Nat) (n : Fin 12)
  /-- BASE_SET_LOAD_DONE (R155). -/
  | baseSetLoadDone (t : Nat) (n : Fin 12)
  /-- ENCODER_EDGE (R164). -/
  | encoderEdge (t : Nat) (q : Fin 4) (e : QuadEdge)
  /-- INDEX_EDGE (R171). -/
  | indexEdge (t : Nat) (e : IndexPulse)
  /-- SSI_FRAME (R169). -/
  | ssiFrame (t : Nat) (q : Fin 2) (data : Nat) (parity : Bool) (sampled : Nat)
  /-- LATCH_PERIODIC (R176). -/
  | latchPeriodic (t : Nat) (u : Fin 8)
  /-- LATCH_TRIGGER (R176). -/
  | latchTrigger (t : Nat) (u : Fin 8)
  /-- COMPARE_ARM (R183). -/
  | compareArm (t : Nat) (c : Fin 16)
  /-- COMPARE_FLUSH (R185). -/
  | compareFlush (t : Nat) (c : Fin 16)
  /-- ENCODER_CLEAR_FAULT (R166). -/
  | encoderClearFault (t : Nat) (q : Fin 6)
  /-- SPEED_WINDOW (R185). -/
  | speedWindow (t : Nat) (q : Fin 6)
  /-- POS_ENCODER_SET (R173). -/
  | posEncoderSet (a : Args)
  /-- POS_SET_COUNT (R170). -/
  | posSetCount (a : Args)
  /-- POS_STATUS (R187). -/
  | posStatus (a : Args)
  /-- POS_LATCH_SET (R178). -/
  | posLatchSet (a : Args)
  /-- POS_COMPARE_ARM (R183). -/
  | posCompareArm (a : Args)
  /-- PLACE_EXTRAPOLATE (R191). -/
  | placeExtrapolate (t : Nat) (n : Fin 12)
  /-- OUTPUT_LINE_ISSUE (R205). -/
  | outputLineIssue (t : Nat) (n : Fin 12)
  /-- RESAMPLE_SET (R189). -/
  | resampleSet (a : Args)
  /-- RESAMPLE_PLANE_OFFSET (R192). -/
  | resamplePlaneOffset (a : Args)
  /-- RESAMPLE_STATUS (R209). -/
  | resampleStatus (a : Args)
  /-- SEAM_VALUES_ARRIVE (R217). -/
  | seamValuesArrive (t : Nat) (n : Fin 12) (fromLeft : Bool) (line : Nat)
  /-- OUTLET_RATE_WINDOW (R227). -/
  | outletRateWindow (t : Nat) (o : Fin 8)
  /-- STATION_SET (R210). -/
  | stationSet (a : Args)
  /-- STITCH_MAP (R211). -/
  | stitchMap (a : Args)
  /-- COLOUR_MATRIX (R221). -/
  | colourMatrix (a : Args)
  /-- COLOUR_XYZ (R222). -/
  | colourXyz (a : Args)
  /-- OUTLET_SET (R224). -/
  | outletSet (a : Args)
  /-- OUTLET_TABLE (R225). -/
  | outletTable (a : Args)
  /-- STITCH_STATUS (R229). -/
  | stitchStatus (a : Args)
  /-- OUTLET_STATUS (R229). -/
  | outletStatus (a : Args)
  /-- LEARN_FINALISE_DONE (R243). -/
  | learnFinaliseDone (t : Nat) (k : Fin 4)
  /-- SPECIMEN_STORE_DONE (R247). -/
  | specimenStoreDone (t : Nat) (k : Fin 4) (fill : Nat)
  /-- SPECIMEN_RECALL_DONE (R248). -/
  | specimenRecallDone (t : Nat) (k : Fin 4) (crcOk : Bool)
  /-- LEARN_SET (R233). -/
  | learnSet (a : Args)
  /-- GOLDEN_FREE_SET (R246). -/
  | goldenFreeSet (a : Args)
  /-- LEARN_STATUS (R250). -/
  | learnStatus (a : Args)
  /-- SPECIMEN_STORE (R247). -/
  | specimenStore (a : Args)
  /-- SPECIMEN_RECALL (R248). -/
  | specimenRecall (a : Args)
  /-- SPECIMEN_DELETE (R250). -/
  | specimenDelete (a : Args)
  /-- SPECIMEN_LIST (R250). -/
  | specimenList (a : Args)
  /-- TILE_ROW_REGISTER (R258). -/
  | tileRowRegister (t : Nat) (k : Fin 4)
  /-- ACQUIRE_DONE (R254). -/
  | acquireDone (t : Nat) (k : Fin 4)
  /-- REG_SET (R274). -/
  | regSet (a : Args)
  /-- COMPARE_THRESHOLDS (R265). -/
  | compareThresholds (a : Args)
  /-- STREAK_SET (R271). -/
  | streakSet (a : Args)
  /-- REG_STATUS (R274). -/
  | regStatus (a : Args)
  /-- STREAK_LIST (R274). -/
  | streakList (a : Args)
  /-- REG_FIELD_READ (R274). -/
  | regFieldRead (a : Args)
  /-- FRAGMENT_SUMMARY_ARRIVE (R279). -/
  | fragmentSummaryArrive (t : Nat) (k : Fin 4) (j : Fin 6) (line : Nat)
  /-- SEG_SET (R296). -/
  | segSet (a : Args)
  /-- SEG_RULES (R296). -/
  | segRules (a : Args)
  /-- SEG_RULES_READ (R296). -/
  | segRulesRead (a : Args)
  /-- SEG_STATUS (R296). -/
  | segStatus (a : Args)
  /-- CROP_DELIVER (R306). -/
  | cropDeliver (t : Nat)
  /-- GATE_CLOSE (R311). -/
  | gateClose (t : Nat) (r : Fin 16)
  /-- BACKLOG_DELIVER (R307). -/
  | backlogDeliver (t : Nat) (m : Fin 8192)
  /-- LEDGER_SET (R307). -/
  | ledgerSet (a : Args)
  /-- LEDGER_CHAIN (R308). -/
  | ledgerChain (a : Args)
  /-- OUTPUT_RULES (R309). -/
  | outputRules (a : Args)
  /-- OUTPUT_FORCE (R315). -/
  | outputForce (a : Args)
  /-- LEDGER_STATUS (R315). -/
  | ledgerStatus (a : Args)
  /-- LEDGER_EXPORT (R315). -/
  | ledgerExport (a : Args)
  /-- SL_JOB_START (R324). -/
  | slJobStart (t : Nat) (x : Fin 16)
  /-- SL_JOB_DONE (R322). -/
  | slJobDone (t : Nat) (d : Fin 4) (c : Fin 4)
  /-- SL_NETWORK_LOAD (R321). -/
  | slNetworkLoad (a : Args)
  /-- SL_SET (R329). -/
  | slSet (a : Args)
  /-- SL_NETWORK_READ (R331). -/
  | slNetworkRead (a : Args)
  /-- SL_STATUS (R331). -/
  | slStatus (a : Args)
  /-- FRANK_FIRE_DEFERRED (R338). -/
  | frankFireDeferred (t : Nat) (h : Fin 2)
  /-- HEAD_FAULT_ASSERTED (R335). -/
  | headFaultAsserted (t : Nat) (h : Fin 2)
  /-- HEAD_TEMP_SAMPLE (R346). -/
  | headTempSample (t : Nat) (h : Fin 2) (codes : List (BitVec 12))
  /-- REWIND_WEB_STOPPED (R350). -/
  | rewindWebStopped (t : Nat)
  /-- REWIND_TIMEOUT (R351). -/
  | rewindTimeout (t : Nat)
  /-- REWIND_HOLD_RELEASE (R351). -/
  | rewindHoldRelease (t : Nat)
  /-- FRANK_HEAD_SET (R353). -/
  | frankHeadSet (a : Args)
  /-- FRANK_WAVEFORM (R334). -/
  | frankWaveform (a : Args)
  /-- FRANK_DENSITY (R345). -/
  | frankDensity (a : Args)
  /-- FRANK_MASK (R344). -/
  | frankMask (a : Args)
  /-- FRANK_SELECT (R339). -/
  | frankSelect (a : Args)
  /-- FRANK_MACHINE (R349). -/
  | frankMachine (a : Args)
  /-- FRANK_STATUS (R353). -/
  | frankStatus (a : Args)
  /-- CHANNEL_FIRE (R357). -/
  | channelFire (t : Nat) (c : Fin 128)
  /-- SW_FIRE (R358). -/
  | swFire (t : Nat) (mask : BitVec 8)
  /-- CHANNEL_LOCK (R364). -/
  | channelLock (t : Nat) (c : Fin 128) (key : BitVec 8)
  /-- HELD_EVENT_RELEASE (R361). -/
  | heldEventRelease (t : Nat) (c : Fin 128)
  /-- OWED_ACTIVATION (R360). -/
  | owedActivation (t : Nat) (j : Fin 320)
  /-- EVENT_CHANNEL_SET (R354). -/
  | eventChannelSet (a : Args)
  /-- EVENT_INPUT_SET (R355). -/
  | eventInputSet (a : Args)
  /-- EVENT_FIRE (R357). -/
  | eventFire (a : Args)
  /-- EVENT_LOCK (R364). -/
  | eventLock (a : Args)
  /-- EVENT_BRIDGE_SET (R365). -/
  | eventBridgeSet (a : Args)
  /-- EVENT_STATUS (R367). -/
  | eventStatus (a : Args)
  /-- TELLER_TICK (R369). -/
  | tellerTick (t : Nat) (energy : List Nat) (compute : Int × Int) (hub : Int)
  /-- THROTTLE_EXIT (R380). -/
  | throttleExit (t : Nat)
  /-- REDUCTION_STEP (R383). -/
  | reductionStep (t : Nat)
  /-- REDUCTION_REVERT (R384). -/
  | reductionRevert (t : Nat)
  /-- HOT_DISTRICT_CHECK (R381). -/
  | hotDistrictCheck (t : Nat)
  /-- POOL_POINT_RESELECT (R374). -/
  | poolPointReselect (t : Nat) (d : Fin 16)
  /-- DISTRICT_POWER_GATE (R374). -/
  | districtPowerGate (t : Nat) (d : Fin 16)
  /-- CELL_DISPATCH (R371). -/
  | cellDispatch (t : Nat) (d : Fin 17) (cell : Fin 64) (tasks : List TileTask)
  /-- TILE_DONE (R385). -/
  | tileDone (t : Nat) (d : Fin 16) (cell : Fin 64) (storeError : Bool)
  /-- ROUTE_CHANGE_DONE (R18). -/
  | routeChangeDone (t : Nat)
  /-- DISTRICT_READY (R15). -/
  | districtReady (t : Nat) (d : Fin 16) (bad : List (Fin 64))
  /-- DVFS_STEP_DONE (R373). -/
  | dvfsStepDone (t : Nat) (d : Fin 16)
  /-- RETRAIN_SLICE_GRANT (R388). -/
  | retrainSliceGrant (t : Nat) (c : Fin 8) (rank : Fin 2) (took : Fin 1501) (drift : Nat)
  /-- TELLER_SET (R377). -/
  | tellerSet (a : Args)
  /-- TELLER_STATION_SET (R382). -/
  | tellerStationSet (a : Args)
  /-- TELLER_CHECK (R559). -/
  | tellerCheck (a : Args)
  /-- TELLER_STATUS (R391). -/
  | tellerStatus (a : Args)
  /-- TELLER_REMAP (R387). -/
  | tellerRemap (a : Args)
  /-- REFRESH_DUE (R399). -/
  | refreshDue (t : Nat) (c : Fin 8) (reads : Bool)
  /-- REFRESH_MR4_POLL (R398). -/
  | refreshMr4Poll (t : Nat) (c : Fin 8) (levels : List Nat)
  /-- REFRESH_MAKEUP (R400). -/
  | refreshMakeup (t : Nat) (c : Fin 8)
  /-- RETRAIN_DUE (R404). -/
  | retrainDue (t : Nat) (c : Fin 8) (rank : Fin 2)
  /-- ECC_WRITEBACK (R406). -/
  | eccWriteback (t : Nat) (c : Fin 8)
  /-- SCRUB_READ (R408). -/
  | scrubRead (t : Nat) (errors : List (BitVec 40))
  /-- DRAM_INFO (R392). -/
  | dramInfo (a : Args)
  /-- DRAM_SET (R411). -/
  | dramSet (a : Args)
  /-- DRAM_STATUS (R411). -/
  | dramStatus (a : Args)
  /-- DRAM_ERROR_LOG (R407). -/
  | dramErrorLog (a : Args)
  /-- DRAM_TRAIN (R403). -/
  | dramTrain (a : Args)
  /-- DRAM_RETRAIN (R404). -/
  | dramRetrain (a : Args)
  /-- DRAM_TEST (R411). -/
  | dramTest (a : Args)
  /-- MAILBOX_DOORBELL (R421). -/
  | mailboxDoorbell (t : Nat) (f : Fin 2) (m : Fin 8192) (index : BitVec 32) (host : List HostWrite)
  /-- MAILBOX_ENABLE (R423). -/
  | mailboxEnable (t : Nat) (f : Fin 2) (m : Fin 8192) (word : BitVec 32)
  /-- MSIX_COALESCE_TIMER (R420). -/
  | msixCoalesceTimer (t : Nat) (m : Fin 8192)
  /-- HOST_MEMORY_ERROR (R422). -/
  | hostMemoryError (t : Nat) (m : Fin 8192)
  /-- COURIER_START (R425). -/
  | courierStart (t : Nat) (k : Fin 64) (host : List HostWrite)
  /-- COURIER_STOP (R425). -/
  | courierStop (t : Nat) (k : Fin 64)
  /-- COURIER_BURST (R428). -/
  | courierBurst (t : Nat) (errors : List (BitVec 40)) (host : List HostWrite)
  /-- COURIER_RUN_DONE (R429). -/
  | courierRunDone (t : Nat) (k : Fin 64) (hostError : Bool)
  /-- FUNCTION_LEVEL_RESET (R414). -/
  | functionLevelReset (t : Nat) (f : Fin 2)
  /-- HOST_LINK_DOWN (R414). -/
  | hostLinkDown (t : Nat)
  /-- PERST_N_CHANGE (R547). -/
  | perstNChange (t : Nat) (low : Bool)
  /-- MAILBOX_SET (R423). -/
  | mailboxSet (a : Args)
  /-- MAILBOX_STATUS (R432). -/
  | mailboxStatus (a : Args)
  /-- COURIER_SET (R426). -/
  | courierSet (a : Args)
  /-- HOST_LINK_STATUS (R432). -/
  | hostLinkStatus (a : Args)
  /-- COMP_JOB (R440). -/
  | compJob (a : Args)
  /-- COMP_JOB_DONE (R438). -/
  | compJobDone (t : Nat) (e : Fin 4) (x : ReadErrors)
  /-- COMP_STATUS (R443). -/
  | compStatus (a : Args)
  /-- VAULT_MOUNT_DONE (R448). -/
  | vaultMountDone (t : Nat) (bad : Nat)
  /-- VAULT_REPLAY_DONE (R448). -/
  | vaultReplayDone (t : Nat) (bad : Nat)
  /-- VAULT_OBJECT_COMMIT (R447). -/
  | vaultObjectCommit (t : Nat) (fill : Nat)
  /-- VAULT_PROGRAM_FAIL (R452). -/
  | vaultProgramFail (t : Nat) (b : Nat) (channel target lun plane : Nat)
  /-- VAULT_CHECKPOINT (R448). -/
  | vaultCheckpoint (t : Nat)
  /-- VAULT_SCRUB_DUE (R456). -/
  | vaultScrubDue (t : Nat) (b : Nat) (m : MediumRead)
  /-- VAULT_READ_DISTURB (R455). -/
  | vaultReadDisturb (t : Nat) (b : Nat)
  /-- VAULT_INFO (R444). -/
  | vaultInfo (a : Args)
  /-- VAULT_FORMAT (R450). -/
  | vaultFormat (a : Args)
  /-- VAULT_SET (R462). -/
  | vaultSet (a : Args)
  /-- VAULT_STATUS (R462). -/
  | vaultStatus (a : Args)
  /-- VAULT_FW_WRITE (R459). -/
  | vaultFwWrite (a : Args)
  /-- VAULT_FW_ACTIVATE (R460). -/
  | vaultFwActivate (a : Args)
  /-- DAYBOOK_JOBS (R458). -/
  | daybookJobs (a : Args)
  /-- DAYBOOK_JOB_SET (R458). -/
  | daybookJobSet (a : Args)
  /-- JOURNAL_SUPPRESS_TIMER (R470). -/
  | journalSuppressTimer (t : Nat) (code : BitVec 16)
  /-- JOURNAL_SPILL (R475). -/
  | journalSpill (t : Nat)
  /-- JOURNAL_POLICY (R472). -/
  | journalPolicy (a : Args)
  /-- JOURNAL_RATE (R467). -/
  | journalRate (a : Args)
  /-- JOURNAL_READ (R479). -/
  | journalRead (a : Args)
  /-- JOURNAL_RELEASE (R473). -/
  | journalRelease (a : Args)
  /-- JOURNAL_STATUS (R481). -/
  | journalStatus (a : Args)
  /-- HEAD_DETECT_TIMER (R483). -/
  | headDetectTimer (t : Nat)
  /-- ENUM_TOKEN (R484). -/
  | enumToken (t : Nat) (f : ChainFrame) (body : List Byte)
  /-- ENUM_LAST_TIMER (R484). -/
  | enumLastTimer (t : Nat)
  /-- ENUM_DONE (R484). -/
  | enumDone (t : Nat) (f : ChainFrame) (body : List Byte)
  /-- CHAIN_HELLO (R485). -/
  | chainHello (t : Nat) (f : ChainFrame) (postcode : Nat) (headSerial : Nat)
  /-- CHAIN_COMMAND_FRAME (R492). -/
  | chainCommandFrame (t : Nat) (f : ChainFrame) (origin ref : Nat) (packet : List Byte)
  /-- CHAIN_REPLY_FRAME (R492). -/
  | chainReplyFrame (t : Nat) (f : ChainFrame) (origin ref : Nat) (reply : List Byte)
  /-- STAGED (R54). -/
  | staged (t : Nat) (f : ChainFrame) (origin ref tag status failedBlocks : Nat)
  /-- COMMIT (R56). -/
  | commit (t : Nat) (f : ChainFrame) (origin ref tag : Nat)
  /-- ABORT (R56). -/
  | abort (t : Nat) (f : ChainFrame) (origin ref tag : Nat)
  /-- COMMIT_ACK (R56). -/
  | commitAck (t : Nat) (f : ChainFrame) (origin ref tag : Nat)
  /-- LEDGER_FRAME (R493). -/
  | ledgerFrame (t : Nat) (f : ChainFrame) (record : List Byte)
  /-- EVENT_FRAME (R494). -/
  | eventFrame (t : Nat) (f : ChainFrame) (slot : Fin 16) (mult hops : Nat)
  /-- CHAIN_ACK (R488). -/
  | chainAck (t : Nat) (port : Option ChainPort) (seq : Fin 256)
  /-- CHAIN_NAK (R488). -/
  | chainNak (t : Nat) (port : Option ChainPort) (seq : Fin 256)
  /-- CHAIN_ACK_TIMER (R488). -/
  | chainAckTimer (t : Nat) (port : ChainPort)
  /-- PROBE_TIMER (R490). -/
  | probeTimer (t : Nat)
  /-- PROBE (R490). -/
  | probe (t : Nat) (seq : Fin 256) (t1 : Nat) (residence : Nat)
  /-- PROBE_REPLY (R490). -/
  | probeReply (t : Nat) (seq : Fin 256) (residence : Nat)
  /-- SYNC (R490). -/
  | sync (t : Nat) (value : Nat) (d : Nat)
  /-- CHAIN_RESET_BLOCK (R495). -/
  | chainResetBlock (t : Nat) (port : ChainPort)
  /-- CHAIN_STATUS (R499). -/
  | chainStatus (a : Args)
  /-- CHAIN_ENUMERATE (R484). -/
  | chainEnumerate (a : Args)
  /-- CHAIN_TIME_SET (R491). -/
  | chainTimeSet (a : Args)
  /-- CHAIN_RESET (R495). -/
  | chainReset (a : Args)
  /-- CHAIN_WAKE (R496). -/
  | chainWake (a : Args)
  /-- TWIN_SENSE_FREE (R514). -/
  | twinSenseFree (t : Nat)
  /-- TWIN_SENSE_HELD (R503). -/
  | twinSenseHeld (t : Nat)
  /-- INTERLOCK_TAKE_TIMER (R503). -/
  | interlockTakeTimer (t : Nat)
  /-- CONTENTION_BACKOFF (R503). -/
  | contentionBackoff (t : Nat)
  /-- HEARTBEAT (R506). -/
  | heartbeat (t : Nat) (role : Fin 256) (counter : Nat)
  /-- HEARTBEAT_SEND (R506). -/
  | heartbeatSend (t : Nat)
  /-- HEARTBEAT_LOSS (R506). -/
  | heartbeatLoss (t : Nat)
  /-- TWIN_HELLO (R506). -/
  | twinHello (t : Nat) (f : TwinFrame) (serial : Nat) (role pairPostcode : Fin 256) (digest resv : Nat)
  /-- STATE_FRAME (R507). -/
  | stateFrame (t : Nat) (f : TwinFrame) (k : Fin 4) (block part parts : Nat) (x : StatePart)
  /-- DIGEST_FRAME (R511). -/
  | digestFrame (t : Nat) (f : TwinFrame) (k : Fin 4) (partialSeen : Bool) (block records digest : Nat)
  /-- REPLAY_DONE (R512). -/
  | replayDone (t : Nat)
  /-- REPLAY_RESULT_FRAME (R513). -/
  | replayResultFrame (t : Nat) (f : TwinFrame) (k : Fin 4) (result : Fin 256) (block : Nat)
  /-- REPLAY_RESULT_TIMEOUT (R513). -/
  | replayResultTimeout (t : Nat)
  /-- HANDOVER_FRAME (R519). -/
  | handoverFrame (t : Nat) (f : TwinFrame) (k : Fin 4) (block : Nat)
  /-- SPECIMEN_FRAME (R520). -/
  | specimenFrame (t : Nat) (f : TwinFrame) (k : Fin 4) (offset : Nat) (image : List Byte)
  /-- TWIN_SET (R505). -/
  | twinSet (a : Args)
  /-- TWIN_JOIN (R505). -/
  | twinJoin (a : Args)
  /-- TWIN_HANDOVER (R519). -/
  | twinHandover (a : Args)
  /-- TWIN_STATUS (R522). -/
  | twinStatus (a : Args)
  /-- CAL_RUN (R530). -/
  | calRun (a : Args)
  /-- CAL_STEP_DONE (R527). -/
  | calStepDone (t : Nat) (calres : Nat) (measured : List (Nat × Nat × Int))
  /-- CAL_RUN_TIMEOUT (R532). -/
  | calRunTimeout (t : Nat)
  /-- CAL_RECOMPUTE (R526). -/
  | calRecompute (t : Nat) (sentry : Int)
  /-- CAL_OFFSET_SET (R526). -/
  | calOffsetSet (a : Args)
  /-- CAL_STATUS (R534). -/
  | calStatus (a : Args)
  /-- GPIO_EDGE (R551). -/
  | gpioEdge (t : Nat) (g : Fin 32) (x : GpioLevel)
  /-- GPIO_PULSE_END (R551). -/
  | gpioPulseEnd (t : Nat) (g : Fin 32)
  /-- GPIO_SET (R551). -/
  | gpioSet (a : Args)
  /-- GPIO_STATUS (R553). -/
  | gpioStatus (a : Args)
  /-- ADC_READ (R552). -/
  | adcRead (a : Args)
  /-- I2C_TRANSFER (R553). -/
  | i2cTransfer (a : Args)
  /-- TIME_UNSYNCED (R490). -/
  | timeUnsynced (t : Nat)
  /-- TWIN_HOLD_RELEASE (R502). -/
  | twinHoldRelease (t : Nat)
  /-- HEAD_CHAIN_RESET (R495). -/
  | headChainReset (t : Nat)
  /-- DISTRICT_FAULT (R386). -/
  | districtFault (t : Nat) (d : Fin 16)
  /-- HOST_LINK_UP (R547). -/
  | hostLinkUp (t : Nat) (speed : Fin 6) (width : Fin 9) (payload : Fin 3)
  /-- VID_SETTLED (R542). -/
  | vidSettled (t : Nat) (c : Fin 2)
  /-- FRK_FAULT_RELEASED (R335). -/
  | frkFaultReleased (t : Nat) (h : Fin 2)
  /-- TEST_ACCESS_INSTRUCTION (R550). -/
  | testAccessInstruction (t : Nat) (ins : TapInstr)
  deriving DecidableEq, Repr

end Sys2Proof
end

