-- ==== Sys2Proof/Decode.lean ====
section
/-!
DEFINITION. Sys2Proof/Decode.lean: the commands that a word spells by the bits spec/opcode_table.json gives its rows. The table gives
no row any bits: a command reaches the block as an event or a packet, not as a word. So no word spells one.
-/
namespace Sys2Proof

/-- The command a word of nbits bits spells: none, for no row of the table has bits. -/
def decodeTableWord (_nbits _w : Nat) : Option Instr := none

end Sys2Proof
end

