-- ==== Sys2Proof/Machine/Bits.lean ====
section
/-!
DEFINITION. Sys2Proof/Machine/Bits.lean: numbers and bytes: little-endian fields (R5), two's complement,
saturating and wrapping counters, the roundings the chapters name, CRC-32C, integer square roots.
-/
namespace Sys2Proof.Machine

/-- The low 8 n bits of x, least significant byte first (R5). -/
def le : Nat → Nat → List Byte
  | 0, _ => []
  | n + 1, x => BitVec.ofNat 8 x :: le n (x / 256)

/-- The number a little-endian run of bytes spells (R5). -/
def ofLe : List Byte → Nat
  | [] => 0
  | b :: bs => b.toNat + 256 * ofLe bs

/-- The n bytes at an offset as an unsigned number; bytes beyond the end read as none. -/
def fld (n : Nat) (p : List Byte) (off : Nat) : Nat := ofLe ((p.drop off).take n)

def u8 (p : List Byte) (off : Nat) : Nat := fld 1 p off
def u16 (p : List Byte) (off : Nat) : Nat := fld 2 p off
def u32 (p : List Byte) (off : Nat) : Nat := fld 4 p off
def u64 (p : List Byte) (off : Nat) : Nat := fld 8 p off

/-- A w-bit number read as two's complement. -/
def toInt (w x : Nat) : Int :=
  if x % 2 ^ w < 2 ^ (w - 1) then (x % 2 ^ w : Nat) else (x % 2 ^ w : Nat) - (2 ^ w : Nat)

/-- An integer wrapped into w bits of two's complement. -/
def wrapInt (w : Nat) (x : Int) : Int := toInt w (x % (2 ^ w : Nat)).toNat

/-- The w-bit pattern of an integer. -/
def ofInt (w : Nat) (x : Int) : Nat := (x % (2 ^ w : Nat)).toNat

def s8 (p : List Byte) (off : Nat) : Int := toInt 8 (u8 p off)
def s16 (p : List Byte) (off : Nat) : Int := toInt 16 (u16 p off)
def s32 (p : List Byte) (off : Nat) : Int := toInt 32 (u32 p off)
def s64 (p : List Byte) (off : Nat) : Int := toInt 64 (u64 p off)

/-- The n little-endian bytes of a signed number. -/
def les (n : Nat) (x : Int) : List Byte := le n (ofInt (8 * n) x)

/-- A counter of w bits that saturates. -/
def sat (w x : Nat) : Nat := min x (2 ^ w - 1)

/-- A counter of w bits that wraps. -/
def wrap (w x : Nat) : Nat := x % 2 ^ w

/-- A number held between two bounds. -/
def clampNat (lo hi x : Nat) : Nat := max lo (min hi x)

/-- An integer held between two bounds. -/
def clampInt (lo hi x : Int) : Int := max lo (min hi x)

/-- The bits [hi:lo] of a number. -/
def bits (x hi lo : Nat) : Nat := x / 2 ^ lo % 2 ^ (hi + 1 - lo)

/-- The number with its bits [hi:lo] replaced. -/
def setBits (x hi lo v : Nat) : Nat :=
  x - bits x hi lo * 2 ^ lo + v % 2 ^ (hi + 1 - lo) * 2 ^ lo

/-- Bit i as a number. -/
def bit (x i : Nat) : Nat := x / 2 ^ i % 2

/-- A truth value as a bit. -/
def b2n (b : Bool) : Nat := if b then 1 else 0

/-- The indices below n whose bits are set. -/
def setIndices (n mask : Nat) : List Nat := (List.range n).filter fun i => mask.testBit i

/-- The mask of a list of indices below n. -/
def maskOf (is : List Nat) : Nat := is.foldl (fun m i => if m.testBit i then m else m + 2 ^ i) 0

/-- The number of bits set among the low n. -/
def popcount (n mask : Nat) : Nat := (setIndices n mask).length

/-- Zero bytes. -/
def zeros (n : Nat) : List Byte := List.replicate n 0

/-- A run of bytes cut or filled up with zeros to n bytes. -/
def padTo (n : Nat) (bs : List Byte) : List Byte := (bs ++ zeros n).take n

/-- Are the n bytes at an offset all zero? -/
def zeroAt (p : List Byte) (off n : Nat) : Bool := ((p.drop off).take n).all (· == 0)

/-- Division of integers rounding half away from zero. -/
def divRound (a : Int) (b : Nat) : Int :=
  if a < 0 then -(((-a).toNat * 2 + b) / (2 * b) : Nat) else ((a.toNat * 2 + b) / (2 * b) : Nat)

/-- Division of integers rounding half upwards: floor (a / b + 1/2). -/
def divHalfUp (a : Int) (b : Nat) : Int := (2 * a + b) / (2 * b : Nat)

/-- The largest r below 2^n with r * r ≤ x, by binary digits. -/
def isqrtGo (x : Nat) : Nat → Nat → Nat
  | 0, r => r
  | n + 1, r =>
    let c := r + 2 ^ n
    if c * c ≤ x then isqrtGo x n c else isqrtGo x n r

/-- The integer square root of a number below 2^128, rounded down. -/
def isqrt (x : Nat) : Nat := isqrtGo x 64 0

/-- One bit of CRC-32C, reflected polynomial 0x82F63B78. -/
def crcBit (c : BitVec 32) : BitVec 32 :=
  if c.getLsbD 0 then (c >>> 1) ^^^ 0x82F63B78#32 else c >>> 1

/-- One byte of CRC-32C. -/
def crcByte (c : BitVec 32) (b : Byte) : BitVec 32 :=
  crcBit (crcBit (crcBit (crcBit (crcBit (crcBit (crcBit (crcBit (c ^^^ b.zeroExtend 32))))))))

/-- CRC-32C (Castagnoli): initial value and final inversion all ones, reflected. -/
def crc32c (bs : List Byte) : BitVec 32 := ~~~ (bs.foldl crcByte 0xFFFFFFFF#32)

/-- Insertion of an item into a list in the order of a key, after its equals. -/
def insertBy {α : Type} (key : α → Nat) (x : α) : List α → List α
  | [] => [x]
  | y :: ys => if key x < key y then x :: y :: ys else y :: insertBy key x ys

/-- A stable sort by a key. -/
def sortBy {α : Type} (key : α → Nat) (xs : List α) : List α :=
  xs.foldl (fun acc x => insertBy key x acc) []

/-- The median of three numbers. -/
def med3 (a b c : Int) : Int := max (min a b) (min (max a b) c)

/-- Consecutive runs of n items; a shorter run at the end is kept. -/
def chunksOf {α : Type} (n : Nat) (xs : List α) : List (List α) :=
  (List.range ((xs.length + n - 1) / n)).map fun k => (xs.drop (k * n)).take n

/-- The item at an index, or a default. -/
def nth {α : Type} (d : α) (xs : List α) (i : Nat) : α := xs.getD i d

/-- A list with the item at an index replaced; out of range nothing changes. -/
def setNth {α : Type} (xs : List α) (i : Nat) (x : α) : List α := xs.set i x

/-- The sum of a list of integers. -/
def sumInt (xs : List Int) : Int := xs.foldl (· + ·) 0

/-- The sum of a list of naturals. -/
def sumNat (xs : List Nat) : Nat := xs.foldl (· + ·) 0

end Sys2Proof.Machine
end

