-- ==== Sys2Proof/Config.lean ====
section
/-!
DEFINITION. Sys2Proof/Config.lean: what a board, a fuse or the silicon fixes and the spec leaves open
(OTP, the board record, factory codes), and the free values. Every constant is opaque: nothing in Lean
can see a value of it. Each is named in the assumption log.
-/
namespace Sys2Proof.Config

/-- SERIAL, the package serial number held in OTP (R66). -/
opaque serial : BitVec 64

/-- The SHA-384 hash of an integrator public key in OTP, by slot (R61). -/
opaque keyHash : Nat → BitVec 384

/-- GRADE, from OTP: 0 AK1296A-C, 1 AK1296A-I (R4, R66). -/
opaque gradeI : Bool

/-- KEY_SLOTS: how many integrator key hashes OTP holds, 0 to 2 (R69). -/
opaque keySlots : Fin 3

/-- A free value: nothing constrains it. It is applied to a counter of State that every draw advances. -/
opaque free : Nat → Nat

/-- A free run of bytes, of the length asked for (the second argument), at a draw of the counter. -/
opaque freeByte : Nat → Nat → Byte

/-! ### The board record (R392, R444, R453-R455) -/

/-- Eight DRAM channels are fitted, not four (R392). -/
opaque eightChannels : Bool

/-- All four vault channels are fitted, not only 0 and 1 (R444). -/
opaque vaultFour : Bool

/-- The vault's targets per channel, LUNs per target, planes per LUN and transfer rate (R444). -/
opaque vaultTargets : Nat
opaque vaultLuns : Nat
opaque vaultPlanes : Nat
opaque vaultRate : Nat

/-- Superblocks fitted, pages per block, and blocks the factory marked bad (R444, R450). -/
opaque vaultSuperblocks : Nat
opaque vaultPages : Nat
opaque vaultFactoryBad : Nat

/-- The part's erase endurance and read-disturb limit (R444). -/
opaque vaultEndurance : Nat
opaque vaultReadLimit : Nat

/-- Does a firmware image, cut to its length, authenticate against the key hashes in OTP (R460)? -/
opaque imageAuthentic : List Byte → Bool

/-- Two DRAM ranks are fitted on each channel, not one (R392). -/
opaque dramTwoRanks : Bool

/-- The density of the DRAM devices, of 8, 16, 24 and 32 Gb, and their rate, of 4,800, 5,600, 6,400 and 7,200 MT/s (R392). -/
opaque dramDensityCode : Fin 4
opaque dramRateCode : Fin 4

/-- The interleave grain is 2^(8 + this) bytes (R395). -/
opaque dramGrainCode : Fin 9

/-- DRAM channels fitted, ranks on each, density in Gb, rate in MT/s, the grain and the capacity in bytes (R392, R395). -/
def dramChannels : Nat := if eightChannels then 8 else 4
def dramRanks : Nat := if dramTwoRanks then 2 else 1
def dramDensity : Nat := 8 * (dramDensityCode.val + 1)
def dramRate : Nat := 4800 + 800 * dramRateCode.val
def dramGrain : Nat := 2 ^ (8 + dramGrainCode.val)
def dramCapacity : Nat := dramChannels * dramRanks * (4 * dramDensity / 8) * 2 ^ 30

/-- The step of the neighbour-refresh LFSR of a channel; R401 gives its width and no taps. -/
opaque dramLfsr : BitVec 32 → BitVec 32

/-- Where the specimen of a station and the crop ring of a port lie in the DRAM (R231, R303). -/
opaque specimenBase : Nat → Nat
opaque ringBase : Nat → Nat

/-- The LEVEL, less 1, at which the specimen library compresses; R247 names none. -/
opaque libraryLevel : Fin 3

/-- What the compressor's match search finds in a block: hash chain depth, lazy matching, the window behind it (newest byte first), the
block; (0, byte) for a byte, (length, distance) for a match. R434 gives the search's limits, not its every choice. -/
opaque matchSearch : Nat → Bool → List Byte → List Byte → List (Nat × Nat)

/-- The header bits of the dynamic-Huffman block of some tokens, from HLIT on; R434 asks for the block's codes and does not say which of
several codes, or spellings of their lengths, the engine writes. -/
opaque dynamicHeader : List (Nat × Nat) → List Bool

/-! ### OTP thermal data (R369, R370, R379) -/

/-- R_TH of a purse's silicon in thousandths of a degree per watt: districts 0-15, 16 the hub (R379). -/
opaque thermalR : Nat → Nat

/-- TAU of a district in ns (R379). -/
opaque thermalTau : Nat → Nat

/-- Leakage of a district at a point and a model temperature in 1/16 degree, in mW (R370, R373). -/
opaque leakage : Nat → Int → Nat

/-- Where the hub places a user region of so many bytes (R432 gives no address). -/
opaque userBase : Nat → Nat

/-- The factory codes f0, f1 and f2 of a calibrated item's index, in OTP (R524): item, index, set. -/
opaque calFactory : Nat → Nat → Nat → Int

end Sys2Proof.Config
end

