-- ==== Sys2Proof/Machine/State.lean ====
section
/-!
DEFINITION. Sys2Proof/Machine/State.lean: the state of the block, every piece of it that the spec names, each field
with its width and the rule that names it, its reset value as the field's default. State is plain data: lists, numbers, bits and names.
-/
namespace Sys2Proof.Machine

/-- Bytes of a memory by address, in one canonical form: addresses strictly rising, and no entry equal to
0x00, which is what an address not listed reads as (DESIGN CHOICE, assumption 4). -/
abbrev Mem := List Host.Cell

/-- What a Sent record is. -/
inductive SentKind where
  /-- A reply that leaves on the service port or the chain. -/
  | reply
  /-- An MSI-X message: dest the function, code the vector (R420). -/
  | msix
  /-- A device message to a camera: dest the port, code MSG_TYPE (R133). -/
  | camera
  /-- A chain frame or block: dest 0 upstream, 1 downstream; code its type (R486). -/
  | chain
  /-- A twin frame: code its type. -/
  | twin
  /-- A lane block sent: dest the lane, code its kind. -/
  | lane
  /-- A firing of a marking head's column: dest the head (R338). -/
  | column
  /-- A compare unit's firing: dest the unit (R182). -/
  | compare
  /-- An item on a bus (I2C, boot SPI): dest the bus. -/
  | bus
  deriving DecidableEq, Repr

/-- The states of a lane (R105). -/
inductive LaneState where
  | off | detect | bitLock | blockLock | train | deskew | caps | active | idle | listen | test | backoff
  deriving DecidableEq, Repr

/-- A pixel of working RGB, three codes (R221); VOID is 65,535 in all three. -/
abbrev Rgb := Nat × Nat × Nat

/-- A pixel of CIELAB: L16, a16, b16 (R222); none is VOID. -/
abbrev Lab := Option (Nat × Int × Int)

/-- A pixel of a specimen: L8, a8, b8 and its tolerance class (R230). -/
abbrev SpecPix := Nat × Nat × Nat × Nat

/-- A pixel in specimen units: L8, a8, b8; none is VOID (R230). -/
abbrev Pix8 := Option (Nat × Nat × Nat)

/-- The states of a station's learning, as LEARN_STATUS codes them (R250). -/
inductive LearnState where
  | idle | period | stability | collecting | finalising | done | failed | keeping
  deriving DecidableEq, Repr

/-- The kinds of object the vault keeps by key (R449): base sets, specimens, day-book records. -/
inductive VKind where
  | baseSet | specimen | dayRecord
  deriving DecidableEq, Repr

/-- The roles of a twin member (R505). -/
inductive TwinRole where
  | off | active | syncing | inSync | failed
  deriving DecidableEq, Repr
/-- One thing the last command made the block send or drive outwards; the list is emptied when the next command starts (MODEL'S OWN record of what leaves the block). -/
structure Sent where
  /-- what is sent. (model's own) -/
  kind : SentKind := .reply
  /-- mailbox, function, port, postcode or pin. (model's own) -/
  dest : Nat := 0
  /-- vector, message type, frame type. (model's own) -/
  code : Nat := 0
  /-- its bytes. Width: bytes. (model's own) -/
  body : List Byte := []
  deriving DecidableEq, Repr

/-- An event a block has raised and the sorting frame has not yet carried (R354, R362). -/
structure Raised where
  /-- event source. Width: 9. (R32) -/
  src : Nat := 0
  /-- the task input whose activation caused it. Width: 9. (R362) -/
  input : Option Nat := none
  /-- the channel a software fire or a bridge arrival enters directly. Width: 7. (R357, R365) -/
  chan : Option Nat := none
  /-- a bridge arrival. Width: 1. (R365) -/
  bridge : Bool := false
  /-- its hop count. Width: 3. (R365) -/
  hop : Nat := 0
  /-- parts it brings. Width: 3. (R359) -/
  parts : Nat := 1
  /-- the hub clock it is raised in. Width: clock. (R354, R358) -/
  clock : Nat := 0
  deriving DecidableEq, Repr

/-- A command that has started and has not been replied to (R53, R55). -/
structure Started where
  /-- Width: 16. (R53) -/
  op : Nat := 0
  /-- Width: packet. (R34) -/
  args : Args := {}
  /-- relayed to another package, whose reply is awaited. Width: 1. (R45) -/
  relayed : Bool := false
  /-- what the command keeps for its reply (command-specific). (R48) -/
  note : Nat := 0
  /-- blocks it holds until it ends. Width: BLOCK values. (R52) -/
  holds : List Nat := []
  deriving DecidableEq, Repr

/-- A chain-wide command the head has relayed and not yet committed (R54-R56). -/
structure ChainCmd where
  /-- Width: 16. (R54) -/
  op : Nat := 0
  /-- Width: packet. (R54) -/
  args : Args := {}
  /-- Width: postcodes. (R48) -/
  staged : List Nat := []
  /-- Width: postcode, status, failed blocks. (R48) -/
  failed : List (Nat × Nat × Nat) := []
  /-- Width: postcodes. (R55) -/
  awaited : List Nat := []
  /-- Width: 1. (R56) -/
  committed : Bool := false
  /-- Width: postcodes. (R56) -/
  acked : List Nat := []
  /-- when its staging began. Width: ns. (R55) -/
  since : Nat := 0
  /-- the head's own outcome. Width: 16. (R57) -/
  status : Nat := 0
  /-- the head's own reply data. Width: bytes. (R48) -/
  data : List Byte := []
  /-- the reply comes with a later event. Width: 1. (R48) -/
  later : Bool := false
  deriving DecidableEq, Repr

/-- A change staged here for a chain-wide command (R55, R56). -/
structure Staged where
  /-- Width: 16. (R55) -/
  op : Nat := 0
  /-- Width: packet. (R55) -/
  args : Args := {}
  /-- blocks held. Width: BLOCK values. (R52, R55) -/
  holds : List Nat := []
  /-- DRAM it has reserved. Width: bytes. (R54) -/
  dram : Nat := 0
  /-- vault space it has reserved. Width: area, bytes. (R54) -/
  area : Nat × Nat := (0, 0)
  deriving DecidableEq, Repr

/-- The SPI service port (R43). -/
structure Service where
  /-- BUSY. Width: 1. (R43) -/
  busy : Bool := false
  /-- REPLY_READY. Width: 1. (R43) -/
  ready : Bool := false
  /-- REFUSED_FRAME. Width: 1. (R43) -/
  refused : Bool := false
  /-- the readable reply. Width: bytes. (R43) -/
  reply : List Byte := []
  deriving DecidableEq, Repr

/-- Identity registers, command sources, replies, keys and the forerunner queue (chapter 02). -/
structure Sys where
  /-- FW_PATCH, FW_MINOR, FW_MAJOR, FW_SLOT. Width: 32. (R66) -/
  fwVersion : Nat := 0
  /-- Width: 32. (R66) -/
  hostScratch : BitVec 32 := 0
  /-- Width: 1. (R66) -/
  fwRunning : Bool := false
  /-- SEQUENCE per reply mailbox (0-15), 16 service port, 17 chain. Width: 32 each. (R46) -/
  seqs : Tab Nat := []
  /-- arrival order over all sources. Width: packets. (R50) -/
  waiting : List Packet := []
  /-- source served next in each class; DESIGN CHOICE 0. Width: source index per class. (R50) -/
  rr : Tab Nat := []
  /-- Width: commands. (R53) -/
  started : List Started := []
  /-- Width: nonce 256, scope 32, time. (R62) -/
  challenge : Option (Nat × Nat × Nat) := none
  /-- Width: 1. (R62) -/
  grantDebug : Bool := false
  /-- BASE_SET_WRITE. Width: 1. (R62) -/
  grantBase : Bool := false
  /-- (R43) -/
  service : Service := {}
  /-- Width: commands. (R54, R55) -/
  chainCmds : List ChainCmd := []
  /-- Width: staged changes. (R55) -/
  staged : List Staged := []
  /-- Width: up to 4096 records of 64 bytes. (R63) -/
  frQueue : List (List Byte) := []
  /-- Width: 32. (R69) -/
  frOverflow : Nat := 0
  /-- register writes refused for range, counted by the owning block. Width: count. (R7) -/
  regFaults : Nat := 0
  /-- timestamp at POR release, from which SENTRY_TIME counts. Width: ns. (R61) -/
  sentryBase : Nat := 0
  /-- MODEL'S OWN: counter of free values drawn; DESIGN CHOICE. Width: count. (model's own) -/
  free : Nat := 0
  deriving DecidableEq, Repr

/-- A mode transition in progress (R75). -/
structure Trans where
  /-- Width: 4. (R73) -/
  target : Mode := .standby
  /-- Width: 8. (R78) -/
  options : Nat := 0
  /-- the SET_MODE to reply to. (R78) -/
  cmd : Option Started := none
  /-- when it started. Width: ns. (R82) -/
  since : Nat := 0
  deriving DecidableEq, Repr

/-- One supply rail's monitor (R90, R91). -/
structure Rail where
  /-- below its warning level. Width: 1. (R91) -/
  below : Bool := false
  /-- Width: ns. (R91) -/
  since : Nat := 0
  /-- Width: mV. (R91) -/
  lowest : Nat := 0
  /-- RAIL_WARN bit. Width: 1. (R91) -/
  warn : Bool := false
  /-- below its reset level and not yet above the level that releases the reset. Width: 1. (R90) -/
  inReset : Bool := false
  deriving DecidableEq, Repr

/-- Modes, outputs, resets and supplies (chapter 03, power-up of chapter 26). -/
structure Modes where
  /-- Width: 4. (R70, R66) -/
  mode : Mode := .standby
  /-- (R75) -/
  trans : Option Trans := none
  /-- SET_MODE and ENTER_SENTRY that wait. Width: commands. (R75) -/
  waitingModes : List Started := []
  /-- Width: 1. (R76) -/
  autoDrain : Bool := false
  /-- Width: 1. (R73) -/
  autoInspect : Bool := false
  /-- REASON of a fault that is to take the package to FAULT_HOLD when the step settles; empty between commands. Width: 8. (R77) -/
  faultRequest : Option Nat := none
  /-- it is task input 240 that asks for it; clear between commands. Width: 1. (R362) -/
  faultTask : Bool := false
  /-- a mode change the package itself makes when the step settles (10 R243, 10 R244, 17 R383); empty between commands. Width: mode, cause. (R73) -/
  wanted : Option (Mode × Nat) := none
  /-- high-water positions of the encoders in use when the web last advanced, under AUTO_DRAIN. Width: encoder, count. (R76) -/
  drainMarks : List (Nat × Int) := []
  /-- when it last advanced. Width: ns. (R76) -/
  drainSince : Nat := 0
  /-- Width: 1. (R76) -/
  drainToConfigure : Bool := false
  /-- Width: 6. (R71) -/
  idleSafe : BitVec 6 := 0
  /-- PRESS_STOP_N asserted. Width: 6. (R71) -/
  faultSafe : BitVec 6 := 1
  /-- bit 0 PRESS_STOP_N asserted, 1-4 REJECT0-3, 5 WEB_HOLD, 6 WEB_REVERSE. Width: 7. (R70) -/
  outputs : BitVec 7 := 0
  /-- Width: 4. (R78) -/
  wakeMask : BitVec 4 := 0
  /-- Width: 3. (R78) -/
  wakeEncoder : Nat := 0
  /-- Width: 31. (R78) -/
  wakeCounts : Nat := 0
  /-- Width: 48. (R79) -/
  wakeEntry : Int := 0
  /-- Width: 32. (R78) -/
  alarmTicks : Nat := 0
  /-- when SENTRY was entered, from which the alarm counts. Width: ns. (R79) -/
  sentryAt : Nat := 0
  /-- Width: 5. (R78) -/
  wakeSources : BitVec 5 := 0
  /-- the compute dies' clocks are stopped by critical temperature. Width: 1. (R77) -/
  critical : Bool := false
  /-- Width: 1. (R81) -/
  waking : Bool := false
  /-- Width: 16. (R84) -/
  lastReset : Nat := 0x0001
  /-- Width: 8. (R78) -/
  resetRail : Nat := 0xFF
  /-- Width: 16. (R78) -/
  pinCount : Nat := 0
  /-- Width: 16. (R78) -/
  chainCount : Nat := 0
  /-- Width: 16. (R78) -/
  softCount : Nat := 0
  /-- Width: 16. (R78) -/
  districtCount : Nat := 0
  /-- Width: 16. (R78) -/
  warnCount : Nat := 0
  /-- Width: 1. (R80) -/
  saveJob : Bool := false
  /-- a soft reset that acts when the step settles; empty between commands. Width: cause 8. (R84) -/
  resetNow : Option Nat := none
  /-- soft reset due 20 us after its reply. Width: cause 8. (R78) -/
  softPending : Option Nat := none
  /-- when that reply was written. Width: ns. (R78) -/
  softAt : Nat := 0
  /-- Width: 1. (R86) -/
  watchdogWarned : Bool := false
  /-- Width: 9 rails. (R90) -/
  rails : Tab Rail := []
  /-- dips that have ended and are recorded when the pause ends. Width: rail, mV, ns. (R91) -/
  dips : List (Nat × Nat × Nat) := []
  /-- the pause of R91. Width: 1. (R91) -/
  pause : Bool := false
  /-- the last rail's recovery. Width: ns. (R91) -/
  pauseFrom : Option Nat := none
  /-- POR held. Width: 1. (R537) -/
  por : Bool := true
  /-- pin reset in progress. Width: 1. (R545) -/
  pinHeld : Bool := false
  /-- Width: 1. (R538) -/
  rail1En : Bool := false
  /-- Width: 1. (R538) -/
  rail2En : Bool := false
  /-- Width: 2. (R538) -/
  groupUp : BitVec 2 := 0
  /-- when group 1 came up. Width: ns. (R538) -/
  groupAt : Nat := 0
  /-- RAIL2_EN has been released, and RAIL1_EN follows 1 ms later. Width: ns. (R539, R540) -/
  rail1Off : Option Nat := none
  /-- group rails below 10 %; DESIGN CHOICE. Width: 2. (R540) -/
  discharged : BitVec 2 := 0b11
  /-- the 100 ms before another attempt. Width: 1. (R539) -/
  retryWait : Bool := false
  /-- when the attempt before failed. Width: ns. (R539) -/
  retryAt : Nat := 0
  /-- when RAIL1_EN was asserted, from which the limits of the power-up count. Width: ns. (R538) -/
  powerAt : Nat := 0
  /-- the hub PLLs have locked since POR. Width: 1. (R491) -/
  clockRan : Bool := false
  /-- (R539) -/
  powerTries : Nat := 0
  /-- Width: 1. (R540) -/
  wakePending : Bool := false
  /-- CHAIN_HEAD as sampled; DESIGN CHOICE. Width: 1. (R546) -/
  strapHead : Bool := false
  /-- TWIN_EN as sampled; DESIGN CHOICE. Width: 1. (R546) -/
  strapTwin : Bool := false
  /-- TEST_EN as sampled; DESIGN CHOICE. Width: 1. (R546) -/
  strapTest : Bool := false
  /-- Width: 5. (R541) -/
  vid0 : Nat := 15
  /-- Width: 5. (R541) -/
  vid1 : Nat := 15
  /-- when the code of die 0 last rose, until it has settled. Width: ns. (R542) -/
  vidRaised0 : Option Nat := none
  /-- the same of die 1. Width: ns. (R542) -/
  vidRaised1 : Option Nat := none
  /-- the code of die 0 before its last rise; the monitor follows the lower target until the step completes. Width: 5. (R90) -/
  vidOld0 : Nat := 15
  /-- the same of die 1. Width: 5. (R90) -/
  vidOld1 : Nat := 15
  /-- PERST_N low; DESIGN CHOICE. Width: 1. (R547) -/
  perst : Bool := true
  deriving DecidableEq, Repr

/-- A lane's pattern checker (R115). -/
structure Checker where
  /-- the last bits, the latest in bit 0. Width: 64. (R115) -/
  reg : Nat := 0
  /-- how many of them there are, up to 64. Width: 7. (R115) -/
  seen : Nat := 0
  /-- bits without an error while it looks for synchronisation. Width: 7. (R115) -/
  run : Nat := 0
  /-- CHK_SYNCED. Width: 1. (R117) -/
  synced : Bool := false
  /-- place in a periodic pattern. Width: 6. (R115) -/
  pos : Nat := 0
  /-- bits of the 1,024 so far. Width: 10. (R115) -/
  winBits : Nat := 0
  /-- errors among them. Width: 11. (R115) -/
  winErrs : Nat := 0
  /-- bit errors since they were last added to CHK_ERRORS. Width: count. (R115) -/
  errors : Nat := 0
  /-- bits compared since they were last added to CHK_BITS. Width: count. (R115) -/
  bits : Nat := 0
  /-- synchronisation lost since CHECKER_ERROR was last looked at. Width: 1. (R115) -/
  lost : Bool := false
  deriving DecidableEq, Repr

/-- What the resume path keeps of a lane from when it was last ACTIVE or LISTEN (R107). -/
structure LaneFit where
  /-- slip position. Width: 7. (R107) -/
  slipPos : Nat := 0
  /-- equaliser settings. Width: 8. (R107) -/
  ctle : Nat := 0
  /-- equaliser settings. Width: 8. (R107) -/
  dfe : Nat := 0
  /-- with the equaliser settings. Width: 8. (R107) -/
  eye : Nat := 0
  /-- transmit preset. Width: 4. (R107) -/
  preset : Nat := 2
  deriving DecidableEq, Repr

/-- One serial lane: its registers (R117) and what its state machine remembers (R104-R107, R113). -/
structure Lane where
  /-- ENABLE. Width: 1. (R117) -/
  enable : Bool := false
  /-- entered BIT_LOCK in this step; its codes are applied when the step settles. Width: 1. (R526) -/
  calDue : Bool := false
  /-- RATE. Width: 3. (R117) -/
  rate : Nat := 3
  /-- LISTEN_ONLY. Width: 1. (R117) -/
  listenOnly : Bool := false
  /-- TX_DARK. Width: 1. (R117) -/
  txDark : Bool := false
  /-- BITSLIP_MODE. Width: 1. (R117) -/
  bitslip : Bool := false
  /-- RX_INVERT. Width: 1. (R117) -/
  rxInvert : Bool := false
  /-- TX_INVERT. Width: 1. (R117) -/
  txInvert : Bool := false
  /-- DETECT_WAKE; 1 on L48-L57. Width: 1. (R117) -/
  detectWake : Bool := false
  /-- STATE. Width: 4. (R105) -/
  state : LaneState := .off
  /-- when STATE was entered. Width: ns. (R105) -/
  since : Nat := 0
  /-- BIT_LOCK. Width: 1. (R117) -/
  bitLock : Bool := false
  /-- BLOCK_LOCK. Width: 1. (R117) -/
  blockLock : Bool := false
  /-- ALIGNED. Width: 1. (R117) -/
  aligned : Bool := false
  /-- SLIP_POS. Width: 7. (R117) -/
  slipPos : Nat := 0
  /-- RETRIES, saturating. Width: 8. (R117) -/
  retries : Nat := 0
  /-- consecutive returns to DETECT towards BACKOFF. Width: 2. (R105) -/
  fails : Nat := 0
  /-- LANE_CAUSE. Width: 9. (R117) -/
  cause : BitVec 9 := 0
  /-- CAUSE_MASK. Width: 9. (R117) -/
  causeMask : BitVec 9 := 0x1B9
  /-- SYNC_ERR_COUNT, saturating. Width: 32. (R117) -/
  syncErr : Nat := 0
  /-- BLOCK_ERR_COUNT, saturating. Width: 32. (R117) -/
  blockErr : Nat := 0
  /-- FILLER_COUNT, wrapping. Width: 32. (R117) -/
  filler : Nat := 0
  /-- ERR_LIMIT. Width: 16. (R117) -/
  errLimit : Nat := 0x10
  /-- PARTNER_CAPS bytes 1-7; none stored reads zero. Width: 56. (R117) -/
  partnerCaps : List Byte := []
  /-- the CAPS that passed in this bring-up. Width: 56. (R105) -/
  newCaps : List Byte := []
  /-- from when the lane was last ACTIVE or LISTEN. (R107) -/
  kept : LaneFit := {}
  /-- after a loss of block lock, when it must be ACTIVE again. Width: ns. (R105) -/
  resumeBy : Option Nat := none
  /-- PRESET_REQ of its own; 0xF none. Width: 4. (R104) -/
  presetReq : Nat := 0xF
  /-- CTLE_CODE. Width: 8. (R117) -/
  ctle : Nat := 0
  /-- DFE_TAP1. Width: 8. (R117) -/
  dfe : Nat := 0
  /-- TX_PRESET. Width: 4. (R117) -/
  txPreset : Nat := 2
  /-- EYE_HEIGHT. Width: 8. (R117) -/
  eye : Nat := 0
  /-- GEN_PATTERN. Width: 3. (R117) -/
  genPattern : Nat := 4
  /-- CHK_PATTERN. Width: 3. (R117) -/
  chkPattern : Nat := 4
  /-- GEN_EN. Width: 1. (R117) -/
  genEn : Bool := false
  /-- CHK_EN. Width: 1. (R117) -/
  chkEn : Bool := false
  /-- the checker, CHK_SYNCED with it. (R115) -/
  chk : Checker := {}
  /-- the generator's last bits; DESIGN CHOICE 1. Width: 64. (R115) -/
  genReg : Nat := 1
  /-- the generator's place in a periodic pattern; DESIGN CHOICE 0. Width: 6. (R115) -/
  genPos : Nat := 0
  /-- INJECT_KIND. Width: 2. (R117) -/
  injectKind : Nat := 0
  /-- INJECT_RATE. Width: 5. (R117) -/
  injectRate : Nat := 0
  /-- injections that have still to take place. Width: kinds. (R116) -/
  injects : List Nat := []
  /-- the last periodic injection. Width: ns. (R116) -/
  injectAt : Option Nat := none
  /-- the transmitter's scrambler; DESIGN CHOICE 0. Width: 58. (R99) -/
  scr : Nat := 0
  /-- TEST_PATTERN. Width: 64. (R117) -/
  testPattern : Nat := 0
  /-- CHK_ERRORS, saturating. Width: 32. (R117) -/
  chkErrors : Nat := 0
  /-- CHK_BITS; DESIGN CHOICE wrapping at 2^48. Width: 48. (R117) -/
  chkBits : Nat := 0
  /-- on the resume path. Width: 1. (R107) -/
  resume : Bool := false
  /-- has trained state to resume with. Width: 1. (R107, R108) -/
  trained : Bool := false
  /-- own RX_READY sent. Width: 1. (R104, R105) -/
  readySent : Bool := false
  /-- RX_READY seen from the partner. Width: 1. (R105) -/
  partnerReady : Bool := false
  /-- READY_SEEN received from the partner. Width: 1. (R105) -/
  readySeen : Bool := false
  /-- last PRESET_REQ overheard; 0xF none. Width: 4. (R113) -/
  overheard : Nat := 0xF
  /-- SEQ of the last ALIGN seen in DESKEW. Width: 16. (R101, R105) -/
  alignSeq : Option Nat := none
  /-- block row at which that ALIGN arrived. Width: blocks. (R105) -/
  alignRow : Nat := 0
  /-- LANE_INDEX seen. Width: 4. (R101) -/
  laneIndex : Nat := 0
  /-- capability check passed in this bring-up. Width: 1. (R106) -/
  capsOk : Bool := false
  /-- when the last TRAIN, or CAPS, of this state was sent. Width: ns. (R105) -/
  dueAt : Option Nat := none
  /-- sync errors in the 1 ms window so far. Width: 32. (R117) -/
  winErrs : Nat := 0
  /-- when the window began. Width: ns. (R117) -/
  winFrom : Nat := 0
  deriving DecidableEq, Repr

/-- The markers that a group's transmitter sends on all its lanes in one row (R101, R102). -/
structure LaneMarks where
  /-- SEQ of the next ALIGN. Width: 16. (R100) -/
  alignTx : Nat := 0
  /-- ALIGNs, and the CAPS in their place, sent in ACTIVE since the last CAPS. Width: 8. (R102) -/
  alignsSent : Nat := 0
  /-- when the last ALIGN, or the CAPS in its place, was sent. Width: ns. (R102) -/
  alignAt : Option Nat := none
  deriving DecidableEq, Repr

/-- The serial lanes (chapter 04). -/
structure Lanes where
  /-- Width: 58. (R95) -/
  lanes : Tab Lane := []
  /-- per group, the layer above sees it up: ports 0-11, chain up 12, chain down 13, twin 14. Width: 15. (R106) -/
  up : BitVec 15 := 0
  /-- per sensor port, its group is ACTIVE and the port has taken it up. Width: 12. (R105, R136) -/
  lit : BitVec 12 := 0
  /-- per group. Width: 15. (R101, R102) -/
  marks : Tab LaneMarks := []
  /-- STANDBY has been entered, and the chain and twin lanes have still to go to IDLE. Width: 1. (R105, R108) -/
  rests : Bool := false
  /-- per group, layer blocks sent, modulo its lanes. Width: 15. (R101) -/
  rows : Tab Nat := []
  /-- lane cause bits of a group's loss, until journalled. Width: 16 each. (R466) -/
  downCauses : Tab Nat := []
  deriving DecidableEq, Repr

/-- The raw samples of one plane of a line, for the port statistics (R141). -/
structure PlaneStat where
  /-- of left-aligned raw samples. Width: sum. (R141) -/
  sum : Nat := 0
  /-- samples that are not VOID. Width: count. (R141) -/
  count : Nat := 0
  /-- samples at full code. Width: count. (R141) -/
  saturated : Nat := 0
  /-- VOID samples inserted. Width: count. (R141) -/
  voids : Nat := 0
  deriving DecidableEq, Repr

/-- Faults waiting for the next accepted line of a port (R128). -/
structure LineFaults where
  /-- CRC failures. Width: count. (R128) -/
  crc : Nat := 0
  /-- lines lost. Width: count. (R128) -/
  lost : Nat := 0
  /-- a framing or format fault or a duplicate. Width: 1. (R128) -/
  other : Bool := false
  /-- of a line that the front end dropped: lines were lost just before the next. Width: 1. (R127) -/
  gap : Bool := false
  /-- of such a line: the next starts a new run. Width: 1. (R127) -/
  resync : Bool := false
  /-- of such a line: the epoch whose FIRST_LINE it was. Width: 16. (R139) -/
  firstOf : Option Nat := none
  deriving DecidableEq, Repr

/-- One accepted input line on its way through stages 2 and 3. -/
structure InLine where
  /-- Width: 32. (R122) -/
  lineCount : Nat := 0
  /-- Width: 16. (R122) -/
  epoch : Nat := 0
  /-- governing temperature. Width: 16. (R147) -/
  temp : Int := 400
  /-- Width: 32. (R122) -/
  exposure : Nat := 0
  /-- Width: 16. (R122) -/
  gain : Nat := 0
  /-- chain time of mid-exposure. Width: ns. (R129) -/
  tMid : Int := 0
  /-- VOID is 65,535. Width: 16 per sample. (R125, R144) -/
  planes : List (List Nat) := []
  /-- stage 2 has been applied. Width: 1. (R155) -/
  corrected : Bool := false
  /-- Width: 1. (R126) -/
  short : Bool := false
  /-- Width: 1. (R126) -/
  long : Bool := false
  /-- Width: 1. (R126) -/
  planeMissing : Bool := false
  /-- Width: 1. (R138) -/
  epochUnknown : Bool := false
  /-- lines were lost just before it. Width: 1. (R127) -/
  gap : Bool := false
  /-- it starts a new run. Width: 1. (R127) -/
  resync : Bool := false
  /-- the epoch of the CAMERA_SET whose FIRST_LINE it is. Width: 16. (R139) -/
  firstOf : Option Nat := none
  /-- the base and trim set of a line accepted before the commit of another, in the front end. Width: images. (R155) -/
  fixed : Option (List Byte × List Byte) := none
  /-- (R128) -/
  faults : LineFaults := {}
  /-- Width: planes. (R141) -/
  stats : List PlaneStat := []
  deriving DecidableEq, Repr

/-- The line a front end is putting together (R126). -/
structure CurLine where
  /-- Width: 32. (R126) -/
  count : Nat := 0
  /-- lowest-numbered plane received. Width: 3. (R129, R147) -/
  lead : Nat := 0
  /-- of the lead plane. Width: 48. (R129) -/
  camTime : Nat := 0
  /-- Width: 16. (R129) -/
  epoch : Nat := 0
  /-- Width: 32. (R129) -/
  exposure : Nat := 0
  /-- Width: 16. (R122) -/
  gain : Nat := 0
  /-- Width: 16. (R147) -/
  temp : Int := 0
  /-- last plane received. Width: 2. (R126) -/
  last : Nat := 0
  /-- plane, samples. Width: planes. (R126) -/
  got : List (Nat × List Nat) := []
  /-- Width: 1. (R126) -/
  short : Bool := false
  /-- Width: 1. (R126) -/
  long : Bool := false
  /-- Width: 1. (R127) -/
  gap : Bool := false
  /-- Width: 1. (R127) -/
  resync : Bool := false
  deriving DecidableEq, Repr

/-- An epoch whose FIRST_LINE has not arrived (R138). -/
structure EpochStart where
  /-- FIRST_LINE. Width: 32. (R138) -/
  first : Nat := 0
  /-- Width: 16. (R138) -/
  epoch : Nat := 0
  /-- a CAMERA_SET's. Width: 1. (R139) -/
  command : Bool := false
  deriving DecidableEq, Repr

/-- A device message to a camera (R133, R134). -/
structure CamMsg where
  /-- MSG_TYPE. Width: 8. (R133) -/
  kind : Nat := 0
  /-- Width: 8. (R134) -/
  seq : Nat := 0
  /-- Width: bytes. (R133) -/
  body : List Byte := []
  /-- resends so far. Width: 2. (R134) -/
  tries : Nat := 0
  /-- when it was last sent. Width: ns. (R134) -/
  sentAt : Nat := 0
  /-- sent for a CAMERA_SET or CAMERA_MESSAGE that waits for its answer. Width: 1. (R138, R143) -/
  command : Bool := false
  /-- of a SET_EXPOSURE. Width: 16. (R138) -/
  epoch : Nat := 0
  /-- Width: 32. (R138) -/
  exposure : Nat := 0
  /-- Width: 16. (R138) -/
  gain : Nat := 0
  deriving DecidableEq, Repr

/-- A port's statistics for one epoch of a block that has not closed (R139, R141). -/
structure EpochStat where
  /-- Width: 64. (R141) -/
  block : Nat := 0
  /-- Width: 16. (R141) -/
  epoch : Nat := 0
  /-- Width: 32. (R141) -/
  firstLine : Nat := 0
  /-- Width: 32. (R141) -/
  inputLines : Nat := 0
  /-- Width: 16. (R141) -/
  linesLost : Nat := 0
  /-- Width: 16. (R141) -/
  crcErrors : Nat := 0
  /-- Width: 16. (R141) -/
  shortLines : Nat := 0
  /-- Width: 16. (R141) -/
  longLines : Nat := 0
  /-- Width: 32. (R141) -/
  voidSamples : Nat := 0
  /-- Width: 16. (R141) -/
  tempMin : Int := 0
  /-- Width: 16. (R141) -/
  tempMax : Int := 0
  /-- Width: planes. (R141) -/
  planes : List PlaneStat := []
  /-- Width: 32. (R141) -/
  exposure : Nat := 0
  /-- Width: 16. (R141) -/
  gain : Nat := 0
  /-- FLAGS bit 5. Width: 1. (R141) -/
  unknown : Bool := false
  /-- FLAGS bit 7. Width: 1. (R141) -/
  missing : Bool := false
  /-- a framing or format fault or a duplicate; the record has no bit for it. Width: 1. (R128) -/
  other : Bool := false
  deriving DecidableEq, Repr

/-- One sensor port's front end (chapter 05). -/
structure Port where
  /-- Width: 1. (R560) -/
  configured : Bool := false
  /-- PIXELS. Width: 15. (R560) -/
  pixels : Nat := 0
  /-- PLANES. Width: 3. (R560) -/
  planes : Nat := 0
  /-- DEPTH in bits. Width: 4. (R560) -/
  depth : Nat := 0
  /-- LINE_RATE. Width: 19. (R560) -/
  lineRate : Nat := 0
  /-- CABLE_DELAY_NS. Width: 16. (R560) -/
  cableDelay : Nat := 0
  /-- TEMP_DEFAULT. Width: 16. (R560) -/
  tempDefault : Int := 400
  /-- STATS_MAILBOX. Width: 16. (R560) -/
  statsMailbox : Nat := 0xFFFF
  /-- EXPOSURE in force. Width: 32. (R560) -/
  exposure : Nat := 0
  /-- GAIN in force. Width: 16. (R560) -/
  gain : Nat := 0x100
  /-- stored INFO body; empty is none. Width: 40 bytes. (R135) -/
  info : List Byte := []
  /-- current epoch; DESIGN CHOICE 0. Width: 16. (R138) -/
  epoch : Nat := 0
  /-- epoch of the lines before the first FIRST_LINE that is still to arrive; DESIGN CHOICE 0. Width: 16. (R138) -/
  prevEpoch : Nat := 0
  /-- epochs whose FIRST_LINE has not arrived, oldest first. (R138) -/
  epochs : List EpochStart := []
  /-- an epoch is expected. Width: 1. (R138) -/
  epochKnown : Bool := false
  /-- CAMERA_REFUSED. Width: 1. (R136) -/
  refused : Bool := false
  /-- SEQ of the next message. Width: 8. (R134) -/
  seq : Nat := 0
  /-- (R134) -/
  outstanding : Option CamMsg := none
  /-- messages to send when the outstanding one is answered. (R136) -/
  queue : List CamMsg := []
  /-- the epoch of a CAMERA_SET whose FIRST_LINE block has not closed. Width: 16. (R139) -/
  holdEpoch : Option Nat := none
  /-- the block it landed in. Width: 64. (R139) -/
  epochBlock : Option Nat := none
  /-- last accepted LINE_COUNT. Width: 32. (R126) -/
  lastCount : Option Nat := none
  /-- the line being put together. (R126) -/
  cur : Option CurLine := none
  /-- the last line is complete and has gone on. Width: 1. (R126) -/
  curDone : Bool := false
  /-- last plane received of it. Width: 2. (R126) -/
  lastPlane : Nat := 0
  /-- last valid SENSOR_TEMP. Width: 16. (R126) -/
  lastTemp : Option Int := none
  /-- waiting for the next accepted line. (R128) -/
  faults : LineFaults := {}
  /-- LINES_RECEIVED, wrapping. Width: 64. (R143) -/
  linesReceived : Nat := 0
  /-- LINES_LOST, saturating. Width: 32. (R143) -/
  linesLost : Nat := 0
  /-- Width: 32. (R143) -/
  crcErrors : Nat := 0
  /-- Width: 32. (R143) -/
  shortLines : Nat := 0
  /-- Width: 32. (R143) -/
  longLines : Nat := 0
  /-- Width: 32. (R143) -/
  formatErrors : Nat := 0
  /-- Width: 32. (R143) -/
  duplicates : Nat := 0
  /-- Width: 32. (R143) -/
  resyncs : Nat := 0
  /-- Width: 32. (R143) -/
  epochUnknown : Nat := 0
  /-- Width: 32. (R143) -/
  msgRetries : Nat := 0
  /-- Width: 32. (R143) -/
  msgTimeouts : Nat := 0
  /-- r - 1, r being the rate ratio; DESIGN CHOICE of the scale. Width: 2^-32. (R129) -/
  ratio : Int := 0
  /-- arrival and end-of-exposure camera time of the line that gives m in the window in progress. Width: ns, ns. (R129) -/
  mapMin : Option (Int × Int) := none
  /-- input lines of the window so far. Width: 11. (R129) -/
  mapLines : Nat := 0
  /-- the same of the last completed window. Width: ns, ns. (R129) -/
  mapDone : Option (Int × Int) := none
  /-- camera time unwrapped. Width: ns. (R129) -/
  camExt : Int := 0
  /-- last CAM_TIME. Width: 48. (R129) -/
  camLast : Option Nat := none
  /-- lines of the rate window so far. Width: 13. (R132) -/
  rateLines : Nat := 0
  /-- when the window began. Width: ns. (R132) -/
  rateFrom : Nat := 0
  /-- when its last line arrived. Width: ns. (R132) -/
  rateLast : Nat := 0
  /-- LINE_PERIOD, ps; DESIGN CHOICE 0 before the first window. Width: 32. (R143) -/
  linePeriod : Nat := 0
  /-- RATE_EXCEEDED of the block in progress. Width: 1. (R132) -/
  rateExceeded : Bool := false
  /-- when source k = 2 to 4 last fired, until a block closes; entry is time + 1. Width: ns. (R142) -/
  faultAt : Tab Nat := []
  /-- statistics of the block in progress. Width: per epoch. (R139) -/
  stats : List EpochStat := []
  /-- lines waiting for a route change. Width: up to 256 lines. (R18) -/
  buffered : List InLine := []
  /-- a route change of the port is in progress. Width: 1. (R18) -/
  rerouting : Bool := false
  deriving DecidableEq, Repr

/-- What a capture has counted of one pixel and plane (R160). -/
structure CapPixel where
  /-- Width: count. (R160) -/
  n : Nat := 0
  /-- Width: 1/16 codes. (R160) -/
  sum : Int := 0
  /-- Width: 1/256 codes squared. (R160) -/
  sumSq : Nat := 0
  deriving DecidableEq, Repr

/-- A flat-field capture in progress (R160, R161). -/
structure Capture where
  /-- LINES. Width: 17. (R160) -/
  lines : Nat := 0
  /-- STAGE. Width: 2. (R160) -/
  stage : Nat := 0
  /-- when it started. Width: ns. (R161) -/
  startedAt : Nat := 0
  /-- lines counted. Width: count. (R160) -/
  done : Nat := 0
  /-- Width: 16. (R160) -/
  epoch : Option Nat := none
  /-- Width: 16. (R162) -/
  tempMin : Int := 0
  /-- Width: 16. (R162) -/
  tempMax : Int := 0
  /-- Width: per plane. (R160) -/
  pixels : List (List CapPixel) := []
  deriving DecidableEq, Repr

/-- A base or trim set committed and not yet in effect (R155). -/
structure NewSet where
  /-- empty is the default set. Width: bytes. (R155) -/
  image : List Byte := []
  /-- Width: 64. (R152) -/
  serial : Nat := 0
  /-- BASE_STATE it brings. Width: 8. (R162) -/
  state : Nat := 0
  /-- the block in progress at commit; none before any line has landed. Width: 64. (R155) -/
  block : Option Nat := none
  deriving DecidableEq, Repr

/-- Photometric correction of one port (chapter 06). -/
structure Photo where
  /-- SEL_MODE: 0 FOLLOW. Width: 2. (R152) -/
  selMode : Nat := 0
  /-- base set in use; empty is the default. Width: image. (R153) -/
  base : List Byte := []
  /-- BASE_SERIAL. Width: 64. (R162) -/
  baseSerial : Nat := 0
  /-- BASE_STATE. Width: 8. (R162) -/
  baseState : Nat := 0
  /-- trim set in use; empty is the default. Width: image. (R153) -/
  trim : List Byte := []
  /-- (R155) -/
  newBase : Option NewSet := none
  /-- (R155) -/
  newTrim : Option NewSet := none
  /-- serial whose vault read is in progress. Width: 64. (R155) -/
  loading : Option Nat := none
  /-- BRACKET; DESIGN CHOICE 0 before a line. Width: 8. (R162) -/
  bracket : Nat := 0
  /-- WEIGHT; DESIGN CHOICE 0. Width: 16. (R162) -/
  weight : Nat := 0
  /-- LINE_TEMP; DESIGN CHOICE 0. Width: 16. (R162) -/
  lineTemp : Int := 0
  /-- saturating. Width: 32. (R162) -/
  clampLow : Nat := 0
  /-- Width: 32. (R162) -/
  clampHigh : Nat := 0
  /-- Width: 32. (R162) -/
  replaced : Nat := 0
  /-- Width: 32. (R162) -/
  voided : Nat := 0
  /-- (R160) -/
  capture : Option Capture := none
  deriving DecidableEq, Repr

/-- One encoder channel, in the Sentry domain (R163-R173). -/
structure Encoder where
  /-- COUNT. Width: 48. (R168) -/
  count : Int := 0
  /-- H. Width: 48. (R170) -/
  hw : Int := 0
  /-- E. Width: 48. (R170) -/
  ext : Int := 0
  /-- direction flag; DESIGN CHOICE FORWARD. Width: 1. (R170) -/
  reverse : Bool := false
  /-- ENABLE; clear on E4-E5. Width: 1. (R173) -/
  enable : Bool := true
  /-- DIR_INVERT; DESIGN CHOICE 0. Width: 1. (R187) -/
  dirInvert : Bool := false
  /-- INDEX_CHECK. Width: 1. (R173) -/
  indexCheck : Bool := false
  /-- REZERO_AT_Z; DESIGN CHOICE 0. Width: 1. (R187) -/
  rezero : Bool := false
  /-- SSI_GRAY. Width: 1. (R173) -/
  ssiGray : Bool := false
  /-- SSI_PARITY. Width: 1. (R173) -/
  ssiParity : Bool := false
  /-- BACKLASH. Width: 4. (R170) -/
  backlash : Nat := 2
  /-- MIN_EDGE_NS; zero on E4-E5. Width: 14. (R173) -/
  minEdge : Nat := 20
  /-- COUNT_PITCH_PM; DESIGN CHOICE on E4-E5. Width: 24. (R173) -/
  pitchPm : Nat := 1000000
  /-- NOMINAL; DESIGN CHOICE 0. Width: 31. (R187) -/
  nominal : Nat := 0
  /-- INDEX_TOL; DESIGN CHOICE 0. Width: 15. (R187) -/
  indexTol : Nat := 0
  /-- ILLEGAL_WINDOW_US; DESIGN CHOICE on E4-E5. Width: 16. (R173) -/
  illegalWindow : Nat := 1000
  /-- SSI_BITS; 25 on E4-E5. Width: 6. (R173) -/
  ssiBits : Nat := 0
  /-- SSI_RECOVERY in 0.5 us; 2 on E4-E5. Width: 7. (R173) -/
  ssiRecovery : Nat := 0
  /-- SSI_CLOCK_KHZ; 1,000 on E4-E5. Width: 14. (R173) -/
  ssiClock : Nat := 0
  /-- ENCODER_FAULT. Width: 1. (R166) -/
  encoderFault : Bool := false
  /-- INDEX_ERROR. Width: 1. (R171) -/
  indexError : Bool := false
  /-- count at the previous index. Width: 48. (R171) -/
  indexRef : Option Int := none
  /-- INDEX_DELTA. Width: 32. (R171) -/
  indexDelta : Int := 0
  /-- SPEED. Width: 32. (R185) -/
  speed : Int := 0
  /-- count when the speed window began. Width: 48. (R185) -/
  speedBase : Int := 0
  /-- when the speed window began. Width: ns. (R185) -/
  speedAt : Nat := 0
  /-- when SPEED last came below STOP_COUNTS_S. Width: ns. (R350) -/
  slowFrom : Nat := 0
  /-- ILLEGAL_COUNT, saturating. Width: 32. (R185) -/
  illegalCount : Nat := 0
  /-- EDGE_FAULTS, saturating. Width: 32. (R185) -/
  edgeFaults : Nat := 0
  /-- the last illegal transitions, newest first. Width: ns. (R166) -/
  illegalTimes : List Nat := []
  /-- last completed frame and its sampling instant. Width: value, ns. (R169, R177) -/
  ssiLast : Option (Nat × Nat) := none
  /-- COUNT_HI word as captured. Width: 19. (R185) -/
  countHi : Nat := 0
  /-- HW_HI as captured. Width: 16. (R185) -/
  hwHi : Nat := 0
  /-- last ILLEGAL event. Width: ns. (R186) -/
  illegalAt : Option Nat := none
  /-- last EDGE_FAULT event. Width: ns. (R186) -/
  edgeFaultAt : Option Nat := none
  /-- flags set in SENTRY, to be raised with WOKEN. Width: sources. (R186) -/
  missed : List Nat := []
  deriving DecidableEq, Repr

/-- One latch unit (R176). -/
structure Latch where
  /-- ENCODER. Width: 3. (R185) -/
  encoder : Nat := 0
  /-- MODE. Width: 2. (R185) -/
  mode : Nat := 0
  /-- EVENT_EN. Width: 1. (R185) -/
  eventEn : Bool := false
  /-- PERIOD_NS. Width: 20. (R185) -/
  period : Nat := 5000
  /-- SEQ, wrapping. Width: 32. (R185) -/
  seq : Nat := 0
  /-- the last periodic latch. Width: ns. (R176) -/
  takenAt : Option Nat := none
  /-- ENTRY_j. Width: 8 x 128. (R185) -/
  ring : Tab Postmark := []
  deriving DecidableEq, Repr

/-- One compare unit (R181). -/
structure Compare where
  /-- ARM_POS. Width: 48. (R185) -/
  armPos : Nat := 0
  /-- ENCODER. Width: 3. (R185) -/
  encoder : Nat := 0
  /-- REVERSE. Width: 1. (R185) -/
  reverse : Bool := false
  /-- CATCH_UP. Width: 1. (R185) -/
  catchUp : Bool := false
  /-- CLAIMED. Width: 1. (R185) -/
  claimed : Bool := false
  /-- Width: 32 x 48. (R181) -/
  queue : List Int := []
  /-- FIRED. Width: 1. (R185) -/
  fired : Bool := false
  /-- LATE. Width: 1. (R185) -/
  late : Bool := false
  /-- STALE. Width: 1. (R185) -/
  stale : Bool := false
  /-- ORDER. Width: 1. (R185) -/
  order : Bool := false
  /-- FULL. Width: 1. (R185) -/
  full : Bool := false
  /-- IGNORED. Width: 1. (R185) -/
  ignored : Bool := false
  /-- FIRED_PM. Width: 128. (R185) -/
  firedPm : Postmark := {}
  /-- FIRE_COUNT, wrapping. Width: 32. (R185) -/
  fireCount : Nat := 0
  deriving DecidableEq, Repr

/-- Encoders, latches and compares (chapter 07). -/
structure Position where
  /-- Width: 6. (R163) -/
  encoders : Tab Encoder := []
  /-- Width: 8. (R176) -/
  latches : Tab Latch := []
  /-- Width: 16. (R181) -/
  compares : Tab Compare := []
  /-- TIME_HI as captured. Width: 32. (R185) -/
  timeHi : Nat := 0
  /-- last TRACK_STALE event. Width: ns. (R180) -/
  staleAt : Option Nat := none
  /-- last SPEED_LIMIT event. Width: ns. (R197) -/
  speedLimitAt : Option Nat := none
  /-- units fired in this step whose gates have still to act; empty between commands. Width: unit, postmark. (R182) -/
  firings : List (Nat × Postmark) := []
  /-- register values out of range. Width: count. (R7) -/
  regFaults : Nat := 0
  deriving DecidableEq, Repr

/-- One latch of a station's track, as its districts hold it (R178, R180). -/
structure TrackPair where
  /-- Width: 64. (R180) -/
  time : Nat := 0
  /-- Width: 48. (R180) -/
  pos : Int := 0
  /-- Width: 12. (R175) -/
  flags : BitVec 12 := 0
  deriving DecidableEq, Repr

/-- A pitch change of the teller that takes effect at a block boundary (R204). -/
structure GridChange where
  /-- first block on the new grid. Width: 64. (R204) -/
  block : Nat := 0
  /-- Width: 16. (R204) -/
  pitch : Nat := 320
  /-- P0'. Width: 1/65536 count. (R204) -/
  origin : Int := 0
  deriving DecidableEq, Repr

/-- A station's grid and resampling settings (R188-R190, R209). -/
structure Grid where
  /-- PITCH in force, 1/16 um. Width: 16. (R209) -/
  pitch : Nat := 320
  /-- PRESET. Width: 2. (R209) -/
  preset : Nat := 1
  /-- ENCODER. Width: 3. (R209) -/
  encoder : Nat := 0
  /-- STEP_PCT. Width: 7. (R209) -/
  stepPct : Nat := 10
  /-- FIXED_ORIGIN. Width: 1. (R209) -/
  fixedOrigin : Bool := false
  /-- ORIGIN. Width: 48. (R209) -/
  originGiven : Int := 0
  /-- where line lineBase starts: P0, or P0' of the last pitch change. Width: 1/65536 count. (R189, R204) -/
  origin : Option Int := none
  /-- P0, whatever pitch changes have come since. Width: 1/65536 count. (R189) -/
  p0 : Option Int := none
  /-- pitch of the lines below lineBase; 0 where no change has been. Width: 16. (R204) -/
  oldPitch : Nat := 0
  /-- number of the line that starts at P0. Width: 64. (R204) -/
  lineBase : Nat := 0
  /-- origin of the provisional grid. Width: 1/65536 count. (R561) -/
  provisional : Option Int := none
  /-- those that some port has still to pass, oldest first. (R204) -/
  changes : List GridChange := []
  /-- PITCH as RESAMPLE_SET gave it. Width: 16. (R204) -/
  basePitch : Nat := 320
  /-- newest first; DESIGN CHOICE of how many. Width: up to 64 pairs. (R180) -/
  track : List TrackPair := []
  deriving DecidableEq, Repr

/-- One completed box of one plane (R195-R197). -/
structure Box where
  /-- grid line. Width: 64. (R195) -/
  k : Nat := 0
  /-- VOID is 65,535. Width: 16 per pixel. (R196) -/
  values : List Nat := []
  /-- input lines with any footprint in it. Width: 16. (R207) -/
  lines : Nat := 0
  /-- Width: 1. (R194) -/
  gap : Bool := false
  /-- Width: 1. (R207) -/
  flagged : Bool := false
  /-- Width: 1. (R191) -/
  extrapolated : Bool := false
  /-- Width: 1. (R191) -/
  stale : Bool := false
  /-- Width: 1. (R197) -/
  under : Bool := false
  deriving DecidableEq, Repr

/-- An accepted line of one plane that waits for its next (R194, R197). -/
structure PrevLine where
  /-- Width: 1/2^20 line. (R194) -/
  centre : Int := 0
  /-- Width: 1/2^20 line. (R194) -/
  lo : Int := 0
  /-- Width: 16 per pixel. (R208) -/
  samples : List Nat := []
  /-- Width: 1. (R194) -/
  gap : Bool := false
  /-- Width: 1. (R207) -/
  flagged : Bool := false
  /-- Width: 1. (R191) -/
  extrapolated : Bool := false
  /-- Width: 1. (R191) -/
  stale : Bool := false
  deriving DecidableEq, Repr

/-- Box integration of one plane (R193-R197, R208). -/
structure PlaneRes where
  /-- input high-water. Width: 1/2^20 line. (R193) -/
  h : Int := 0
  /-- (R208) -/
  prev : Option PrevLine := none
  /-- the line before it. (R197) -/
  before : Option PrevLine := none
  /-- A, W. Width: 40 + 24 per pixel. (R195) -/
  sums : List (Nat × Nat) := []
  /-- A_k, W_k. Width: 40 + 24 per pixel. (R195) -/
  snaps : List (Nat × Nat) := []
  /-- what the box in progress has gathered besides its sums. (R195) -/
  box : Box := {}
  /-- completed boxes, newest first. Width: up to L + D. (R208) -/
  boxes : List Box := []
  deriving DecidableEq, Repr

/-- One output line of one port as stage 4 receives it (R207). -/
structure OutLine where
  /-- LINE. Width: 64. (R207) -/
  line : Nat := 0
  /-- Width: 128. (R207) -/
  postmark : Postmark := {}
  /-- SPEED. Width: 32. (R207) -/
  speed : Nat := 0
  /-- INPUT_LINES. Width: 16. (R207) -/
  inputLines : Nat := 0
  /-- FLAGS. Width: 16. (R207) -/
  flags : BitVec 16 := 0
  /-- Width: 16 per pixel. (R199) -/
  planes : List (List Nat) := []
  deriving DecidableEq, Repr

/-- The resampler of one port (chapter 08). -/
structure PortRes where
  /-- OFFSET_p. Width: 4 x 32. (R192) -/
  offsets : List Int := [0, 0, 0, 0]
  /-- take effect at the next block boundary. Width: 4 x 32. (R203) -/
  newOffsets : Option (List Int) := none
  /-- placement queue, oldest first. Width: up to 64 lines. (R208) -/
  queue : List InLine := []
  /-- empty is an empty history. Width: per plane. (R208) -/
  planes : List PlaneRes := []
  /-- NEXT_LINE. Width: 64. (R209) -/
  nextLine : Nat := 0
  /-- the line after the last one issued, 0 when none has been. Width: 64. (R193) -/
  issuedTo : Nat := 0
  /-- UNSETTLED lines still to come. Width: count. (R203) -/
  unsettled : Nat := 0
  /-- SPEED. Width: 32. (R209) -/
  lastSpeed : Nat := 0
  /-- the run's first line number has been fixed. Width: 1. (R189) -/
  started : Bool := false
  /-- H at the run's start, on the grid. Width: 1/2^20 line. (R189) -/
  beyond : Int := 0
  /-- speed of the line before, in this run. Width: 32. (R202) -/
  prevSpeed : Option Nat := none
  /-- block in which the last placed line landed. Width: 64. (R128) -/
  blockLanded : Option Nat := none
  /-- saturating. Width: 32. (R209) -/
  unsettledLines : Nat := 0
  /-- Width: 32. (R209) -/
  undersampled : Nat := 0
  /-- Width: 32. (R209) -/
  reverseDropped : Nat := 0
  /-- Width: 32. (R209) -/
  speedSteps : Nat := 0
  /-- Width: 32. (R209) -/
  extrapolated : Nat := 0
  deriving DecidableEq, Repr

/-- How a port's pixels lie on its station: stages 4 and 5 of one port (R211, R212, R221). -/
structure PortMap where
  /-- BIN; DESIGN CHOICE 1 before a map is given. Width: 3. (R212) -/
  bin : Nat := 1
  /-- X(i); empty is no map. Width: 32 per pixel. (R211) -/
  map : List Nat := []
  /-- M, row-major. Width: 12 x 16. (R221) -/
  matrix : List Int := [4096, 0, 0, 0, 0, 4096, 0, 0, 0, 0, 4096, 0]
  /-- OFF. Width: 3 x 16. (R221) -/
  offs : List Int := [0, 0, 0]
  /-- in force from that line on. Width: line, M, OFF. (R229) -/
  newColour : Option (Nat × List Int × List Int) := none
  /-- the port is marked lost. Width: 1. (R20) -/
  lost : Bool := false
  deriving DecidableEq, Repr

/-- A line of one port that waits for its neighbours' overlap values (R217). -/
structure SeamLine where
  /-- the line's header. Width: 32 bytes. (R217) -/
  head : OutLine := {}
  /-- own working RGB of the owned columns. Width: 3 x 16 per owned column. (R221) -/
  own : List Rgb := []
  /-- planes that are VOID in the whole line. Width: 4. (R246) -/
  voids : Nat := 0
  /-- the left neighbour's values are awaited. Width: 1. (R217) -/
  leftDue : Bool := false
  /-- Width: 1. (R217) -/
  rightDue : Bool := false
  /-- Width: 1. (R218) -/
  leftMissing : Bool := false
  /-- Width: 1. (R218) -/
  rightMissing : Bool := false
  deriving DecidableEq, Repr

/-- Overlap values on the seam ring, sent and not yet arrived (R217). -/
structure SeamValues where
  /-- Width: 64. (R217) -/
  line : Nat := 0
  /-- port that owns the columns. Width: 4. (R217) -/
  owner : Nat := 0
  /-- the sender is the owner's left neighbour. Width: 1. (R217) -/
  fromLeft : Bool := false
  /-- first column. Width: 16. (R217) -/
  first : Nat := 0
  /-- Width: 3 x 16 per column. (R217) -/
  values : List Rgb := []
  /-- arrived before the owner has its own line. Width: 1. (R217, R223) -/
  arrived : Bool := false
  deriving DecidableEq, Repr

/-- One district's part of a station's line. -/
structure Piece where
  /-- index in the station. Width: 3. (R215) -/
  port : Nat := 0
  /-- the port's own header of the line. Width: 32 bytes. (R217) -/
  head : OutLine := {}
  /-- the port's own seam word. Width: 3. (R218) -/
  seam : BitVec 3 := 0
  /-- planes VOID in the whole line. Width: 4. (R246) -/
  voids : Nat := 0
  /-- Width: 3 x 16 per owned column. (R215) -/
  px : List Rgb := []
  deriving DecidableEq, Repr

/-- A line of a station as its districts complete it (R218, R251). -/
structure StLine where
  /-- header; flags joined over the ports. Width: 32 bytes. (R217) -/
  head : OutLine := {}
  /-- seam word. Width: 3. (R218) -/
  seam : BitVec 3 := 0
  /-- owned columns of the ports that have it. Width: per port. (R215) -/
  pieces : List Piece := []
  /-- districts gone without. Width: port indices. (R279) -/
  missing : List Nat := []
  deriving DecidableEq, Repr

/-- One station: its ports and its picture (R210, R222, R229). -/
structure Station where
  /-- PORTS in cross-web order. Width: up to 6 x 4. (R210) -/
  ports : List Nat := []
  /-- MONO. Width: 1. (R210) -/
  mono : Bool := false
  /-- WIDTH; 0 with no station. Width: 17. (R210) -/
  width : Nat := 0
  /-- N. Width: 9 x 16. (R222) -/
  xyz : List Nat := [7409, 6544, 2431, 3645, 11746, 993, 276, 1928, 14180]
  /-- SEAM_MISSING, saturating. Width: 32. (R229) -/
  seamMissing : Nat := 0
  /-- SEAM_LATE. Width: 32. (R229) -/
  seamLate : Nat := 0
  /-- CLAMPED. Width: 32. (R229) -/
  clamped : Nat := 0
  /-- Width: up to 5 lines per port. (R217, R223) -/
  waiting : Tab (List SeamLine) := []
  /-- on the seam ring. Width: values. (R217) -/
  ring : List SeamValues := []
  /-- lines not yet complete in every district. Width: up to 17 lines. (R217, R14) -/
  lines : List StLine := []
  /-- parts of lines that the station has gone on without. Width: pieces. (R14, R279) -/
  late : List Piece := []
  /-- the line after the last one completed in this run. Width: 64. (R277) -/
  nextLine : Option Nat := none
  deriving DecidableEq, Repr

/-- The settings of an outlet (R224). -/
structure OutletSet where
  /-- Width: 1. (R224) -/
  enable : Bool := false
  /-- Width: 2. (R224) -/
  station : Nat := 0
  /-- Width: 3. (R225) -/
  format : Nat := 0
  /-- Width: 16. (R224) -/
  c0 : Nat := 0
  /-- Width: 17. (R224) -/
  cw : Nat := 0
  /-- DESIGN CHOICE 1. Width: 7. (R224) -/
  sx : Nat := 1
  /-- DESIGN CHOICE 1. Width: 7. (R224) -/
  sy : Nat := 1
  /-- DESIGN CHOICE 1. Width: 13. (R224) -/
  frameRows : Nat := 1
  /-- DESIGN CHOICE 32. Width: 13. (R224) -/
  mailbox : Nat := 32
  deriving DecidableEq, Repr

/-- One outlet (R224-R228). -/
structure Outlet where
  /-- settings in force. (R224) -/
  set : OutletSet := {}
  /-- in force at the next block boundary. (R229) -/
  newSet : Option OutletSet := none
  /-- E; empty is the sRGB curve. Width: 4,096 x 12. (R225) -/
  table : List Nat := []
  /-- in force at the next frame. Width: 4,096 x 12. (R229) -/
  newTable : Option (List Nat) := none
  /-- L0. Width: 64. (R224) -/
  started : Option Nat := none
  /-- count and sums of the row in progress. Width: per outlet pixel. (R224) -/
  acc : List (Nat × Nat × Nat × Nat) := []
  /-- lines of the row in progress. Width: 7. (R224) -/
  accLines : Nat := 0
  /-- finished rows, oldest first. Width: up to FRAME_ROWS rows. (R226) -/
  rows : List (List Rgb) := []
  /-- Width: 64. (R226) -/
  firstLine : Nat := 0
  /-- Width: 128. (R226) -/
  postmark : Postmark := {}
  /-- Width: 16. (R226) -/
  lineFlags : BitVec 16 := 0
  /-- Width: 3. (R226) -/
  seamFlags : BitVec 3 := 0
  /-- SEQ, wrapping. Width: 32. (R226) -/
  seq : Nat := 0
  /-- Width: 1. (R226) -/
  droppedBefore : Bool := false
  /-- Width: 1. (R228) -/
  pitchChanged : Bool := false
  /-- the pitch C0 and CW count at; none before a line has come under the settings. Width: 16. (R228) -/
  pitch : Option Nat := none
  /-- station lines in the 1 ms window. Width: count. (R227) -/
  windowLines : Nat := 0
  /-- when the window began. Width: ns. (R227) -/
  windowFrom : Nat := 0
  /-- the last window was above the computed rate. Width: 1. (R227) -/
  rateOver : Bool := false
  /-- FRAMES_SENT, saturating. Width: 32. (R229) -/
  sent : Nat := 0
  /-- FRAMES_DROPPED. Width: 32. (R229) -/
  dropped : Nat := 0
  /-- SHORT_FRAMES. Width: 32. (R229) -/
  short : Nat := 0
  deriving DecidableEq, Repr

/-- A specimen: its header fields and its pixels, line by line (R230, R231). -/
structure Specimen where
  /-- Width: 1. (R231) -/
  mono : Bool := false
  /-- K_USED. Width: 8. (R231) -/
  kUsed : Nat := 4
  /-- WIDTH. Width: 17. (R231) -/
  width : Nat := 0
  /-- REPEAT_LINES. Width: 19. (R231) -/
  lines : Nat := 0
  /-- PITCH. Width: 16. (R231) -/
  pitch : Nat := 320
  /-- REPEAT_LENGTH, 1/256 line. Width: 32. (R231) -/
  length : Nat := 0
  /-- UNSTABLE_TILES. Width: 32. (R231) -/
  unstable : Nat := 0
  /-- JOB_ID. Width: 64. (R231) -/
  jobId : Nat := 0
  /-- LEARNED, ns. Width: 64. (R231) -/
  learned : Nat := 0
  /-- SPEED_MIN. Width: 32. (R231) -/
  speedMin : Nat := 0
  /-- SPEED_MAX. Width: 32. (R231) -/
  speedMax : Nat := 0
  /-- Width: 8+8+8+4 per pixel. (R230) -/
  rows : List (List SpecPix) := []
  deriving DecidableEq, Repr

/-- The settings of LEARN_SET (R250). -/
structure LearnSet where
  /-- LEARN, KEEP, REFINE. Width: 8. (R250) -/
  options : BitVec 8 := 0x01
  /-- K. Width: 7. (R250) -/
  k : Nat := 16
  /-- STABLE_RUN. Width: 4. (R250) -/
  stableRun : Nat := 2
  /-- MAX_ATTEMPTS. Width: 3. (R250) -/
  maxAttempts : Nat := 1
  /-- NOMINAL, um. Width: 32. (R250) -/
  nominal : Nat := 0
  /-- REPEAT_MIN. Width: 32. (R250) -/
  repeatMin : Nat := 20000
  /-- REPEAT_MAX. Width: 32. (R250) -/
  repeatMax : Nat := 1000000
  /-- MAX_REPEATS. Width: 11. (R250) -/
  maxRepeats : Nat := 64
  /-- STABLE_PCT. Width: 7. (R250) -/
  stablePct : Nat := 60
  /-- UNSTABLE_MAX_PCT. Width: 6. (R250) -/
  unstableMaxPct : Nat := 10
  /-- TILE_MIN_PCT. Width: 7. (R250) -/
  tileMinPct : Nat := 50
  /-- STRETCH_TOL_PPM. Width: 15. (R250) -/
  stretchTol : Nat := 2000
  /-- REJECT_DE. Width: 11. (R250) -/
  rejectDe : Nat := 96
  /-- SPREAD_MULT. Width: 8. (R250) -/
  spreadMult : Nat := 48
  /-- GRAD_WEIGHT. Width: 8. (R250) -/
  gradWeight : Nat := 64
  /-- LEARN_MIN_SPEED. Width: 25. (R250) -/
  minSpeed : Nat := 0
  /-- CLASS_EDGES. Width: 14 x 12. (R250) -/
  edges : List Nat := [8, 12, 16, 24, 32, 40, 48, 64, 80, 96, 128, 160, 192, 256]
  /-- PERIOD_MIN_NCC. Width: 10. (R250) -/
  minNcc : Nat := 819
  deriving DecidableEq, Repr

/-- The settings of GOLDEN_FREE_SET (R246, R250). -/
structure GoldenSet where
  /-- ENABLE. Width: 3. (R250) -/
  enable : BitVec 3 := 0b111
  /-- STREAK_DE. Width: 11. (R250) -/
  streakDe : Nat := 48
  /-- STREAK_MAX_COLS. Width: 7. (R250) -/
  streakMaxCols : Nat := 16
  /-- STREAK_LENGTH_MM. Width: 14. (R250) -/
  streakLengthMm : Nat := 1000
  /-- BLANK_DE. Width: 11. (R250) -/
  blankDe : Nat := 64
  /-- BLANK_SHARE_PCT. Width: 7. (R250) -/
  blankShare : Nat := 95
  deriving DecidableEq, Repr

/-- A line of a station in CIELAB, kept for registration and learning (R251, R272). -/
structure LabLine where
  /-- Width: 64. (R251) -/
  line : Nat := 0
  /-- the pitch it lies on. Width: 16. (R269) -/
  pitch : Nat := 320
  /-- predicted specimen line, in lines of its own pitch. Width: 1/16 line. (R252) -/
  y16 : Int := 0
  /-- it carries UNSETTLED or BLOCK_CUT. Width: 1. (R255) -/
  bad : Bool := false
  /-- specimen units. Width: 3 x 8 per column. (R230) -/
  px : List Pix8 := []
  deriving DecidableEq, Repr

/-- A repeat the tracker has closed and learning has not yet judged (R237-R240). -/
structure ClosedRepeat where
  /-- confident share. Width: 7. (R237) -/
  pct : Nat := 0
  /-- stretch estimate, ppm. Width: 32. (R237) -/
  stretch : Int := 0
  /-- X at its end. Width: 1/16 pixel. (R240) -/
  lateral : Int := 0
  /-- Width: per tile. (R242) -/
  confident : List Bool := []
  /-- its own final field. Width: per tile. (R240) -/
  field : List TileEntry := []
  /-- Width: lines. (R240) -/
  lines : List LabLine := []
  deriving DecidableEq, Repr

/-- The working slot of a pixel (R240). -/
structure Slot where
  /-- held raw. Width: up to 3 samples. (R240) -/
  raw : List Pix8 := []
  /-- Width: 3 x 8. (R240) -/
  seed : Pix8 := none
  /-- COUNT. Width: 8. (R240) -/
  count : Nat := 0
  /-- SUM_L. Width: 16. (R240) -/
  sumL : Nat := 0
  /-- SUM_A. Width: 16. (R240) -/
  sumA : Nat := 0
  /-- SUM_B. Width: 16. (R240) -/
  sumB : Nat := 0
  /-- SUMSQ. Width: 32. (R240) -/
  sumSq : Nat := 0
  deriving DecidableEq, Repr

/-- What the golden-free streak check knows of one column (R246). -/
structure GoldenCol where
  /-- pixels of the block so far. Width: count. (R246) -/
  n : Nat := 0
  /-- of L8, a8, b8. Width: sums. (R246) -/
  sums : Nat × Nat × Nat := (0, 0, 0)
  /-- lines of the consecutive blocks in which it stood apart. Width: lines. (R246) -/
  held : Nat := 0
  /-- the web they cover. Width: 1/16 um. (R246) -/
  web : Nat := 0
  /-- the first of these lines. (R299) -/
  since : LineMark := {}
  deriving DecidableEq, Repr

/-- The golden-free checks of one station in progress (R246). -/
structure Golden where
  /-- newest first, for the blank-area tile. Width: up to 64 lines. (R246) -/
  recent : List (List Pix8) := []
  /-- Width: per column. (R246) -/
  cols : List GoldenCol := []
  /-- lines of the block the checks have seen. Width: count. (R246) -/
  lines : Nat := 0
  /-- the first of them. (R299) -/
  first : LineMark := {}
  /-- the first line of the block in progress. (R285) -/
  block : LineMark := {}
  /-- lines with a VOID plane: entry 4 port + plane. Width: count. (R246) -/
  voids : Tab Nat := []
  /-- working RGB by 4 port + component. Width: count, sum. (R246) -/
  planeSums : Tab (Nat × Nat) := []
  deriving DecidableEq, Repr

/-- Specimens and learning of one station (chapter 10). -/
structure Learn where
  /-- its loaded specimen has been released in this step; false between commands. Width: 1. (R232, R328) -/
  released : Bool := false
  /-- (R250) -/
  set : LearnSet := {}
  /-- (R250) -/
  golden : GoldenSet := {}
  /-- from the next block. (R250) -/
  newGolden : Option GoldenSet := none
  /-- the loaded specimen. (R232) -/
  loaded : Option Specimen := none
  /-- loaded at the next block boundary. (R243) -/
  next : Option Specimen := none
  /-- JOB_ID of a store in progress. Width: 64. (R247) -/
  storing : Option Nat := none
  /-- JOB_ID of a recall in progress. Width: 64. (R248) -/
  recalling : Option Nat := none
  /-- STATE. Width: 3. (R250) -/
  state : LearnState := .idle
  /-- RESULT. Width: 3. (R250) -/
  result : Nat := 0
  /-- ATTEMPT; DESIGN CHOICE 0 before the first. Width: 8. (R250) -/
  attempt : Nat := 0
  /-- COLLECTED. Width: 8. (R250) -/
  collected : Nat := 0
  /-- REPEATS_SEEN. Width: 16. (R250) -/
  seen : Nat := 0
  /-- REPEATS_SKIPPED. Width: 16. (R250) -/
  skipped : Nat := 0
  /-- REPEAT_LENGTH. Width: 32. (R250) -/
  length : Nat := 0
  /-- NCC. Width: 16. (R250) -/
  ncc : Nat := 0
  /-- CONFIDENT_PCT. Width: 8. (R250) -/
  pct : Nat := 0
  /-- STRETCH_PPM. Width: 32. (R250) -/
  stretch : Int := 0
  /-- UNSTABLE_TILES. Width: 32. (R250) -/
  unstable : Nat := 0
  /-- newest first. Width: 8 x 16 per line. (R234) -/
  profile : List (List Nat) := []
  /-- the next line begins the anchor. Width: 1. (R236) -/
  anchorDue : Bool := false
  /-- the anchor, once its repeat is complete. (R236) -/
  anchor : Option Specimen := none
  /-- the anchor's first line. Width: 64. (R236) -/
  anchorFirst : Nat := 0
  /-- tracker repeats since the anchor began. Width: count. (R238) -/
  anchorIndex : Nat := 0
  /-- repeats of R236 closed since the anchor began. Width: count. (R236) -/
  repeatIndex : Nat := 0
  /-- the repeat in progress is collectable so far. Width: 1. (R236) -/
  good : Bool := true
  /-- lowest and highest speed of the repeat in progress. Width: 2 x 32. (R231) -/
  speeds : Option (Nat × Nat) := none
  /-- closed by line and not yet judged. Width: repeats. (R236) -/
  goods : List (Bool × Option (Nat × Nat)) := []
  /-- closed by the tracker and not yet judged. Width: repeats. (R237) -/
  closed : List ClosedRepeat := []
  /-- latest collectable repeat after the anchor, and how many were judged since. Width: repeat. (R238) -/
  lastGood : Option (Nat × ClosedRepeat) := none
  /-- consecutive stable repeats. Width: count. (R238) -/
  run : Nat := 0
  /-- estimate for the repeat before. Width: ppm. (R237) -/
  lastStretch : Option Int := none
  /-- repeats judged since the anchor. Width: count. (R238) -/
  sinceAnchor : Nat := 0
  /-- Width: per pixel. (R240) -/
  slots : List (List Slot) := []
  /-- collected repeats in which it was confident. Width: per tile. (R242) -/
  tileConf : List Nat := []
  /-- Width: 32. (R231) -/
  speedMin : Nat := 0
  /-- Width: 32. (R231) -/
  speedMax : Nat := 0
  /-- (R246) -/
  check : Golden := {}
  deriving DecidableEq, Repr

/-- The settings of REG_SET (R274). -/
structure RegSet where
  /-- TEXTURE_MIN. Width: 12. (R274) -/
  textureMin : Nat := 24
  /-- Q_MIN. Width: 8. (R274) -/
  qMin : Nat := 48
  /-- MATCH_MAX. Width: 8. (R274) -/
  matchMax : Nat := 24
  /-- ELASTICITY. Width: 9. (R274) -/
  elasticity : Nat := 128
  /-- PHASE_GAIN. Width: 9. (R274) -/
  phaseGain : Nat := 256
  /-- STRETCH_GAIN. Width: 9. (R274) -/
  stretchGain : Nat := 128
  /-- COAST_REPEATS. Width: 4. (R274) -/
  coastRepeats : Nat := 3
  /-- ACQUIRE_MIN_NCC. Width: 10. (R274) -/
  acquireNcc : Nat := 819
  deriving DecidableEq, Repr

/-- The settings of STREAK_SET (R274). -/
structure StreakSet where
  /-- ENABLE. Width: 1. (R274) -/
  enable : Bool := true
  /-- STREAK_REPEATS. Width: 9. (R274) -/
  repeats : Nat := 32
  /-- STREAK_DL. Width: 11. (R274) -/
  dl : Nat := 24
  /-- STREAK_FLAT. Width: 11. (R274) -/
  flat : Nat := 32
  /-- STREAK_COVER_PCT. Width: 7. (R274) -/
  coverPct : Nat := 90
  /-- IGNORE. Width: up to 16 ranges. (R274) -/
  ignore : List (Nat × Nat) := []
  /-- STREAK_MIN_LINES. Width: 27. (R274) -/
  minLines : Nat := 200000
  deriving DecidableEq, Repr

/-- The thresholds of one tolerance class (R265). -/
structure Thresholds where
  /-- the defaults of R266 are named in the reset of Reg. Width: 16. (R266) -/
  seedDe : Nat := 0xFFFF
  /-- Width: 16. (R266) -/
  growDe : Nat := 0xFFFF
  /-- Width: 16. (R266) -/
  seedDl : Nat := 0xFFFF
  /-- Width: 16. (R266) -/
  growDl : Nat := 0xFFFF
  deriving DecidableEq, Repr

/-- An UNREGISTERED pseudo-record to be issued in this step (R261, R301). -/
structure Pseudo where
  /-- REPEAT. Width: 32. (R301) -/
  rep : Nat := 0
  /-- FIRST_SUSPENDED. Width: 64. (R301) -/
  first : Nat := 0
  /-- LAST_SUSPENDED. Width: 64. (R301) -/
  last : Int := 0
  /-- CONFIDENT_PCT. Width: 8. (R301) -/
  pct : Nat := 0
  /-- CAUSE. Width: 8. (R301) -/
  cause : Nat := 0
  /-- Width: 128. (R301) -/
  mark : Postmark := {}
  deriving DecidableEq, Repr

/-- Registration and compare of one station (chapter 11). -/
structure Reg where
  /-- STATE. Width: 2. (R253) -/
  state : RegState := .idle
  /-- P. Width: 64. (R252) -/
  phase : Int := 0
  /-- s. Width: 16. (R252) -/
  stretch : Int := 0
  /-- X. Width: 32. (R252) -/
  lateral : Int := 0
  /-- REPEAT. Width: 32. (R253) -/
  repeatNo : Nat := 0
  /-- a repeat has begun since IDLE. Width: 1. (R253) -/
  begun : Bool := false
  /-- (R274) -/
  set : RegSet := {}
  /-- from the next repeat. (R267) -/
  newSet : Option RegSet := none
  /-- empty is the defaults of R266. Width: 16 x 64. (R266) -/
  thresholds : List Thresholds := []
  /-- from the next block boundary. Width: 16 x 64. (R267) -/
  newThresholds : Option (List Thresholds) := none
  /-- (R274) -/
  streakSet : StreakSet := {}
  /-- from the next repeat. (R271) -/
  newStreak : Option StreakSet := none
  /-- tiles of the repeat in progress, as searched. Width: TX x TY. (R272) -/
  cur : List TileEntry := []
  /-- c(ty). Width: per row. (R258) -/
  curC : List (Int × Int) := []
  /-- F_prev. Width: TX x TY. (R260) -/
  prev : Option (List TileEntry) := none
  /-- F_old. Width: TX x TY. (R260) -/
  old : Option (List TileEntry) := none
  /-- tile rows of the repeat registered. Width: count. (R258) -/
  rowsDone : Nat := 0
  /-- confident tiles of the repeat so far. Width: count. (R261) -/
  confident : Nat := 0
  /-- P changes of the repeat. Width: 1/256 line. (R259) -/
  sumDP : Int := 0
  /-- COAST_COUNT. Width: 8. (R253) -/
  coast : Nat := 0
  /-- CONFIDENT_PCT. Width: 8. (R274) -/
  confidentPct : Nat := 0
  /-- first line of the repeat. Width: 64. (R262) -/
  first : Nat := 0
  /-- what a record needs of it. (R299, R301) -/
  firstMark : LineMark := {}
  /-- the line before. (R299) -/
  lastMark : LineMark := {}
  /-- the repeat is searched. Width: 1. (R254) -/
  searched : Bool := false
  /-- compare of the repeat is suspended. Width: 1. (R261) -/
  suspended : Bool := false
  /-- first suspended line of the repeat or of ACQUIRE. Width: line, postmark. (R261) -/
  susFirst : Option (Nat × Postmark) := none
  /-- UNREGISTERED raised in this repeat. Width: 1. (R273) -/
  unregRaised : Bool := false
  /-- the repeat before was registered. Width: 1. (R261) -/
  prevRegistered : Bool := false
  /-- a specimen has been loaded and compare waits for a tile-row boundary. Width: 1. (R267) -/
  rowWait : Bool := false
  /-- tile row of the line before. Width: tile row. (R267) -/
  lastRow : Int := 0
  /-- registration flags of the last line. Width: 8. (R262) -/
  lastFlags : BitVec 8 := 0
  /-- UNREG_REPEATS, saturating. Width: 32. (R274) -/
  unregRepeats : Nat := 0
  /-- ACQUISITIONS. Width: 32. (R274) -/
  acquisitions : Nat := 0
  /-- SEED_PIXELS. Width: 64. (R274) -/
  seedPixels : Nat := 0
  /-- GROW_PIXELS. Width: 64. (R274) -/
  growPixels : Nat := 0
  /-- acquisition profile, newest first. Width: 8 x 16 per line. (R254) -/
  window : List (List Nat) := []
  /-- first line of the window. Width: 64. (R254) -/
  windowFirst : Nat := 0
  /-- lines of the repeat, newest first. Width: lines. (R251) -/
  live : List LabLine := []
  /-- newest first. Width: per repeat and column. (R272) -/
  streakRing : List (List StreakCol) := []
  /-- the ring's sums. Width: per column. (R272) -/
  streakSums : List StreakCol := []
  /-- T of the reference's tiles, row-major. Width: TX x TY x 16. (R257, R272) -/
  textures : List Nat := []
  /-- of the reference. Width: 8 x REPEAT_LINES x 16. (R254, R272) -/
  bandProfile : List (List Nat) := []
  /-- counts of the repeat in progress. Width: per column. (R270) -/
  streakNow : List StreakCol := []
  /-- Width: up to 64. (R271) -/
  streaks : List Streak := []
  /-- STREAK_OVERFLOW. Width: 16. (R274) -/
  streakOverflow : Nat := 0
  /-- to be issued in this step; empty between commands. Width: records. (R261) -/
  pseudos : List Pseudo := []
  deriving DecidableEq, Repr

/-- The settings of SEG_SET (R296). -/
structure SegSet where
  /-- MERGE_GAP. Width: 4. (R296) -/
  mergeGap : Nat := 2
  /-- MERGE_COLS. Width: 6. (R296) -/
  mergeCols : Nat := 2
  /-- MIN_SEED. Width: 16. (R296) -/
  minSeed : Nat := 1
  /-- MAX_BLOB_LINES. Width: 17. (R296) -/
  maxLines : Nat := 4096
  /-- SIG_MIN. Width: 12. (R296) -/
  sigMin : Nat := 16
  /-- DEFAULT_CLASS. Width: 5. (R296) -/
  defaultClass : Nat := 0
  deriving DecidableEq, Repr

/-- A grow pixel as stage 8 passes it to labelling (R275, R276). -/
structure Cell where
  /-- Width: 16. (R275) -/
  col : Nat := 0
  /-- dE16, or dev on SUSPENDED lines. Width: 12. (R275) -/
  de : Nat := 0
  /-- Width: 13. (R275) -/
  dl : Int := 0
  /-- Width: 14. (R275) -/
  da : Int := 0
  /-- Width: 14. (R275) -/
  db : Int := 0
  /-- Width: 8. (R276) -/
  sev : Nat := 0
  /-- Width: 1. (R275) -/
  seed : Bool := false
  deriving DecidableEq, Repr

/-- A line that stage 8 has passed and the lead district has not labelled (R279). -/
structure SegLine where
  /-- (R279) -/
  mark : LineMark := {}
  /-- Width: grow pixels. (R275) -/
  cells : List Cell := []
  /-- owned columns, from and up to. Width: per port. (R215) -/
  ranges : List (Nat × Nat) := []
  /-- summaries not yet in. Width: port indices. (R279) -/
  awaited : List Nat := []
  /-- districts gone without. Width: port indices. (R279) -/
  missing : List Nat := []
  deriving DecidableEq, Repr

/-- Segmentation and classification of one station (chapter 12). -/
structure Seg where
  /-- (R296) -/
  set : SegSet := {}
  /-- empty is every rule disabled. Width: 3,072 bytes. (R290) -/
  rules : List Byte := []
  /-- for records that close after the end of that block, the one in progress; none before it has begun. Width: block, 3,072 bytes. (R296) -/
  newRules : Option (Option Nat × List Byte) := none
  /-- oldest first. Width: up to 17 lines. (R279) -/
  pending : List SegLine := []
  /-- Width: up to 4,096. (R283) -/
  blobs : List Blob := []
  /-- last runs of split blobs, which open CONTINUED ones. Width: runs. (R282) -/
  split : List (Nat × Nat × Nat) := []
  /-- open fragments: their last runs. Width: up to 4,096 per district. (R283) -/
  frags : Tab (List (List (Nat × Nat × Nat))) := []
  /-- the storm record of the block. (R284) -/
  storm : Option Blob := none
  /-- the block of the newest storm record. Width: 64. (R284, R295) -/
  stormBlock : Option Nat := none
  /-- STORM_RUNS. Width: 32. (R284) -/
  stormRuns : Nat := 0
  /-- first labelled line of the block. (R284) -/
  blockMark : LineMark := {}
  /-- the newest labelled line. (R284) -/
  lastMark : LineMark := {}
  /-- SEG_FLAGS that the lines of the block give its storm record. Width: 16. (R289) -/
  blockFlags : Nat := 0
  /-- SEG_FLAGS that the last MERGE_GAP + 1 labelled lines give records, newest first. Width: line, 16. (R289) -/
  lineFlags : List (Nat × Nat) := []
  /-- per district, its first missing summary of the run. Width: line + 1. (R279) -/
  missingFrom : Tab Nat := []
  /-- missing summaries of the last MERGE_GAP + 1 lines. Width: line, district. (R279) -/
  gaps : List (Nat × Nat) := []
  /-- to be handed over with the line in progress. Width: origin, feature block. (R285) -/
  findings : List (Nat × List Byte × LineMark × LineMark) := []
  /-- the newest labelled line. Width: 64. (R305) -/
  labelled : Option Nat := none
  /-- lines that went on without a district, with the tracker as they had it. Width: up to 64. (R14, R279) -/
  gone : List (Nat × Reg) := []
  /-- summaries a cut took as it closed the block, before they arrived. Width: line, district. (R74, R279) -/
  atCut : List (Nat × Nat) := []
  /-- OPEN_PEAK. Width: 16. (R296) -/
  peak : Nat := 0
  /-- RECORDS, saturating. Width: 64. (R296) -/
  records : Nat := 0
  /-- Width: 32. (R296) -/
  discarded : Nat := 0
  /-- Width: 32. (R296) -/
  growOnly : Nat := 0
  /-- Width: 32. (R296) -/
  storms : Nat := 0
  /-- Width: 32. (R296) -/
  splits : Nat := 0
  /-- FRAGMENT_LATE. Width: 32. (R296) -/
  late : Nat := 0
  /-- RULE_HITS, saturating. Width: 64 x 32. (R296) -/
  hits : Tab Nat := []
  deriving DecidableEq, Repr

/-- The tile a cell works on (R371, R385). -/
structure RunTile where
  /-- 0 is none. Width: stage + 1. (R385) -/
  stage : Nat := 0
  /-- when it was dispatched. Width: ns. (R385) -/
  since : Nat := 0
  /-- its dispatch time plus 4 x the median as it stood then, at least 2 us. Width: ns. (R385) -/
  deadline : Nat := 0
  /-- class. Width: 2. (R371) -/
  cls : Nat := 0
  deriving DecidableEq, Repr

/-- One district (R12, R368-R386, R391). -/
structure District where
  /-- POINT; DESIGN CHOICE 0. Width: 3. (R373, R391) -/
  point : Nat := 0
  /-- the point a step in progress leads to. Width: 3. (R373) -/
  stepTo : Option Nat := none
  /-- DESIGN CHOICE stopped at reset. Width: 1. (R374, R12) -/
  clockStopped : Bool := true
  /-- power-gated. Width: 1. (R374) -/
  gated : Bool := false
  /-- since when it has had no work. Width: ns. (R374) -/
  idleFrom : Option Nat := none
  /-- highest point the port has needed since the start of its block; 5 is none that passes. Width: 3. (R374) -/
  passFrom : Option Nat := none
  /-- Width: 1. (R386, R391) -/
  failed : Bool := false
  /-- a reset or wake has not yet come to DISTRICT_READY. Width: 1. (R13, R15) -/
  resetting : Bool := false
  /-- reset after a fault: serves no port until a remap names it. Width: 1. (R386) -/
  outOfUse : Bool := false
  /-- tokens. Width: 32. (R368) -/
  purse : Int := 0
  /-- fraction carried to the next tick; DESIGN CHOICE of its precision. Width: 1/65536 token. (R369) -/
  carry : Nat := 0
  /-- table cost of the tasks admitted in this tick. Width: tokens. (R370) -/
  charged : Nat := 0
  /-- credit of the tick. Width: tokens. (R369, R374) -/
  credit : Nat := 0
  /-- R_d. Width: tokens. (R376) -/
  reserve : Nat := 0
  /-- K_d. Width: 12. (R370) -/
  k : Nat := 1024
  /-- T_d; DESIGN CHOICE of its precision and of 0. Width: 2^-20 C. (R379) -/
  temp : Int := 0
  /-- MISSES, saturating. Width: 16. (R391) -/
  misses : Nat := 0
  /-- deadlines each cell has missed in this block. Width: 64 x count. (R385) -/
  cellMiss : Tab Nat := []
  /-- cells 16c + i retired. Width: cells. (R385, R11) -/
  retired : List Nat := []
  /-- Width: 1. (R386) -/
  stealing : Bool := false
  /-- told to wake, and not yet at DISTRICT_READY. Width: 1. (R15, R28) -/
  waking : Bool := false
  /-- tasks that wait, oldest first; the hub's in 0. Width: per cluster. (R10, R371) -/
  queue : Tab (List TileTask) := []
  /-- tasks fed to each cluster in this run. Width: per cluster. (R386) -/
  fed : Tab Nat := []
  /-- when a pool district's point was last chosen. Width: ns. (R374) -/
  poolAt : Option Nat := none
  /-- tile each cell works on. Width: 64 tiles. (R385) -/
  running : Tab RunTile := []
  /-- the self-test has not reported since POR. Width: 1. (R11) -/
  untested : Bool := true
  /-- times of the last tiles, by cluster x 16 + stage. Width: up to 256 x ns. (R385) -/
  times : Tab (List Nat) := []
  deriving DecidableEq, Repr

/-- What TELLER_STATION_SET declares for a station, and the steps applied to it (R382, R383). -/
structure StationDecl where
  /-- REDUCE. Width: 2. (R391) -/
  reduce : BitVec 2 := 0
  /-- PITCH_FACTOR. Width: 3. (R391) -/
  factor : Nat := 0
  /-- SPEED_MAX_UMS. Width: 25. (R391) -/
  speedMax : Nat := 0
  /-- steps in force on the station. Width: 2. (R383) -/
  applied : BitVec 2 := 0
  /-- steps from the start of a block on. Width: block, 2. (R383, R384) -/
  due : Option (Nat × BitVec 2) := none
  deriving DecidableEq, Repr

/-- A route change in progress (R18, R387). -/
structure RouteChange where
  /-- Width: 4. (R18) -/
  port : Nat := 0
  /-- district it leaves. Width: 4. (R18) -/
  source : Nat := 0
  /-- Width: 4. (R18) -/
  dest : Nat := 0
  /-- 0 command, 1 failure, 2 heat. Width: 2. (R466) -/
  cause : Nat := 0
  deriving DecidableEq, Repr

/-- The teller (chapter 17) and the crossbar (R16-R20). -/
structure Teller where
  /-- district each port is routed to; port n starts on district n. Width: 12 x 4. (R16, R17) -/
  routes : Tab Nat := []
  /-- in progress. (R18) -/
  change : Option RouteChange := none
  /-- the teller's own, waiting. Width: changes. (R387) -/
  moves : List RouteChange := []
  /-- POWER_LIMIT, 1/16 W. Width: 11. (R391) -/
  powerLimit : Nat := 2000
  /-- GUARD, 1/16 C. Width: 8. (R391) -/
  guardBand : Nat := 32
  /-- Width: 4. (R382) -/
  decls : Tab StationDecl := []
  /-- Width: 16, 16 is the hub purse. (R368) -/
  districts : Tab District := []
  /-- the configuration in force was admitted. Width: 1. (R377, R378) -/
  admitted : Bool := false
  /-- R_hub. Width: tokens. (R376) -/
  hubReserve : Nat := 0
  /-- throttle level. Width: 3. (R380) -/
  level : Nat := 0
  /-- since when Tj has been below the level's threshold less 2 C. Width: ns. (R380) -/
  coolFrom : Option Nat := none
  /-- TJ; DESIGN CHOICE 0 before the first tick. Width: 16. (R379, R391) -/
  tj : Int := 0
  /-- junction sensors: dies 0 and 1, hub. Width: 3 x 16. (R379) -/
  dies : List Int := [0, 0, 0]
  /-- TEMPERATURE_WARN raised and not yet rearmed. Width: 1. (R390) -/
  warned : Bool := false
  /-- last RESERVE_SHORT event. Width: ns. (R372) -/
  shortAt : Option Nat := none
  /-- reduction steps in force: bit 0 DROP_PLANE3, bit 1 COARSE_PITCH. Width: 2. (R383) -/
  steps : Nat := 0
  /-- when the last step or reversion was in force everywhere. Width: ns. (R383, R384) -/
  stepAt : Option Nat := none
  /-- when Tj was last at or above 93 C; none when not since the last step. Width: ns. (R384) -/
  warmAt : Option Nat := none
  /-- last move for heat. Width: ns. (R381) -/
  movedAt : Option Nat := none
  /-- last check for a hot district. Width: ns. (R381) -/
  hotAt : Option Nat := none
  /-- last tick. Width: ns. (R368) -/
  tickAt : Option Nat := none
  /-- ticks at level 1 or above towards the next THROTTLED_MS. Width: 4. (R391) -/
  ticks : Nat := 0
  /-- SHORT_TICKS; DESIGN CHOICE saturating. Width: 32. (R391) -/
  shortTicks : Nat := 0
  /-- REMAPS; DESIGN CHOICE saturating. Width: 32. (R391) -/
  remaps : Nat := 0
  /-- RETIREMENTS; DESIGN CHOICE saturating. Width: 32. (R391) -/
  retirements : Nat := 0
  /-- THROTTLED_MS; DESIGN CHOICE saturating. Width: 32. (R391) -/
  throttledMs : Nat := 0
  /-- when the last retraining slice ended. Width: ns. (R388) -/
  sliceAt : Option Nat := none
  deriving DecidableEq, Repr

/-- One superblock of the vault (R444, R454-R456). -/
structure Superblock where
  /-- area it is drawn for. Width: 3. (R449) -/
  area : Nat := 0
  /-- programmed; 0 is a free superblock. Width: sectors. (R445) -/
  filled : Nat := 0
  /-- holding live data. Width: sectors. (R453) -/
  live : Nat := 0
  /-- erase count. Width: count. (R454) -/
  erases : Nat := 0
  /-- read counter. Width: count. (R455) -/
  reads : Nat := 0
  /-- chain time it was programmed or last read in full. Width: ns. (R456) -/
  read : Nat := 0
  /-- WRITE_SEQ of its last program. Width: count. (R454) -/
  written : Nat := 0
  /-- blocks marked bad. Width: blocks. (R452) -/
  bad : Nat := 0
  /-- marked for relocation. Width: 1. (R446) -/
  marked : Bool := false
  deriving DecidableEq, Repr

/-- An object of the vault, or one that waits to be committed (R447, R449). -/
structure VObj where
  /-- (R449) -/
  kind : VKind := .baseSet
  /-- CAMERA_SERIAL or JOB_ID. Width: 64. (R449) -/
  key : Nat := 0
  /-- LEDGER_SEQ of a day-book record. Width: 64. (R458) -/
  seq : Nat := 0
  /-- base set, record and crop as given. Width: bytes. (R447) -/
  bytes : List Byte := []
  /-- a specimen's content. (R247) -/
  spec : Option Specimen := none
  /-- the station whose store it is, while a specimen waits. Width: 2. (R247) -/
  station : Nat := 0
  /-- bytes it takes, compressed where its user compresses. Width: bytes. (R458) -/
  stored : Nat := 0
  /-- Width: superblock, sectors. (R445) -/
  places : List (Nat × Nat) := []
  /-- a sector of it is uncorrectable. Width: 1. (R446) -/
  lost : Bool := false
  deriving DecidableEq, Repr

/-- A job of the day book (R458). -/
structure DayJob where
  /-- JOB_ID. Width: 64. (R458) -/
  job : Nat := 0
  /-- CURSOR, records exported. Width: 32. (R458, R462) -/
  cursor : Nat := 0
  /-- PROTECTED. Width: 1. (R462) -/
  isProtected : Bool := false
  deriving DecidableEq, Repr

/-- A firmware slot (R459). -/
structure FwSlot where
  /-- Width: up to 64 MiB. (R459) -/
  image : Mem := []
  /-- committed. Width: bytes per 4 MiB part. (R459) -/
  done : Tab Nat := []
  /-- Width: superblock, sectors per part. (R445, R449) -/
  places : Tab (List (Nat × Nat)) := []
  /-- LENGTH of its last activation, 0 before one. Width: bytes. (R460) -/
  signed : Nat := 0
  /-- a sector of it is uncorrectable. Width: 1. (R446) -/
  lost : Bool := false
  deriving DecidableEq, Repr

/-- A firmware write in progress (R459). -/
structure FwWrite where
  /-- Width: 1. (R459) -/
  slot : Nat := 0
  /-- OFFSET. Width: bytes. (R459) -/
  off : Nat := 0
  /-- LENGTH. Width: bytes. (R459) -/
  len : Nat := 0
  /-- SRC. Width: address. (R459) -/
  src : Nat := 0
  /-- after how many bytes of the write the medium stops answering. Width: bytes. (R459) -/
  fails : Option Nat := none
  /-- of the parts that have ended. Width: bytes. (R459) -/
  gone : Nat := 0
  /-- of the parts that have ended. Width: status, UNITS_DONE. (R459) -/
  parts : List (Nat × Nat) := []
  deriving DecidableEq, Repr

/-- The vault (chapter 21). -/
structure Vault where
  /-- Width: 1. (R448, R462) -/
  mounted : Bool := false
  /-- Width: 1. (R448, R462) -/
  replaying : Bool := false
  /-- DESIGN CHOICE a vault never formatted. Width: 1. (R450, R462) -/
  formatted : Bool := false
  /-- LIBRARY_PCT; DESIGN CHOICE 0 before a format. Width: 6. (R462) -/
  libraryPct : Nat := 0
  /-- DAYBOOK_FULL. Width: 2. (R462) -/
  dayFull : Nat := 1
  /-- SCRUB_DAYS. Width: 7. (R462) -/
  scrubDays : Nat := 7
  /-- REFRESH_BITS. Width: 9. (R462) -/
  refreshBits : Nat := 128
  /-- committed; DESIGN CHOICE an empty vault. Width: objects. (R447) -/
  objects : List VObj := []
  /-- not yet committed, oldest first. Width: objects. (R447) -/
  waiting : List VObj := []
  /-- oldest first. Width: jobs. (R458) -/
  jobs : List DayJob := []
  /-- Width: superblocks. (R444) -/
  superblocks : Tab Superblock := []
  /-- WRITE_SEQ of the next program. Width: 64. (R445) -/
  writeSeq : Nat := 0
  /-- programmed since the last mapping checkpoint. Width: bytes. (R448) -/
  sinceCheckpoint : Nat := 0
  /-- read in full in the present scrub pass. Width: superblocks. (R461) -/
  scrubbed : List Nat := []
  /-- Width: 2 x 64 MiB. (R459) -/
  slots : Tab FwSlot := []
  /-- the firmware write in progress. (R459) -/
  fwWrite : Option FwWrite := none
  /-- the slot most recently recorded as being activated. Width: 1. (R460) -/
  activating : Option Nat := none
  /-- the slot whose image the boot NOR holds; DESIGN CHOICE 0 at the first power-on. Width: 1. (R459, R460) -/
  norSlot : Nat := 0
  /-- sectors of the journal spill, oldest first. Width: superblock, sectors. (R445, R449) -/
  spillPlaces : List (Nat × Nat) := []
  /-- VAULT_LOW_SPARE raised and spare still below 3 %. Width: 1. (R453) -/
  lowSpare : Bool := false
  /-- VAULT_WEAR raised. Width: 1. (R454) -/
  worn : Bool := false
  /-- GROWN_BAD, saturating, persistent. Width: 32. (R462) -/
  growBad : Nat := 0
  /-- FACTORY_BAD. Width: 32. (R462) -/
  factoryBad : Nat := 0
  /-- RETRY_READS. Width: 32. (R462) -/
  retryReads : Nat := 0
  /-- SOFT_READS. Width: 32. (R462) -/
  softReads : Nat := 0
  /-- UNCORRECTABLE. Width: 32. (R462) -/
  uncorrectable : Nat := 0
  /-- RELOCATIONS. Width: 32. (R462) -/
  relocations : Nat := 0
  /-- DAYBOOK_LOST. Width: 32. (R462) -/
  dayLost : Nat := 0
  /-- BAD_TARGETS. Width: 16. (R462) -/
  badTargets : Nat := 0
  /-- last VAULT_UNCORRECTABLE event. Width: ns. (R461) -/
  uncorrAt : Option Nat := none
  /-- last GROWN_DEFECT event. Width: ns. (R461) -/
  grownAt : Option Nat := none
  /-- a resume image is stored: the loaded specimens' jobs; the job state it holds is the one State keeps through SENTRY. Width: station, JOB_ID. (R80, R449) -/
  resume : Option (List (Nat × Nat)) := none
  deriving DecidableEq, Repr

/-- Where a stream of the decompressor stands: what the opaque part of a context holds (R437). -/
structure InflateState where
  /-- 0 header due, 1 between blocks, 2 in a stored block, 3 in a coded block, 4 trailer due, 5 ended. Width: 3. (R436, R437) -/
  stage : Nat := 0
  /-- the block in progress is the stream's last. Width: 1. (R436) -/
  isFinal : Bool := false
  /-- read from the input and not yet used. Width: bits. (R437) -/
  bits : List Bool := []
  /-- bytes of a stored block still to come. Width: 16. (R436) -/
  left : Nat := 0
  /-- literal/length code lengths of the block. Width: 288 x 4. (R436) -/
  lits : List Nat := []
  /-- distance code lengths. Width: 32 x 4. (R436) -/
  dists : List Nat := []
  deriving DecidableEq, Repr

/-- A compression job or one part of a split job (R438-R441). -/
structure CompJob where
  /-- TAG of its command. Width: 16. (R443) -/
  cmd : Nat := 0
  /-- source of its command. (R53) -/
  src : Source := .service
  /-- its part; of the specimen library's work the station, 4 more for a recall. Width: 3. (R441) -/
  part : Nat := 0
  /-- 0 command, 1 specimen library, 2 day book. Width: 8. (R443) -/
  user : Nat := 0
  deriving DecidableEq, Repr

/-- A split job in progress (R441). -/
structure CompSplit where
  /-- TAG of its command. Width: 16. (R441) -/
  cmd : Nat := 0
  /-- (R53) -/
  src : Source := .service
  /-- part to start next. Width: 3. (R441) -/
  next : Nat := 0
  /-- Width: part, status, UNITS_DONE. (R49) -/
  done : List (Nat × Nat × Nat) := []
  deriving DecidableEq, Repr

/-- One compression engine (R443). -/
structure Engine where
  /-- running. (R440) -/
  job : Option CompJob := none
  /-- JOBS, saturating. Width: 32. (R443) -/
  jobs : Nat := 0
  /-- BYTES_IN. Width: 64. (R443) -/
  bytesIn : Nat := 0
  /-- BYTES_OUT. Width: 64. (R443) -/
  bytesOut : Nat := 0
  /-- NO_SPACE. Width: 32. (R443) -/
  noSpace : Nat := 0
  /-- FAULTS. Width: 32. (R443) -/
  faults : Nat := 0
  /-- HW_FAULTS. Width: 32. (R443) -/
  hwFaults : Nat := 0
  deriving DecidableEq, Repr

/-- The compression engines (chapter 20). -/
structure Comp where
  /-- Width: 4. (R443) -/
  engines : Tab Engine := []
  /-- Width: jobs. (R441) -/
  splits : List CompSplit := []
  /-- what the opaque engine state of a saved context stands for. Width: by context address. (R437) -/
  saved : Tab InflateState := []
  deriving DecidableEq, Repr

/-- One channel of the sorting frame (R354, R361-R366). -/
structure Channel where
  /-- PRODUCER. Width: 9. (R366) -/
  producer : Nat := 0
  /-- PRODUCER_EN. Width: 1. (R366) -/
  producerEn : Bool := false
  /-- NO_SW_FIRE. Width: 1. (R366) -/
  noSwFire : Bool := false
  /-- LOCKED. Width: 1. (R366) -/
  locked : Bool := false
  /-- CARRIED, wrapping. Width: 32. (R366) -/
  carried : Nat := 0
  /-- RETURNED, saturating. Width: 8. (R366) -/
  returned : Nat := 0
  /-- HOP_DROPPED, saturating. Width: 8. (R366) -/
  hopDropped : Nat := 0
  /-- SW_REFUSED, saturating. Width: 8. (R366) -/
  swRefused : Nat := 0
  /-- LOCK_VIOLATIONS, saturating. Width: 8. (R366) -/
  lockViolations : Nat := 0
  /-- fresh events so far, modulo 32. Width: 5. (R361) -/
  fresh : Nat := 0
  /-- hub clocks of the fresh events of the last 64 clocks. Width: clocks. (R361) -/
  origins : List Nat := []
  /-- parts held over; 0 is none. Width: count. (R361) -/
  held : Nat := 0
  /-- hop count of the held event. Width: 3. (R361) -/
  heldHop : Nat := 0
  /-- ripple IDs carried in the last 64 clocks. Width: ripple, clock. (R363) -/
  ripples : List (Nat × Nat) := []
  /-- when RETURNED_TO_SENDER was last journalled. Width: ns. (R363) -/
  returnedAt : Option Nat := none
  deriving DecidableEq, Repr

/-- The event that activated a task, for the events its block raises within 64 hub clocks (R362). -/
structure Cause where
  /-- Width: 12. (R362) -/
  ripple : Nat := 0
  /-- Width: 3. (R362) -/
  hop : Nat := 0
  /-- Width: clock. (R362) -/
  clock : Nat := 0
  deriving DecidableEq, Repr

/-- One task input of the sorting frame (R355, R359, R360). -/
structure TaskInput where
  /-- CHANNEL. Width: 7. (R366) -/
  channel : Nat := 0
  /-- ENABLE. Width: 1. (R366) -/
  enable : Bool := false
  /-- COUNT. Width: 1. (R366) -/
  count : Bool := false
  /-- DIVIDE. Width: 16. (R366) -/
  divide : Nat := 1
  /-- COINCIDENCE, saturating. Width: 16. (R366) -/
  coincidence : Nat := 0
  /-- OWED. Width: 3. (R366) -/
  owed : Nat := 0
  /-- EVENTS, wrapping. Width: 32. (R366) -/
  events : Nat := 0
  /-- accumulator of COUNT mode. Width: 16. (R355) -/
  acc : Nat := 0
  /-- the last activation's event. (R362) -/
  cause : Option Cause := none
  deriving DecidableEq, Repr

/-- One bridge slot (R365). -/
structure Bridge where
  /-- 0 OFF, 1 SEND, 2 RECEIVE. Width: 2. (R366) -/
  mode : Nat := 0
  /-- Width: 7. (R366) -/
  channel : Nat := 0
  /-- Width: 4. (R366) -/
  peer : Nat := 0
  /-- Width: 1. (R366) -/
  peerAny : Bool := false
  /-- BRIDGED, wrapping. Width: 32. (R366) -/
  bridged : Nat := 0
  deriving DecidableEq, Repr

/-- The sorting frame (chapter 16). -/
structure Frame where
  /-- Width: 128. (R366) -/
  channels : Tab Channel := []
  /-- Width: 320. (R366) -/
  inputs : Tab TaskInput := []
  /-- Width: 16. (R366) -/
  bridges : Tab Bridge := []
  /-- SATURATED. Width: 16. (R366) -/
  saturated : Nat := 0
  /-- MERGED_EXCESS. Width: 16. (R366) -/
  mergedExcess : Nat := 0
  /-- register writes counted as faults; DESIGN CHOICE of how it is kept. Width: count. (R7) -/
  regFaults : Nat := 0
  /-- hub clock of the command in progress; DESIGN CHOICE no two commands share one. Width: count. (R354) -/
  base : Nat := 0
  /-- hub clock the frame works in; DESIGN CHOICE. Width: count. (R354) -/
  clock : Nat := 0
  /-- raised in this step and not yet carried; empty between commands. Width: events. (R354) -/
  raised : List Raised := []
  deriving DecidableEq, Repr

/-- One mailbox (R415-R424). -/
structure Mailbox where
  /-- RING. Width: 64. (R424) -/
  ring : Nat := 0
  /-- WB. Width: 64. (R424) -/
  wb : Nat := 0
  /-- ENABLE. Width: 1. (R424) -/
  enable : Bool := false
  /-- KIND: 0 COMMAND_IN, 1 RECORD_OUT, 2 BUFFER. Width: 2. (R424) -/
  kind : Nat := 1
  /-- OWNER. Width: 1. (R424) -/
  owner : Nat := 0
  /-- SIZE_LOG2. Width: 5. (R424) -/
  sizeLog2 : Nat := 4
  /-- VECTOR. Width: 6. (R424) -/
  vector : Nat := 0
  /-- IRQ_EN. Width: 1. (R424) -/
  irqEn : Bool := false
  /-- COALESCE_COUNT. Width: 16. (R424) -/
  coalesceCount : Nat := 1
  /-- COALESCE_US. Width: 16. (R424) -/
  coalesceUs : Nat := 0
  /-- P. Width: 32. (R424) -/
  producer : Nat := 0
  /-- C. Width: 32. (R424) -/
  consumer : Nat := 0
  /-- BAD_DOORBELL. Width: 1. (R424) -/
  badDoorbell : Bool := false
  /-- FETCH_ERROR. Width: 1. (R424) -/
  fetchError : Bool := false
  /-- FULL_SEEN. Width: 1. (R424) -/
  fullSeen : Bool := false
  /-- DROPPED, wrapping. Width: 32. (R424) -/
  dropped : Nat := 0
  /-- entries written since the last message. Width: count. (R420) -/
  unsignalled : Nat := 0
  /-- when the first entry not yet signalled was written. Width: ns. (R420) -/
  timerFrom : Option Nat := none
  deriving DecidableEq, Repr

/-- One Courier channel (R425-R430). -/
structure CourierCh where
  /-- SRC. Width: 64. (R430) -/
  src : Nat := 0
  /-- DST. Width: 64. (R430) -/
  dst : Nat := 0
  /-- COUNT. Width: 32. (R430) -/
  count : Nat := 0
  /-- SRC_PLANE_STRIDE. Width: 32. (R430) -/
  srcStride : Nat := 0
  /-- DST_PLANE_STRIDE. Width: 32. (R430) -/
  dstStride : Nat := 0
  /-- the configuration word +0x1C, bits 23:0. Width: 24. (R430) -/
  config : BitVec 24 := 0
  /-- BUSY. Width: 1. (R430) -/
  busy : Bool := false
  /-- PENDING. Width: 1. (R430) -/
  pending : Bool := false
  /-- DONE. Width: 1. (R430) -/
  done : Bool := false
  /-- ERROR. Width: 1. (R430) -/
  error : Bool := false
  /-- STOPPED. Width: 1. (R430) -/
  stopped : Bool := false
  /-- IGNORED. Width: 1. (R430) -/
  ignored : Bool := false
  /-- MISSED. Width: 1. (R430) -/
  missed : Bool := false
  /-- ERR_CODE. Width: 4. (R430) -/
  errCode : Nat := 0
  /-- DONE_COUNT. Width: 32. (R430) -/
  doneCount : Nat := 0
  /-- MISSED_COUNT, saturating. Width: 32. (R430) -/
  missedCount : Nat := 0
  /-- COMPLETIONS, wrapping. Width: 32. (R430) -/
  completions : Nat := 0
  /-- destination bytes of the run already written. Width: bytes. (R428) -/
  moved : Nat := 0
  /-- burst slots ready without a burst. Width: slots. (R428) -/
  waited : Nat := 0
  /-- this run was started by its task input. Width: 1. (R362) -/
  byTask : Bool := false
  /-- the start held as PENDING came from its task input. Width: 1. (R362) -/
  pendingTask : Bool := false
  deriving DecidableEq, Repr

/-- The PCIe endpoint and what the host does with it (R412-R414, R432). -/
structure HostLink where
  /-- configuration space answers. Width: 1. (R547) -/
  configReady : Bool := false
  /-- link up. Width: 1. (R414) -/
  up : Bool := false
  /-- SPEED; DESIGN CHOICE 0 while down. Width: 3. (R432) -/
  speed : Nat := 0
  /-- MAX_PAYLOAD in force; PRESUMED 128 (PCIe's own reset value). Width: 10. (R412, R432) -/
  maxPayload : Nat := 128
  /-- WIDTH; DESIGN CHOICE 0 while down. Width: 4. (R432) -/
  width : Nat := 0
  /-- Width: 32. (R432) -/
  correctable : Nat := 0
  /-- Width: 32. (R432) -/
  uncorrectable : Nat := 0
  /-- Width: 32. (R432) -/
  linkDowns : Nat := 0
  /-- Width: 32. (R432) -/
  flrs : Nat := 0
  /-- Width: 32. (R432) -/
  repliesDiscarded : Nat := 0
  /-- hub clock of the last message of a vector: 64 f + v. Width: clock, 2 x 64. (R420) -/
  msixAt : Tab Nat := []
  /-- MSI-X table words: 2048 f + word index. Width: 32 each. (R412, R414) -/
  msixTable : Tab Nat := []
  /-- Width: 8192. (R415) -/
  boxes : Tab Mailbox := []
  /-- last BAD_DOORBELL event. Width: ns. (R431) -/
  badDoorbellAt : Option Nat := none
  /-- last FETCH_ERROR event. Width: ns. (R431) -/
  fetchErrorAt : Option Nat := none
  /-- last COURIER_MISSED event. Width: ns. (R431) -/
  courierMissedAt : Option Nat := none
  /-- Width: 64. (R430) -/
  couriers : Tab CourierCh := []
  /-- one past the channel last served in each priority; 0 before one. Width: channel per priority. (R428) -/
  courierRr : Tab Nat := []
  /-- BASE of the user region; DESIGN CHOICE 0 while none. Width: 64. (R432) -/
  userBase : Nat := 0
  /-- USER_BYTES. Width: 64. (R432) -/
  userBytes : Nat := 0
  /-- ignored or out-of-range writes counted here. Width: count. (R423, R7) -/
  regFaults : Nat := 0
  deriving DecidableEq, Repr

/-- One journal entry (R463). -/
structure JEntry where
  /-- Width: 48. (R463) -/
  seq : Nat := 0
  /-- Width: 16. (R463) -/
  code : Nat := 0
  /-- Width: 64. (R463) -/
  time : Nat := 0
  /-- Width: 8. (R463) -/
  block : Nat := 0
  /-- FLAGS bit 0. Width: 1. (R463) -/
  unsynced : Bool := false
  /-- Width: 16. (R463) -/
  domain : Nat := 0xFFFF
  /-- Width: 12 bytes. (R463) -/
  data : List Byte := []
  deriving DecidableEq, Repr

/-- The token bucket and suppression record of one code (R467, R469, R470). -/
structure Bucket where
  /-- RATE; 50 for COMMAND_REFUSED. Width: 14. (R467) -/
  rate : Nat := 200
  /-- BURST; 16 for COMMAND_REFUSED. Width: 8. (R467) -/
  burst : Nat := 32
  /-- starts full. Width: 1e-9 tokens. (R467) -/
  level : Nat := 32000000000
  /-- when level was last brought up to date. Width: ns. (R467) -/
  levelAt : Nat := 0
  /-- Width: 32. (R469) -/
  supCount : Nat := 0
  /-- chain time of the first. Width: 64. (R469) -/
  supFirst : Nat := 0
  /-- chain time of the last. Width: 64. (R469) -/
  supLast : Nat := 0
  deriving DecidableEq, Repr

/-- The journal (chapter 22). -/
structure Journal where
  /-- POLICY: false STOP, true FORERUNNER. Width: 1. (R472) -/
  policy : Bool := false
  /-- NEXT_SEQ. Width: 48. (R464) -/
  nextSeq : Nat := 0
  /-- entries in SRAM, ascending. Width: up to 65,536. (R474, R475) -/
  sram : List JEntry := []
  /-- entries in the spill area, ascending. Width: up to 33,554,432. (R475) -/
  spill : List JEntry := []
  /-- SEQ of POLICY_CHANGED under FORERUNNER. Width: 48. (R474) -/
  keptFrom : Nat := 0
  /-- FULL. Width: 1. (R473) -/
  full : Bool := false
  /-- LOST, saturating. Width: 32. (R478) -/
  lost : Nat := 0
  /-- SUPPRESSED_TOTAL, saturating. Width: 32. (R478) -/
  suppressedTotal : Nat := 0
  /-- lost since recording stopped. Width: 32. (R473, R476) -/
  lostSince : Nat := 0
  /-- recording has stopped. Width: 1. (R473, R476) -/
  stopped : Bool := false
  /-- last JOURNAL_SUPPRESSED event. Width: ns. (R480) -/
  suppressedAt : Option Nat := none
  /-- Width: per code. (R467) -/
  buckets : Tab Bucket := []
  /-- WINDOW_BASE per function. Width: 48 each. (R478) -/
  windowBase : Tab Nat := []
  /-- NEXT_SEQ_HI as captured. Width: 16. (R478) -/
  nextHi : Nat := 0
  /-- FIRST_SEQ_HI as captured. Width: 16. (R478) -/
  firstHi : Nat := 0
  /-- SRAM_FIRST_HI as captured. Width: 16. (R478) -/
  sramHi : Nat := 0
  /-- arisen in this step and not yet recorded; empty between commands. Width: entries. (R465) -/
  arising : List JEntry := []
  deriving DecidableEq, Repr

/-- One chain link's frame layer: the upstream port's or the downstream port's (R485-R488). -/
structure Link where
  /-- HELLO has passed and the link carries frames. Width: 1. (R485) -/
  carries : Bool := false
  /-- postcode the other end's HELLO gave. Width: 8. (R485) -/
  peer : Option Nat := none
  /-- LINK_SEQ of the next frame sent. Width: 8. (R486) -/
  txSeq : Nat := 0
  /-- LINK_SEQ expected. Width: 8. (R488) -/
  rxSeq : Nat := 0
  /-- good frames since the last ACK sent. Width: count. (R488) -/
  rxSinceAck : Nat := 0
  /-- when the last ACK was sent. Width: ns. (R488) -/
  ackAt : Nat := 0
  /-- sent and not acknowledged: LINK_SEQ, frame. Width: up to 32 frames. (R488) -/
  unacked : List (Nat × List Byte) := []
  /-- the link has been up before, so its next rise is a return. Width: 1. (R497) -/
  wasUp : Bool := false
  deriving DecidableEq, Repr

/-- A ledger export over every package, which the head runs part by part (R59, R315). -/
structure Export where
  /-- Width: packet. (R315) -/
  args : Args := {}
  /-- the package whose part is awaited. Width: 4. (R315) -/
  next : Nat := 0
  /-- the parts that have ended. Width: status, units. (R49) -/
  parts : List (Nat × Nat) := []
  /-- what they delivered. Width: bytes. (R315) -/
  data : List Byte := []
  deriving DecidableEq, Repr

/-- The Akeus Chain (chapter 23). -/
structure Chain where
  /-- POSTCODE. Width: 8. (R484, R66) -/
  postcode : Nat := 0xFF
  /-- CHAIN_SIZE. Width: 5. (R484) -/
  size : Nat := 0
  /-- CHAIN_HEAD. Width: 1. (R483, R66) -/
  isHead : Bool := false
  /-- the head's serial, once known. Width: 64. (R485) -/
  headSerial : Option Nat := none
  /-- enumeration in progress. Width: 1. (R485) -/
  enumerating : Bool := false
  /-- when the firmware took over after a reset, or the postcode was taken. Width: ns. (R483, R484) -/
  since : Nat := 0
  /-- STATE bit 4. Width: 1. (R499) -/
  mismatch : Bool := false
  /-- L48-L51. (R485) -/
  upLink : Link := {}
  /-- L52-L55. (R485) -/
  downLink : Link := {}
  /-- chain time less the timestamp counter. Width: 64. (R490, R491) -/
  offset : Int := 0
  /-- synchronised. Width: 1. (R490) -/
  synced : Bool := false
  /-- TIME_ERROR, last e. Width: 32. (R499) -/
  timeError : Int := 0
  /-- the last three e, newest first. Width: 3. (R490) -/
  lastErrors : List Int := []
  /-- when the last SYNC arrived. Width: ns. (R490) -/
  lastSync : Option Nat := none
  /-- error still to be slewed out. Width: ns. (R490) -/
  slewLeft : Int := 0
  /-- when the slewing was last brought up to date. Width: ns. (R490) -/
  slewFrom : Nat := 0
  /-- the last eight values of d, newest first. Width: 8. (R490) -/
  delays : List Nat := []
  /-- DELAY_DOWN, their median. Width: 32. (R490, R499) -/
  delay : Nat := 0
  /-- SEQ of the next PROBE. Width: 8. (R489) -/
  probeSeq : Nat := 0
  /-- T1 of the last PROBE sent. Width: 48. (R489) -/
  probeT1 : Nat := 0
  /-- when it was sent. Width: ns. (R490) -/
  probeAt : Option Nat := none
  /-- FRAME_ERRORS; DESIGN CHOICE saturating. Width: 32. (R499) -/
  frameErrors : Nat := 0
  /-- last FRAME_ERROR event. Width: ns. (R488) -/
  frameErrorAt : Option Nat := none
  /-- FORWARD_LOST; DESIGN CHOICE saturating. Width: 32. (R499) -/
  forwardLost : Nat := 0
  /-- last FORWARD_LOST event. Width: ns. (R493) -/
  forwardLostAt : Option Nat := none
  /-- LEDGER records that wait, each with its originating postcode. Width: up to 4,096 records. (R493) -/
  outbound : List (Nat × List Byte) := []
  /-- when CHAIN_RESET was answered; the head's own chain reset is due 20 us later. Width: ns. (R495) -/
  resetAt : Option Nat := none
  /-- a multi-package export the head is running, part by part. (R315, R59) -/
  exporting : Option Export := none
  deriving DecidableEq, Repr

/-- The settings of DRAM_SET, in the Sentry domain (R411). -/
structure DramSet where
  /-- POSTPONE_MAX. Width: 4. (R411) -/
  postponeMax : Nat := 4
  /-- REFRESH_MODE. Width: 1. (R411) -/
  fine : Bool := false
  /-- NEIGHBOUR. Width: 1. (R411) -/
  neighbour : Bool := true
  /-- NEIGHBOUR_K. Width: 5. (R411) -/
  neighbourK : Nat := 10
  /-- RETRAIN_MS. Width: 10. (R411) -/
  retrainMs : Nat := 100
  /-- SCRUB_HOURS. Width: 8. (R411) -/
  scrubHours : Nat := 24
  deriving DecidableEq, Repr

/-- An entry of a channel's error log (R407, R411). -/
structure DramError where
  /-- ADDRESS. Width: 64. (R411) -/
  addr : Nat := 0
  /-- TIME. Width: 64. (R411) -/
  time : Nat := 0
  /-- SUBCHANNEL. Width: 1. (R411) -/
  sub : Nat := 0
  /-- RANK. Width: 1. (R411) -/
  rank : Nat := 0
  /-- KIND. Width: 2. (R411) -/
  kind : Nat := 1
  /-- READER. Width: 2. (R411) -/
  reader : Nat := 0
  /-- BEATS. Width: 16. (R411) -/
  beats : Nat := 0
  /-- LANES. Width: 8. (R411) -/
  lane : Nat := 0xFF
  deriving DecidableEq, Repr

/-- A burst that waits in a queue of a subchannel (R397). -/
structure DramReq where
  /-- system address of the burst. Width: 64. (R397) -/
  addr : Nat := 0
  /-- when it entered the queue. Width: ns. (R397) -/
  since : Nat := 0
  /-- READER of a read. Width: 2. (R411) -/
  reader : Nat := 0
  deriving DecidableEq, Repr

/-- Bytes a block asks for that have not entered a queue yet. -/
structure DramSpan where
  /-- Width: 64. (R397) -/
  addr : Nat := 0
  /-- (R397) -/
  bytes : Nat := 0
  /-- Width: 1. (R397) -/
  write : Bool := false
  /-- READER of a read. Width: 2. (R411) -/
  reader : Nat := 0
  deriving DecidableEq, Repr

/-- A subchannel: its request queues and open rows (R397). -/
structure DramSub where
  /-- oldest first. Width: up to 64. (R397) -/
  reads : List DramReq := []
  /-- oldest first. Width: up to 64. (R397) -/
  writes : List DramReq := []
  /-- the write queue has held 48 bursts and not yet come down to 16. Width: 1. (R397) -/
  drain : Bool := false
  /-- a bank's open row plus 1; 0 for none. Width: 16 per rank. (R397) -/
  rows : Tab Nat := []
  /-- when the last read left the read queue. Width: ns. (R400) -/
  readsEnd : Nat := 0
  deriving DecidableEq, Repr

/-- A rank's retraining (R404). -/
structure DramRank where
  /-- when its last slice ended. Width: ns. (R404) -/
  sliceAt : Nat := 0
  /-- the hub die's temperature then; DESIGN CHOICE 0. Width: 1/16 C. (R404) -/
  temp : Int := 0
  deriving DecidableEq, Repr

/-- One DRAM channel (R398-R407). -/
structure DramCh where
  /-- training results held in the Sentry domain. Width: 1. (R402, R88) -/
  trained : Bool := false
  /-- Width: 1. (R403) -/
  failed : Bool := false
  /-- Width: 1. (R400) -/
  selfRefresh : Bool := false
  /-- refresh interval asked for; 0 the normal one, larger is shorter. Width: level. (R398) -/
  interval : Nat := 0
  /-- OWED. Width: 4. (R399) -/
  owed : Nat := 0
  /-- OWED_PEAK. Width: 8. (R411) -/
  owedPeak : Nat := 0
  /-- ranks that need a slice. Width: 2. (R404) -/
  due : BitVec 2 := 0
  /-- neighbour-refresh LFSR; DESIGN CHOICE 0, its seed is entropy. Width: 32. (R401) -/
  lfsr : BitVec 32 := 0
  /-- CORRECTED. Width: 32. (R411) -/
  corrected : Nat := 0
  /-- UNCORRECTABLE. Width: 32. (R411) -/
  uncorrectable : Nat := 0
  /-- SLICES. Width: 32. (R411) -/
  slices : Nat := 0
  /-- DRIFT_MAX. Width: 16. (R411) -/
  driftMax : Nat := 0
  /-- newest first. Width: up to 16. (R407) -/
  log : List DramError := []
  /-- corrected and not yet written back. Width: bursts. (R406) -/
  writebacks : List Nat := []
  /-- last REFRESH_LIMIT event. Width: ns. (R399) -/
  limitAt : Option Nat := none
  /-- its subchannels. Width: 2. (R397) -/
  subs : Tab DramSub := []
  /-- NEIGHBOUR_REFRESHES. Width: 32. (R401) -/
  neighbours : Nat := 0
  /-- READ_BYTES. Width: 64. (R411) -/
  readBytes : Nat := 0
  /-- WRITE_BYTES. Width: 64. (R411) -/
  writeBytes : Nat := 0
  /-- end of the slices in progress. Width: ns. (R404) -/
  sliceUntil : Nat := 0
  /-- Width: 2. (R404) -/
  ranks : Tab DramRank := []
  /-- last poll of MR4. Width: ns. (R398) -/
  mr4At : Option Nat := none
  deriving DecidableEq, Repr

/-- The DRAM controller (chapter 18). -/
structure Dram where
  /-- (R411) -/
  set : DramSet := {}
  /-- Width: 8. (R392) -/
  chs : Tab DramCh := []
  /-- next burst the scrubber reads. Width: 64. (R408) -/
  scrubAt : Nat := 0
  /-- when the present scrub period began. Width: ns. (R408) -/
  scrubFrom : Nat := 0
  /-- requests that wait to enter a queue, in the order they were made. (R397) -/
  demand : List DramSpan := []
  /-- when the buses are next free. Width: beats. (R397) -/
  slot : Nat := 0
  /-- last DRAM_CORRECTED event. Width: ns. (R406) -/
  correctedAt : Option Nat := none
  /-- end of training that no grant started. Width: ns. (R388) -/
  busyUntil : Nat := 0
  deriving DecidableEq, Repr

/-- The settings of LEDGER_SET (R315). -/
structure LedgerSet where
  /-- JOB_ID. Width: 64. (R315) -/
  jobId : Nat := 0
  /-- MAILBOX. Width: 4 x 16. (R315) -/
  boxes : List Nat := [0xFFFF, 0xFFFF, 0xFFFF, 0xFFFF]
  /-- CLASS_MASK. Width: 4 x 32. (R315) -/
  masks : List Nat := [0xFFFFFFFF, 0xFFFFFFFF, 0xFFFFFFFF, 0xFFFFFFFF]
  /-- SECOND_LOOK_MASK. Width: 32. (R315) -/
  secondLook : Nat := 0
  /-- CROP_MAILBOX. Width: 16. (R315) -/
  cropBox : Nat := 0xFFFF
  /-- CHAIN_FORWARD, DAYBOOK, DAYBOOK_CROPS, PSEUDO_0-PSEUDO_3. Width: 7. (R315) -/
  options : BitVec 7 := 0x7B
  deriving DecidableEq, Repr

/-- One line slot of a port's crop ring (R303). -/
structure RingLine where
  /-- the header of R207. Width: 32 bytes. (R303) -/
  head : OutLine := {}
  /-- the seam word. Width: 3. (R303) -/
  seam : BitVec 3 := 0
  /-- REPEAT of the registration word. Width: 32. (R303) -/
  rep : Nat := 0
  /-- its predicted specimen line. Width: 24. (R303) -/
  pos : Nat := 0
  /-- its flags. Width: 8. (R303) -/
  regFlags : BitVec 8 := 0
  /-- the port's first owned column. Width: 16. (R303) -/
  first : Nat := 0
  /-- L8, a8, b8. Width: 3 x 8 per owned column. (R303) -/
  px : List Pix8 := []
  /-- the grow mask. Width: 1 per owned column. (R303) -/
  grow : List Bool := []
  /-- a burst of the slot cannot be read. Width: 1. (R407) -/
  spoiled : Bool := false
  deriving DecidableEq, Repr

/-- An output rule (R309). -/
structure OutRule where
  /-- ENABLE, LATCH, IN_LEARN. Width: 3. (R309) -/
  flags : BitVec 3 := 0
  /-- STATION. Width: 2. (R309) -/
  station : Nat := 0
  /-- OUTPUT. Width: 3. (R309) -/
  output : Nat := 0
  /-- UNIT. Width: 4. (R309) -/
  unit : Nat := 0
  /-- CLASS_MASK. Width: 32. (R309) -/
  classMask : Nat := 0
  /-- SEV_MIN. Width: 8. (R309) -/
  sevMin : Nat := 0
  /-- ORIGIN_MASK; DESIGN CHOICE 0 on a rule never given. Width: 6. (R309) -/
  originMask : Nat := 0
  /-- MIN_PULSE_US; DESIGN CHOICE 0 on a rule never given. Width: 16. (R309) -/
  minPulse : Nat := 0
  /-- OFFSET_UM. Width: 27. (R309) -/
  offset : Nat := 0
  /-- LEAD_UM. Width: 20. (R309) -/
  lead : Nat := 0
  /-- TRAIL_UM. Width: 20. (R309) -/
  trail : Nat := 0
  deriving DecidableEq, Repr

/-- The gates of one rule (R310, R311). -/
structure RuleGates where
  /-- by open position. Width: up to 32. (R310) -/
  waiting : List Gate := []
  /-- Width: gates. (R311) -/
  opened : List OpenGate := []
  deriving DecidableEq, Repr

/-- A record as it is held for the twin's digests and re-issue (R307, R510, R515). -/
structure Held where
  /-- Width: 128 bytes. (R307) -/
  bytes : List Byte := []
  /-- its first line. (R515) -/
  first : LineMark := {}
  /-- its last line. (R515) -/
  last : LineMark := {}
  /-- the block its closing line lies in. Width: 64. (R510) -/
  block : Nat := 0
  deriving DecidableEq, Repr

/-- The ledger of one station (R297, R315). -/
structure StLedger where
  /-- (R315) -/
  set : LedgerSet := {}
  /-- NEXT_SERIAL. Width: 56. (R298) -/
  serial : Nat := 0
  /-- ENTRIES, saturating. Width: 64. (R315) -/
  entries : Nat := 0
  /-- PSEUDO. Width: 32. (R315) -/
  pseudo : Nat := 0
  /-- AMENDMENTS. Width: 32. (R315) -/
  amendments : Nat := 0
  /-- BACKLOG_PEAK. Width: 16. (R315) -/
  backlogPeak : Nat := 0
  /-- MAILBOX_OVERFLOW. Width: 32. (R315) -/
  overflow : Nat := 0
  /-- GATES_ARMED. Width: 32. (R315) -/
  armed : Nat := 0
  /-- GATES_LATE. Width: 32. (R315) -/
  late : Nat := 0
  /-- GATES_MERGED. Width: 32. (R315) -/
  merged : Nat := 0
  /-- GATES_DISCARDED. Width: 32. (R315) -/
  discarded : Nat := 0
  /-- CROPS_NONE. Width: 32. (R315) -/
  cropsNone : Nat := 0
  /-- OUTSIDE_GUARANTEE. Width: 32. (R315) -/
  outside : Nat := 0
  /-- the newest lines that carry UNDERSAMPLED, newest first. Width: up to 64 lines. (R313) -/
  under : List Nat := []
  /-- oldest first. Width: records of two blocks. (R307) -/
  held : List Held := []
  deriving DecidableEq, Repr

/-- The defect ledger (chapter 13). -/
structure Ledger where
  /-- LEDGER_SEQ of the next record. Width: 64. (R302) -/
  seq : Nat := 0
  /-- Width: 4. (R315) -/
  sts : Tab StLedger := []
  /-- the chain ledger mailbox. Width: 16. (R315) -/
  chainBox : Nat := 0xFFFF
  /-- Width: 16. (R309) -/
  rules : Tab OutRule := []
  /-- Width: 16. (R310) -/
  gates : Tab RuleGates := []
  /-- outputs a LATCH rule holds. Width: 5. (R311) -/
  latched : BitVec 5 := 0
  /-- outputs OUTPUT_FORCE holds. Width: 5. (R315) -/
  forced : BitVec 5 := 0
  /-- per mailbox: station, record; oldest first. Width: up to 1,024 records each. (R307) -/
  backlogs : Tab (List (Nat × List Byte)) := []
  /-- the head's forwarding queue. Width: up to 4,096 records. (R308) -/
  forward : List (List Byte) := []
  /-- captured and not yet delivered: mailbox, DEFECT_ID, crop. Width: crops. (R306) -/
  crops : List (Nat × Nat × List Byte) := []
  /-- per port, newest first. Width: 12 x 4,096 lines. (R303) -/
  rings : Tab (List RingLine) := []
  /-- last MAILBOX_OVERFLOW event. Width: ns. (R314) -/
  overflowAt : Option Nat := none
  /-- MODEL: while an entry goes to its destinations, the amendments issued meanwhile, which follow it there: station, CLASS, record; none between commands. Width: amendments. (R302, R307) -/
  held : Option (List (Nat × Nat × List Byte)) := none
  /-- last OUTSIDE_GUARANTEE event. Width: ns. (R314) -/
  outsideAt : Option Nat := none
  /-- last CHAIN_BACKLOG event. Width: ns. (R314) -/
  chainBacklogAt : Option Nat := none
  deriving DecidableEq, Repr

/-- A layer of a network image (R318). -/
structure NetLayer where
  /-- TYPE. Width: 4. (R319) -/
  kind : Nat := 0
  /-- RELU. Width: 1. (R318) -/
  relu : Bool := false
  /-- STRIDE2. Width: 1. (R318) -/
  stride2 : Bool := false
  /-- IN_C. Width: 9. (R318) -/
  inC : Nat := 0
  /-- OUT_C. Width: 9. (R318) -/
  outC : Nat := 0
  /-- IN_H. Width: 7. (R318) -/
  inH : Nat := 0
  /-- IN_W. Width: 7. (R318) -/
  inW : Nat := 0
  /-- OUT_H. Width: 7. (R318) -/
  outH : Nat := 0
  /-- OUT_W. Width: 7. (R318) -/
  outW : Nat := 0
  /-- WEIGHT_OFFSET. Width: 32. (R318) -/
  weightAt : Nat := 0
  /-- WEIGHT_BYTES. Width: 32. (R318) -/
  weightBytes : Nat := 0
  /-- PARAM_OFFSET. Width: 32. (R318) -/
  paramAt : Nat := 0
  deriving DecidableEq, Repr

/-- The settings of SL_SET (R331). -/
structure LookSet where
  /-- MAX_AGE_LINES. Width: 12. (R331) -/
  maxAge : Nat := 2048
  /-- DEFAULT_WITHDRAW. Width: 32. (R331) -/
  withdraw : Nat := 0
  /-- MIN_SCORE; empty is all zero. Width: 32 x 8. (R331) -/
  minScore : List Nat := []
  deriving DecidableEq, Repr

/-- Second look of one station (R329). -/
structure StLook where
  /-- (R329) -/
  set : LookSet := {}
  /-- the network image; empty is none. Width: up to 4,327,488 bytes. (R318) -/
  image : List Byte := []
  deriving DecidableEq, Repr

/-- A job on a cluster (R324, R326). -/
structure RunningJob where
  /-- (R326) -/
  job : LookJob := {}
  /-- the six channels. Width: 6 x 64 x 64 x 8. (R317) -/
  input : List Int := []
  /-- the image it runs. Width: bytes. (R329) -/
  image : List Byte := []
  /-- Width: ns. (R327) -/
  startedAt : Nat := 0
  deriving DecidableEq, Repr

/-- Second look (chapter 14). -/
structure Look where
  /-- Width: 4. (R329) -/
  sts : Tab StLook := []
  /-- waiting; those returned by a stand-in first. Width: up to 2,048. (R324) -/
  queue : List LookJob := []
  /-- by 4 k + cluster of DS12 + k. Width: 4 districts x 4 clusters. (R326) -/
  running : Tab RunningJob := []
  /-- QUEUE_PEAK. Width: 12. (R331) -/
  queuePeak : Nat := 0
  /-- the queue is at 1,536 jobs or more. Width: 1. (R330) -/
  high : Bool := false
  /-- JOBS_DONE; DESIGN CHOICE saturating. Width: 64. (R331) -/
  jobsDone : Nat := 0
  /-- CONFIRMED. Width: 32. (R331) -/
  confirmed : Nat := 0
  /-- WITHDRAWN. Width: 32. (R331) -/
  withdrawn : Nat := 0
  /-- RECLASSED. Width: 32. (R331) -/
  reclassed : Nat := 0
  /-- 0 AGED_OUT, 1 QUEUE_FULL, 2 NO_CROP, 3 NO_NETWORK, 4 LOW_SCORE, 5 ABANDONED. Width: 6 x 32. (R325, R331) -/
  causes : Tab Nat := []
  /-- LAST_JOB_US. Width: 32. (R331) -/
  lastUs : Nat := 0
  /-- MAX_JOB_US. Width: 32. (R331) -/
  maxUs : Nat := 0
  /-- last DEFAULT_APPLIED event. Width: ns. (R330) -/
  defaultAt : Option Nat := none
  /-- last SL_NO_DISTRICT event. Width: ns. (R330) -/
  noDistrictAt : Option Nat := none
  deriving DecidableEq, Repr

/-- The settings of FRANK_HEAD_SET (R353). -/
structure HeadSet where
  /-- ROLE. Width: 2. (R353) -/
  role : Nat := 0
  /-- COLOUR; DESIGN CHOICE 0. Width: 2. (R353) -/
  colour : Nat := 0
  /-- FIRST_NOZZLE; DESIGN CHOICE 0. Width: 10. (R353) -/
  firstNozzle : Nat := 0
  /-- MODULE_NOZZLES; DESIGN CHOICE 1. Width: 4. (R353) -/
  moduleNozzles : Nat := 1
  /-- FIRINGS; DESIGN CHOICE 1. Width: 3. (R353) -/
  firings : Nat := 1
  /-- FIRE_PITCH_UM; DESIGN CHOICE 20. Width: 11. (R353) -/
  firePitch : Nat := 20
  /-- OFFSET_UM; DESIGN CHOICE 0. Width: 27. (R353) -/
  offset : Nat := 0
  /-- TEMP_LIMIT; DESIGN CHOICE 2,400. Width: 12. (R353) -/
  tempLimit : Nat := 2400
  /-- TEMP_HYST; DESIGN CHOICE 16. Width: 9. (R353) -/
  tempHyst : Nat := 16
  /-- CODE_AT_25; DESIGN CHOICE 0. Width: 16. (R353) -/
  codeAt25 : Nat := 0
  /-- CODES_PER_DEG; DESIGN CHOICE 256. Width: 16. (R353) -/
  codesPerDeg : Int := 256
  /-- CLOCK_KHZ; DESIGN CHOICE 1,000. Width: 16. (R353) -/
  clock : Nat := 1000
  deriving DecidableEq, Repr

/-- The settings of FRANK_SELECT (R353). -/
structure FrankSelect where
  /-- STATION. Width: 2. (R353) -/
  station : Nat := 0
  /-- CONTENT. Width: 2. (R353) -/
  content : Nat := 0
  /-- SIZE; DESIGN CHOICE 10. Width: 5. (R353) -/
  size : Nat := 10
  /-- ORIGIN_MASK. Width: 6. (R353) -/
  originMask : Nat := 0
  /-- CLASS_MASK. Width: 32. (R353) -/
  classMask : Nat := 0
  /-- SEV_MIN. Width: 8. (R353) -/
  sevMin : Nat := 0
  /-- ENABLE. Width: 1. (R353) -/
  enable : Bool := false
  /-- IN_LEARN. Width: 1. (R353) -/
  inLearn : Bool := false
  /-- SLOT_UM; DESIGN CHOICE 1,000,000. Width: 20. (R353) -/
  slotUm : Nat := 1000000
  /-- LATE_MARGIN_UM. Width: 17. (R353) -/
  lateMargin : Nat := 0
  deriving DecidableEq, Repr

/-- The density table of a colour (R345). -/
structure Density where
  /-- DOT_DROP. Width: 2. (R353) -/
  dot : Nat := 2
  /-- EDGE_DROP. Width: 2. (R353) -/
  edge : Nat := 3
  /-- FLAG_DROP. Width: 2. (R353) -/
  flag : Nat := 3
  /-- FAST_SPEED_UMS. Width: 32. (R353) -/
  fastSpeed : Nat := 0
  /-- FAST_STEP; DESIGN CHOICE 0. Width: 2. (R353) -/
  fastStep : Nat := 0
  deriving DecidableEq, Repr

/-- The machine profile (R353). -/
structure Machine_ where
  /-- PROFILE. Width: 1. (R353) -/
  rewind : Bool := false
  /-- STOP_COUNTS_S. Width: 20. (R353) -/
  stopCounts : Nat := 1000
  /-- HOLD_TIMEOUT_MS. Width: 16. (R353) -/
  holdTimeout : Nat := 10000
  /-- REVERSE_TIMEOUT_MS. Width: 16. (R353) -/
  reverseTimeout : Nat := 20000
  /-- REWIND_MARGIN_UM. Width: 24. (R353) -/
  margin : Nat := 50000
  /-- REWIND_MAX_UM. Width: 27. (R353) -/
  maxBack : Nat := 5000000
  deriving DecidableEq, Repr

/-- A marking head (R332-R348). -/
structure Head where
  /-- (R353) -/
  set : HeadSet := {}
  /-- PRE1, GAP1, PRE2, GAP2, MAIN of drop sizes 1-3. Width: 3 x 5 x 13. (R353) -/
  wave : List (List Nat) := [[0, 0, 0, 0, 1000], [0, 0, 0, 0, 1000], [0, 0, 0, 0, 1000]]
  /-- empty is 0x06 in every byte. Width: 640 x 3. (R353) -/
  mask : List Nat := []
  /-- (R353) -/
  select : FrankSelect := {}
  /-- in order of their slots. Width: up to 256. (R342) -/
  queue : List Mark := []
  /-- slots in which a mark has begun to print; DESIGN CHOICE of how it is kept. Width: slots. (R340) -/
  used : List Int := []
  /-- when the 16 samples of the last mean ended. Width: ns. (R346) -/
  tempAt : Option Nat := none
  /-- T; DESIGN CHOICE 0 before the first mean. Width: 16. (R346) -/
  temp : Int := 0
  /-- Width: 1. (R346) -/
  hot : Bool := false
  /-- FRKh_FAULT_N asserted. Width: 1. (R335) -/
  fault : Bool := false
  /-- when the last firing began. Width: ns. (R338) -/
  lastFire : Option Nat := none
  /-- a column waits for T_min. Width: 1. (R338) -/
  deferred : Bool := false
  /-- MARKS_DONE, saturating. Width: 32. (R353) -/
  marksDone : Nat := 0
  /-- MARKS_INCOMPLETE. Width: 32. (R353) -/
  incomplete : Nat := 0
  /-- MARKS_MOVED. Width: 32. (R353) -/
  marksMoved : Nat := 0
  /-- MARKS_WITHHELD. Width: 32. (R353) -/
  withheld : Nat := 0
  /-- FIRE_LATE. Width: 32. (R353) -/
  fireLate : Nat := 0
  /-- DOTS_LOST. Width: 32. (R353) -/
  dotsLost : Nat := 0
  /-- REWINDS. Width: 32. (R353) -/
  rewinds : Nat := 0
  /-- REWINDS_FAILED. Width: 32. (R353) -/
  rewindsFailed : Nat := 0
  deriving DecidableEq, Repr

/-- The rewind in progress (R350). -/
structure Rewind where
  /-- 0 none, 2 to 5. Width: 3. (R350) -/
  step : Nat := 0
  /-- the head whose mark began it. Width: 1. (R350) -/
  head : Nat := 0
  /-- the encoder of that head's station. Width: 3. (R350) -/
  encoder : Nat := 0
  /-- T. Width: 48. (R350) -/
  target : Int := 0
  /-- when the present limit began. Width: ns. (R350) -/
  since : Nat := 0
  /-- WEB_HOLD is to be released. Width: ns. (R351) -/
  releaseAt : Option Nat := none
  deriving DecidableEq, Repr

/-- The franking unit (chapter 15). -/
structure Frank where
  /-- Width: 2. (R332) -/
  heads : Tab Head := []
  /-- Width: 4. (R345) -/
  density : Tab Density := []
  /-- (R353) -/
  machine : Machine_ := {}
  /-- (R350) -/
  rewind : Rewind := {}
  /-- last FIRE_LATE event. Width: ns. (R352) -/
  lateAt : Option Nat := none
  /-- last DOTS_LOST event. Width: ns. (R352) -/
  lostAt : Option Nat := none
  deriving DecidableEq, Repr

/-- The digest of one block of a station, as a DIGEST frame gives it (R510). -/
structure BlockDigest where
  /-- BLOCK. Width: 32. (R510) -/
  block : Nat := 0
  /-- RECORDS. Width: 32. (R510) -/
  records : Nat := 0
  /-- PARTIAL_VIEW_SEEN. Width: 1. (R510) -/
  partialView : Bool := false
  /-- DIGEST. Width: 128. (R510) -/
  digest : Nat := 0
  deriving DecidableEq, Repr

/-- The open blobs of a station at a block's start, which a replay relabels from (R512). -/
structure BlockStart where
  /-- the block. Width: 32. (R512) -/
  block : Nat := 0
  /-- open blobs. Width: up to 4,096. (R512) -/
  blobs : List Blob := []
  /-- last runs of split blobs. Width: runs. (R512) -/
  split : List (Nat × Nat × Nat) := []
  deriving DecidableEq, Repr

/-- A replay of a disputed block (R511-R513). -/
structure Replay where
  /-- station. Width: 2. (R512) -/
  station : Nat := 0
  /-- the disputed block. Width: 32. (R512) -/
  block : Nat := 0
  /-- when it began. Width: ns. (R513) -/
  since : Nat := 0
  /-- own RESULT, once it is known. Width: 8. (R512) -/
  own : Option Nat := none
  /-- the records issued that closed in the block. Width: records. (R512) -/
  issued : List Held := []
  /-- the open-blob state at its start. (R512) -/
  start : BlockStart := {}
  deriving DecidableEq, Repr

/-- Twin operation (chapter 24). -/
structure Twin where
  /-- role. Width: 3. (R505) -/
  role : TwinRole := .off
  /-- TWIN_HOLD asserted. Width: 1. (R503) -/
  holding : Bool := false
  /-- drivers enabled. Width: 1. (R503) -/
  driving : Bool := false
  /-- TWIN_SENSE held; DESIGN CHOICE free. Width: 1. (R501) -/
  senseHeld : Bool := false
  /-- take: 0 none, 1 waiting 5 us, 2 waiting 2 us, 3 in contention. Width: 2. (R503) -/
  stage : Nat := 0
  /-- when TWIN_SENSE last came to read free in the take. Width: ns. (R503) -/
  stageAt : Nat := 0
  /-- when a secondary released in contention: it may not try again for 1 ms. Width: ns. (R503) -/
  backoff : Option Nat := none
  /-- when the drivers were undriven in a release; TWIN_HOLD is to follow 1 us later. Width: ns. (R502) -/
  releaseDue : Option Nat := none
  /-- the package means to take the interlock. Width: 1. (R505, R514) -/
  wants : Bool := false
  /-- the take is a switch-over: 1 on a free TWIN_SENSE, 2 on a failed partner, 3 on a HANDOVER. Width: 2. (R514) -/
  takeover : Nat := 0
  /-- the role a reset has ended, until it is recorded after the reset. Width: 3. (R505) -/
  before : TwinRole := .off
  /-- ENABLE. Width: 1. (R522) -/
  enable : Bool := false
  /-- ROLE_PREF. Width: 1. (R522) -/
  secondary : Bool := false
  /-- REVERT_BLOCKS. Width: 13. (R522) -/
  revertBlocks : Nat := 64
  /-- PARTNER_SERIAL. Width: 64. (R522) -/
  partnerSerial : Nat := 0
  /-- the twin link carries frames. Width: 1. (R506) -/
  up : Bool := false
  /-- when the last HEARTBEAT arrived. Width: ns. (R506) -/
  lastBeat : Option Nat := none
  /-- counter of the last HEARTBEAT received. Width: 16. (R506) -/
  theirBeats : Nat := 0
  /-- counter of the next HEARTBEAT. Width: 16. (R506) -/
  beats : Nat := 0
  /-- when the last HEARTBEAT was sent. Width: ns. (R506) -/
  beatAt : Option Nat := none
  /-- its frame layer. (R506) -/
  link : Link := {}
  /-- a HELLO of the partner is held. Width: 1. (R506) -/
  helloSeen : Bool := false
  /-- its SERIAL. Width: 64. (R506) -/
  heldSerial : Nat := 0
  /-- its ROLE. Width: 3. (R506) -/
  partnerRole : TwinRole := .off
  /-- its PAIR_POSTCODE. Width: 8. (R506) -/
  pairPostcode : Nat := 0xFF
  /-- its CONFIG_DIGEST. Width: 128. (R506) -/
  partnerDigest : Nat := 0
  /-- CLEAN_RUN. Width: 32. (R522) -/
  cleanRun : Nat := 0
  /-- MISMATCHES; DESIGN CHOICE saturating. Width: 32. (R522) -/
  mismatches : Nat := 0
  /-- REPLAYS. Width: 32. (R522) -/
  replays : Nat := 0
  /-- DISAGREEMENTS. Width: 32. (R522) -/
  disagreements : Nat := 0
  /-- SWITCHOVERS. Width: 32. (R522) -/
  switchovers : Nat := 0
  /-- REISSUED. Width: 32. (R522) -/
  reissued : Nat := 0
  /-- a switch-over is in progress. Width: 1. (R516) -/
  reissuing : Bool := false
  /-- per station, the newest whole state copy; block + 1, 0 for none. Width: block + 1, copy. (R507) -/
  copies : Tab (Nat × StationCopy) := []
  /-- per station, the parts of a copy that have come. Width: block + 1, parts. (R506) -/
  parts : Tab (Nat × Nat) := []
  /-- per station, block + 1 of the copy last applied; 0 none since the role became SYNCING. Width: block + 1. (R507) -/
  copied : Tab Nat := []
  /-- stations whose grid is the active member's, since SHADOW was entered. Width: 4. (R189, R508) -/
  grids : BitVec 4 := 0
  /-- per encoder, the count offset in force. Width: counts. (R508) -/
  offsets : Tab (Option Int) := []
  /-- per encoder, samples of an offset being measured. Width: up to 16. (R508) -/
  samples : Tab (List Int) := []
  /-- per station, own digests; DESIGN CHOICE of how many. Width: last 4. (R510) -/
  ownDigests : Tab (List BlockDigest) := []
  /-- per station, the partner's; DESIGN CHOICE of how many. Width: last 4. (R511) -/
  theirDigests : Tab (List BlockDigest) := []
  /-- per station, consecutive mismatches. Width: count. (R511) -/
  runs : Tab Nat := []
  /-- per port, block and ring digest. Width: last 16 x 384. (R512) -/
  ringDigests : Tab (List (Nat × Nat)) := []
  /-- per station; DESIGN CHOICE of how many. Width: last 4. (R512) -/
  starts : Tab (List BlockStart) := []
  /-- the replays in progress, oldest first. (R512) -/
  replay : List Replay := []
  /-- each REPLAY_RESULT, until its verdict. Width: station, block, result. (R513) -/
  theirResults : List (Nat × Nat × Nat) := []
  /-- the HANDOVER sent or received. Width: station, block. (R519) -/
  handover : Option (Nat × Nat) := none
  /-- its cause: 0 TWIN_HANDOVER, 2 reversion. Width: 2. (R519) -/
  handoverBy : Nat := 0
  /-- per station, a specimen on its way. Width: bytes by offset. (R520) -/
  images : Tab (List (Nat × List Byte)) := []
  /-- per station, CRC + 1 of the specimen last sent to the partner. Width: crc + 1. (R520) -/
  sentCrc : Tab Nat := []
  /-- CONFIG_DIGEST of the last HELLO sent. Width: 128. (R506) -/
  helloDigest : Nat := 0
  /-- the block that the HANDOVER names has begun. Width: 1. (R519) -/
  handoverNow : Bool := false
  deriving DecidableEq, Repr

/-- What one calibrated item holds for one index (R526, R529). -/
structure CalItem where
  /-- C. Width: 16. (R526) -/
  correction : Int := 0
  /-- U. Width: 16. (R526) -/
  offset : Int := 0
  /-- the code in the hardware; none: V as first applied since reset; DESIGN CHOICE of how it is kept. Width: 16. (R526) -/
  applied : Option Int := none
  /-- LAST_RUN, chain time. Width: 64. (R534) -/
  lastRun : Nat := 0
  deriving DecidableEq, Repr

/-- A calibration run in progress (R527). -/
structure CalRun where
  /-- SCOPE. Width: 19. (R527) -/
  scope : Nat := 0
  /-- steps to do, the one in progress first. Width: SCOPE bits. (R527) -/
  steps : List Nat := []
  /-- STAY. Width: 1. (R530) -/
  stay : Bool := false
  /-- staged corrections. Width: item, index, C. (R527) -/
  staged : List (Nat × Nat × Int) := []
  /-- DRIFT_MASK. Width: 19. (R534) -/
  drift : Nat := 0
  /-- Width: ns. (R532) -/
  startedAt : Nat := 0
  deriving DecidableEq, Repr

/-- Electrical calibration (chapter 25). -/
structure Cal where
  /-- key 64 x item + index. Width: 8 items. (R523) -/
  items : Tab CalItem := []
  /-- (R527) -/
  run : Option CalRun := none
  /-- when V of items 4 to 8 was last recomputed. Width: ns. (R526) -/
  recomputedAt : Option Nat := none
  /-- the Sentry sensor; DESIGN CHOICE 0 before its first reading. Width: 1/16 degree. (R524) -/
  sentryTemp : Int := 0
  deriving DecidableEq, Repr

/-- One GPIO (R551). -/
structure Gpio where
  /-- KIND: 0 input, 1 push-pull, 2 open-drain. Width: 2. (R551) -/
  kind : Nat := 0
  /-- LEVEL. Width: 1. (R551) -/
  level : Bool := false
  /-- ACTION. Width: 3. (R551) -/
  action : Nat := 0
  /-- PULSE_US. Width: 16. (R551) -/
  pulseUs : Nat := 0
  /-- FILTER_US. Width: 10. (R551) -/
  filterUs : Nat := 0
  /-- EDGE. Width: 2. (R551) -/
  edge : Nat := 0
  /-- EVENT_CHANNEL. Width: 7. (R551) -/
  channel : Nat := 0
  /-- the level an output drives now. Width: 1. (R551) -/
  driven : Bool := false
  /-- the level from outside, as last accepted; DESIGN CHOICE low. Width: 1. (R553) -/
  ball : Bool := false
  /-- a pulse in progress ends. Width: ns. (R551) -/
  pulseUntil : Option Nat := none
  deriving DecidableEq, Repr

/-- Low-speed balls and test access (chapter 26); rails, straps and power-up stand in Modes. -/
structure Elec where
  /-- Width: 32. (R551) -/
  gpios : Tab Gpio := []
  /-- EDGES, by group of 8 GPIOs. Width: 4 x 8. (R553) -/
  edges : Tab Nat := []
  /-- the instruction the test access port acts on; PRESUMED BYPASS. (R550) -/
  tap : TapInstr := .bypass
  deriving DecidableEq, Repr

/-- The whole state of the block. -/
structure State where
  /-- command sources, keys, identity. (R34) -/
  sys : Sys := {}
  /-- modes, outputs, resets, supplies. (R70) -/
  modes : Modes := {}
  /-- the sorting frame. (R354) -/
  frame : Frame := {}
  /-- mailboxes, the Courier, the PCIe endpoint. (R412) -/
  host : HostLink := {}
  /-- the journal. (R463) -/
  journal : Journal := {}
  /-- the serial lanes. (R95) -/
  lanes : Lanes := {}
  /-- sensor port front ends. Width: 12. (R560) -/
  ports : Tab Port := []
  /-- photometric correction. Width: 12. (R152) -/
  photos : Tab Photo := []
  /-- encoders, latches, compares. (R163) -/
  pos : Position := {}
  /-- grids of the stations. Width: 4. (R188) -/
  grids : Tab Grid := []
  /-- resamplers of the ports. Width: 12. (R208) -/
  ress : Tab PortRes := []
  /-- stitching and colour of the ports. Width: 12. (R211) -/
  maps : Tab PortMap := []
  /-- stations. Width: 4. (R210) -/
  stations : Tab Station := []
  /-- outlets. Width: 8. (R224) -/
  outlets : Tab Outlet := []
  /-- specimens and learning. Width: 4. (R230) -/
  learns : Tab Learn := []
  /-- registration and compare. Width: 4. (R253) -/
  regs : Tab Reg := []
  /-- segmentation. Width: 4. (R275) -/
  segs : Tab Seg := []
  /-- the defect ledger. (R298) -/
  ledger : Ledger := {}
  /-- second look. (R315) -/
  look : Look := {}
  /-- the franking unit. (R326) -/
  frank : Frank := {}
  /-- the purse and the teller. (R367) -/
  teller : Teller := {}
  /-- the DRAM controller. (R393) -/
  dram : Dram := {}
  /-- the compression engines. (R433) -/
  comp : Comp := {}
  /-- the vault. (R447) -/
  vault : Vault := {}
  /-- the Akeus Chain. (R483) -/
  chain : Chain := {}
  /-- twin operation. (R500) -/
  twin : Twin := {}
  /-- electrical calibration. (R520) -/
  cal : Cal := {}
  /-- supplies and pins. (R536) -/
  elec : Elec := {}
  /-- the DRAM's contents. Width: bytes. (R393) -/
  dramMem : Mem := []
  /-- host memory as the block reads and writes it; DESIGN CHOICE unlisted bytes read 0x00. Width: bytes. (R415) -/
  hostMem : Mem := []
  /-- the timestamp counter. Width: 64, ns. (R489) -/
  now : Nat := 0
  /-- what the last command made the block send. Width: items. (model's own) -/
  sent : List Sent := []
  /-- the queue of waiting commands, first in, first out. Width: commands. (model's own) -/
  pending : List Instr := []
  deriving DecidableEq, Repr

/-- Why a machine of this kind would stop. No meaning of this model answers with one: the spec gives every command an
effect, and what it leaves open is a free value. -/
inductive Fault where
  /-- Raised by no command: held for a broken state that no rule describes; safe. -/
  | stuck
  deriving DecidableEq, Repr

/-- Why a command would be turned away. -/
inductive Refusal where
  /-- Raised by the arm of a command that has no meaning yet; safe. -/
  | notModelled (mnemonic : String)
  deriving DecidableEq, Repr

/-- The block right after reset, before any command: every field at the value its line in INVENTORY.md names. -/
def State.reset : State := {}

end Sys2Proof.Machine
end

