-- ==== Sys2Proof/Machine/LineCode.lean ====
section
/-!
DEFINITION. Sys2Proof/Machine/LineCode.lean: what travels on a lane's wire (chapter 04): the 64b/66b coding and the scrambler of R99,
the pattern generator and the checker of R115.
-/
namespace Sys2Proof.Machine

/-! ### 64b/66b coding (R99) -/

/-- n bits, the first sent least significant, through the self-synchronising scrambler 1 + x^39 + x^58; scr holds the last 58 bits sent,
the latest in bit 0. The scrambled bits, and the scrambler after them. -/
def scramble : Nat → Nat → Nat → Nat × Nat
  | 0, scr, _ => (0, scr)
  | n + 1, scr, x =>
    let b := (x + scr / 2 ^ 38 + scr / 2 ^ 57) % 2
    let r := scramble n ((2 * scr + b) % 2 ^ 58) (x / 2)
    (b + 2 * r.1, r.2)

/-- The inverse: scr holds the last 58 bits received. -/
def descramble : Nat → Nat → Nat → Nat × Nat
  | 0, scr, _ => (0, scr)
  | n + 1, scr, y =>
    let r := descramble n ((2 * scr + y % 2) % 2 ^ 58) (y / 2)
    ((y + scr / 2 ^ 38 + scr / 2 ^ 57) % 2 + 2 * r.1, r.2)

/-- The two bits of a sync header, the first sent least significant: 0b01 for a data block and 0b10 for a control block are sent as they are
written, from the left (PRESUMED, assumption 81). -/
def syncHeader (control : Bool) : Nat := if control then 1 else 2

/-- A block on the line: 66 bits, bit 0 sent first, the payload's byte 0 after the sync header; and the scrambler after it. -/
def lineBlock (control : Bool) (payload : List Byte) (scr : Nat) : Nat × Nat :=
  let r := scramble 64 scr (fld 8 payload 0)
  (syncHeader control + 4 * r.1, r.2)

/-- Bytes as data blocks of eight, the last padded with zeros. -/
def dataBlocks : Nat → List Byte → List (List Byte)
  | 0, _ => []
  | n + 1, bs => if bs = [] then [] else padTo 8 (bs.take 8) :: dataBlocks n (bs.drop 8)

/-! ### Test patterns (R115) -/

/-- The degree and the second tap of a PRBS pattern's polynomial; none for the other patterns. -/
def prbsTaps (code : Nat) : Option (Nat × Nat) :=
  match code with
  | 0 => some (7, 6)
  | 1 => some (9, 5)
  | 2 => some (15, 14)
  | 3 => some (23, 18)
  | 4 => some (31, 28)
  | _ => none

/-- The bit a PRBS gives after those of a register, the latest in bit 0. -/
def prbsNext (taps : Nat × Nat) (reg : Nat) : Bool := xor (reg.testBit (taps.1 - 1)) (reg.testBit (taps.2 - 1))

/-- The 64 bits of a periodic pattern, bit 0 sent first: the square wave, or the user pattern. -/
def periodicWord (code user : Nat) : Nat := if code = 5 then 2 ^ 32 - 1 else user

/-- Bit i of a periodic pattern. -/
def periodicBit (code user i : Nat) : Bool := (periodicWord code user).testBit (i % 64)

/-- The register a PRBS goes on from: one without a set bit would give zeros for good, so that the seed takes its place (DESIGN CHOICE,
assumption 81). -/
def prbsSeed (taps : Nat × Nat) (reg : Nat) : Nat := if reg % 2 ^ taps.1 = 0 then 1 else reg

/-- n bits of a PRBS: reg holds its last bits. The bits, and reg after them. -/
def generatePrbs (taps : Nat × Nat) : Nat → Nat → List Bool × Nat
  | 0, reg => ([], reg)
  | n + 1, reg =>
    let b := prbsNext taps reg
    let r := generatePrbs taps n ((2 * reg + b2n b) % 2 ^ 64)
    (b :: r.1, r.2)

/-- n bits of the generator: reg holds the last bits of a PRBS, pos the place in a periodic pattern. The bits, and reg after them, which a
periodic pattern leaves alone. -/
def generate (code user n reg pos : Nat) : List Bool × Nat :=
  match prbsTaps code with
  | some t => generatePrbs t n (prbsSeed t reg)
  | none => ((List.range n).map fun i => periodicBit code user (pos + i), reg)

/-- The place in a periodic pattern after 64 bits, the latest in bit 0 of reg, that agree with it; none where none agree. -/
def periodicPlace (code user reg : Nat) : Option Nat :=
  (List.range 64).find? fun p => (List.range 64).all fun j => reg.testBit j == periodicBit code user (p + 63 - j)

/-- A checker that is not synchronised takes a bit: 64 bits without an error synchronise it. A register of zeros checks no PRBS. -/
def Checker.search (c : Checker) (code user : Nat) (b : Bool) : Checker :=
  let reg := (2 * c.reg + b2n b) % 2 ^ 64
  match prbsTaps code with
  | some t =>
    let fits := t.1 ≤ c.seen && c.reg % 2 ^ t.1 ≠ 0 && prbsNext t c.reg == b
    let run := if fits then c.run + 1 else 0
    { c with reg := reg, seen := min 64 (c.seen + 1), run := run, synced := 64 ≤ run, winBits := 0, winErrs := 0 }
  | none =>
    let seen := min 64 (c.seen + 1)
    match (if seen = 64 then periodicPlace code user reg else none) with
    | some p => { c with reg := reg, seen := seen, pos := p, synced := true, winBits := 0, winErrs := 0 }
    | none => { c with reg := reg, seen := seen }

/-- A synchronised checker takes a bit: it is compared with the pattern, which runs on by itself. More than 32 errors in 1,024 bits end
synchronisation; the 1,024 are counted from the last whole 1,024 (DESIGN CHOICE, assumption 82). -/
def Checker.compare (c : Checker) (code user : Nat) (b : Bool) : Checker :=
  let want := match prbsTaps code with
    | some t => prbsNext t c.reg
    | none => periodicBit code user c.pos
  let errs := c.winErrs + b2n (want != b)
  let full := c.winBits = 1023
  { c with
    reg := (2 * c.reg + b2n want) % 2 ^ 64
    pos := (c.pos + 1) % 64
    bits := c.bits + 1
    errors := c.errors + b2n (want != b)
    winBits := if full then 0 else c.winBits + 1
    winErrs := if full then 0 else errs
    synced := errs ≤ 32
    lost := c.lost || 32 < errs
    seen := if errs ≤ 32 then c.seen else 0
    run := 0 }

/-- The checker takes a bit of the raw line (R115). -/
def Checker.step (code user : Nat) (c : Checker) (b : Bool) : Checker :=
  if c.synced then c.compare code user b else c.search code user b

end Sys2Proof.Machine
end

