-- ==== Sys2Proof/Machine/Tables.lean ====
section
/-!
DEFINITION. Sys2Proof/Machine/Tables.lean: reading and writing the sparse tables and the byte memories of State,
always in their canonical form (indices strictly rising, no entry equal to the default).
-/
namespace Sys2Proof.Machine

/-- The entry at an index; d is the table's default there. -/
def Tab.get {α : Type} (d : α) (t : Tab α) (i : Nat) : α :=
  match t with
  | [] => d
  | (j, x) :: r => if i = j then x else Tab.get d r i

/-- The table without its entry at an index. -/
def Tab.clear {α : Type} (t : Tab α) (i : Nat) : Tab α :=
  match t with
  | [] => []
  | (j, x) :: r => if i = j then Tab.clear r i else (j, x) :: Tab.clear r i

/-- The table with an entry at an index, default or not. -/
def Tab.put {α : Type} (t : Tab α) (i : Nat) (x : α) : Tab α :=
  match t with
  | [] => [(i, x)]
  | (j, y) :: r =>
    if i = j then (i, x) :: r else if i < j then (i, x) :: (j, y) :: r else (j, y) :: Tab.put r i x

/-- The table with the entry at an index set; an entry equal to the default is not listed. -/
def Tab.set {α : Type} [DecidableEq α] (d : α) (t : Tab α) (i : Nat) (x : α) : Tab α :=
  if x = d then t.clear i else t.put i x

/-- The table with the entry at an index changed. -/
def Tab.modify {α : Type} [DecidableEq α] (d : α) (t : Tab α) (i : Nat) (f : α → α) : Tab α :=
  Tab.set d t i (f (Tab.get d t i))

/-- Every entry of a table changed; entries that come to the default are not listed. -/
def Tab.remap {α : Type} [DecidableEq α] (d : Nat → α) (f : α → α) (t : Tab α) : Tab α :=
  t.filterMap fun e => if f e.2 = d e.1 then none else some (e.1, f e.2)

/-- Every key lies above a bound, rising strictly. -/
def Tab.rising {α : Type} (t : Tab α) : Bool :=
  match t with
  | [] => true
  | [_] => true
  | (i, _) :: (j, y) :: r => i < j && Tab.rising ((j, y) :: r)

/-- The canonical form of a table whose default at i is d i. -/
def Tab.wf {α : Type} [DecidableEq α] (d : Nat → α) (t : Tab α) : Bool :=
  Tab.rising t && t.all fun e => e.2 ≠ d e.1

/-- What an address not listed reads as: 0x00 (DESIGN CHOICE, assumption 4). -/
def Mem.unlisted : Byte := 0

/-- Read one byte. -/
def Mem.read (m : Mem) (a : Nat) : Byte := Tab.get Mem.unlisted m a

/-- Write one byte. -/
def Mem.write (m : Mem) (a : Nat) (b : Byte) : Mem := Tab.set Mem.unlisted m a b

/-- Read n bytes from an address up. -/
def Mem.readN (m : Mem) : Nat → Nat → List Byte
  | _, 0 => []
  | a, n + 1 => m.read a :: Mem.readN m (a + 1) n

/-- Write bytes from an address up. -/
def Mem.writeN (m : Mem) : Nat → List Byte → Mem
  | _, [] => m
  | a, b :: bs => Mem.writeN (m.write a b) (a + 1) bs

/-- The bytes a party outside has written, applied in order. -/
def Mem.writeAll (m : Mem) (ws : List (Nat × Byte)) : Mem := ws.foldl (fun m w => m.write w.1 w.2) m

/-- The canonical form of a memory. -/
def Mem.wf (m : Mem) : Bool := Tab.wf (fun _ => Mem.unlisted) m

end Sys2Proof.Machine
end

