-- ==== Sys2Proof/Machine/DramQueue.lean ====
section
/-!
DEFINITION. Sys2Proof/Machine/DramQueue.lean: where a system address lies (R395), and the request queues of the DRAM's subchannels: their
depth, read-from-queue, merges, the order of service (R397), and the activates that trigger neighbour refresh (R401). What a request carries
is applied where it is made; the queues hold what the bus has still to do (DESIGN CHOICE, assumption 100).
-/
namespace Sys2Proof.Machine

/-! ### The address map (R395) -/

/-- The channel of a system address. -/
def dramChannel (a : Nat) : Nat := a / Config.dramGrain % Config.dramChannels

/-- The local address within the channel. -/
def dramLocal (a : Nat) : Nat := a / (Config.dramChannels * Config.dramGrain) * Config.dramGrain + a % Config.dramGrain

/-- Bit 6 of the local address. -/
def dramSub (a : Nat) : Nat := bit (dramLocal a) 6

/-- How many bank bits a local address has. -/
def bankBits : Nat := if Config.dramDensity = 8 then 1 else 2

/-- The rank bit, above the bank bits; 0 with one rank. -/
def dramRank (a : Nat) : Nat := if Config.dramTwoRanks then bit (dramLocal a) (15 + bankBits) else 0

/-- The row: what remains above. -/
def dramRow (a : Nat) : Nat := dramLocal a / 2 ^ (15 + bankBits + b2n Config.dramTwoRanks)

/-- The bank of a rank that an address uses: bank group and bank, each XORed with the lowest row bits of its width. -/
def dramBank (a : Nat) : Nat :=
  let row := dramRow a
  let group := bits (dramLocal a) 8 7 ^^^ row % 4
  let bank := dramLocal a / 2 ^ 15 % 2 ^ bankBits ^^^ row % 2 ^ bankBits
  16 * dramRank a + 4 * group + bank

/-! ### The queues of a subchannel (R397) -/

/-- Does a write to a burst wait? -/
def DramSub.writeWaits (a : Nat) (x : DramSub) : Bool := x.writes.any fun r => r.addr = a

/-- A write joins the write queue; two writes to one burst merge into one, and from 48 on the queue is served ahead of reads. -/
def DramSub.addWrite (now a : Nat) (x : DramSub) : DramSub :=
  if x.writeWaits a then x
  else { x with writes := x.writes ++ [{ addr := a, since := now, reader := 0 }], drain := x.drain || 48 ≤ x.writes.length + 1 }

/-- A read joins the read queue; one of a burst that waits to be written is served from the write queue. -/
def DramSub.addRead (now reader a : Nat) (x : DramSub) : DramSub :=
  if x.writeWaits a then x else { x with reads := x.reads ++ [{ addr := a, since := now, reader := reader }] }

/-- A write of less than a burst is a read, a merge and a write: the merge read, READER 3, brings the write with it when it is served. -/
def DramSub.addMerge (now a : Nat) (x : DramSub) : DramSub :=
  if x.reads.any (fun r => r.addr = a && r.reader = 3) then x else x.addRead now 3 a

/-- Is there room for a request? Each queue holds 64 bursts. -/
def DramSub.room (write part : Bool) (x : DramSub) : Bool :=
  if write && !part then x.writes.length < 64 else x.reads.length < 64

/-- The request a subchannel serves next, and whether it is a write: any that has waited 1,000 ns or more, oldest first; then one to an open
row, oldest first; then the oldest. Writes come ahead of reads while the write queue drains, and whenever no read waits. A merge read waits for
room in the write queue. -/
def DramSub.next (time : Nat) (x : DramSub) : Option (Bool × DramReq) :=
  let reads := x.reads.filter fun r => r.reader ≠ 3 || x.writes.length < 64
  let aged := fun r : DramReq => r.since + 1000 ≤ time
  match reads.find? aged, x.writes.find? aged with
  | some r, some w => some (if w.since < r.since then (true, w) else (false, r))
  | some r, none => some (false, r)
  | none, some w => some (true, w)
  | none, none =>
    let write := (x.drain && x.writes ≠ []) || reads = []
    let queue := if write then x.writes else reads
    let openRow := fun r : DramReq => Tab.get 0 x.rows (dramBank r.addr) = dramRow r.addr + 1
    ((queue.find? openRow).or queue.head?).map fun r => (write, r)

/-- A request leaves its queue at a time. -/
def DramSub.take (time : Nat) (write : Bool) (r : DramReq) (x : DramSub) : DramSub :=
  if write then
    let left := x.writes.erase r
    { x with writes := left, drain := x.drain && 16 < left.length }
  else
    let left := x.reads.erase r
    let x := { x with reads := left, readsEnd := if left = [] then time else x.readsEnd }
    if r.reader = 3 then x.addWrite time r.addr else x

/-- A row is opened where it was not: the activate steps the channel's LFSR, and triggers a neighbour refresh, which closes the bank, when the
low NEIGHBOUR_K bits are 0 (R401; which pattern triggers is a DESIGN CHOICE, assumption 100). -/
def DramCh.activate (set : DramSet) (i : Nat) (a : Nat) (x : DramCh) : DramCh :=
  let sub := Tab.get {} x.subs i
  if Tab.get 0 sub.rows (dramBank a) = dramRow a + 1 then x
  else
    let l := Config.dramLfsr x.lfsr
    let hit := set.neighbour && l.toNat % 2 ^ set.neighbourK = 0
    { x with
      lfsr := l
      neighbours := if hit then sat 32 (x.neighbours + 1) else x.neighbours
      subs := Tab.set {} x.subs i { sub with rows := Tab.set 0 sub.rows (dramBank a) (if hit then 0 else dramRow a + 1) } }

/-- Subchannel i of a channel serves one burst, if any waits. -/
def DramCh.serve (set : DramSet) (time i : Nat) (x : DramCh) : DramCh :=
  match (Tab.get {} x.subs i).next time with
  | none => x
  | some (write, r) =>
    let x := x.activate set i r.addr
    { x with
      subs := Tab.modify {} x.subs i (DramSub.take time write r)
      readBytes := if write then x.readBytes else wrap 64 (x.readBytes + 64)
      writeBytes := if write then wrap 64 (x.writeBytes + 64) else x.writeBytes }

/-! ### Requesters, and the bus in time -/

/-- Requests enter their queues in the order they are made, as long as there is room for the first (DESIGN CHOICE, assumption 100): a channel in
self-refresh holds them up, one that is not fitted or has failed takes none. -/
def Dram.enqueue (now : Nat) : Nat → Dram → Dram
  | 0, d => d
  | fuel + 1, d =>
    match d.demand with
    | [] => d
    | x :: rest =>
      let a := x.addr - x.addr % 64
      let n := min x.bytes (64 - x.addr % 64)
      let c := dramChannel a
      let ch := Tab.get {} d.chs c
      let sub := Tab.get {} ch.subs (dramSub a)
      let left := if x.bytes ≤ n then rest else { x with addr := a + 64, bytes := x.bytes - n } :: rest
      let part := n < 64 && !sub.writeWaits a
      if x.bytes = 0 || ch.failed then Dram.enqueue now fuel { d with demand := left }
      else if ch.selfRefresh || !sub.room x.write part then d
      else
        let enter := fun y : DramSub =>
          if !x.write then y.addRead now x.reader a else if part then y.addMerge now a else y.addWrite now a
        Dram.enqueue now fuel { d with
          demand := left
          chs := Tab.modify {} d.chs c fun ch => { ch with
            subs := Tab.modify {} ch.subs (dramSub a) enter
            writebacks := if x.write then ch.writebacks.filter (· ≠ a) else ch.writebacks } }

/-- Room enough for every queue to fill. -/
def admitFuel : Nat := 4096

/-- How much waits. -/
def Dram.waiting (d : Dram) : Nat :=
  sumNat (d.demand.map fun x => 2 * (x.bytes / 64) + 4)
    + sumNat (d.chs.map fun c => sumNat (c.2.subs.map fun x => 2 * x.2.reads.length + x.2.writes.length))

/-- Every subchannel that may serves one burst: not in a retraining slice or in self-refresh (R400, R404). -/
def Dram.slotServed (time : Nat) (d : Dram) : Dram :=
  { d with chs := Tab.remap (fun _ => {}) (fun x =>
    if x.selfRefresh || x.failed || time < x.sliceUntil then x else (x.serve d.set time 0).serve d.set time 1) d.chs }

/-- Slots of one burst, 16 beats, pass from a beat on (R395: BL16). -/
def Dram.slots (beat : Nat) : Nat → Dram → Dram
  | 0, d => d
  | fuel + 1, d =>
    let time := beat * 1000 / Config.dramRate
    if d.waiting = 0 then d
    else Dram.slots (beat + 16) fuel { (d.enqueue time admitFuel).slotServed time with slot := beat + 16 }

/-- The controller with the queues of another: the channels, what waits to enter and the buses' time; nothing else of it. -/
def Dram.queued (d q : Dram) : Dram := { d with chs := q.chs, demand := q.demand, slot := q.slot }

/-- The buses have worked from one time to another, in ns. -/
def Dram.advance (from_ to_ : Nat) (d : Dram) : Dram :=
  let w := d.waiting
  let beat := max d.slot (from_ * Config.dramRate / 1000)
  d.queued (if w = 0 then d else d.slots beat (min ((to_ * Config.dramRate / 1000 + 15 - beat) / 16) (64 * w)))

/-- A block asks for bytes of DRAM at a time; READER 0 a district, 1 a hub block, 2 scrub. -/
def Dram.ask (now : Nat) (write : Bool) (addr bytes reader : Nat) (d : Dram) : Dram :=
  d.queued (Dram.enqueue now admitFuel
    { d with demand := d.demand ++ [{ addr := addr, bytes := bytes, write := write, reader := reader }] })

/-- Does a channel have reads queued? -/
def DramCh.readsQueued (x : DramCh) : Bool := x.subs.any fun y => y.2.reads ≠ []

/-- Since when has a channel's read queue been empty? -/
def DramCh.readsEnd (x : DramCh) : Nat := (x.subs.map fun y => y.2.readsEnd).foldl max 0

/-- Every row of a channel is closed, as an all-bank refresh closes them (R398). -/
def DramCh.closeRows (x : DramCh) : DramCh := { x with subs := Tab.remap (fun _ => {}) (fun y => { y with rows := [] }) x.subs }

end Sys2Proof.Machine
end

