-- ==== Sys2Proof/Machine/Ops.lean ====
section
/-!
DEFINITION. Sys2Proof/Machine/Ops.lean: the named operations every chapter uses: time, free values, raising an
event, an arising journal entry, what leaves the block, mailboxes (R415-R423), and the tables of State by unit.
-/
namespace Sys2Proof.Machine

/-- The slew of chain time is brought up to the timestamp counter: 100 ppm, one ns in 10 us, until the error is gone (R490). -/
def State.slew (s : State) : State :=
  let n := min s.chain.slewLeft.natAbs ((s.now - s.chain.slewFrom) / 10000)
  if n = 0 then s
  else
    let d : Int := if s.chain.slewLeft < 0 then -(n : Int) else n
    { s with chain := { s.chain with
      offset := s.chain.offset + d, slewLeft := s.chain.slewLeft - d, slewFrom := s.chain.slewFrom + 10000 * n } }

/-- The hub clock in which a command that comes at a time acts: 1.2 GHz, and never one that an earlier command had (R354). -/
def State.clockAt (now : Nat) (s : State) : Nat := max (s.frame.base + 1) (now * 6 / 5)

/-- A step begins: the timestamp counter has reached t (it never runs back), the frame has a new hub clock, the DRAM's buses have worked up to
now (R397), and nothing has yet been sent. -/
def State.begin (t : Nat) (s : State) : State :=
  let now := max s.now t
  let c := s.clockAt now
  let s : State := { s with
    now := now, sent := [], frame := { s.frame with base := c, clock := c }, dram := s.dram.advance s.now now }
  s.slew

/-- A block asks for bytes of DRAM now (R397). -/
def askDram (write : Bool) (addr bytes reader : Nat) (s : State) : State :=
  { s with dram := s.dram.ask s.now write addr bytes reader }

/-- Chain time in ns: the timestamp counter plus the package's offset, 64 bits (R490, R491). -/
def State.chainTime (s : State) : Nat := ofInt 64 ((s.now : Int) + s.chain.offset)

/-- Chain time of a reading of the timestamp counter. -/
def State.chainTimeAt (s : State) (t : Nat) : Nat := ofInt 64 ((t : Int) + s.chain.offset)

/-- A free number below a bound, and the state with the counter advanced. -/
def State.drawFree (bound : Nat) (s : State) : Nat × State :=
  (Config.free s.sys.free % (max bound 1), { s with sys := { s.sys with free := s.sys.free + 1 } })

/-- A free run of n bytes, and the state with the counter advanced. -/
def State.drawBytes (n : Nat) (s : State) : List Byte × State :=
  ((List.range n).map (Config.freeByte s.sys.free), { s with sys := { s.sys with free := s.sys.free + 1 } })

/-- A block raises an event on a source; the sorting frame carries it when the step settles (R354). -/
def raise (src : Nat) (s : State) : State :=
  { s with frame := { s.frame with raised := s.frame.raised ++ [{ src := src, input := none, clock := s.frame.clock }] } }

/-- A block raises an event that an activation of task input i caused (R362). -/
def raiseBy (i : Option Nat) (src : Nat) (s : State) : State :=
  { s with frame := { s.frame with raised := s.frame.raised ++ [{ src := src, input := i, clock := s.frame.clock }] } }

/-- The events that a piece of work raises are those of task input i, whose activation caused it (R362). -/
def causedBy (i : Nat) (work : State → State) (s : State) : State :=
  let n := s.frame.raised.length
  let t := work s
  { t with frame := { t.frame with raised := t.frame.raised.take n ++ (t.frame.raised.drop n).map fun r =>
      if r.input.isNone && r.chan.isNone then { r with input := some i } else r } }

/-- Raise an event when a condition holds. -/
def raiseIf (c : Bool) (src : Nat) (s : State) : State := if c then raise src s else s

/-- Has the moment of an earlier event passed by at least d ns? -/
def elapsed (d : Nat) (last : Option Nat) (now : Nat) : Bool :=
  match last with
  | none => true
  | some t => t + d ≤ now

/-- A journal entry arises (R463); it is recorded, suppressed or lost when the step settles (R465). -/
def journal (code block domain : Nat) (data : List Byte) (s : State) : State :=
  { s with journal := { s.journal with arising := s.journal.arising ++
      [{ code := code, time := s.chainTime, block := block, unsynced := !s.chain.synced, domain := domain, data := (data ++ zeros 12).take 12 }] } }

/-- Something leaves the block in this step. -/
def send (k : SentKind) (dest code : Nat) (body : List Byte) (s : State) : State :=
  { s with sent := s.sent ++ [{ kind := k, dest := dest, code := code, body := body }] }

end Sys2Proof.Machine
namespace Sys2Proof
open Machine

/-- Is the package in a mode whose frame says pixels go through every stage (R70)? -/
def Mode.inspects : Mode → Bool
  | .learn | .inspect | .reduced | .shadow => true
  | _ => false

/-- The modes in which the rules drive the process outputs (R70). -/
def Mode.drives : Mode → Bool
  | .learn | .inspect | .reduced => true
  | _ => false

/-- The modes in which pixel data is received and runs at least stages 1 to 5 (R70). -/
def Mode.receives : Mode → Bool
  | .configure | .calibrate | .learn | .inspect | .reduced | .shadow => true
  | _ => false

/-- MODE's code (R70). -/
def Mode.code : Mode → Nat
  | .sentry => 1 | .standby => 2 | .enumerate => 3 | .configure => 4 | .calibrate => 5 | .learn => 6
  | .inspect => 7 | .reduced => 8 | .shadow => 9 | .drain => 10 | .maintain => 11 | .faultHold => 12

end Sys2Proof
namespace Sys2Proof.Machine

/-- Every mode but SENTRY. -/
def awake : List Mode :=
  [.standby, .enumerate, .configure, .calibrate, .learn, .inspect, .reduced, .shadow, .drain, .maintain, .faultHold]

/-- Every mode. -/
def everyMode : List Mode := .sentry :: awake

/-- The mode in force. -/
def State.mode (s : State) : Mode := s.modes.mode

/-! ### Mailboxes (R415-R423) -/

/-- A mailbox at reset: KIND and OWNER are fixed on mailboxes 0-31 (R39, R415, R424). -/
def boxReset (m : Nat) : Mailbox :=
  { kind := if m < 16 then 0 else 1
    owner := if m < 32 then m / 8 % 2 else 0 }

def State.box (s : State) (m : Nat) : Mailbox := Tab.get (boxReset m) s.host.boxes m

def State.setBox (m : Nat) (b : Mailbox) (s : State) : State :=
  { s with host := { s.host with boxes := Tab.set (boxReset m) s.host.boxes m b } }

/-- SIZE, the entries of a ring (R415). -/
def Mailbox.size (b : Mailbox) : Nat := 2 ^ b.sizeLog2

/-- The entries a mailbox holds: (P - C) mod 2^32 (R415). -/
def Mailbox.held (b : Mailbox) : Nat := (b.producer + 2 ^ 32 - b.consumer) % 2 ^ 32

/-- The bus address of index i's entry (R415). -/
def Mailbox.entryAt (b : Mailbox) (i : Nat) : Nat := (b.ring + 64 * (i % b.size)) % 2 ^ 64

/-- The device's own index: C of COMMAND_IN and BUFFER, P of RECORD_OUT (R415, R419). -/
def Mailbox.deviceIndex (b : Mailbox) : Nat := if b.kind = 1 then b.producer else b.consumer

def State.writeHost (a : Nat) (bs : List Byte) (s : State) : State :=
  { s with hostMem := Mem.writeN s.hostMem a bs }

/-- What the host has written into its own memory comes into the block's sight. -/
def hostWrites (ws : List HostWrite) (s : State) : State := ws.foldl (fun s w => s.writeHost w.1 w.2) s

/-- Send an MSI-X message over the host link, once however many causes one hub clock holds (R420). -/
def sendMsix (f v : Nat) (s : State) : State :=
  if !s.host.up then s
  else if Tab.get 0 s.host.msixAt (64 * f + v) = s.frame.clock && s.sent.any (fun x => x.kind = .msix && x.dest = f && x.code = v) then s
  else send .msix f v [] { s with host := { s.host with msixAt := Tab.put s.host.msixAt (64 * f + v) s.frame.clock } }

/-- The write-back of a mailbox and, if one is due, its MSI-X message; n entries were written (R419, R420). -/
def writeBack (m n : Nat) (s : State) : State :=
  let b := s.box m
  let s := s.writeHost b.wb (le 4 b.deviceIndex ++ le 4 b.dropped)
  if b.irqEn then
    if b.coalesceCount ≤ 1 || b.coalesceCount ≤ b.unsignalled + n then
      sendMsix b.owner b.vector (s.setBox m { b with unsignalled := 0, timerFrom := none })
    else s.setBox m { b with
      unsignalled := b.unsignalled + n
      timerFrom := if b.timerFrom.isNone && 0 < b.coalesceUs then some s.now else b.timerFrom }
  else s

/-- Bytes filled up with zeros to n entries of 64. -/
def padEntries (n : Nat) (bs : List Byte) : List Byte := (bs ++ zeros (64 * n)).take (64 * n)

/-- The entries of a record, each in its place of the ring (R416). -/
def writeEntries (m : Nat) (start : Nat) (bs : List Byte) (s : State) : State :=
  (chunksOf 64 bs).zipIdx.foldl (fun s e => s.writeHost ((s.box m).entryAt (start + e.2)) e.1) s

/-- Has a RECORD_OUT mailbox room for a record of n bytes (R416, R418)? -/
def roomFor (m n : Nat) (s : State) : Bool :=
  let b := s.box m
  b.enable && b.kind == 1 && b.held + (n + 63) / 64 ≤ b.size

/-- An item found no free entry: FULL_SEEN and DROPPED (R416-R418). -/
def countDropped (m : Nat) (s : State) : State :=
  let b := s.box m
  s.setBox m { b with fullSeen := true, dropped := wrap 32 (b.dropped + 1) }

/-- A record goes into a RECORD_OUT mailbox, or is dropped and counted (R416, R419); says whether it went. -/
def pushRecord (m : Nat) (bs : List Byte) (s : State) : Bool × State :=
  if roomFor m bs.length s then
    let n := (bs.length + 63) / 64
    let b := s.box m
    let s := writeEntries m b.producer (padEntries n bs) s
    (true, writeBack m n (s.setBox m { b with producer := wrap 32 (b.producer + n) }))
  else (false, countDropped m s)

/-- A reply goes into reply mailbox m; full, it overwrites the oldest unread entry (R416); disabled, it is discarded (R414). -/
def pushReply (m : Nat) (entry : List Byte) (s : State) : State :=
  let b := s.box m
  if b.enable then
    let b := if b.held < b.size then b
      else { b with consumer := wrap 32 (b.consumer + 1), dropped := wrap 32 (b.dropped + 1), fullSeen := true }
    let s := s.setBox m b
    let s := writeEntries m b.producer (padEntries 1 entry) s
    writeBack m 1 (s.setBox m { b with producer := wrap 32 (b.producer + 1) })
  else { s with host := { s.host with repliesDiscarded := sat 32 (s.host.repliesDiscarded + 1) } }

/-- An item goes into the next buffer of a BUFFER mailbox (R417): the index at which its entry was taken, or none. -/
def pushBuffer (m item : Nat) (bs : List Byte) (s : State) : Option Nat × State :=
  let b := s.box m
  if b.enable && b.kind == 2 && 0 < b.held then
    let at_ := b.entryAt b.consumer
    let e := Mem.readN s.hostMem at_ 24
    let bad := u64 e 0 % 64 ≠ 0 || u32 e 8 < 64 || 2 ^ 31 < u32 e 8 || u32 e 12 ≠ 0
    let short := u32 e 8 < bs.length
    let filled := !bad && !short
    let status := if bad then 2 else if short then 1 else 0
    let s := if filled then s.writeHost (u64 e 0) bs else s
    let s := s.writeHost (at_ + 24) (le 4 (if filled then bs.length else 0) ++ le 2 status ++ zeros 2 ++ le 8 item ++ zeros 24)
    let b' := { b with
      consumer := wrap 32 (b.consumer + 1)
      dropped := if filled then b.dropped else wrap 32 (b.dropped + 1) }
    (if filled then some b.consumer else none, writeBack m 1 (s.setBox m b'))
  else (none, countDropped m s)

/-! ### The unit tables of the sorting frame (R366) -/

def State.channel (s : State) (c : Nat) : Channel := Tab.get {} s.frame.channels c

def State.setChannel (c : Nat) (x : Channel) (s : State) : State :=
  { s with frame := { s.frame with channels := Tab.set {} s.frame.channels c x } }

def State.input (s : State) (i : Nat) : TaskInput := Tab.get {} s.frame.inputs i

def State.setInput (i : Nat) (x : TaskInput) (s : State) : State :=
  { s with frame := { s.frame with inputs := Tab.set {} s.frame.inputs i x } }

def State.bridge (s : State) (b : Nat) : Bridge := Tab.get {} s.frame.bridges b

def State.setBridge (b : Nat) (x : Bridge) (s : State) : State :=
  { s with frame := { s.frame with bridges := Tab.set {} s.frame.bridges b x } }

end Sys2Proof.Machine
end

