-- ==== Sys2Proof/Machine/LaneSend.lean ====
section
/-!
DEFINITION. Sys2Proof/Machine/LaneSend.lean: the lanes and their groups (R95), and what a lane's transmitter puts on the line: coded blocks,
the layer's striped over the group (R99, R101), with the injections of R116.
-/
namespace Sys2Proof.Machine

/-- A lane at reset: DETECT_WAKE is 1 on L48-L57 (R117). -/
def laneReset (l : Nat) : Lane := { detectWake := 48 ≤ l }

def State.lane (s : State) (l : Nat) : Lane := Tab.get (laneReset l) s.lanes.lanes l

def State.setLane (l : Nat) (x : Lane) (s : State) : State :=
  { s with lanes := { s.lanes with lanes := Tab.set (laneReset l) s.lanes.lanes l x } }

def modLane (l : Nat) (f : Lane → Lane) (s : State) : State := s.setLane l (f (s.lane l))

/-- The group of a lane: ports 0-11, chain upstream 12, chain downstream 13, twin 14 (R95). -/
def groupOf (l : Nat) : Nat := if l < 56 then l / 4 else 14

/-- The lanes of a group (R95). -/
def lanesOf (g : Nat) : List Nat :=
  if g < 14 then [4 * g, 4 * g + 1, 4 * g + 2, 4 * g + 3] else [56, 57]

/-- The state's code (R105). -/
def LaneState.code : LaneState → Nat
  | .off => 0 | .detect => 1 | .bitLock => 2 | .blockLock => 3 | .train => 4 | .deskew => 5
  | .caps => 6 | .active => 7 | .idle => 8 | .listen => 9 | .test => 10 | .backoff => 11

/-- Is the lane carrying its layer's traffic? -/
def LaneState.carries (x : LaneState) : Bool := x = .active || x = .listen

/-- Does a lane's transmitter send blocks: it is neither off nor dark, nor at its patterns (R96, R105, R115)? -/
def Lane.sends (x : Lane) : Bool :=
  !x.txDark && !(x.state = .off || x.state = .idle || x.state = .backoff || x.state = .listen || x.state = .test)

/-- A lane sends a block of eight bytes, coded. The first injection that waits acts on it: kind 1 flips a payload bit, which one is free, kind 2
inverts the sync header, kind 3 replaces a control block's type (R99, R116). One of kind 3 waits for a control block and holds back those behind
it (DESIGN CHOICE, assumption 109). -/
def sendBlock (l : Nat) (control : Bool) (payload : List Byte) (s : State) : State :=
  let x := s.lane l
  if !x.sends then s
  else
    let kind := x.injects.headD 0
    let acts := kind ≠ 0 && (kind ≠ 3 || control)
    let b := lineBlock control (if acts && kind = 3 then 0xFF#8 :: payload.drop 1 else payload) x.scr
    let f := if acts && kind = 1 then s.drawFree 64 else (0, s)
    let line := if acts && kind = 1 then b.1 ^^^ 2 ^ (2 + f.1) else if acts && kind = 2 then b.1 ^^^ 3 else b.1
    send .lane l (if control then u8 payload 0 else 0x100) (le 9 (if x.txInvert then line ^^^ (2 ^ 66 - 1) else line))
      (f.2.setLane l { x with scr := b.2, injects := if acts then x.injects.drop 1 else x.injects })

/-- A lane-layer block: a type and seven bytes (R100). -/
def sendControl (l type : Nat) (payload : List Byte) (s : State) : State := sendBlock l true (le 1 type ++ padTo 7 payload) s

/-- Do all the lanes of a group carry its layer's traffic both ways (R105, R106)? -/
def groupActive (g : Nat) (s : State) : Bool := (lanesOf g).all fun l => (s.lane l).state = .active

/-- The blocks of a layer go out striped, while the group is ACTIVE: block j on lane j mod N of the group, in the order of LANE_INDEX, which is
the lanes' own (R101, R105). -/
def sendLayer (g : Nat) (blocks : List (Bool × List Byte)) (s : State) : State :=
  if groupActive g s then
    blocks.foldl (fun s b =>
      let i := Tab.get 0 s.lanes.rows g
      let ls := lanesOf g
      sendBlock (nth 0 ls i) b.1 (padTo 8 b.2)
        { s with lanes := { s.lanes with rows := Tab.set 0 s.lanes.rows g ((i + 1) % ls.length) } }) s
  else s

/-- A frame as blocks: a control block of a type with the frame's first seven bytes, then data blocks (R120, R486, R506). -/
def frameBlocks (type : Nat) (bytes : List Byte) : List (Bool × List Byte) :=
  (true, le 1 type ++ padTo 7 (bytes.take 7)) :: (dataBlocks bytes.length (bytes.drop 7)).map fun b => (false, b)

end Sys2Proof.Machine
end

