-- ==== Sys2Proof/Machine/ChainLink.lean ====
section
/-!
DEFINITION. Sys2Proof/Machine/ChainLink.lean: the chain's frame layer as the rest of the block uses it: building and
sending a frame on one link or both (R486, R487), with the numbering and the hold of R488.
-/
namespace Sys2Proof.Machine

def State.link (s : State) (p : ChainPort) : Link :=
  match p with
  | .up => s.chain.upLink
  | .down => s.chain.downLink

def State.setLink (p : ChainPort) (l : Link) (s : State) : State :=
  match p with
  | .up => { s with chain := { s.chain with upLink := l } }
  | .down => { s with chain := { s.chain with downLink := l } }

end Sys2Proof.Machine
namespace Sys2Proof
open Machine

/-- A port's number in Sent records and CHAIN_LINK_LOST entries: 0 upstream, 1 downstream. -/
def ChainPort.number : ChainPort → Nat
  | .up => 0
  | .down => 1

/-- The other port of the package. -/
def ChainPort.other : ChainPort → ChainPort
  | .up => .down
  | .down => .up

end Sys2Proof
namespace Sys2Proof.Machine

/-- What a frame's CRC covers: FRAME_START bytes 1-7 and the payload (R486). -/
def frameBody (kind source dest seq : Nat) (payload : List Byte) : List Byte :=
  le 1 kind ++ le 1 source ++ le 1 dest ++ le 3 payload.length ++ le 1 seq ++ payload

/-- A frame's bytes: FRAME_START bytes 1-7, the payload and its CRC-32C (R486). -/
def frameBytes (kind source dest seq : Nat) (payload : List Byte) : List Byte :=
  let body := frameBody kind source dest seq payload
  body ++ le 4 (crc32c body).toNat

/-- A frame as the blocks that carry it: FRAME_START, the payload filled up with zeros to whole blocks, the CRC (R486, R506). -/
def linkBlocks (start : Nat) (frame : List Byte) : List (Bool × List Byte) :=
  let n := frame.length - 4
  let payload := (frame.take n).drop 7
  frameBlocks start (frame.take 7 ++ padTo ((payload.length + 7) / 8 * 8) payload ++ frame.drop n)

/-- The lane group of a chain port (R95). -/
def portGroup (p : ChainPort) : Nat := 12 + p.number

/-- A frame goes onto a chain link's lanes. -/
def putFrame (p : ChainPort) (frame : List Byte) (s : State) : State :=
  send .chain p.number (u8 frame 0) frame (sendLayer (portGroup p) (linkBlocks 0xC0 frame) s)

/-- A control block of the chain layer goes out: an ACK or a NAK once, a timing block or RESET on all four lanes (R488, R489). -/
def putControl (p : ChainPort) (type : Nat) (row : Bool) (bytes : List Byte) (s : State) : State :=
  let block := (true, le 1 type ++ padTo 7 bytes)
  send .chain p.number type bytes (sendLayer (portGroup p) (List.replicate (if row then 4 else 1) block) s)

/-- Frame kinds that pass before the link carries frames: enumeration and HELLO (R484, R485). -/
def opensLink (kind : Nat) : Bool := kind ≤ 0x03

/-- Sends a frame on one link and holds it until it is acknowledged, the last 32 (R486, R488); a link that does not
carry frames takes only enumeration and HELLO. -/
def sendFrame (p : ChainPort) (kind source dest : Nat) (payload : List Byte) (s : State) : State :=
  let l := s.link p
  if l.carries || opensLink kind then
    let f := frameBytes kind source dest l.txSeq payload
    putFrame p f (s.setLink p { l with
      txSeq := (l.txSeq + 1) % 256
      unacked := (l.unacked ++ [(l.txSeq, f)]).drop (l.unacked.length + 1 - 32) })
  else s

/-- Sends a frame towards a postcode: up to the lower ones, down to the higher ones, both ways for 0xFF (R487). -/
def routeFrame (kind source dest : Nat) (payload : List Byte) (s : State) : State :=
  if dest = 0xFF then sendFrame .down kind source dest payload (sendFrame .up kind source dest payload s)
  else if dest < s.chain.postcode then sendFrame .up kind source dest payload s
  else sendFrame .down kind source dest payload s

/-- ORIGIN: postcode, a reserved byte, and the source as COMMAND_REFUSED codes it (R486). -/
def originBytes (postcode ref : Nat) : List Byte := le 1 postcode ++ [0#8] ++ le 2 ref

end Sys2Proof.Machine
end

