-- ==== Sys2Proof/Machine/Packets.lean ====
section
/-!
DEFINITION. Sys2Proof/Machine/Packets.lean: command packets (chapter 02): the statuses, the shape of a command's
definition, the checks every packet passes (R34-R44, R51-R55), and the one reply every command gets (R46-R48).
-/
namespace Sys2Proof.Machine

/-! ### Statuses (R57) -/

def stDone : Nat := 0x0000
def stBadOpcode : Nat := 0x0001
def stBadLength : Nat := 0x0002
def stOutOfRange : Nat := 0x0003
def stWrongMode : Nat := 0x0004
def stLocked : Nat := 0x0005
def stBusy : Nat := 0x0006
def stNoSpace : Nat := 0x0007
def stPartial : Nat := 0x0008
def stStale : Nat := 0x0009
def stDenied : Nat := 0x000A
def stTimedOut : Nat := 0x000B
def stHwFault : Nat := 0x000C
def stAbsent : Nat := 0x000D
def stConflict : Nat := 0x000E
def stUnsafe : Nat := 0x000F
def stAborted : Nat := 0x0010

/-- The first status of a list that is not DONE. -/
def firstFault : List Nat → Nat
  | [] => stDone
  | x :: xs => if x = stDone then firstFault xs else x

/-! ### A command's definition -/

/-- A command as its meaning sees it: the packet, its own parameters (after the target mask of R38, if any) and the
indices, within their kind, of the blocks it names. -/
structure Call where
  op : Nat
  a : Args
  p : List Byte
  targets : List Nat

/-- The block a command with one target names, as an index within its kind. -/
def Call.target (c : Call) : Nat := c.targets.headD 0

/-- What a command comes to once every target has staged: its reply's own data and the new state; a refusal that is
found only then; a start whose reply comes with a later event; or the end of an irreversible command of several parts
under a status of its own (R49, R59). -/
inductive Result where
  | reply (data : List Byte) (s : State)
  | refuse (status : Nat)
  | later (s : State) (note : Nat)
  | ended (status : Nat) (data : List Byte) (s : State)

/-- A command: its opcode and everything its definition lays down. -/
structure CommandDef where
  opcode : Nat
  /-- The modes that accept it. -/
  modes : List Mode := awake
  /-- The values of PARAM_LENGTH it takes, its own parameters only. -/
  lengths : List Nat := []
  /-- A length that depends on the parameters. -/
  lenOk : List Byte → Bool := fun _ => false
  /-- It may use class Registered (R35). -/
  registered : Bool := false
  /-- It is of the Sentry subset (R44). -/
  sentry : Bool := false
  /-- The kinds of block it accepts, by base value; 0 is the package (R37). -/
  kinds : List Nat := [0x00]
  /-- 0xFE, 0xFF, where it accepts them. -/
  multi : List Nat := []
  /-- It changes no block. -/
  reads : Bool := false
  /-- The blocks it changes beside those it names, by BLOCK value (R52, R55). -/
  also : Call → State → List Nat := fun _ _ => []
  /-- The largest reply its parameters can produce (R42). -/
  replyMax : Call → Nat := fun _ => 0
  /-- The reply's own data of a command whose reply comes with a later event, as far as its start can tell (R34). -/
  foresees : Call → State → List Byte := fun _ _ => []
  /-- Staging on one target (R54): DONE or the status that fails it. -/
  check : Call → Nat → State → Nat := fun _ _ _ => 0
  commit : Call → State → Result
  /-- What a refusal itself changes (R57); never under CHECK_ONLY. -/
  onRefusal : Call → Nat → State → State := fun _ _ s => s
  /-- What staging reserves on one target until the command commits or is abandoned: bytes of DRAM, and an area of the vault with bytes
  there (R54). -/
  reserves : Call → Nat → State → Nat × Nat × Nat := fun _ _ _ => (0, 0, 0)
  /-- What a refusal before staging changes (R62); never under CHECK_ONLY, nor for a tag that is taken (R53). -/
  onEarlyRefusal : State → State := fun s => s

/-- How many blocks a kind has (R37). -/
def kindCount (base : Nat) : Nat :=
  match base with
  | 0x10 => 12 | 0x20 => 16 | 0x30 => 4 | 0x40 => 8 | 0x48 => 4 | 0x50 => 2 | 0x58 => 6 | _ => 1

/-- The kind a BLOCK value names a block of, by base (R37); none for the reserved values. -/
def blockBase (b : Nat) : Option Nat :=
  if b = 0 then some 0
  else [0x10, 0x20, 0x30, 0x40, 0x48, 0x50, 0x58].find? fun k => k ≤ b && b < k + kindCount k

/-- The kind a command with several targets acts on. -/
def CommandDef.manyBase (d : CommandDef) (a : Args) : Nat :=
  if a.block = 0xFE then u8 a.params 2 else (d.kinds.filter (· ≠ 0)).headD 0

/-- Is the BLOCK value one the command accepts (R37)? -/
def CommandDef.blockOk (d : CommandDef) (a : Args) : Bool :=
  if 0xFE ≤ a.block then d.multi.contains a.block
  else match blockBase a.block with
    | some k => d.kinds.contains k
    | none => false

/-- Is the target mask one of R38: a kind the command takes, not zero, no block the kind lacks? -/
def CommandDef.maskOk (d : CommandDef) (a : Args) : Bool :=
  a.block ≠ 0xFE ||
    (d.kinds.contains (u8 a.params 2) && u8 a.params 2 ≠ 0 && u16 a.params 0 ≠ 0
      && u16 a.params 0 < 2 ^ kindCount (u8 a.params 2) && zeroAt a.params 3 5)

/-- The call a packet makes. -/
def CommandDef.call (d : CommandDef) (a : Args) : Call :=
  { op := d.opcode
    a := a
    p := if a.block = 0xFE then a.params.drop 8 else a.params
    targets :=
      if a.block = 0xFE then setIndices 16 (u16 a.params 0)
      else if a.block = 0xFF then List.range (kindCount (d.manyBase a))
      else [a.block - (blockBase a.block).getD 0] }

/-- The BLOCK values a call's targets have. -/
def CommandDef.blocks (d : CommandDef) (a : Args) : List Nat :=
  if 0xFE ≤ a.block then (d.call a).targets.map (d.manyBase a + ·) else [a.block]

/-! ### Replies (R46-R48) -/

end Sys2Proof.Machine
namespace Sys2Proof
open Machine

/-- The number of a source: mailbox m, 16 the service port, 17 the chain (R50). -/
def Source.index : Source → Nat
  | .mailbox m => m
  | .service => 16
  | .chain _ _ => 17

/-- SOURCE as COMMAND_REFUSED and ORIGIN code it (R466, R486). -/
def Source.code : Source → Nat
  | .mailbox m => m
  | .service => 0x0100
  | .chain _ _ => 0x0200

/-- CHECK_ONLY (R34). -/
def Args.checkOnly (a : Args) : Bool := a.flags.testBit 0

/-- PARAM_BY_REF (R34). -/
def Args.byRef (a : Args) : Bool := a.flags.testBit 1

/-- Does the reply begin with a target result (R48)? -/
def Args.hasTargetResult (a : Args) : Bool := a.postcode = 0xFF || a.block = 0xFE

/-- The target mask of a packet whose BLOCK is 0xFE, as far as it came; otherwise no mask (R38). -/
def Args.mask (a : Args) : Nat := if a.block = 0xFE && 8 ≤ a.params.length then u16 a.params 0 else 0

/-- The BLOCK value of the lowest of the blocks that failed, by index; of the first block of the kind where BLOCK is 0xFF and the package failed
as a whole, of the packet's own BLOCK otherwise. DRAM_TRAIN and DRAM_TEST are the opcodes that accept 0xFF (R411). -/
def Args.lowestOf (a : Args) (op mask : Nat) : Nat :=
  let all := a.block = 0xFF && (op = 0x0B04 || op = 0x0B06)
  match setIndices 16 mask with
  | i :: _ => if all then 0x40 + i else if a.block = 0xFE then u8 a.params 2 + i else a.block
  | [] => if all then 0x40 else a.block

end Sys2Proof
namespace Sys2Proof.Machine

/-- The bit of a postcode in a package mask. -/
def packageBit (p : Nat) : Nat := if p < 16 then 2 ^ p else 0

/-- The target result of R48. -/
def targetResult (staged failed blocks status postcode block : Nat) : List Byte :=
  le 2 staged ++ le 2 failed ++ le 2 blocks ++ le 2 status ++ le 1 postcode ++ le 1 block ++ zeros 6

/-- The mask of a list of packages. -/
def packageMask (ps : List Nat) : Nat := maskOf (ps.filter fun p => p < 16)

/-- The status a forerunner reply carries in place of a native one (R64). -/
def frStatus (op status : Nat) : Nat :=
  if op / 256 = 0x7F then
    match status with
    | 0x000C => stTimedOut
    | 0x000D => stOutOfRange
    | 0x000E => stWrongMode
    | 0x000F => stDenied
    | 0x0010 => stBusy
    | x => x
  else status

/-- The reply header of R46. -/
def replyHeader (a : Args) (op status postcode len seq : Nat) : List Byte :=
  le 2 a.tag ++ le 2 status ++ le 2 op ++ le 1 postcode ++ le 1 a.block ++ le 2 len ++ zeros 2 ++ le 4 seq

/-- A command on every package, as a package other than the head has it: the head alone replies to it (R48, R54). -/
def headReplies (a : Args) (s : State) : Bool :=
  match a.src with
  | .chain _ _ => a.postcode = 0xFF && !s.chain.isHead
  | _ => false

/-- A reply's header and data go to where the command came from (R42, R43, R45, R46). -/
def putReply (a : Args) (h data : List Byte) (s : State) : State :=
  match a.src with
  | .mailbox m =>
    pushReply (16 + m) (h ++ data.take 48)
      (if 48 < data.length && data.length ≤ a.replySize then s.writeHost a.replyAddr data else s)
  | .service =>
    { s with sys := { s.sys with service := { s.sys.service with busy := false, ready := true, reply := h ++ data } } }
  | .chain o r =>
    if s.chain.isHead then routeFrame 0x11 s.chain.postcode o (originBytes o r ++ h ++ data) s
    else sendFrame .up 0x11 s.chain.postcode 0 (originBytes o r ++ h ++ data) s

/-- The next reply number of a source is used up (R46). -/
def countReply (k : Nat) (s : State) : State :=
  { s with sys := { s.sys with seqs := Tab.set 0 s.sys.seqs k (wrap 32 (Tab.get 0 s.sys.seqs k + 1)) } }

/-- COMMAND_REFUSED (R57, R466). -/
def journalRefusal (a : Args) (op status : Nat) (s : State) : State :=
  journal 0x0005 a.block 94
    (le 2 op ++ le 2 status ++ le 2 a.src.code ++ le 2 a.tag ++ le 1 s.chain.postcode) s

/-- Writes a reply to where its command came from, and journals a refusal. -/
def sendReply (a : Args) (op status : Nat) (data : List Byte) (s : State) : State :=
  if headReplies a s then s else
  let h := replyHeader a op (frStatus op status) s.chain.postcode data.length (Tab.get 0 s.sys.seqs a.src.index)
  let s := putReply a h data (countReply a.src.index s)
  if status = stDone || status = stPartial then s else journalRefusal a op status s

/-- The data of a reply that succeeded: the target result first, where R48 asks for it. -/
def okData (a : Args) (data : List Byte) (s : State) : List Byte :=
  if a.hasTargetResult then
    targetResult (if a.postcode = 0xFF && 1 < s.chain.size then 2 ^ s.chain.size - 1 else packageBit s.chain.postcode) 0 0 0 0 0 ++ data
  else data

/-- The reply to a command that failed staging on one package: the blocks that failed and the first of them, by their indices. The statuses of a
forerunner reply's target result are mapped as its header's is (R48, R64). -/
def failData (op : Nat) (a : Args) (status failedMask postcode : Nat) : List Byte :=
  if a.hasTargetResult then
    targetResult 0 (packageBit postcode) (if a.block = 0xFE then failedMask else 0) (frStatus op status) postcode (a.lowestOf op failedMask)
  else []

/-- The reply to a command that failed as a whole on one package: every block it names there failed (R48). -/
def failWhole (op : Nat) (a : Args) (status postcode : Nat) : List Byte := failData op a status a.mask postcode

/-! ### Commands on the whole chain, at the head (R48, R54-R56) -/

/-- The origin a COMMAND frame names for a packet: this package's own source, or the one it was relayed for. -/
def originOf (a : Args) (s : State) : Nat × Nat :=
  match a.src with
  | .chain o r => (o, r)
  | x => (s.chain.postcode, x.code)

/-- The payload of COMMIT, ABORT and COMMIT_ACK (R486). -/
def commitBody (origin ref tag : Nat) : List Byte := originBytes origin ref ++ le 2 tag ++ zeros 2

/-- That of the frames about a command. -/
def chainBody (a : Args) (s : State) : List Byte := commitBody (originOf a s).1 (originOf a s).2 a.tag

/-- The payload of STAGED: STATUS, and the blocks that failed by index (R486). -/
def stagedBody (a : Args) (status blocks : Nat) (s : State) : List Byte :=
  originBytes (originOf a s).1 (originOf a s).2 ++ le 2 a.tag ++ le 2 status ++ le 2 blocks ++ zeros 6

/-- The commands that a frame of staging names by ORIGIN and TAG. -/
def namedBy (a : Args) (origin ref tag : Nat) (s : State) : Bool := a.tag = tag && originOf a s = (origin, ref)

/-- The chain-wide command of the head for a packet. -/
def State.chainCmdOf (a : Args) (s : State) : Option ChainCmd := s.sys.chainCmds.find? fun c => c.args = a

/-- The chain-wide command stands as given; a new one goes last. -/
def setChainCmd (c : ChainCmd) (s : State) : State :=
  let xs := s.sys.chainCmds
  let xs := if xs.any (fun x => x.args = c.args) then xs.map fun x => if x.args = c.args then c else x else xs ++ [c]
  { s with sys := { s.sys with chainCmds := xs } }

/-- The chain-wide command is no longer outstanding at the head. -/
def dropChainCmd (c : ChainCmd) (s : State) : State :=
  { s with sys := { s.sys with chainCmds := s.sys.chainCmds.filter fun x => x.args ≠ c.args } }

/-- A staged change stands no longer: it has been committed or discarded. -/
def dropStaged (a : Args) (s : State) : State := { s with sys := { s.sys with staged := s.sys.staged.filter fun x => x.args ≠ a } }

/-- A KEY_RESPONSE that ends without having been checked consumes the challenge all the same (R62). -/
def loseChallenge (op : Nat) (a : Args) (s : State) : State :=
  if op = 0x0006 && !a.checkOnly then { s with sys := { s.sys with challenge := none } } else s

/-- A staged change is discarded (R54, R56, R62). -/
def discardStaged (x : Staged) (s : State) : State := loseChallenge x.op x.args (dropStaged x.args s)

/-- A chain-wide command ends at the head without every package (R48, R55, R56); `status` also stands for a package that has not
answered. -/
def endChainCmd (status staged failed : Nat) (c : ChainCmd) (s : State) : State :=
  let s := dropStaged c.args (dropChainCmd c s)
  let s := if c.committed then s else loseChallenge c.op c.args s
  let s : State := { s with sys := { s.sys with
    started := if c.later then s.sys.started.filter fun x => !(x.op = c.op && x.args = c.args) else s.sys.started } }
  let first := (List.range 16).find? fun p => failed.testBit p
  let at_ := ((c.failed.find? fun e => some e.1 = first).map (·.2)).getD (status, c.args.mask)
  sendReply c.args c.op status
    (targetResult staged failed (if c.args.block = 0xFE then (c.failed.map fun e => e.2.2).foldl (fun a b => a ||| b) 0 else 0)
      (frStatus c.op at_.1) (first.getD 0) (c.args.lowestOf c.op at_.2)) s

/-- A committed chain-wide command goes on: once every package has acknowledged the commit and the head's own part has ended, the reply is
written (R48, R56). A part that fails after the commit, which only a part that works on a medium can, fails the command as R48 says, with the
first failure by postcode (DEDUCED, assumption 76). -/
def chainCommitted (c : ChainCmd) (s : State) : State :=
  let own := s.chain.postcode
  if c.later || !((List.range s.chain.size).all fun p => p = own || c.acked.contains p || c.failed.any fun e => e.1 = p) then setChainCmd c s
  else
    let bad := c.failed ++ if c.status = stDone || c.status = stPartial then [] else [(own, c.status, c.args.mask)]
    match sortBy (fun e : Nat × Nat × Nat => e.1) bad with
    | [] => sendReply c.args c.op c.status (if c.status = stPartial then c.data else okData c.args c.data s) (dropChainCmd c s)
    | e :: _ =>
      let failed := packageMask (bad.map (·.1))
      endChainCmd e.2.1 (2 ^ s.chain.size - 1 - failed) failed { c with failed := bad } s

/-- A command that has started ends: it is no longer outstanding, and its reply is written (R47, R53). One that is not outstanding has had its
reply. Of a command on the whole chain the head keeps its own part for the reply to come; another package answers the head, with COMMIT_ACK or,
if its part has failed, with STAGED under its status (R56; DEDUCED, assumption 76). -/
def finishStarted (x : Started) (status : Nat) (data : List Byte) (s : State) : State :=
  if !s.sys.started.contains x then s
  else
    let s := { s with sys := { s.sys with started := s.sys.started.erase x } }
    if x.relayed then
      sendReply x.args x.op status (failWhole x.op x.args status (if x.args.postcode < 16 then x.args.postcode else s.chain.postcode)) s
    else if headReplies x.args s then
      if status = stDone || status = stPartial then sendFrame .up 0x15 s.chain.postcode 0 (chainBody x.args s) s
      else sendFrame .up 0x12 s.chain.postcode 0 (stagedBody x.args status x.args.mask s) (journalRefusal x.args x.op status s)
    else match s.chainCmdOf x.args with
      | some c => if c.committed then chainCommitted { c with later := false, status := status, data := data } s else s
      | none => sendReply x.args x.op status (if status = stDone then okData x.args data s else if status = stPartial then data
          else failWhole x.op x.args status s.chain.postcode ++ data) s

/-- The command with an opcode and a property that has started here, if any. -/
def findStarted (op : Nat) (q : Started → Bool) (s : State) : Option Started :=
  s.sys.started.find? fun x => x.op = op && !x.relayed && q x

/-- Ends the started command with an opcode and a property, if there is one. -/
def finishOne (op : Nat) (q : Started → Bool) (status : Nat) (data : List Byte) (s : State) : State :=
  match findStarted op q s with
  | some x => finishStarted x status data s
  | none => s

/-! ### The checks every packet passes -/

/-- Has enumeration completed: the package has its postcode, and none is in progress (R36)? -/
def Chain.enumerated (c : Chain) : Bool := c.postcode ≠ 0xFF && !c.enumerating

/-- Is a packet meant for this package, alone or among others (R36)? -/
def reaches (a : Args) (s : State) : Bool :=
  a.postcode = 0xFE || (s.chain.enumerated
    && (a.postcode = 0xFF || (a.postcode < min 16 s.chain.size && a.postcode = s.chain.postcode)))

/-- The checks of the header alone (R6, R34-R36, R40, R43). R40 names no status for an inline mailbox entry whose PARAM_LENGTH exceeds
48 bytes: it gets BAD_LENGTH (DESIGN CHOICE, assumption 76). -/
def headerStatus (a : Args) (s : State) : Nat :=
  if a.resv ≠ 0 || 8 ≤ a.flags then stBadLength
  else if a.flags.testBit 2 && a.src.code ≠ 0x0200 then stOutOfRange
  else if 3 < a.cls then stOutOfRange
  else if 16 ≤ a.postcode && a.postcode < 0xFE then stOutOfRange
  else if a.byRef && a.src = .service then stOutOfRange
  else if a.byRef && (a.paramAddr % 64 ≠ 0 || (a.replySize ≠ 0 && a.replyAddr % 64 ≠ 0) || !a.tailZero) then stOutOfRange
  else if !a.byRef && a.src.index < 16 && 48 < a.plen then stBadLength
  else if a.postcode ≠ 0xFE && (!s.chain.enumerated || (a.postcode ≠ 0xFF && s.chain.size ≤ a.postcode)) then stAbsent
  else stDone

/-- Is a tag already outstanding from the same source, among the commands that have started, that wait, or that the head is staging on the
chain (R53)? Relayed commands are told apart by the origin and reference their frames carry (DEDUCED, assumption 77). -/
def tagTaken (a : Args) (s : State) : Bool :=
  let same := fun b : Args => b.src = a.src && b.tag = a.tag
  s.sys.started.any (fun x => same x.args) || s.sys.waiting.any (fun x => same x.args)
    || s.sys.chainCmds.any fun c => same c.args

/-- The room a reply has: the buffer or the entry over PCIe, 256 bytes on the service port (R42, R43). -/
def replyFits (a : Args) (n : Nat) : Bool :=
  match a.src with
  | .mailbox _ => n ≤ 48 || n ≤ a.replySize
  | .service => 16 + n ≤ 256
  | .chain _ _ => true

/-- The blocks a command changes on one of its targets: the target and what its definition adds (R52, R55). -/
def CommandDef.changesOn (d : CommandDef) (a : Args) (i : Nat) (s : State) : List Nat :=
  if d.reads then []
  else (if 0xFE ≤ a.block then d.manyBase a + i else a.block) :: d.also { d.call a with targets := [i] } s

/-- The blocks a command changes. -/
def CommandDef.changes (d : CommandDef) (a : Args) (s : State) : List Nat := (d.call a).targets.flatMap fun i => d.changesOn a i s

/-- Does a command wait for no block? FORCE_SAFE never waits (R75). SET_MODE, ENTER_SENTRY and RESET, which act on every block, and CANCEL, which
acts on a command, neither hold the package nor wait for it: SET_MODE and ENTER_SENTRY have the waiting of R75 (DEDUCED, assumption 106). -/
def CommandDef.free (d : CommandDef) : Bool := [0x0004, 0x0100, 0x0101, 0x0105, 0x0106].contains d.opcode

/-- The blocks that a command which goes on after its start holds until it ends (R52). CAL_RUN and COMP_JOB name the package, but what they
change is the calibration run and the engines, which their own chapters give out (R440, R527; DEDUCED, assumption 106). -/
def CommandDef.keeps (d : CommandDef) (a : Args) (s : State) : List Nat :=
  if d.free || d.opcode = 0x0D00 || d.opcode = 0x1200 then [] else d.changes a s

/-- A block that a staged change holds (R55). -/
def stagedHolds (d : CommandDef) (s : State) (b : Nat) : Bool := d.opcode ≠ 0x0106 && s.sys.staged.any fun x => x.holds.contains b

/-- A block that a command which has started and not ended holds (R52). A Registered command does not wait for the package as a whole, which R35
gives it 10 us to act on (DEDUCED, assumption 106). -/
def startedHolds (a : Args) (s : State) (b : Nat) : Bool := !(b = 0 && a.cls = 0) && s.sys.started.any fun x => x.holds.contains b

/-- A ledger export over every package: the one command whose parts are packages (R59, R315). -/
def exportsAll (d : CommandDef) (a : Args) (s : State) : Bool := d.opcode = 0x0715 && a.postcode = 0xFF && 1 < s.chain.size

/-- The largest reply a packet can get, its target result included (R42, R48). -/
def replyNeeds (d : CommandDef) (a : Args) (s : State) : Nat :=
  (if exportsAll d a s then s.chain.size * d.replyMax (d.call a) else d.replyMax (d.call a)) + if a.hasTargetResult then 16 else 0

/-- Has a packet a length its opcode takes (R57)? -/
def lengthOk (d : CommandDef) (a : Args) : Bool :=
  let own := a.plen - (if a.block = 0xFE then 8 else 0)
  a.plen = a.params.length && !(a.block = 0xFE && a.plen < 8) && (d.lengths.contains own || d.lenOk (d.call a).p)

/-- The checks that do not depend on the package's mode or on what is staged there: class, block, tag, parameter buffer, length, mask and room
for the reply (R35, R37, R38, R42, R43, R53, R422). -/
def packetStatus (d : CommandDef) (a : Args) (s : State) : Nat :=
  if a.cls = 0 && !d.registered then stOutOfRange
  else if !d.blockOk a then stOutOfRange
  else if tagTaken a s then stConflict
  else if !a.refOk then stHwFault
  else if !lengthOk d a then stBadLength
  else if !d.maskOk a then stOutOfRange
  else if !replyFits a (replyNeeds d a s) then stNoSpace
  else stDone

/-- The checks of a command this package knows, up to its staging (R35, R37, R38, R42, R44, R51, R53, R422). -/
def commandStatus (d : CommandDef) (a : Args) (s : State) : Nat :=
  if s.mode = .sentry && !d.sentry then stWrongMode
  else if a.cls = 0 && !d.registered then stOutOfRange
  else if !d.blockOk a then stOutOfRange
  else if tagTaken a s then stConflict
  else if !a.refOk then stHwFault
  else if !d.modes.contains s.mode then stWrongMode
  else if !lengthOk d a then stBadLength
  else if !d.maskOk a then stOutOfRange
  else if !replyFits a (replyNeeds d a s) then stNoSpace
  else stDone

/-- Staging on every target: each with its status, BUSY where a staged change holds a block the command would change there (R54, R55). -/
def stageAll (d : CommandDef) (a : Args) (s : State) : List (Nat × Nat) :=
  (d.call a).targets.map fun i =>
    (i, if (d.changesOn a i s).any (stagedHolds d s) then stBusy else d.check (d.call a) i s)

/-- The status of a command's staging: the first failure in ascending block. -/
def stageStatus (xs : List (Nat × Nat)) : Nat := firstFault (xs.map (·.2))

/-- The mask of the targets that failed. -/
def failedMask (xs : List (Nat × Nat)) : Nat := maskOf ((xs.filter (fun e => e.2 ≠ stDone)).map (·.1))

/-- A command goes on after its start: what it changes, judged on the state it found, is held until it ends (R52). -/
def beginStarted (d : CommandDef) (a : Args) (note : Nat) (before s : State) : State :=
  { s with sys := { s.sys with started := s.sys.started ++ [{ op := d.opcode, args := a, note := note, holds := d.keeps a before }] } }

/-- The command commits: its effect and its reply, or its start (R54). Under CHECK_ONLY only the reply is kept, which has the status and the
data a real command would have returned; a command whose reply would come with a later event answers DONE (R34; DEDUCED, assumption 76). -/
def commitCommand (d : CommandDef) (a : Args) (s : State) : State :=
  let c := d.call a
  match d.commit c s with
  | .reply data s' => if a.checkOnly then sendReply a d.opcode stDone (okData a data s) s
      else sendReply a d.opcode stDone (okData a data s') s'
  | .refuse st => sendReply a d.opcode st (failWhole d.opcode a st s.chain.postcode) (if a.checkOnly then s else d.onRefusal c st s)
  | .later s' note => if a.checkOnly then sendReply a d.opcode stDone (okData a (d.foresees c s) s) s
      else beginStarted d a note s s'
  | .ended st data s' =>
      let t := if a.checkOnly then s else s'
      sendReply a d.opcode st
        (if st = stDone then okData a data t else if st = stPartial then data else failWhole d.opcode a st t.chain.postcode) t

/-- A command is refused before any target has staged: the package as a whole has failed. -/
def refuse (op status : Nat) (a : Args) (s : State) : State :=
  sendReply a op status (failWhole op a status s.chain.postcode) s

/-- The packet as a COMMAND frame's payload carries it: the header with RELAYED as given, then the parameters (R486, R492). -/
def packetBytes (op : Nat) (a : Args) (relayed : Bool) : List Byte :=
  le 2 op ++ le 1 (a.flags % 4 + if relayed then 4 else 0) ++ le 1 a.cls ++ le 2 a.tag ++ le 1 a.postcode ++ le 1 a.block
    ++ le 2 a.plen ++ zeros 6 ++ a.params

/-- Relays a packet towards another package: the head down to DEST with RELAYED set, any other up to the head (R45, R492). A
package beyond a link that carries no frames is ABSENT (R497). The command stays outstanding until its reply comes back. -/
def relay (op : Nat) (a : Args) (s : State) : State :=
  let o := originOf a s
  let body := originBytes o.1 o.2 ++ packetBytes op a s.chain.isHead
  let p : ChainPort := if s.chain.isHead then .down else .up
  if (s.link p).carries then
    let s := sendFrame p 0x10 s.chain.postcode a.postcode body s
    { s with sys := { s.sys with started := s.sys.started ++ [{ op := op, args := a, relayed := true }] } }
  else refuse op stAbsent a s

/-! ### A ledger export over every package (R49, R59, R315) -/

/-- The reference that the head's own export frames carry in ORIGIN. -/
def exportRef : Nat := 0x0300

/-- The per-part records of R49. -/
def exportParts (ps : List (Nat × Nat)) : List Byte :=
  le 2 ps.length ++ zeros 2 ++ ps.zipIdx.flatMap fun e => le 2 e.2 ++ le 2 e.1.1 ++ le 4 e.1.2

/-- A part of an export ends; the head goes on with the next package, or replies. R48 and R49 both say what the data of a PARTIAL reply
begin with; it begins with the part records, and the target result is left out (DESIGN CHOICE, assumption 76). -/
def exportStep (status units : Nat) (data : List Byte) (s : State) : State :=
  match s.chain.exporting with
  | none => s
  | some x =>
    let x := { x with parts := x.parts ++ [(status, units)], data := x.data ++ data, next := x.next + 1 }
    let more := status = stDone && x.next < s.chain.size
    if more && s.chain.downLink.carries then
      let s := sendFrame .down 0x10 s.chain.postcode x.next
        (originBytes s.chain.postcode exportRef ++ packetBytes 0x0715 { x.args with postcode := x.next } true) s
      { s with chain := { s.chain with exporting := some x } }
    else
      let ps := if more then x.parts ++ [(stAbsent, 0)] else x.parts
      let s : State := { s with
        chain := { s.chain with exporting := none }
        sys := { s.sys with started := s.sys.started.filter fun y => !(y.op = 0x0715 && y.args = x.args) } }
      if ps.all (fun e => e.1 = stDone) then sendReply x.args 0x0715 stDone (okData x.args x.data s) s
      else if ps.any (fun e => e.1 = stDone) then sendReply x.args 0x0715 stPartial (exportParts ps ++ x.data) s
      else sendReply x.args 0x0715 ((ps.headD (0, 0)).1) (failWhole 0x0715 x.args ((ps.headD (0, 0)).1) s.chain.postcode) s

/-- The head runs its own part first; under CHECK_ONLY, which every part's packet carries, the part changes nothing (R34). -/
def exportStart (d : CommandDef) (a : Args) (s : State) : State :=
  let s : State := { s with
    chain := { s.chain with exporting := some { args := a } }
    sys := { s.sys with started := s.sys.started ++ [{ op := d.opcode, args := a }] } }
  let keep := fun s' : State => if a.checkOnly then s else s'
  let own := { a with postcode := 0xFE }
  let st := if d.modes.contains s.mode then stageStatus (stageAll d own s) else stWrongMode
  if st ≠ stDone then exportStep st 0 [] s
  else match d.commit (d.call own) s with
  | .reply data s' => exportStep stDone (u32 data 4) data (keep s')
  | .refuse st => exportStep st 0 [] s
  | .later s' _ => exportStep stDone 0 [] (keep s')
  | .ended st data s' => exportStep st (u32 data 4) data (keep s')

/-- Staging of a chain-wide command on one package, target by target. Its answer is due within 2 ms, so that it cannot wait for a started command:
a target that one holds is BUSY (R52, R55; DEDUCED, assumption 106). -/
def stageWide (d : CommandDef) (a : Args) (s : State) : List (Nat × Nat) :=
  (stageAll d a s).map fun e =>
    if !a.checkOnly && !d.free && (d.changesOn a e.1 s).any (startedHolds a s) then (e.1, stBusy) else e

/-- The status of staging as a whole, on a package that the packet itself has reached in order: its mode, its targets, and a refusal that a
commit would find, since a commit cannot fail (R51, R54, R55). A block that a started command holds is answered BUSY and not waited for (DEDUCED,
assumption 106). -/
def stagingStatus (d : CommandDef) (a : Args) (xs : List (Nat × Nat)) (s : State) : Nat :=
  if !d.modes.contains s.mode then stWrongMode
  else
    let st := stageStatus xs
    if st = stDone then
      match d.commit (d.call a) s with
      | .refuse x => x
      | _ => stDone
    else st

/-- The blocks, by index, that failed in staging; where the package failed as a whole, all that a target mask names (R48). -/
def stagingMask (d : CommandDef) (a : Args) (st : Nat) (xs : List (Nat × Nat)) (s : State) : Nat :=
  if st = stDone then 0
  else if d.modes.contains s.mode && stageStatus xs ≠ stDone then failedMask xs
  else a.mask

/-- What a refusal in staging itself changes; never under CHECK_ONLY (R57). -/
def refusedStaging (d : CommandDef) (a : Args) (st : Nat) (s : State) : State :=
  if st = stDone || a.checkOnly then s else d.onRefusal (d.call a) st s

/-- The change stands staged: its blocks are held and its resources reserved (R54, R55). -/
def holdStaged (d : CommandDef) (a : Args) (s : State) : State :=
  let rs := (d.call a).targets.map fun i => d.reserves (d.call a) i s
  { s with sys := { s.sys with staged := s.sys.staged ++ [{
    op := d.opcode
    args := a
    holds := d.changes a s
    dram := sumNat (rs.map (·.1))
    area := ((rs.map (·.2.1)).headD 0, sumNat (rs.map (·.2.2))) }] } }

/-- The head starts a chain-wide command: it stages on its own package and relays it to every other (R48, R54). -/
def chainWide (d : CommandDef) (a : Args) (s : State) : State :=
  let xs := stageWide d a s
  let st := stagingStatus d a xs s
  let mask := stagingMask d a st xs s
  let own := s.chain.postcode
  let t := refusedStaging d a st s
  if s.chain.downLink.carries then
    let t := if st = stDone then holdStaged d a t else t
    let t := sendFrame .down 0x10 own 0xFF (originBytes (originOf a s).1 (originOf a s).2 ++ packetBytes d.opcode a true) t
    setChainCmd {
      op := d.opcode
      args := a
      staged := if st = stDone then [own] else []
      failed := if st = stDone then [] else [(own, st, mask)]
      since := s.now
      awaited := (List.range s.chain.size).filter (· ≠ own) } t
  else
    let others := 2 ^ s.chain.size - 1 - packageBit own
    let blocks := if a.block = 0xFE then mask else 0
    if st = stDone then
      sendReply a d.opcode stAbsent
        (targetResult (packageBit own) others 0 (frStatus d.opcode stAbsent) 1 (a.lowestOf d.opcode a.mask)) (loseChallenge d.opcode a t)
    else sendReply a d.opcode st
      (targetResult 0 (others + packageBit own) blocks (frStatus d.opcode st) own (a.lowestOf d.opcode mask)) t

/-- A package other than the head stages a chain-wide command and answers STAGED (R54, R492). -/
def stageForChain (d : CommandDef) (a : Args) (s : State) : State :=
  let pre := packetStatus d a s
  let xs := if pre = stDone then stageWide d a s else []
  let st := if pre = stDone then stagingStatus d a xs s else pre
  let mask := if pre = stDone then stagingMask d a st xs s else a.mask
  let t := if pre = stDone then refusedStaging d a st s
    else if a.checkOnly || tagTaken a s then s else d.onEarlyRefusal s
  let t := if st = stDone then holdStaged d a t else journalRefusal a d.opcode st t
  sendFrame .up 0x12 s.chain.postcode 0 (stagedBody a st mask s) t

/-- A package stages a chain-wide command whose opcode it does not know: the answer is BAD_OPCODE (R54, R60). -/
def stageUnknown (op : Nat) (a : Args) (s : State) : State :=
  let s := journalRefusal a op stBadOpcode s
  sendFrame .up 0x12 s.chain.postcode 0 (stagedBody a stBadOpcode a.mask s) s

/-- A command this package knows starts: checks, staging, commit, one reply (R34-R57). A chain-wide one is tried on every package, whatever
the head itself would answer (R54). -/
def startKnown (d : CommandDef) (a : Args) (s : State) : State :=
  let wide := a.postcode = 0xFF && 1 < s.chain.size && !exportsAll d a s
  let st := if wide then packetStatus d a s else commandStatus d a s
  if st ≠ stDone then
    refuse d.opcode st a (if a.checkOnly || tagTaken a s then s else d.onEarlyRefusal s)
  else if exportsAll d a s then
    if s.chain.exporting.isSome then refuse d.opcode stBusy a s else exportStart d a s
  else if wide then chainWide d a s
  else
    let xs := stageAll d a s
    let st := stageStatus xs
    if st = stDone then commitCommand d a s
    else
      sendReply a d.opcode st (failData d.opcode a st (failedMask xs) s.chain.postcode) (refusedStaging d a st s)

/-- A packet for another package leaves, unless its tag is taken or its source has no room for the reply (R42, R43, R53). -/
def relayFrom (d : Option CommandDef) (op : Nat) (a : Args) (s : State) : State :=
  if tagTaken a s then refuse op stConflict a s
  else match d with
    | some d => if lengthOk d a && !replyFits a (replyNeeds d a s) then refuse op stNoSpace a s else relay op a s
    | none => relay op a s

/-- A packet starts (R50): here, or by relay to the package it names (R45). d is its definition here, if any. -/
def startPacket (d : Option CommandDef) (op : Nat) (a : Args) (s : State) : State :=
  let st := headerStatus a s
  if st ≠ stDone then
    refuse op st a (match d with
      | some d => if a.checkOnly || !reaches a s then s else d.onEarlyRefusal s
      | none => s)
  else if a.postcode = 0xFF && 1 < s.chain.size && !s.chain.isHead then
    match a.src, d with
    | .chain _ _, some d => stageForChain d a s
    | .chain _ _, none => stageUnknown op a s
    | _, _ => relayFrom d op a s
  else if a.postcode < 16 && a.postcode ≠ s.chain.postcode then relayFrom d op a s
  else match d with
    | some d => startKnown d a s
    | none => refuse op (if s.mode = .sentry then stWrongMode else stBadOpcode) a s

/-- Must a command wait for one that has started and holds a block it changes (R52)? It waits where the second command would otherwise run: on this
package, with a packet in order, and not where its own chapter answers BUSY to a second of its kind; what else it may be refused for is judged
when it starts, on what the first has left (DEDUCED, assumption 106). -/
def mustWait (d : Option CommandDef) (a : Args) (s : State) : Bool :=
  match d with
  | none => false
  | some d =>
    !d.free && (d.changes a s).any (startedHolds a s) && !a.checkOnly && headerStatus a s = stDone
      && (a.postcode = 0xFE || a.postcode = s.chain.postcode || (a.postcode = 0xFF && (s.chain.size ≤ 1 || s.chain.isHead)))
      && packetStatus d a s = stDone && stageStatus (stageAll d a s) ≠ stBusy

/-- Does the Sentry interpreter take a packet: one of the service port in SENTRY (R44)? -/
def interpreted (a : Args) (s : State) : Bool := s.mode = .sentry && a.src = .service

/-- May a packet start in a pause? A Registered one does, and a WAKE in SENTRY, which always wakes (R79, R91). -/
def startsInPause (op : Nat) (a : Args) (s : State) : Bool := !s.modes.pause || a.cls = 0 || (op = 0x0102 && interpreted a s)

/-- May a packet start now? Firmware must run (in SENTRY the Sentry interpreter answers the service port, R44), and no packet of its class or a
higher one may wait ahead of it (R50); a pause holds what it holds (R91). -/
def mayStart (op : Nat) (a : Args) (s : State) : Bool :=
  (s.sys.fwRunning || interpreted a s) && s.sys.waiting.all (fun x => a.cls < x.args.cls) && startsInPause op a s

/-- A command mailbox that holds entries gives one up: C advances and is written back (R419). -/
def takeEntry (src : Source) (s : State) : State :=
  match src with
  | .mailbox m =>
    let b := s.box m
    if s.sys.fwRunning && b.enable && 0 < b.held && m < 16 then writeBack m 1 (s.setBox m { b with consumer := wrap 32 (b.consumer + 1) }) else s
  | _ => s

/-- A packet arrives: it starts, or it waits its turn (R50); a tag that is outstanding is refused at once (R53). Before firmware runs, a
packet is not taken (R67). -/
def arrive (d : Option CommandDef) (op : Nat) (a : Args) (s : State) : State :=
  if mayStart op a s && !mustWait d a s then startPacket d op a s
  else if s.sys.fwRunning || interpreted a s then
    if tagTaken a s then refuse op stConflict a s
    else { s with sys := { s.sys with waiting := s.sys.waiting ++ [{ op := op, args := a }] } }
  else s

/-- May the service port take a packet? Not while BUSY or REPLY_READY is set, nor before firmware runs (R43, R67). -/
def serviceFree (s : State) : Bool :=
  !s.sys.service.busy && !s.sys.service.ready && (s.sys.fwRunning || s.mode = .sentry)

def modService (f : Service → Service) (s : State) : State := { s with sys := { s.sys with service := f s.sys.service } }

/-- A packet comes in: by the service port, if it is free, the frame being ignored otherwise (R43); or by any other source. -/
def takePacket (d : Option CommandDef) (op : Nat) (a : Args) (s : State) : State :=
  if a.src = .service then
    if serviceFree s then arrive d op a (modService (fun x => { x with busy := true, reply := [] }) s)
    else modService (fun x => { x with refused := true }) s
  else arrive d op a (takeEntry a.src s)

/-- The packet of a command row comes in. -/
def runCommand (d : CommandDef) (a : Args) (s : State) : State :=
  takePacket (some d) d.opcode a (s.begin a.t)

end Sys2Proof.Machine
end

