-- ==== Sys2Proof/Machine/Units.lean ====
section
/-!
DEFINITION. Sys2Proof/Machine/Units.lean: one reader and one writer for every sparse table of State, unit by unit. A
table's default, which the reader gives for a unit not listed, is that unit's reset value.
-/
namespace Sys2Proof.Machine

/-- An encoder channel after POR: E4 and E5 are disabled SSI channels of 25 bits, 1 us recovery, 1,000 kHz (R173). -/
def encoderReset (q : Nat) : Encoder :=
  if q < 4 then {} else { enable := false, minEdge := 0, ssiBits := 25, ssiRecovery := 2, ssiClock := 1000 }


/-- A sensor port's front end. -/
def State.port (s : State) (n : Nat) : Port := Tab.get {} s.ports n

def State.setPort (n : Nat) (x : Port) (s : State) : State :=
  { s with ports := Tab.set {} s.ports n x }

def modPort (n : Nat) (f : Port → Port) (s : State) : State := s.setPort n (f (s.port n))

/-- A port's photometric correction. -/
def State.photo (s : State) (n : Nat) : Photo := Tab.get {} s.photos n

def State.setPhoto (n : Nat) (x : Photo) (s : State) : State :=
  { s with photos := Tab.set {} s.photos n x }

def modPhoto (n : Nat) (f : Photo → Photo) (s : State) : State := s.setPhoto n (f (s.photo n))

/-- An encoder channel. -/
def State.encoder (s : State) (n : Nat) : Encoder := Tab.get (encoderReset n) s.pos.encoders n

def State.setEncoder (n : Nat) (x : Encoder) (s : State) : State :=
  { s with pos := { s.pos with encoders := Tab.set (encoderReset n) s.pos.encoders n x } }

def modEncoder (n : Nat) (f : Encoder → Encoder) (s : State) : State := s.setEncoder n (f (s.encoder n))

/-- A latch unit. -/
def State.latch (s : State) (n : Nat) : Latch := Tab.get {} s.pos.latches n

def State.setLatch (n : Nat) (x : Latch) (s : State) : State :=
  { s with pos := { s.pos with latches := Tab.set {} s.pos.latches n x } }

def modLatch (n : Nat) (f : Latch → Latch) (s : State) : State := s.setLatch n (f (s.latch n))

/-- A compare unit. -/
def State.compare (s : State) (n : Nat) : Compare := Tab.get {} s.pos.compares n

def State.setCompare (n : Nat) (x : Compare) (s : State) : State :=
  { s with pos := { s.pos with compares := Tab.set {} s.pos.compares n x } }

def modCompare (n : Nat) (f : Compare → Compare) (s : State) : State := s.setCompare n (f (s.compare n))

/-- A station's grid and resampling settings. -/
def State.grid (s : State) (n : Nat) : Grid := Tab.get {} s.grids n

def State.setGrid (n : Nat) (x : Grid) (s : State) : State :=
  { s with grids := Tab.set {} s.grids n x }

def modGrid (n : Nat) (f : Grid → Grid) (s : State) : State := s.setGrid n (f (s.grid n))

/-- A port's resampler. -/
def State.res (s : State) (n : Nat) : PortRes := Tab.get {} s.ress n

def State.setRes (n : Nat) (x : PortRes) (s : State) : State :=
  { s with ress := Tab.set {} s.ress n x }

def modRes (n : Nat) (f : PortRes → PortRes) (s : State) : State := s.setRes n (f (s.res n))

/-- A port's place on its station and its colour. -/
def State.pmap (s : State) (n : Nat) : PortMap := Tab.get {} s.maps n

def State.setPmap (n : Nat) (x : PortMap) (s : State) : State :=
  { s with maps := Tab.set {} s.maps n x }

def modPmap (n : Nat) (f : PortMap → PortMap) (s : State) : State := s.setPmap n (f (s.pmap n))

/-- A station. -/
def State.station (s : State) (n : Nat) : Station := Tab.get {} s.stations n

def State.setStation (n : Nat) (x : Station) (s : State) : State :=
  { s with stations := Tab.set {} s.stations n x }

def modStation (n : Nat) (f : Station → Station) (s : State) : State := s.setStation n (f (s.station n))

/-- An outlet. -/
def State.outlet (s : State) (n : Nat) : Outlet := Tab.get {} s.outlets n

def State.setOutlet (n : Nat) (x : Outlet) (s : State) : State :=
  { s with outlets := Tab.set {} s.outlets n x }

def modOutlet (n : Nat) (f : Outlet → Outlet) (s : State) : State := s.setOutlet n (f (s.outlet n))

/-- A station's specimen and learning. -/
def State.learn (s : State) (n : Nat) : Learn := Tab.get {} s.learns n

def State.setLearn (n : Nat) (x : Learn) (s : State) : State :=
  { s with learns := Tab.set {} s.learns n x }

def modLearn (n : Nat) (f : Learn → Learn) (s : State) : State := s.setLearn n (f (s.learn n))

/-- A station's registration and compare. -/
def State.reg (s : State) (n : Nat) : Reg := Tab.get {} s.regs n

def State.setReg (n : Nat) (x : Reg) (s : State) : State :=
  { s with regs := Tab.set {} s.regs n x }

def modReg (n : Nat) (f : Reg → Reg) (s : State) : State := s.setReg n (f (s.reg n))

/-- A station's segmentation. -/
def State.seg (s : State) (n : Nat) : Seg := Tab.get {} s.segs n

def State.setSeg (n : Nat) (x : Seg) (s : State) : State :=
  { s with segs := Tab.set {} s.segs n x }

def modSeg (n : Nat) (f : Seg → Seg) (s : State) : State := s.setSeg n (f (s.seg n))

/-- A district and its purse; 16 is the hub purse. -/
def State.district (s : State) (n : Nat) : District := Tab.get {} s.teller.districts n

def State.setDistrict (n : Nat) (x : District) (s : State) : State :=
  { s with teller := { s.teller with districts := Tab.set {} s.teller.districts n x } }

def modDistrict (n : Nat) (f : District → District) (s : State) : State := s.setDistrict n (f (s.district n))

/-- What a station declares to the teller. -/
def State.decl (s : State) (n : Nat) : StationDecl := Tab.get {} s.teller.decls n

def State.setDecl (n : Nat) (x : StationDecl) (s : State) : State :=
  { s with teller := { s.teller with decls := Tab.set {} s.teller.decls n x } }

def modDecl (n : Nat) (f : StationDecl → StationDecl) (s : State) : State := s.setDecl n (f (s.decl n))

/-- A superblock of the vault. -/
def State.superblock (s : State) (n : Nat) : Superblock := Tab.get {} s.vault.superblocks n

def State.setSuperblock (n : Nat) (x : Superblock) (s : State) : State :=
  { s with vault := { s.vault with superblocks := Tab.set {} s.vault.superblocks n x } }

def modSuperblock (n : Nat) (f : Superblock → Superblock) (s : State) : State := s.setSuperblock n (f (s.superblock n))

/-- A firmware slot. -/
def State.fwSlot (s : State) (n : Nat) : FwSlot := Tab.get {} s.vault.slots n

def State.setFwSlot (n : Nat) (x : FwSlot) (s : State) : State :=
  { s with vault := { s.vault with slots := Tab.set {} s.vault.slots n x } }

def modFwSlot (n : Nat) (f : FwSlot → FwSlot) (s : State) : State := s.setFwSlot n (f (s.fwSlot n))

/-- A compression engine. -/
def State.engine (s : State) (n : Nat) : Engine := Tab.get {} s.comp.engines n

def State.setEngine (n : Nat) (x : Engine) (s : State) : State :=
  { s with comp := { s.comp with engines := Tab.set {} s.comp.engines n x } }

def modEngine (n : Nat) (f : Engine → Engine) (s : State) : State := s.setEngine n (f (s.engine n))

/-- A station's ledger. -/
def State.stLedger (s : State) (n : Nat) : StLedger := Tab.get {} s.ledger.sts n

def State.setStLedger (n : Nat) (x : StLedger) (s : State) : State :=
  { s with ledger := { s.ledger with sts := Tab.set {} s.ledger.sts n x } }

def modStLedger (n : Nat) (f : StLedger → StLedger) (s : State) : State := s.setStLedger n (f (s.stLedger n))

/-- An output rule. -/
def State.outRule (s : State) (n : Nat) : OutRule := Tab.get {} s.ledger.rules n

def State.setOutRule (n : Nat) (x : OutRule) (s : State) : State :=
  { s with ledger := { s.ledger with rules := Tab.set {} s.ledger.rules n x } }

def modOutRule (n : Nat) (f : OutRule → OutRule) (s : State) : State := s.setOutRule n (f (s.outRule n))

/-- The gates of an output rule. -/
def State.ruleGates (s : State) (n : Nat) : RuleGates := Tab.get {} s.ledger.gates n

def State.setRuleGates (n : Nat) (x : RuleGates) (s : State) : State :=
  { s with ledger := { s.ledger with gates := Tab.set {} s.ledger.gates n x } }

def modRuleGates (n : Nat) (f : RuleGates → RuleGates) (s : State) : State := s.setRuleGates n (f (s.ruleGates n))

/-- A station's second look. -/
def State.stLook (s : State) (n : Nat) : StLook := Tab.get {} s.look.sts n

def State.setStLook (n : Nat) (x : StLook) (s : State) : State :=
  { s with look := { s.look with sts := Tab.set {} s.look.sts n x } }

def modStLook (n : Nat) (f : StLook → StLook) (s : State) : State := s.setStLook n (f (s.stLook n))

/-- A marking head. -/
def State.head (s : State) (n : Nat) : Head := Tab.get {} s.frank.heads n

def State.setHead (n : Nat) (x : Head) (s : State) : State :=
  { s with frank := { s.frank with heads := Tab.set {} s.frank.heads n x } }

def modHead (n : Nat) (f : Head → Head) (s : State) : State := s.setHead n (f (s.head n))

/-- A DRAM channel. -/
def State.dramCh (s : State) (n : Nat) : DramCh := Tab.get {} s.dram.chs n

def State.setDramCh (n : Nat) (x : DramCh) (s : State) : State :=
  { s with dram := { s.dram with chs := Tab.set {} s.dram.chs n x } }

def modDramCh (n : Nat) (f : DramCh → DramCh) (s : State) : State := s.setDramCh n (f (s.dramCh n))

/-- A calibrated item's index, by 64 x item + index. -/
def State.calItem (s : State) (n : Nat) : CalItem := Tab.get {} s.cal.items n

def State.setCalItem (n : Nat) (x : CalItem) (s : State) : State :=
  { s with cal := { s.cal with items := Tab.set {} s.cal.items n x } }

def modCalItem (n : Nat) (f : CalItem → CalItem) (s : State) : State := s.setCalItem n (f (s.calItem n))

/-- A GPIO. -/
def State.gpio (s : State) (n : Nat) : Gpio := Tab.get {} s.elec.gpios n

def State.setGpio (n : Nat) (x : Gpio) (s : State) : State :=
  { s with elec := { s.elec with gpios := Tab.set {} s.elec.gpios n x } }

def modGpio (n : Nat) (f : Gpio → Gpio) (s : State) : State := s.setGpio n (f (s.gpio n))

/-- The district a port is routed to (R16); SPn starts on DSn (R17). -/
def State.route (s : State) (n : Nat) : Nat := Tab.get n s.teller.routes n

def State.setRoute (n d : Nat) (s : State) : State :=
  { s with teller := { s.teller with routes := Tab.set n s.teller.routes n d } }

/-- The classes a throttle level withholds (R380): bit 1 First, bit 2 Second, bit 3 Bulk. -/
def Teller.withheld (x : Teller) : BitVec 4 :=
  if x.level = 0 then 0 else if x.level = 1 then 0b1000 else if x.level = 2 then 0b1100 else 0b1110

/-- Does work of a class below Registered wait: withheld by the teller, or in a brown-out pause (R91, R380)? -/
def workHeld (cls : Nat) (s : State) : Bool := s.teller.withheld.getLsbD cls || s.modes.pause

/-- The pitch a station's loaded specimen was learned at (R231). -/
def State.specimenPitch (k : Nat) (s : State) : Option Nat := (s.learn k).loaded.map (·.pitch)

/-- The width of a station's loaded specimen (R231). -/
def State.specimenWidth (k : Nat) (s : State) : Option Nat := (s.learn k).loaded.map (·.width)

/-- Can a port be used? With four DRAM channels fitted SP6-SP11 are unavailable (R393). -/
def portFitted (n : Nat) (_ : State) : Bool := n < 6 || Config.eightChannels

/-- The compute die a district lies on: die 0 holds DS0-DS5, DS12 and DS13. -/
def dieOf (d : Nat) : Nat := if d < 6 || d = 12 || d = 13 then 0 else 1

/-- The postcode a package forms defect IDs with: the primary member's of a twin pair (R297, R509). -/
def State.idPostcode (s : State) : Nat :=
  (if s.twin.role ≠ .off && s.twin.secondary then s.twin.pairPostcode else s.chain.postcode) % 16

/-- Does the DRAM condition of the latency guarantee hold: no training but the teller's slices (R388, R389)? -/
def State.dramHolds (s : State) : Bool := s.dram.busyUntil ≤ s.now

end Sys2Proof.Machine
end

