-- ==== Sys2Proof/Machine/VaultSpace.lean ====
section
/-!
DEFINITION. Sys2Proof/Machine/VaultSpace.lean: the vault's geometry, its areas and its spare (R444, R445, R449, R453), which the
journal's spill depends on too.
-/
namespace Sys2Proof.Machine

/-! ### Geometry and space (R444, R445, R449, R453) -/

/-- Channels fitted (R444). -/
def vaultChannels : Nat := if Config.vaultFour then 4 else 2

/-- Targets in use: those fitted whose parameter page agrees with the board record (R444). -/
def usedTargets (s : State) : Nat :=
  sumNat ((List.range vaultChannels).map fun c =>
    ((List.range Config.vaultTargets).filter fun t => !s.vault.badTargets.testBit (4 * c + t)).length)

/-- Blocks of one superblock: one of every plane of every LUN in use (R444). -/
def superblockBlocks (s : State) : Nat := max 1 (usedTargets s * Config.vaultLuns * Config.vaultPlanes)

/-- Sectors of a superblock with some of its blocks bad: four to the page (R445, R452). -/
def superblockSectors (b : Superblock) (s : State) : Nat := max 1 ((superblockBlocks s - b.bad) * Config.vaultPages * 4)

/-- Raw blocks in use. -/
def rawBlocks (s : State) : Nat := Config.vaultSuperblocks * superblockBlocks s

/-- Raw capacity in bytes: 16 KiB pages (R444). -/
def rawBytes (s : State) : Nat := rawBlocks s * Config.vaultPages * 16384

/-- Blocks marked bad, by the factory or since. -/
def badBlocks (s : State) : Nat := s.vault.factoryBad + s.vault.growBad

/-- Logical capacity: raw less 7 % and less the blocks marked bad (R444). -/
def logicalBytes (s : State) : Nat := rawBytes s * 93 / 100 - badBlocks s * Config.vaultPages * 16384

/-- What the fixed areas leave (R449): SYSTEM, CALIBRATION and JOURNAL_SPILL of 1 GiB, two firmware slots of 64 MiB. -/
def restBytes (s : State) : Nat := logicalBytes s - (3 * 2 ^ 30 + 2 ^ 27)

/-- The size of an area by its code (R449). -/
def areaBytes (code : Nat) (s : State) : Nat :=
  match code with
  | 0 => 2 ^ 30
  | 1 | 2 => 2 ^ 26
  | 3 | 4 => 2 ^ 30
  | 5 => restBytes s * s.vault.libraryPct / 100
  | 6 => restBytes s - restBytes s * s.vault.libraryPct / 100
  | _ => 0

/-- The area an object of a kind lies in (R449). -/
def VKind.area : VKind → Nat
  | .baseSet => 3
  | .specimen => 5
  | .dayRecord => 6

/-- The sectors an object of some bytes takes, with its commit record (R445, R447). -/
def objectSectors (bytes : Nat) : Nat := (bytes + 4095) / 4096 + 1

/-- The bytes the live objects of an area and those waiting for it take, and those that staged changes have reserved (R54). -/
def areaUsed (area : Nat) (s : State) : Nat :=
  4096 * sumNat ((s.vault.objects ++ s.vault.waiting).map fun o => if o.kind.area = area then objectSectors o.stored else 0)
    + sumNat (s.sys.staged.map fun x => if x.area.1 = area then x.area.2 else 0)

/-- Good blocks that hold no live data (R453). -/
def spareBlocks (s : State) : Nat :=
  rawBlocks s - s.vault.factoryBad
    - sumNat (s.vault.superblocks.map fun e => if e.2.live = 0 then e.2.bad else superblockBlocks s)

/-- Is spare below p percent of the raw blocks (R453)? -/
def spareBelow (p : Nat) (s : State) : Bool := 100 * spareBlocks s < p * rawBlocks s

/-- SPARE_PCT (R462). -/
def sparePct (s : State) : Nat := if rawBlocks s = 0 then 0 else 100 * spareBlocks s / rawBlocks s

/-- Programs are limited to areas 0-3 (R453). -/
def programsLimited (s : State) : Bool := spareBelow 1 s

end Sys2Proof.Machine
end

