-- ==== Sys2Proof/Machine/Vault.lean ====
section
/-!
DEFINITION. Sys2Proof/Machine/Vault.lean: the vault (chapter 21): superblocks and their wear, objects and their
commit, mounting, scrub and relocation, spare, the firmware slots and the vault's own commands. The day book's
commands stand in Machine/DayBook.lean.
-/
namespace Sys2Proof.Machine

/-! ### Writing -/

/-- Is there room for an object of a kind and size (R449, R450, R453)? -/
def vaultRoom (kind : VKind) (bytes : Nat) (s : State) : Nat :=
  if !s.vault.formatted then stNoSpace
  else if 3 < kind.area && programsLimited s then stNoSpace
  else if areaBytes kind.area s < areaUsed kind.area s + 4096 * objectSectors bytes then stNoSpace
  else stDone

/-- May an object of a kind and size be written now: not before the mount, when every user waits (R448)? -/
def vaultWriteStatus (kind : VKind) (bytes : Nat) (s : State) : Nat := if s.vault.mounted then vaultRoom kind bytes s else stBusy

/-- The status of a command of a vault user: BUSY before the mount, NO_SPACE on a vault never formatted (R448, R450). -/
def vaultUser (st : Nat) (s : State) : Nat := if !s.vault.mounted then stBusy else if !s.vault.formatted then stNoSpace else st

/-! ### Counters and events (R461) -/

def modVault (f : Vault → Vault) (s : State) : State := { s with vault := f s.vault }

/-- Raises VAULT_UNCORRECTABLE, at most once per millisecond (R446, R461). -/
def raiseUncorrectable (s : State) : State :=
  if elapsed 1000000 s.vault.uncorrAt s.now then raise 433 (modVault (fun v => { v with uncorrAt := some s.now }) s) else s

/-- Raises GROWN_DEFECT, at most once per millisecond (R452, R461). -/
def raiseGrown (s : State) : State :=
  if elapsed 1000000 s.vault.grownAt s.now then raise 434 (modVault (fun v => { v with grownAt := some s.now }) s) else s

/-- After the space taken has changed: VAULT_LOW_SPARE as spare falls below 3 % (R453). -/
def checkSpare (s : State) : State :=
  let low := spareBelow 3 s
  let s := raiseIf (low && !s.vault.lowSpare) 435 s
  modVault (fun v => { v with lowSpare := low }) s

/-! ### Superblocks (R444, R454, R455) -/

/-- A superblock whose data is all dead is erased and free again; at 90 % of the endurance it raises VAULT_WEAR (R454). -/
def eraseSuperblock (b : Nat) (s : State) : State :=
  let x := s.superblock b
  let s := s.setSuperblock b { erases := x.erases + 1, bad := x.bad }
  let worn := 9 * Config.vaultEndurance ≤ 10 * (x.erases + 1)
  let s := raiseIf (worn && !s.vault.worn) 436 s
  modVault (fun v => { v with worn := v.worn || worn }) s

/-- The listed superblocks that are free and have a good block left (R452, R454). -/
def freeSuperblocks (s : State) : List (Nat × Superblock) :=
  s.vault.superblocks.filter fun e => e.2.filled = 0 && e.2.bad < superblockBlocks s

/-- A free superblock with the lowest erase count, the lowest-numbered of them (R454). -/
def takeFree (s : State) : Option Nat :=
  let listed := s.vault.superblocks.map (·.1)
  match ((List.range (listed.length + 1)).find? fun b => !listed.contains b) with
  | some b => if b < Config.vaultSuperblocks then some b else
      ((freeSuperblocks s).foldl (fun best e => match best with
        | none => some e
        | some f => if e.2.erases < f.2.erases then some e else some f) none).map (·.1)
  | none => none

/-- The most worn free superblock (R454). -/
def mostWornFree (s : State) : Option Nat :=
  ((freeSuperblocks s).foldl (fun best e => match best with
    | none => some e
    | some f => if f.2.erases < e.2.erases then some e else some f) none).map (·.1)

/-- The superblock an area is being filled into, if it has room. -/
def openSuperblock (area : Nat) (s : State) : Option Nat :=
  (s.vault.superblocks.find? fun e => e.2.area = area && 0 < e.2.filled && e.2.filled < superblockSectors e.2 s).map (·.1)

/-- Sectors are programmed into superblock b: WRITE_SEQ and the bytes since the last checkpoint go on (R445, R448). -/
def programInto (area b n : Nat) (s : State) : State :=
  let x := s.superblock b
  let fresh := x.filled = 0
  let s := s.setSuperblock b { x with
    area := area, filled := x.filled + n, live := x.live + n, written := s.vault.writeSeq + n - 1
    read := if fresh then s.chainTime else x.read }
  modVault (fun v => { v with
    writeSeq := v.writeSeq + n, sinceCheckpoint := v.sinceCheckpoint + 4096 * n }) s

/-- Programs n sectors for an area, superblock by superblock; the places they went to. -/
def programSectors (area : Nat) : Nat → Nat → State → List (Nat × Nat) × State
  | 0, _, s => ([], s)
  | fuel + 1, n, s =>
    if n = 0 then ([], s)
    else match (openSuperblock area s).or (takeFree s) with
      | none => ([], s)
      | some b =>
        let m := min n (superblockSectors (s.superblock b) s - (s.superblock b).filled)
        if m = 0 then ([], s)
        else
          let r := programSectors area fuel (n - m) (programInto area b m s)
          ((b, m) :: r.1, r.2)

/-- The sectors of an object no longer hold live data; a full superblock with none left is erased. -/
def freePlaces (ps : List (Nat × Nat)) (s : State) : State :=
  ps.foldl (fun s p =>
    let x := s.superblock p.1
    let y := { x with live := x.live - p.2 }
    let s := s.setSuperblock p.1 y
    if y.live = 0 && superblockSectors y s ≤ y.filled then eraseSuperblock p.1 s else s) s

/-- Some sectors of a list of places, oldest first, and the rest of them. -/
def splitPlaces : Nat → List (Nat × Nat) → List (Nat × Nat) × List (Nat × Nat)
  | _, [] => ([], [])
  | n, p :: ps =>
    if n = 0 then ([], p :: ps)
    else if p.2 ≤ n then
      let r := splitPlaces (n - p.2) ps
      (p :: r.1, r.2)
    else ([(p.1, n)], (p.1, p.2 - n) :: ps)

/-- The places of data that has moved from superblock b to superblock c. -/
def movePlaces (b c : Nat) (ps : List (Nat × Nat)) : List (Nat × Nat) := ps.map fun p => if p.1 = b then (c, p.2) else p

/-- The live data of superblock b moves to superblock c; b is erased (R454-R456). -/
def moveSuperblock (b c : Nat) (s : State) : State :=
  let x := s.superblock b
  if x.live = 0 || b = c then s
  else
    let s := modVault (fun v => { v with
      objects := v.objects.map fun o => { o with places := movePlaces b c o.places }
      slots := v.slots.map fun e => (e.1, { e.2 with places := e.2.places.map fun p => (p.1, movePlaces b c p.2) })
      spillPlaces := movePlaces b c v.spillPlaces
      relocations := sat 32 (v.relocations + 1) }) s
    let s := programInto x.area c x.live s
    checkSpare (eraseSuperblock b s)

/-- Superblock b is relocated to a free one (R446, R455, R456). -/
def relocate (b : Nat) (s : State) : State :=
  match takeFree s with
  | some c => moveSuperblock b c s
  | none => s

/-- Wear levelling: when the erase counts lie more than 200 apart, the least recently written superblock's data moves to
one of the most worn free ones; it is Bulk work (R454, R457). -/
def levelWear (s : State) : State :=
  let highest := s.vault.superblocks.foldl (fun m e => max m e.2.erases) 0
  let lowest := if s.vault.superblocks.length < Config.vaultSuperblocks then 0
    else s.vault.superblocks.foldl (fun m e => min m e.2.erases) highest
  if highest ≤ lowest + 200 || workHeld 3 s then s
  else
    let oldest := (s.vault.superblocks.filter fun e => 0 < e.2.live).foldl (fun best e => match best with
      | none => some e
      | some f => if e.2.written < f.2.written then some e else some f) none
    match oldest, mostWornFree s with
    | some e, some c => moveSuperblock e.1 c s
    | _, _ => s

/-! ### Objects (R446, R447, R457) -/

/-- The committed object of a kind with a key. -/
def vaultFind (kind : VKind) (key : Nat) (s : State) : Option VObj :=
  s.vault.objects.find? fun o => o.kind = kind && o.key = key

/-- Reading an object counts on the read counters of the superblocks it lies in (R455). -/
def vaultRead (o : VObj) (s : State) : State :=
  o.places.foldl (fun s p => modSuperblock p.1 (fun x => { x with reads := x.reads + p.2 }) s) s

/-- An object waits to be programmed and committed. -/
def vaultQueue (o : VObj) (s : State) : State := modVault (fun v => { v with waiting := v.waiting ++ [o] }) s

/-- The objects that a new one replaces: same kind, key and, in the day book, record (R447). -/
def sameObject (o x : VObj) : Bool := o.kind = x.kind && o.key = x.key && o.seq = x.seq

/-- An object's sectors are programmed, then the pages that share a word line with them, `fill` of them, which hold nothing, then its commit
record: so it becomes visible, and the old one with its key is freed (R447). -/
def vaultCommit (o : VObj) (fill : Nat) (s : State) : State :=
  let n := objectSectors o.stored
  let r := programSectors o.kind.area n (n - 1) s
  let f := programSectors o.kind.area (4 * fill) (4 * fill) r.2
  let c := programSectors o.kind.area 1 1 f.2
  let s := freePlaces ((s.vault.objects.filter (sameObject o)).flatMap (·.places) ++ f.1) c.2
  let s := modVault (fun v => { v with
    objects := v.objects.filter (fun x => !sameObject o x) ++ [{ o with places := r.1 ++ c.1 }] }) s
  levelWear (checkSpare s)

/-- An object is deleted and its space freed. -/
def vaultDelete (q : VObj → Bool) (s : State) : State :=
  let s := freePlaces ((s.vault.objects.filter q).flatMap (·.places)) s
  checkSpare (modVault (fun v => { v with objects := v.objects.filter (fun x => !q x) }) s)

/-- The waiting object the vault works on next: base sets before the day book, each oldest first; classes the teller withholds wait, and in a
pause no program starts (R91, R380, R457). A specimen is committed by its own store (R247). -/
def nextWaiting (s : State) : Option VObj :=
  (if workHeld 1 s then none else s.vault.waiting.find? fun o => o.kind = .baseSet).or
    (if workHeld 3 s then none else s.vault.waiting.find? fun o => o.kind = .dayRecord)

/-- One part of a firmware write takes effect: its bytes are committed to the slot, in sectors of the slot's area (R447, R449, R459). -/
def commitPart (slot off len src : Nat) (s : State) : State :=
  let i := off / 2 ^ 22
  let old := Tab.get [] (s.fwSlot slot).places i
  let r := programSectors (1 + slot) (objectSectors len) (objectSectors len) s
  levelWear (checkSpare (modFwSlot slot (fun x => { x with
    image := Mem.writeN x.image off (Mem.readN s.dramMem src len)
    done := Tab.set 0 x.done i (max len (Tab.get 0 x.done i))
    places := Tab.set [] x.places i r.1 }) (freePlaces old r.2)))

/-- A slot is invalidated, and its space freed (R459). -/
def clearSlot (slot : Nat) (s : State) : State :=
  checkSpare ((freePlaces ((s.fwSlot slot).places.flatMap (·.2)) s).setFwSlot slot {})

/-- The sectors of JOURNAL_SPILL follow the entries spilled, 128 to the sector: new ones are programmed, the oldest freed (R449, R475). -/
def fitSpill (s : State) : State :=
  let need := (s.journal.spill.length + 127) / 128
  let got := sumNat (s.vault.spillPlaces.map (·.2))
  if got < need then
    let r := programSectors 4 (need - got) (need - got) s
    levelWear (checkSpare (modVault (fun v => { v with spillPlaces := v.spillPlaces ++ r.1 }) r.2))
  else
    let r := splitPlaces (got - need) s.vault.spillPlaces
    checkSpare (freePlaces r.1 (modVault (fun v => { v with spillPlaces := r.2 }) s))

/-- The per-part records of R49: the number of parts, then PART, STATUS and UNITS_DONE of each. -/
def partRecords (ps : List (Nat × Nat)) : List Byte :=
  le 2 ps.length ++ zeros 2 ++ ps.zipIdx.flatMap fun e => le 2 e.2 ++ le 2 e.1.1 ++ le 4 e.1.2

/-- The status of a firmware write: DONE, or PARTIAL where it has left a change, a part or the slot that OFFSET 0 invalidated, or else that of its
first part (R49, R57, R459; DEDUCED, assumption 107). -/
def FwWrite.status (w : FwWrite) : Nat :=
  if w.parts.all (·.1 = stDone) then stDone
  else if w.off = 0 || w.parts.any (·.1 = stDone) then stPartial
  else (w.parts.map (·.1)).headD stDone

/-- A firmware write ends: its reply. -/
def endFwWrite (w : FwWrite) (s : State) : State :=
  finishOne 0x0E04 (fun _ => true) w.status (if w.status = stDone || w.status = stPartial then partRecords w.parts else [])
    (modVault (fun v => { v with fwWrite := none }) s)

/-- The next part of a firmware write, of at most 4 MiB: it is committed, or it fails where the medium stops answering, and the later parts are not
attempted (R459). -/
def fwWritePart (w : FwWrite) (s : State) : State :=
  let n := min (2 ^ 22) (w.len - w.gone)
  let bad : Option Nat := match w.fails with
    | some f => if f < w.gone + n then some (f - w.gone) else none
    | none => none
  match bad with
  | some units =>
    let left := (w.len - (w.gone + n) + 2 ^ 22 - 1) / 2 ^ 22
    endFwWrite { w with parts := w.parts ++ [(stHwFault, units)] ++ List.replicate left (stAborted, 0) } s
  | none =>
    let s := commitPart w.slot (w.off + w.gone) n (w.src + w.gone) s
    let w := { w with gone := w.gone + n, parts := w.parts ++ [(stDone, n)] }
    if w.len ≤ w.gone then endFwWrite w s else modVault (fun v => { v with fwWrite := some w }) s

/-- The firmware write in progress, unless it waits: it is First, and in a pause no program starts (R91, R457). -/
def fwWriteNext (s : State) : Option FwWrite := if workHeld 1 s then none else s.vault.fwWrite

/-- A waiting object is programmed and committed; a base set's store replies (R447). -/
def objectCommit (o : VObj) (fill : Nat) (s : State) : State :=
  let s := vaultCommit o fill (modVault (fun v => { v with waiting := v.waiting.erase o }) s)
  if o.kind = .baseSet then finishOne 0x0300 (fun x => x.args.params = o.bytes) stDone [] s else s

/-! ### Mounting, checkpoints, failures (R444, R447, R448, R452) -/

/-- The vault is mounted, and its users, who waited, go on; what a reset has made of the spill area is freed; targets that differ from the board
record are not used (R444, R448, R477). -/
def vaultMounted (bad : Nat) (s : State) : State :=
  let s := modVault (fun v => { v with mounted := true, replaying := false, badTargets := wrap 16 bad }) s
  let s := if wrap 16 bad = 0 then s else raiseUncorrectable s
  raise 432 (fitSpill s)

/-- VAULT_MOUNT_DONE: the mount from a checkpoint completes (R448). -/
def mountDone (bad : Nat) (s : State) : State :=
  if s.vault.mounted || s.vault.replaying then s else vaultMounted bad s

/-- VAULT_REPLAY_DONE: the replay after a POR or a pin reset completes (R448). -/
def replayDone (bad : Nat) (s : State) : State := if s.vault.replaying then vaultMounted bad s else s

/-- A mapping checkpoint is written (R448). -/
def writeCheckpoint (s : State) : State := modVault (fun v => { v with sinceCheckpoint := 0 }) s

/-- VAULT_CHECKPOINT: one is due after every GiB of programs (R448); in a pause no program starts (R91). -/
def checkpointDue (s : State) : State :=
  if s.vault.mounted && !s.modes.pause && 2 ^ 30 ≤ s.vault.sinceCheckpoint then writeCheckpoint s else s

/-- VAULT_PROGRAM_FAIL: a block of superblock b is grown bad (R452); the object goes on elsewhere. DEDUCED: the same command retires
a block whose sectors have become uncorrectable, once its readable sectors have been moved. -/
def programFail (b channel target lun plane : Nat) (s : State) : State :=
  if !s.vault.mounted then s
  else
    let s := modSuperblock b (fun x => { x with bad := x.bad + 1 }) s
    let s := modVault (fun v => { v with growBad := sat 32 (v.growBad + 1) }) s
    let s := journal 0x0E00 0 121 (le 1 channel ++ le 1 target ++ le 1 lun ++ le 1 plane ++ le 4 b) s
    checkSpare (raiseGrown s)

/-- The sectors a read found uncorrectable: the objects they belong to are lost, a day-book record counting in DAYBOOK_LOST, and so
are slots (R446). -/
def loseObjects (lost : List (Nat × Nat × Nat)) (slots : List (Fin 2)) (s : State) : State :=
  let hit := fun o : VObj => lost.contains (o.kind.area, o.key, o.seq)
  let days := (s.vault.objects.filter fun o => hit o && o.kind = .dayRecord && !o.lost).length
  let s := modVault (fun v => { v with
    objects := v.objects.map fun o => if hit o then { o with lost := true } else o
    dayLost := sat 32 (v.dayLost + days)
    uncorrectable := sat 32 (v.uncorrectable + lost.length + slots.length) }) s
  let s := slots.foldl (fun s i => modFwSlot i.val (fun x => { x with lost := true }) s) s
  if lost.isEmpty && slots.isEmpty then s else raiseUncorrectable s

/-- Spilled journal entries that cannot be read are lost, and the journal says so (R446, R466, R480). -/
def loseSpill (first count : Nat) (s : State) : State :=
  let gone := fun (e : JEntry) => first ≤ e.seq && e.seq < first + count
  match s.journal.spill.filter gone with
  | [] => s
  | e :: rest =>
    let s : State := { s with journal := { s.journal with spill := s.journal.spill.filter fun e => !gone e } }
    let s := modVault (fun v => { v with uncorrectable := sat 32 (v.uncorrectable + 1) }) s
    raiseUncorrectable (fitSpill (raise 451 (journal 0x0003 0 93 (le 6 e.seq ++ zeros 2 ++ le 4 (rest.length + 1)) s)))

/-- A superblock is read in full: counters, marks, losses (R446). -/
def readSuperblock (b : Nat) (m : MediumRead) (s : State) : State :=
  let s := modVault (fun v => { v with
    retryReads := sat 32 (v.retryReads + m.retries), softReads := sat 32 (v.softReads + m.softs)
    resume := if m.resume then none else v.resume }) s
  let s := loseObjects m.lost m.slots s
  let s := match m.spill with
    | some r => loseSpill r.1 r.2 s
    | none => s
  modSuperblock b (fun x => { x with
    read := s.chainTime, reads := x.reads + x.filled
    marked := x.marked || 0 < m.retries || 0 < m.softs || s.vault.refreshBits < m.bits || !m.lost.isEmpty }) s

/-- Is a superblock due for scrub: SCRUB_DAYS of chain time since it was programmed or last read in full (R456)? -/
def scrubDue (b : Nat) (s : State) : Bool :=
  0 < (s.superblock b).filled && (s.superblock b).read + s.vault.scrubDays * 86400000000000 ≤ s.chainTime

/-- Is a superblock the oldest of those that are due (R456)? -/
def scrubNext (b : Nat) (s : State) : Bool :=
  scrubDue b s && s.vault.superblocks.all fun e => !scrubDue e.1 s || (s.superblock b).read ≤ e.2.read

/-- VAULT_SCRUB_DUE: the superblock whose period ran out first is read in full and, if marked, relocated; it is Bulk work (R446, R456, R457). A
pass that has read every superblock in use raises SCRUB_PASS_DONE (R461). -/
def scrubSuperblock (b : Nat) (m : MediumRead) (s : State) : State :=
  if !s.vault.mounted || s.mode = .sentry || workHeld 3 s || !scrubNext b s then s
  else
    let s := readSuperblock b m s
    let s := modVault (fun v => { v with scrubbed := b :: v.scrubbed.filter (· ≠ b) }) s
    let s := if (s.superblock b).marked then relocate b s else s
    if (s.vault.superblocks.filter fun e => 0 < e.2.filled).all (fun e => s.vault.scrubbed.contains e.1 || !scrubDue e.1 s) then
      raise 438 (modVault (fun v => { v with scrubbed := [] }) s)
    else s

/-- VAULT_READ_DISTURB: a superblock whose read counter has reached the limit, or that a read has marked, is relocated; it is Bulk work (R446,
R455, R457). -/
def readDisturb (b : Nat) (s : State) : State :=
  let x := s.superblock b
  if s.vault.mounted && !workHeld 3 s && (Config.vaultReadLimit ≤ x.reads || x.marked) && 0 < x.filled then relocate b s else s

/-! ### Firmware slots (R459, R460) -/

/-- Has a slot every byte of an image of some length (R459)? -/
def slotComplete (x : FwSlot) (len : Nat) : Bool :=
  (List.range ((len + 2 ^ 22 - 1) / 2 ^ 22)).all fun i => min (2 ^ 22) (len - i * 2 ^ 22) ≤ Tab.get 0 x.done i

/-! ### Commands (R462) -/

/-- Refused while the vault is not mounted: every vault command returns BUSY (R448). -/
def mountedOr (st : Nat) (s : State) : Nat := if s.vault.mounted then st else stBusy

/-- VAULT_INFO, opcode 0x0E00. -/
def cmdVaultInfo : CommandDef := {
  opcode := 0x0E00
  lengths := [0]
  reads := true
  replyMax := fun _ => 80
  check := fun _ _ s => mountedOr stDone s
  commit := fun _ s => .reply (le 1 vaultChannels ++ le 1 Config.vaultTargets ++ le 1 Config.vaultLuns
    ++ le 1 Config.vaultPlanes ++ le 2 Config.vaultRate ++ zeros 2 ++ le 8 (rawBytes s) ++ le 8 (logicalBytes s)
    ++ (List.range 7).flatMap fun a => le 8 (areaBytes a s)) s }

/-- Erases everything outside areas 1-3, and those too on a vault never formatted, and sets the sizes (R450). -/
def formatVault (pct : Nat) (s : State) : State :=
  let keep := fun o : VObj => o.kind = .baseSet && s.vault.formatted
  let s' := s.vault.superblocks.foldl (fun s e =>
    if s.vault.formatted && 1 ≤ e.2.area && e.2.area ≤ 3 then s else if 0 < e.2.filled then eraseSuperblock e.1 s else s) s
  let s' := modVault (fun v => { v with
    objects := v.objects.filter keep, waiting := [], jobs := [], resume := none, libraryPct := pct
    slots := if s.vault.formatted then v.slots else []
    spillPlaces := []
    formatted := true, factoryBad := Config.vaultFactoryBad, scrubbed := [] }) s'
  checkSpare { s' with journal := { s'.journal with spill := [] } }

/-- VAULT_FORMAT, opcode 0x0E01. -/
def cmdVaultFormat : CommandDef := {
  opcode := 0x0E01
  modes := [.maintain]
  lengths := [4]
  check := fun c _ s =>
    if u8 c.p 0 < 1 || 50 < u8 c.p 0 || u8 c.p 1 ≠ 0 || u16 c.p 2 ≠ 0xA55A then stOutOfRange
    else if !s.vault.waiting.isEmpty || s.vault.fwWrite.isSome || (List.range 4).any (fun k => (s.learn k).storing.isSome) then stBusy
    else mountedOr stDone s
  commit := fun c s => .reply [] (formatVault (u8 c.p 0) s) }

/-- VAULT_SET, opcode 0x0E02. -/
def cmdVaultSet : CommandDef := {
  opcode := 0x0E02
  modes := [.standby, .configure, .maintain]
  lengths := [4]
  check := fun c _ s =>
    if 2 < u8 c.p 0 || u8 c.p 1 < 1 || 90 < u8 c.p 1 || u16 c.p 2 < 16 || 400 < u16 c.p 2 then stOutOfRange
    else mountedOr stDone s
  commit := fun c s => .reply [] (modVault (fun v => { v with
    dayFull := u8 c.p 0, scrubDays := u8 c.p 1, refreshBits := u16 c.p 2 }) s) }

/-- WEAR_PCT in tenths of a percent (R462). -/
def wearTenths (s : State) : Nat :=
  sat 16 (1000 * s.vault.superblocks.foldl (fun m e => max m e.2.erases) 0 / max 1 Config.vaultEndurance)

/-- VAULT_STATUS, opcode 0x0E03. -/
def cmdVaultStatus : CommandDef := {
  opcode := 0x0E03
  lengths := [0]
  reads := true
  replyMax := fun _ => 36
  check := fun _ _ s => mountedOr stDone s
  commit := fun _ s =>
    let v := s.vault
    .reply (le 1 (b2n v.mounted + 2 * b2n v.replaying + 4 * b2n v.formatted + 8 * b2n (spareBelow 3 s)
        + 16 * b2n (programsLimited s))
      ++ le 1 (sparePct s) ++ le 2 (wearTenths s) ++ le 4 v.growBad ++ le 4 v.factoryBad ++ le 4 v.retryReads
      ++ le 4 v.softReads ++ le 4 v.uncorrectable ++ le 4 v.relocations ++ le 4 v.dayLost ++ le 2 v.badTargets ++ zeros 2) s }

/-- The slot the running image came from: bit 24 of FW_VERSION (R66). -/
def runningSlot (s : State) : Nat := bit s.sys.fwVersion 24

/-- VAULT_FW_WRITE, opcode 0x0E04: the parts follow at VAULT_OBJECT_COMMIT, and the reply with the last of them. -/
def cmdVaultFwWrite : CommandDef := {
  opcode := 0x0E04
  modes := [.maintain]
  lengths := [24]
  replyMax := fun c => 4 + 8 * ((u32 c.p 8 + 2 ^ 22 - 1) / 2 ^ 22)
  check := fun c _ s =>
    let off := u32 c.p 4
    let len := u32 c.p 8
    if 1 < u8 c.p 0 || !zeroAt c.p 1 3 || !zeroAt c.p 12 4 || off % 2 ^ 22 ≠ 0 || 2 ^ 26 ≤ off || len = 0 || 2 ^ 26 < off + len then
      stOutOfRange
    else if u64 c.p 16 < s.host.userBase || s.host.userBase + s.host.userBytes < u64 c.p 16 + len then stOutOfRange
    else if !s.vault.mounted || s.vault.fwWrite.isSome then stBusy
    else if u8 c.p 0 = runningSlot s then stConflict
    else stDone
  commit := fun c s =>
    let s := if u32 c.p 4 = 0 then clearSlot (u8 c.p 0) s else s
    .later (modVault (fun v => { v with fwWrite := some {
      slot := u8 c.p 0, off := u32 c.p 4, len := u32 c.p 8, src := u64 c.p 16, fails := c.a.fails } }) s) 0 }

/-- VAULT_FW_ACTIVATE, opcode 0x0E05: the reset follows 20 us after the reply (R460). -/
def cmdVaultFwActivate : CommandDef := {
  opcode := 0x0E05
  modes := [.maintain]
  lengths := [8]
  check := fun c _ s =>
    let x := s.fwSlot (u8 c.p 0)
    if 1 < u8 c.p 0 || !zeroAt c.p 1 3 || u32 c.p 4 = 0 || 2 ^ 26 < u32 c.p 4 then stOutOfRange
    else if !s.vault.mounted then stBusy
    else if !slotComplete x (u32 c.p 4) then stConflict
    else if x.lost then stHwFault
    else if Config.imageAuthentic (Mem.readN x.image 0 (u32 c.p 4)) then stDone
    else stDenied
  commit := fun c s =>
    let s := modVault (fun v => { v with activating := some (u8 c.p 0), norSlot := u8 c.p 0 }) s
    let s := modFwSlot (u8 c.p 0) (fun x => { x with signed := u32 c.p 4 }) s
    .reply [] { s with modes := { s.modes with softPending := some 0x02, softAt := s.now } } }

/-- The vault capability's body, ID 0x000F version 1 (R462). -/
def capVault (s : State) : List Byte :=
  le 1 vaultChannels ++ le 1 Config.vaultTargets ++ le 1 7 ++ le 1 (sparePct s) ++ le 4 (logicalBytes s / 2 ^ 30)

end Sys2Proof.Machine
end

