-- ==== Sys2Proof/Machine/Journal.lean ====
section
/-!
DEFINITION. Sys2Proof/Machine/Journal.lean: the journal (chapter 22): recording and its order (R463-R466), rate limits (R467-R470),
policies (R472-R474), spill (R475, R476), the window (R478) and the commands of R481.
-/
namespace Sys2Proof.Machine

def modJournal (f : Journal → Journal) (s : State) : State := { s with journal := f s.journal }

/-- The 32 bytes of an entry (R463). -/
def JEntry.toBytes (e : JEntry) : List Byte :=
  le 6 e.seq ++ le 2 e.code ++ le 8 e.time ++ le 1 e.block ++ le 1 (b2n e.unsynced) ++ le 2 e.domain ++ padTo 12 e.data

/-! ### Rate limits (R467-R470) -/

/-- Is a code limited by a bucket (R467)? -/
def limitedCode (code : Nat) : Bool := 0x0100 ≤ code || code = 0x0005

/-- The codes of the table outside group 0x00, and COMMAND_REFUSED (R466, R481). -/
def limitedCodes : List Nat :=
  [0x0005, 0x0100, 0x0101, 0x0102, 0x0103, 0x0104, 0x0105, 0x0200, 0x0201, 0x0900, 0x0901, 0x0A00, 0x0A01, 0x0A02, 0x0A03, 0x0B00,
    0x0E00, 0x0E01, 0x1000, 0x1100, 0x1200]

/-- A code's bucket after POR (R467). -/
def bucketReset (code : Nat) : Bucket := if code = 0x0005 then { rate := 50, burst := 16, level := 16000000000 } else {}

def Journal.bucket (j : Journal) (code : Nat) : Bucket := Tab.get (bucketReset code) j.buckets code

def Journal.setBucket (j : Journal) (code : Nat) (b : Bucket) : Journal :=
  { j with buckets := Tab.set (bucketReset code) j.buckets code b }

/-- A bucket's level at a moment: it gains RATE tokens a second, up to BURST. -/
def Bucket.filled (b : Bucket) (now : Nat) : Bucket :=
  { b with level := min (b.burst * 1000000000) (b.level + b.rate * (now - b.levelAt)), levelAt := max now b.levelAt }

/-- May an entry of the code be recorded, and the bucket after? A RATE of 0 records nothing. -/
def Bucket.take (b : Bucket) (now : Nat) : Bool × Bucket :=
  let x := b.filled now
  if x.rate ≠ 0 && 1000000000 ≤ x.level then (true, { x with level := x.level - 1000000000 }) else (false, x)

/-! ### What is held (R472-R476) -/

/-- The slots of hub SRAM and of the spill area (R475). -/
def sramSlots : Nat := 65536
def spillSlots : Nat := 33554432

/-- Under FORERUNNER: the kept area, and the entries that circulate (R474). -/
def Journal.kept (j : Journal) : List JEntry := j.sram.filter fun e => e.seq < j.keptFrom + 32768
def Journal.circulating (j : Journal) : List JEntry := j.sram.filter fun e => j.keptFrom + 32768 ≤ e.seq

/-- FIRST_SEQ, the oldest entry held anywhere; NEXT_SEQ when none is. -/
def Journal.firstSeq (j : Journal) : Nat := (((j.spill ++ j.sram).head?).map (·.seq)).getD j.nextSeq

/-- SRAM_FIRST: the oldest entry in SRAM, under FORERUNNER the oldest circulating one. -/
def Journal.sramFirst (j : Journal) : Nat :=
  (((if j.policy then j.circulating else j.sram).head?).map (·.seq)).getD j.nextSeq

/-- SPILL_BLOCKED: spill cannot run (R476), or the vault takes no programs into its area (R450, R453). -/
def spillBlocked (s : State) : Bool :=
  !s.journal.policy && (!s.vault.mounted || !s.vault.formatted || programsLimited s || workHeld 1 s || spillSlots ≤ s.journal.spill.length)

/-- SPILLING: entries are due to move to the spill area and can. -/
def spillDue (s : State) : Bool := !s.journal.policy && 49152 ≤ s.journal.sram.length && !spillBlocked s

/-- An entry that cannot be taken is counted (R465, R473, R476). -/
def loseEntry (s : State) : State :=
  modJournal (fun j => { j with lost := sat 32 (j.lost + 1), lostSince := sat 32 (j.lostSince + 1), stopped := true }) s

/-- An entry takes the next sequence number and its slot; under FORERUNNER the oldest circulating one makes room. -/
def storeEntry (e : JEntry) (s : State) : State :=
  modJournal (fun j =>
    let j := { j with sram := j.sram ++ [{ e with seq := j.nextSeq }], nextSeq := wrap 48 (j.nextSeq + 1) }
    if j.policy then { j with sram := j.kept ++ j.circulating.drop (j.circulating.length - 32768) } else j) s

/-- An entry of the package itself: BLOCK 0x00, DOMAIN 93. -/
def ownEntry (code time : Nat) (data : List Byte) (s : State) : JEntry :=
  { code := code, time := time, block := 0, unsynced := !s.chain.synced, domain := 93, data := padTo 12 data }

/-- JOURNAL_FULL takes the last free slot and recording stops (R473). -/
def fillJournal (s : State) : State :=
  raise 449 (modJournal (fun j => { j with full := true }) (loseEntry (storeEntry (ownEntry 0x0006 s.chainTime [] s) s)))

/-- An entry that has passed its bucket is stored, or counted as lost. -/
def keepEntry (e : JEntry) (s : State) : State :=
  let j := s.journal
  if j.policy then storeEntry e s
  else if j.stopped || sramSlots ≤ j.sram.length then loseEntry s
  else if j.sram.length = sramSlots - 1 && spillSlots ≤ j.spill.length then fillJournal s
  else raiseIf (j.sram.length + 1 = 49152 && spillBlocked s) 448 (storeEntry e s)

/-- The SUPPRESSED entry of a code, whose count is then clear (R470). -/
def reportSuppressed (code : Nat) (s : State) : State :=
  let b := s.journal.bucket code
  if b.supCount = 0 then s
  else
    let us := sat 32 ((b.supLast - b.supFirst) / 1000)
    let s := keepEntry (ownEntry 0x0002 b.supFirst (le 2 code ++ zeros 2 ++ le 4 b.supCount ++ le 4 us) s) s
    modJournal (fun j => j.setBucket code { b with supCount := 0 }) s

/-- An entry whose bucket is empty is suppressed (R469). -/
def suppressEntry (e : JEntry) (b : Bucket) (s : State) : State :=
  let shows := elapsed 1000000 s.journal.suppressedAt s.now
  let b' := { b with
    supCount := sat 32 (b.supCount + 1)
    supFirst := if b.supCount = 0 then e.time else b.supFirst
    supLast := e.time }
  raiseIf shows 450 (modJournal (fun j => { j.setBucket e.code b' with
    suppressedTotal := sat 32 (j.suppressedTotal + 1)
    suppressedAt := if shows then some s.now else j.suppressedAt }) s)

/-- One entry is recorded, suppressed or lost; nothing is recorded in SENTRY (R465, R467). -/
def recordEntry (s : State) (e : JEntry) : State :=
  if s.mode = .sentry then s
  else if !limitedCode e.code then keepEntry e s
  else
    let r := (s.journal.bucket e.code).take s.now
    if r.1 then keepEntry e (reportSuppressed e.code (modJournal (fun j => j.setBucket e.code r.2) s))
    else suppressEntry e r.2 s

/-- The entries that arose in this step, in ascending BLOCK, then CODE; the input queue holds 64 (R465). -/
def recordArising (s : State) : State :=
  let xs := sortBy (fun e => e.block * 65536 + e.code) s.journal.arising
  let s := modJournal (fun j => { j with arising := [] }) s
  (xs.drop 64).foldl (fun s _ => modJournal (fun j => { j with lost := sat 32 (j.lost + 1) }) s) ((xs.take 64).foldl recordEntry s)

/-- JOURNAL_SUPPRESS_TIMER of a code: 1 s after its last suppressed entry (R470). -/
def suppressTimer (code : Nat) (s : State) : State :=
  let b := s.journal.bucket code
  if b.supCount ≠ 0 && b.supLast + 1000000000 ≤ s.chainTime && s.mode ≠ .sentry then reportSuppressed code s else s

/-- Recording continues once SRAM has a free slot; its first entry says how many were lost (R473, R476). -/
def resumeRecording (s : State) : State :=
  let j := s.journal
  if j.stopped && !j.full && j.sram.length < sramSlots then
    let e := ownEntry 0x0007 s.chainTime (le 4 j.lostSince) s
    storeEntry e (modJournal (fun j => { j with stopped := false, lostSince := 0 }) s)
  else s

/-- JOURNAL_SPILL: the oldest 16,384 entries move to the spill area, as far as it has room in sectors of 128 (R475). -/
def spillEntries (s : State) : State :=
  if spillDue s then
    let n := min 16384 ((spillSlots - s.journal.spill.length) / 128 * 128)
    resumeRecording (fitSpill (modJournal (fun j => { j with spill := j.spill ++ j.sram.take n, sram := j.sram.drop n }) s))
  else s

/-- At ENTER_SENTRY every entry in SRAM goes to the spill area; the wake brings the newest 65,536 back (R474, R475). Where the vault takes no
program into that area, what is in SRAM is lost, and counted (R450, R453; DEDUCED, assumption 43). -/
def spillAll (s : State) : State :=
  let n := if s.vault.formatted && !programsLimited s then spillSlots - s.journal.spill.length else 0
  fitSpill (modJournal (fun j => { j with
    spill := j.spill ++ j.sram.take n, sram := [], lost := sat 32 (j.lost + (j.sram.length - n)) }) s)

def restoreJournal (s : State) : State :=
  fitSpill (modJournal (fun j =>
    let all := j.spill ++ j.sram
    { j with spill := all.take (all.length - sramSlots), sram := all.drop (all.length - sramSlots) }) s)

/-- A policy change discards every held entry and records POLICY_CHANGED first (R472). -/
def setPolicy (p : Bool) (s : State) : State :=
  journal 0x0004 0 93 (le 1 (b2n p)) (fitSpill (modJournal (fun j => { j with
    policy := p, sram := [], spill := [], keptFrom := j.nextSeq, full := false, stopped := false, lostSince := 0 }) s))

/-! ### The window (R478) -/

/-- STATE: POLICY, FULL, SPILLING, SPILL_BLOCKED. -/
def journalState (s : State) : Nat :=
  b2n s.journal.policy + 2 * b2n s.journal.full + 4 * b2n (spillDue s) + 8 * b2n (spillBlocked s)

/-- A write in the journal window by a function. -/
def journalWrite (fn off v : Nat) (s : State) : State :=
  let base := Tab.get 0 s.journal.windowBase fn
  if off = 0x18 then modJournal (fun j => { j with windowBase := Tab.set 0 j.windowBase fn (base / 2 ^ 32 * 2 ^ 32 + v % 2 ^ 32) }) s
  else if off = 0x1C then modJournal (fun j => { j with windowBase := Tab.set 0 j.windowBase fn (base % 2 ^ 32 + v % 2 ^ 16 * 2 ^ 32) }) s
  else s

/-- A word of the view: the SRAM entry whose SEQ is WINDOW_BASE + j, or zero. -/
def viewWord (fn off : Nat) (s : State) : Nat :=
  match s.journal.sram.find? fun e => e.seq = Tab.get 0 s.journal.windowBase fn + off / 32 with
  | some e => u32 e.toBytes (off % 32)
  | none => 0

/-- A read in the journal window by a function; a *_LO word captures its *_HI. -/
def journalRead (fn off : Nat) (s : State) : Nat × State :=
  let j := s.journal
  match off with
  | 0x00 => (j.nextSeq % 2 ^ 32, modJournal (fun j => { j with nextHi := j.nextSeq / 2 ^ 32 }) s)
  | 0x04 => (j.nextHi, s)
  | 0x08 => (j.firstSeq % 2 ^ 32, modJournal (fun j => { j with firstHi := j.firstSeq / 2 ^ 32 }) s)
  | 0x0C => (j.firstHi, s)
  | 0x10 => (j.sramFirst % 2 ^ 32, modJournal (fun j => { j with sramHi := j.sramFirst / 2 ^ 32 }) s)
  | 0x14 => (j.sramHi, s)
  | 0x18 => (Tab.get 0 j.windowBase fn % 2 ^ 32, s)
  | 0x1C => (Tab.get 0 j.windowBase fn / 2 ^ 32, s)
  | 0x20 => (journalState s, s)
  | 0x24 => (j.lost, s)
  | 0x28 => (j.suppressedTotal, s)
  | _ => (if 0x10000 ≤ off && off < 0x90000 then viewWord fn (off - 0x10000) s else 0, s)

/-! ### Commands (R481) -/

/-- JOURNAL_POLICY, opcode 0x0F00. -/
def cmdJournalPolicy : CommandDef := {
  opcode := 0x0F00
  lengths := [4]
  check := fun c _ _ => if 1 < u8 c.p 0 || u8 c.p 1 ≠ 0 || u16 c.p 2 ≠ 0xA55A then stOutOfRange else stDone
  commit := fun c s => .reply [] (setPolicy (u8 c.p 0 = 1) s) }

/-- JOURNAL_RATE, opcode 0x0F01. -/
def cmdJournalRate : CommandDef := {
  opcode := 0x0F01
  lengths := [8]
  check := fun c _ _ =>
    if !(limitedCodes.contains (u16 c.p 0) || u16 c.p 0 = 0xFFFF) || 10000 < u16 c.p 2 || u8 c.p 4 = 0 || !zeroAt c.p 5 3 then
      stOutOfRange
    else stDone
  commit := fun c s =>
    let codes := if u16 c.p 0 = 0xFFFF then limitedCodes else [u16 c.p 0]
    .reply [] (modJournal (fun j => codes.foldl (fun j code => j.setBucket code { j.bucket code with
      rate := u16 c.p 2, burst := u8 c.p 4, level := u8 c.p 4 * 1000000000, levelAt := s.now }) j) s) }

/-- JOURNAL_READ, opcode 0x0F02: the spilled entries may be unreadable (R446). -/
def cmdJournalRead : CommandDef := {
  opcode := 0x0F02
  lengths := [16]
  reads := true
  replyMax := fun c => 24 + 32 * u32 c.p 8
  check := fun c _ s =>
    if u32 c.p 8 = 0 || 32768 < u32 c.p 8 || !zeroAt c.p 12 4 then stOutOfRange
    else if c.a.fails.isSome && s.journal.spill.any (fun e => u64 c.p 0 ≤ e.seq) then stHwFault
    else stDone
  commit := fun c s =>
    let j := s.journal
    let xs := ((j.spill ++ j.sram).filter fun e => u64 c.p 0 ≤ e.seq).take (u32 c.p 8)
    .reply (le 8 j.firstSeq ++ le 8 j.nextSeq ++ le 4 xs.length ++ zeros 4 ++ xs.flatMap JEntry.toBytes) s }

/-- JOURNAL_RELEASE, opcode 0x0F03. -/
def cmdJournalRelease : CommandDef := {
  opcode := 0x0F03
  lengths := [8]
  check := fun c _ s =>
    if s.journal.nextSeq < u64 c.p 0 then stOutOfRange else if s.journal.policy then stConflict else stDone
  commit := fun c s =>
    .reply [] (resumeRecording (fitSpill (modJournal (fun j => { j with
      sram := j.sram.filter fun e => u64 c.p 0 ≤ e.seq
      spill := j.spill.filter fun e => u64 c.p 0 ≤ e.seq
      full := false }) s))) }

/-- JOURNAL_STATUS, opcode 0x0F04. -/
def cmdJournalStatus : CommandDef := {
  opcode := 0x0F04
  lengths := [4]
  reads := true
  replyMax := fun _ => 40
  check := fun c _ _ => if 1 < u8 c.p 0 || !zeroAt c.p 1 3 then stOutOfRange else stDone
  commit := fun c s =>
    let j := s.journal
    .reply (le 8 j.nextSeq ++ le 8 j.firstSeq ++ le 8 j.sramFirst ++ le 1 (journalState s) ++ zeros 3 ++ le 4 j.lost
        ++ le 4 j.suppressedTotal ++ le 4 j.spill.length)
      (if u8 c.p 0 = 1 then modJournal (fun j => { j with lost := 0, suppressedTotal := 0 }) s else s) }

/-- Offsets 8 to 19 of capability 0x0010's body (R481). -/
def capJournal : List Byte := le 4 65536 ++ le 4 33554432 ++ [32] ++ zeros 3

end Sys2Proof.Machine
end

