-- ==== Sys2Proof/Machine/Lanes.lean ====
section
/-!
DEFINITION. Sys2Proof/Machine/Lanes.lean: the serial lanes (chapter 04): the lane state machine of R105-R110, the lane
register space of R117, and the lane commands of R119. A group's rise or fall as the layer above sees it is taken up
when the step settles (Machine/Settle.lean).
-/
namespace Sys2Proof.Machine

/-- A port's link as PORT_STATUS reads it: 0 down, 1 ACTIVE, 2 LISTEN (R143). -/
def groupLink (g : Nat) (s : State) : Nat :=
  if (lanesOf g).all (fun l => (s.lane l).state = .active) then 1
  else if (lanesOf g).all (fun l => (s.lane l).state.carries) then 2
  else 0

/-- Sets cause bits of a lane; the lane's event fires, once, when one of them is masked in (R118). -/
def setCause (l : Nat) (bitsSet : BitVec 9) (s : State) : State :=
  let x := s.lane l
  let s := s.setLane l { x with cause := x.cause ||| bitsSet }
  raiseIf (bitsSet &&& x.causeMask ≠ 0) (128 + l) s

/-! ### Times (R97, R105) -/

/-- The multiple of 156.25 MHz at a rate code (R97). -/
def rateMultiple (rate : Nat) : Nat := nth 180 [66, 90, 165, 180] rate

/-- So many blocks of 66 bits at a rate, in ns, rounded up. -/
def blocksNs (rate n : Nat) : Nat := (n * 4224 + 10 * rateMultiple rate - 1) / (10 * rateMultiple rate)

/-- The time a lane may stay in its state, ns; none where it may wait (R105). -/
def laneLimit (x : Lane) : Option Nat :=
  match x.state with
  | .bitLock => some 50000
  | .blockLock => if x.bitslip then none else some 100000
  | .train => some 4000000
  | .deskew => some (blocksNs x.rate 8192 + 5000)
  | .caps => some (if x.listenOnly || x.txDark then blocksNs x.rate (2 * 256 * 4096) else 50000)
  | _ => none

/-! ### What a lane sends by its state (R100, R102, R105) -/

/-- LAYER that this end of a group sends, and that it needs of its partner (R100, R110). -/
def layersOf (g : Nat) : Nat × Nat :=
  if g < 12 then (2, 1) else if g = 12 then (3, 4) else if g = 13 then (4, 3) else (5, 5)

/-- The CAPS a group's lanes send (R100). -/
def capsPayload (g : Nat) (again : Bool) : List Byte :=
  le 1 (layersOf g).1 ++ [1#8] ++ le 1 (if g < 12 then 15 else 8) ++ le 1 (lanesOf g).length ++ le 1 (b2n again) ++ zeros 2

/-- The place of a lane in its group, which is its LANE_INDEX. -/
def laneIndexOf (l : Nat) : Nat := l - (lanesOf (groupOf l)).headD 0

def State.marks (s : State) (g : Nat) : LaneMarks := Tab.get {} s.lanes.marks g

def setMarks (g : Nat) (m : LaneMarks) (s : State) : State := { s with lanes := { s.lanes with marks := Tab.set {} s.lanes.marks g m } }

/-- A lane-layer block goes out on every lane of a group, in one stripe row (R101). -/
def sendRow (g type : Nat) (payload : Nat → List Byte) (s : State) : State :=
  (lanesOf g).foldl (fun s l => sendControl l type (payload l) s) s

/-- An ALIGN on every lane of a group; SEQ counts them (R100, R102). -/
def sendAlign (g : Nat) (s : State) : State :=
  let m := s.marks g
  sendRow g 0xA2 (fun l => le 1 (laneIndexOf l + 16 * (lanesOf g).length) ++ le 2 m.alignTx)
    (setMarks g { m with alignTx := wrap 16 (m.alignTx + 1), alignAt := some s.now } s)

/-- A block that a lane sends once every n blocks, and the IDLE that stands for those between (R105; assumption 109). -/
def sendSpaced (l n type : Nat) (payload : List Byte) (s : State) : State :=
  let x := s.lane l
  sendControl l 0x1E []
    (if elapsed (blocksNs x.rate n) x.dueAt s.now then sendControl l type payload (s.setLane l { x with dueAt := some s.now }) else s)

/-- Sends what a lane's state asks for: IDLE, with a TRAIN once every 32 blocks or a CAPS once every 64 (R105). -/
def sendDue (l : Nat) (s : State) : State :=
  let x := s.lane l
  match x.state with
  | .detect | .bitLock | .blockLock | .deskew => sendControl l 0x1E [] s
  | .train => sendSpaced l 32 0xA3 (le 1 (laneIndexOf l) ++ le 1 (x.presetReq + 16 * b2n x.readySent + 32 * b2n x.partnerReady)) s
  | .caps => sendSpaced l 64 0xA4 (capsPayload (groupOf l) false) s
  | _ => s

/-! ### Entering and leaving states -/

/-- A lane enters a state, with what else changes, and its transmitter goes on as the state asks (R105). The injections that still wait are
discarded (DESIGN CHOICE, assumption 109). -/
def enterLane (l : Nat) (st : LaneState) (f : Lane → Lane) (s : State) : State :=
  sendDue l (s.setLane l { f (s.lane l) with state := st, since := s.now, injects := [], dueAt := none })

/-- A lane without anything a bring-up finds (R105). -/
def Lane.fresh (x : Lane) : Lane := { x with
  bitLock := false, blockLock := false, aligned := false, resume := false, readySent := false, readySeen := false
  partnerReady := false, presetReq := 0xF, alignSeq := none, capsOk := false, newCaps := [], resumeBy := none }

/-- A full bring-up begins: until a request arrives the transmitter uses preset 2 (R104). -/
def Lane.anew (x : Lane) : Lane := { x.fresh with txPreset := 2 }

/-- What the resume path goes on from: the lane as it stands (R107). -/
def Lane.fitNow (x : Lane) : LaneFit := { slipPos := x.slipPos, ctle := x.ctle, dfe := x.dfe, eye := x.eye, preset := x.txPreset }

/-- The resume path begins: what the lane kept from when it was last ACTIVE or LISTEN is in force, the stored slip position first; with
BITSLIP_MODE set only software moves that (R107, R112). -/
def Lane.resumed (x : Lane) : Lane := { x.fresh with
  resume := true, slipPos := if x.bitslip then x.slipPos else x.kept.slipPos, ctle := x.kept.ctle, dfe := x.kept.dfe, eye := x.kept.eye, txPreset := x.kept.preset }

/-- A lane leaves ACTIVE or LISTEN: LEFT_ACTIVE is set and its cause kept for the group's journal entry; what the resume path needs is kept
as it stands now (R106, R107). -/
def leaveCarrying (l : Nat) (also : BitVec 9) (s : State) : State :=
  if (s.lane l).state.carries then
    let g := groupOf l
    let s := setCause l (1 ||| also) (modLane l (fun x => { x with kept := x.fitNow }) s)
    let causes := Tab.modify 0 s.lanes.downCauses g (fun c => c ||| (s.lane l).cause.toNat)
    { s with lanes := { s.lanes with downCauses := causes } }
  else s

/-- The other lanes of a group that has lost one wait in DESKEW (R106). -/
def groupWaits (l : Nat) (s : State) : State :=
  ((lanesOf (groupOf l)).filter (· ≠ l)).foldl (fun s k =>
    if (s.lane k).state.carries then
      enterLane k .deskew (fun x => { x with resume := true, aligned := false, alignSeq := none, capsOk := false, newCaps := [] })
        (leaveCarrying k 0 s)
    else s) s

/-- A lane starts a full bring-up from DETECT, or goes OFF when it is not enabled (R105); in STANDBY a sensor lane sits in IDLE, to be brought
up in full when its mode needs it (R108). -/
def restartLane (l : Nat) (s : State) : State :=
  let s := groupWaits l (leaveCarrying l 0 s)
  enterLane l (if !(s.lane l).enable then .off else if l < 48 && s.mode = .standby then .idle else .detect)
    (fun x => { x.anew with trained := false }) s

/-- A lane returns to DETECT from bring-up; the fourth return in a row without reaching ACTIVE or LISTEN is BACKOFF (R105, R117). RETRIES counts
each of these four; RESTART, and DETECT after TEST or BACKOFF, it does not count (DESIGN CHOICE, assumption 109). -/
def returnToDetect (l : Nat) (also : BitVec 9) (s : State) : State :=
  let n := (s.lane l).fails + 1
  let s := enterLane l (if 4 ≤ n then .backoff else .detect) (fun x => { x.anew with retries := sat 8 (x.retries + 1), fails := n }) s
  setCause l (also ||| (if 4 ≤ n then 0x10 else 0)) s

/-- Takes a group to IDLE, its trained state kept (R105, R108). -/
def idleGroup (g : Nat) (s : State) : State :=
  (lanesOf g).foldl (fun s l =>
    if (s.lane l).state.carries then
      enterLane l .idle (fun x => { x.fresh with trained := true }) (leaveCarrying l 0 s)
    else if (s.lane l).state = .off || (s.lane l).state = .test then s
    else enterLane l .idle Lane.fresh s) s

/-- Enabled lanes of a group that are OFF sit in IDLE, as in STANDBY (R108). -/
def seatGroup (g : Nat) (s : State) : State :=
  (lanesOf g).foldl (fun s l =>
    if (s.lane l).enable && (s.lane l).state = .off then enterLane l .idle id s else s) s

/-- Wakes a group from IDLE on the resume path; a lane with no trained state, or one that is enabled and OFF, starts a full bring-up (R105,
R107). -/
def wakeGroup (g : Nat) (s : State) : State :=
  (lanesOf g).foldl (fun s l =>
    let x := s.lane l
    if x.state = .idle && x.trained then enterLane l .bitLock (fun x => { x.resumed with calDue := true }) s
    else if x.state = .idle || (x.state = .off && x.enable) then enterLane l .detect Lane.anew s
    else s) s

/-- The lanes of a group go OFF: the mode that owns them ends, or SENTRY is entered (R105, R106). -/
def groupOff (g : Nat) (s : State) : State :=
  (lanesOf g).foldl (fun s l =>
    let was := (s.lane l).state
    let s := leaveCarrying l 0 s
    if was = .off then s else enterLane l .off (fun x => { x.fresh with trained := x.trained || was.carries }) s) s

/-- Every lane goes OFF (SENTRY entered, R105). -/
def lanesOff (s : State) : State := (List.range 15).foldl (fun s g => groupOff g s) s

/-- A sensor lane is darkened or lit: ACTIVE and LISTEN change over without retraining, and a transmitter that is lit uses the preset last
overheard from its first block (R105, R113, R114). -/
def darkenLane (dark : Bool) (l : Nat) (s : State) : State :=
  let x := s.lane l
  let s := s.setLane l { x with txDark := dark, txPreset := if x.txDark && !dark && x.overheard < 8 then x.overheard else x.txPreset }
  if dark && x.state = .active then enterLane l .listen id s
  else if !dark && x.state = .listen then enterLane l .active id s
  else s

/-- Darkens or lights the sensor transmitters as the interlock asks; a group that is lit while it listens sends IDLE, ALIGN and FILLER at once
(R96, R105, R114). -/
def darkenSensors (dark : Bool) (s : State) : State :=
  (List.range 12).foldl (fun s g =>
    let listens := (lanesOf g).any fun l => (s.lane l).state = .listen
    let s := (lanesOf g).foldl (fun s l => darkenLane dark l s) s
    if !dark && listens then sendRow g 0xA1 (fun _ => []) (sendAlign g (sendRow g 0x1E (fun _ => []) s)) else s) s

/-! ### Bring-up events -/

/-- LANE_SIGNAL_DETECTED (R105): DETECT to BIT_LOCK; IDLE with DETECT_WAKE to BIT_LOCK on the resume path. -/
def laneSignal (l : Nat) (s : State) : State :=
  let x := s.lane l
  if x.state = .detect then enterLane l .bitLock (fun x => { x.fresh with calDue := true }) s
  else if x.state = .idle && x.detectWake then
    enterLane l .bitLock (fun x => { (if x.trained then x.resumed else x.anew) with calDue := true }) s
  else s

/-- LANE_BIT_LOCKED (R105). -/
def laneBitLocked (l : Nat) (s : State) : State :=
  if (s.lane l).state = .bitLock then enterLane l .blockLock (fun x => { x with bitLock := true }) s else s

/-- A lane enters DESKEW; for the others of its group that wait there for it the limit of DESKEW begins anew (R105, R106). -/
def enterDeskew (l : Nat) (f : Lane → Lane) (s : State) : State :=
  let s := ((lanesOf (groupOf l)).filter (· ≠ l)).foldl (fun s k =>
    modLane k (fun x => if x.state = .deskew && x.resume then { x with since := s.now } else x) s) s
  enterLane l .deskew (fun x => { f x with alignSeq := none, capsOk := false }) s

/-- LANE_BLOCK_LOCKED (R105, R107, R112): 64 valid headers at an offset; hardware search reports the offset it found. -/
def laneBlockLocked (l pos : Nat) (s : State) : State :=
  let x := s.lane l
  if x.state = .blockLock then
    let locked : Lane → Lane := fun x => { x with
      blockLock := true, slipPos := if x.bitslip then x.slipPos else pos, readySent := false, readySeen := false, partnerReady := false }
    if x.resume then enterDeskew l locked s else enterLane l .train locked s
  else s

/-- The equaliser settings a receiver has adapted to. -/
def Lane.fit (x : Lane) (f : Equaliser) : Lane := { x with ctle := f.ctle, dfe := f.dfe, eye := f.eye }

/-- LANE_TRAIN_RECEIVED: a TRAIN block comes, and the receiver may have finished adapting (R100, R104, R105, R113). It then asks for the preset
that gives the widest eye, `preset`, and says RX_READY. -/
def laneTrain (l : Nat) (payload : List Byte) (adapted : Bool) (f : Equaliser) (preset : Fin 8) (s : State) : State :=
  let x := s.lane l
  let req := bits (u8 payload 1) 3 0
  let x := { x with overheard := if req < 8 then req else x.overheard }
  if x.listenOnly then s.setLane l x
  else if x.state = .train then
    let x := { x with
      txPreset := if req < 8 then req else x.txPreset
      partnerReady := x.partnerReady || (u8 payload 1).testBit 4
      readySeen := x.readySeen || (u8 payload 1).testBit 5
      readySent := x.readySent || adapted
      presetReq := if adapted then preset.val else x.presetReq }
    let x := if adapted then x.fit f else x
    let s := sendDue l (s.setLane l x)
    if x.readySent && x.readySeen then enterDeskew l id s else s
  else s.setLane l x

/-- LANE_BLIND_ADAPT_DONE: after 1 ms of blind adaptation (R105, R113). -/
def laneBlind (l : Nat) (f : Equaliser) (s : State) : State :=
  let x := s.lane l
  if x.state = .train && x.listenOnly && x.since + 1000000 ≤ s.now then
    enterDeskew l (fun x => x.fit f) s
  else s

/-- LANE_ALIGN_RECEIVED (R100, R101, R105): when every lane of the group has seen the same SEQ within 8 blocks, each lane under an index of its
own, all go on to CAPS. -/
def laneAlign (l index groupSize seq row : Nat) (s : State) : State :=
  let g := lanesOf (groupOf l)
  let s := modLane l (fun x => { x with laneIndex := index }) s
  if (s.lane l).state = .deskew && groupSize = g.length then
    let s := modLane l (fun x => { x with alignSeq := some seq, alignRow := row }) s
    let rows := g.map fun k => (s.lane k).alignRow
    let ready := g.all (fun k => (s.lane k).state = .deskew && (s.lane k).alignSeq = some seq && (s.lane k).laneIndex < g.length)
      && (g.map fun k => (s.lane k).laneIndex).eraseDups.length = g.length
      && rows.foldl max 0 ≤ rows.foldl min row + 8
    if ready then g.foldl (fun s k => enterLane k .caps (fun x => { x with aligned := true, capsOk := false }) s) s
    else s
  else s

/-- Is a partner's CAPS compatible with a group (R110)? A listen-only group overhears the camera's own. -/
def capsCompatible (g : Nat) (caps : List Byte) : Bool :=
  u8 caps 0 = (layersOf g).2 && u8 caps 1 = 1 && u8 caps 3 = (lanesOf g).length

/-- CAPS without its REPEAT bit, for comparison with the stored one. -/
def capsBody (caps : List Byte) : List Byte :=
  (padTo 7 caps).zipIdx.map fun e => if e.2 = 4 then e.1 &&& 0xFE#8 else e.1

/-- The group enters ACTIVE, or LISTEN, together (R106); what the resume path needs is kept from here on (R107). -/
def groupEnters (g : Nat) (s : State) : State :=
  (lanesOf g).foldl (fun s l =>
    let x := s.lane l
    enterLane l (if x.listenOnly || x.txDark then .listen else .active) (fun x => { x with
      retries := 0, fails := 0, resume := false, trained := true, resumeBy := none, partnerCaps := padTo 7 x.newCaps, newCaps := []
      kept := x.fitNow }) s) s

/-- LANE_CAPS_RECEIVED (R105, R106, R107, R110). A mismatch enters BACKOFF, so it sets TRAIN_FAILED too (R117). -/
def laneCaps (l : Nat) (caps : List Byte) (s : State) : State :=
  let g := groupOf l
  let x := s.lane l
  let same := capsBody caps = capsBody x.partnerCaps
  if x.state = .caps then
    if !capsCompatible g caps then setCause l 0x110 (enterLane l .backoff Lane.fresh s)
    else if x.resume && !same then s
    else
      let s := s.setLane l { x with capsOk := true, newCaps := padTo 7 caps }
      if (lanesOf g).all (fun k => (s.lane k).state = .caps && (s.lane k).capsOk) then groupEnters g s else s
  else if x.state.carries && u8 caps 4 % 2 = 1 && !same then setCause l 8 s
  else s

/-- Does a lane on the resume path wait in DESKEW for another lane of its group to come back (R106)? -/
def laneWaits (l : Nat) (s : State) : Bool :=
  (s.lane l).state = .deskew && (s.lane l).resume && (lanesOf (groupOf l)).any fun k => (s.lane k).state ≠ .deskew

/-- LANE_BRINGUP_TIMEOUT (R105): the limit of the lane's state, or of its return to ACTIVE after a loss of block lock, has passed. -/
def laneTimeout (l : Nat) (s : State) : State :=
  let x := s.lane l
  let passed := !laneWaits l s && (laneLimit x).any fun d => x.since + d ≤ s.now
  let late := (x.resumeBy.any fun d => d ≤ s.now) && (x.state = .blockLock || x.state = .deskew || x.state = .caps)
  if passed then returnToDetect l (if x.state = .deskew then 0x80 else 0) s
  else if late then returnToDetect l 0 s
  else s

/-- LANE_BLOCK_LOCK_LOST (R105, R106): 16 invalid headers in 64 blocks take an ACTIVE or LISTEN lane to the resume path. -/
def laneLockLost (l : Nat) (s : State) : State :=
  if (s.lane l).state.carries then
    let s := groupWaits l (leaveCarrying l 2 s)
    enterLane l .blockLock (fun x => { x.resumed with bitLock := true, resumeBy := some (s.now + 1000000) }) s
  else s

/-- LANE_BACKOFF_EXPIRED: 100 ms after BACKOFF was entered (R105). -/
def laneBackoffEnd (l : Nat) (s : State) : State :=
  let x := s.lane l
  if x.state = .backoff && x.since + 100000000 ≤ s.now then enterLane l .detect (fun x => { x.anew with fails := 0 }) s else s

/-- LANE_ELASTIC_SLIP (R103): a block is lost or repeated, and the group's deskew restarts. What the layer above makes of the block that is
missing or doubled arrives as that layer's own errors. -/
def laneElastic (l : Nat) (s : State) : State :=
  let s := if (s.lane l).state.carries then leaveCarrying l 0x20 s else setCause l 0x20 s
  let s := groupWaits l s
  (lanesOf (groupOf l)).foldl (fun s k =>
    let x := s.lane k
    if x.state.carries || x.state = .caps || x.state = .deskew then
      enterLane k .deskew (fun x => { x with
        resume := x.resume || x.state.carries, aligned := false, alignSeq := none, capsOk := false, newCaps := [] }) s
    else s) s

/-! ### Counting, patterns and injection (R100, R102, R115, R116) -/

/-- Is a control block's type one that the lane layer or the layer above this group owns (R100; DEDUCED, assumption 83)? -/
def typeKnown (g type : Nat) : Bool :=
  type = 0x1E || (0xA1 ≤ type && type ≤ 0xA4) || type / 16 = (if g < 12 then 0xB else if g < 14 then 0xC else 0xD)

/-- The bytes of a run of bits, the first least significant. -/
def packBits (bs : List Bool) : List Byte := le ((bs.length + 7) / 8) (bs.foldr (fun b n => b2n b + 2 * n) 0)

/-- The generator sends so many bits of its pattern on the raw line; each injection that waits flips one of them, from the first on (R115,
R116). -/
def sendPattern (l n : Nat) (s : State) : State :=
  let x := s.lane l
  if x.state ≠ .test || !x.genEn || x.txDark then s
  else
    let g := generate x.genPattern x.testPattern n x.genReg x.genPos
    let k := x.injects.length
    let line := g.1.zipIdx.map fun e => xor (xor e.1 (decide (e.2 < k))) x.txInvert
    send .lane l 0x200 (packBits line)
      (s.setLane l { x with genReg := g.2, genPos := (x.genPos + n) % 64, injects := x.injects.drop n })

/-- What the checker has found joins the registers (R115, R117). -/
def Lane.takeCheck (x : Lane) (c : Checker) : Lane := { x with
  chkErrors := sat 32 (x.chkErrors + c.errors), chkBits := wrap 48 (x.chkBits + c.bits)
  chk := { c with errors := 0, bits := 0, lost := false } }

/-- LANE_ERR_WINDOW (R100, R115, R117): what has come since the last one is counted and checked; at the end of the 1 ms window the sync
errors are compared with ERR_LIMIT. -/
def laneWindow (l : Nat) (c : LaneWindow) (s : State) : State :=
  let x := s.lane l
  let types := c.controls.map (·.val)
  let chk := if x.state = .test && x.chkEn then
      (c.bits.map (xor · x.rxInvert)).foldl (Checker.step x.chkPattern x.testPattern) x.chk
    else x.chk
  let errs := x.winErrs + c.syncErrs
  let ends := x.winFrom + 1000000 ≤ s.now
  let s := s.setLane l { x.takeCheck chk with
    syncErr := sat 32 (x.syncErr + c.syncErrs)
    blockErr := sat 32 (x.blockErr + (types.filter fun y => !typeKnown (groupOf l) y).length)
    filler := wrap 32 (x.filler + types.count 0xA1)
    winErrs := if ends then 0 else errs
    winFrom := if ends then s.now else x.winFrom }
  let causes : BitVec 9 := (if ends && x.errLimit ≤ errs then 4 else 0) ||| (if chk.lost then 0x40 else 0)
  sendPattern l c.bits.length (if causes = 0 then s else setCause l causes s)

/-- A group sends an ALIGN; in place of every 256th that it would send while ACTIVE, a CAPS with REPEAT (R102). -/
def sendMarker (g : Nat) (s : State) : State :=
  let m := s.marks g
  if !groupActive g s then sendAlign g s
  else
    let s := setMarks g { m with alignsSent := (m.alignsSent + 1) % 256, alignAt := some s.now } s
    if m.alignsSent = 255 then sendRow g 0xA4 (fun _ => capsPayload g true) s else sendAlign g s

/-- LANE_MARKER_SEND: on every lane of the group in one stripe row, a FILLER or, 4,096 blocks after the last one, an ALIGN or a CAPS; a lane in
bring-up also sends what its state asks for (R101, R102, R105). R102 speaks of each transmitter, so that its markers go out in every state in
which a lane sends blocks (DEDUCED, assumption 109). -/
def laneMarker (l : Nat) (filler : Bool) (s : State) : State :=
  let g := groupOf l
  let s := (lanesOf g).foldl (fun s k => sendDue k s) s
  if filler then sendRow g 0xA1 (fun _ => []) s
  else if elapsed (blocksNs (s.lane l).rate 4096) (s.marks g).alignAt s.now then sendMarker g s
  else s

/-- LANE_SLIP (R112): ignored unless BITSLIP_MODE is set. -/
def laneSlip (l : Nat) (s : State) : State :=
  modLane l (fun x => if x.bitslip then { x with slipPos := (x.slipPos + 1) % 66 } else x) s

/-- LANE_COUNT_CLEAR: the error and test counters (R117). -/
def laneCountClear (l : Nat) (s : State) : State :=
  modLane l (fun x => { x with syncErr := 0, blockErr := 0, chkErrors := 0, chkBits := 0 }) s

/-- One injection of the selected kind on the lane's transmitter, in TEST or ACTIVE; kinds 2 and 3 do nothing in TEST (R116). It acts on the
next block, or bit, that can carry it. -/
def laneInject (l : Nat) (s : State) : State :=
  let x := s.lane l
  if x.injectKind ≠ 0 && !x.txDark && (x.state = .active || (x.state = .test && x.injectKind = 1)) then
    s.setLane l { x with injects := x.injects ++ [x.injectKind] }
  else s

/-- LANE_INJECT_PERIODIC: once per 2^k bits, while INJECT_RATE holds k from 10 to 31 (R116). -/
def laneInjectPeriodic (l : Nat) (s : State) : State :=
  let x := s.lane l
  let due := match x.injectAt with
    | some t => 2 ^ x.injectRate * 64 ≤ (s.now - t) * 10 * rateMultiple x.rate
    | none => true
  if 10 ≤ x.injectRate && due then laneInject l (s.setLane l { x with injectAt := some s.now }) else s

/-- GEN_EN and CHK_EN take new values: ACTIVE, OFF or IDLE go to TEST; with both clear TEST returns to DETECT (R105, R115). A lane in another
state stays out of TEST, later states included, until one of the bits is written set anew (DESIGN CHOICE, assumption 109). -/
def laneTest (l : Nat) (gen chk : Bool) (s : State) : State :=
  let x := s.lane l
  let enters := (gen || chk) && (x.state = .active || x.state = .off || x.state = .idle)
  let s := if enters then groupWaits l (leaveCarrying l 0 s) else s
  let s := modLane l (fun x => { x with genEn := gen, chkEn := chk, chk := if chk && x.chkEn then x.chk else {} }) s
  if enters then enterLane l .test Lane.fresh s
  else if !gen && !chk && x.state = .test then enterLane l .detect Lane.anew s
  else s

/-! ### The lane register space (R117) -/

/-- The word at an offset within a lane's space. -/
def Lane.word (x : Lane) (off : Nat) : Nat :=
  match off with
  | 0x00 => b2n x.enable + 2 * x.rate + 16 * b2n x.listenOnly + 32 * b2n x.txDark + 64 * b2n x.bitslip
      + 256 * b2n x.rxInvert + 512 * b2n x.txInvert + 1024 * b2n x.detectWake
  | 0x04 => x.state.code + 16 * b2n x.bitLock + 32 * b2n x.blockLock + 64 * b2n x.aligned + 128 * x.slipPos + 65536 * x.retries
  | 0x08 => x.cause.toNat
  | 0x0C => x.causeMask.toNat
  | 0x10 => x.syncErr
  | 0x14 => x.blockErr
  | 0x18 => x.filler
  | 0x1C => x.errLimit
  | 0x20 => fld 4 x.partnerCaps 0
  | 0x24 => fld 3 x.partnerCaps 4
  | 0x28 => x.ctle + 256 * x.dfe + 65536 * x.txPreset + 2 ^ 24 * x.eye
  | 0x2C => x.genPattern + 8 * x.chkPattern + 64 * b2n x.genEn + 128 * b2n x.chkEn + 256 * b2n x.chk.synced
      + 512 * x.injectKind + 2048 * x.injectRate
  | 0x30 => x.testPattern % 2 ^ 32
  | 0x34 => x.testPattern / 2 ^ 32
  | 0x38 => x.chkErrors
  | 0x3C => x.chkBits % 2 ^ 32
  | 0x40 => x.chkBits / 2 ^ 32
  | _ => 0

/-- The word at an offset of the lane register space. -/
def laneSpaceWord (off : Nat) (s : State) : Nat := (s.lane (off / 0x80)).word (off % 0x80)

/-- The bits of a word that a write may touch; the rest are RO (RATE is RO on L48-L57). -/
def laneWritable (l off : Nat) : Nat :=
  match off with
  | 0x00 => if l < 48 then 0x1FCF else 0x1FC1
  | 0x08 => 0x1FF
  | 0x0C => 0x1FF
  | 0x1C => 0xFFFF
  | 0x2C => 0x1FEFF
  | 0x30 => 0xFFFFFFFF
  | 0x34 => 0xFFFFFFFF
  | _ => 0

/-- Is a port one of a station that is learning, inspecting or shadowing (R119)? -/
def portInUse (n : Nat) (s : State) : Bool :=
  s.mode.inspects && (List.range 4).any fun k => (s.station k).ports.contains n

/-- Would the lanes of every four-lane group agree in RATE and ENABLE if the masked lanes took these (R119)? -/
def lanesAgree (mask rate : Nat) (enable : Bool) (s : State) : Bool :=
  (List.range 14).all fun g =>
    let vs := (lanesOf g).map fun l => if mask.testBit l then (rate, enable) else ((s.lane l).rate, (s.lane l).enable)
    vs.all (· = vs.headD (0, false)) || !(lanesOf g).any (fun l => mask.testBit l)

/-- LANE_REG_WRITE's checks of what is written (R117, R119). On L48-L55 in MAINTAIN a write of ENABLE or of an INVERT bit passes when the group
agrees: the check LANE_SET would make of a lane mask, which takes no chain lane, is read as the check of agreement (DESIGN CHOICE,
assumption 84). -/
def laneWriteCheck (off mask value : Nat) (s : State) : Nat :=
  let l := off / 0x80
  let o := off % 0x80
  let new := ((s.lane l).word o &&& (0xFFFFFFFF ^^^ mask)) ||| (value &&& mask)
  let excepted := o = 0x08 || o = 0x0C || o = 0x1C || (o = 0x00 && mask &&& 0xFFFFEFFF = 0)
  if mask &&& (0xFFFFFFFF ^^^ laneWritable l o) ≠ 0 then stOutOfRange
  else if o = 0x00 && 4 ≤ bits new 3 1 then stOutOfRange
  else if o = 0x2C && (bits new 2 0 = 7 || bits new 5 3 = 7 || (1 ≤ bits new 15 11 && bits new 15 11 ≤ 9)) then stOutOfRange
  else if excepted then stDone
  else if l < 48 && portInUse (l / 4) s then stConflict
  else if 48 ≤ l && s.mode ≠ .maintain then stConflict
  else if o = 0x00 && mask &&& 0x30F ≠ 0 && l < 56 then
    if !([Mode.standby, .configure, .calibrate, .maintain].contains s.mode) then stWrongMode
    else if !lanesAgree (2 ^ l) (bits new 3 1) (new.testBit 0) s then stConflict
    else stDone
  else stDone

/-- A masked write of one lane register word. -/
def laneWrite (off mask value : Nat) (s : State) : State :=
  let l := off / 0x80
  let x := s.lane l
  let new := (x.word (off % 0x80) &&& (0xFFFFFFFF ^^^ mask)) ||| (value &&& mask)
  let w1 := value &&& mask
  match off % 0x80 with
  | 0x00 =>
    let changed := x.enable ≠ new.testBit 0 || x.rate ≠ bits new 3 1 || x.rxInvert ≠ new.testBit 8 || x.txInvert ≠ new.testBit 9
    let s := s.setLane l { x with
      enable := new.testBit 0, rate := bits new 3 1, bitslip := new.testBit 6, rxInvert := new.testBit 8
      txInvert := new.testBit 9, detectWake := new.testBit 10 }
    let s := if changed then restartLane l s else s
    let s := if w1.testBit 7 then laneSlip l s else s
    let s := if w1.testBit 11 && new.testBit 0 then restartLane l s else s
    if w1.testBit 12 then laneCountClear l s else s
  | 0x08 => s.setLane l { x with cause := x.cause &&& ~~~ (BitVec.ofNat 9 w1) }
  | 0x0C => s.setLane l { x with causeMask := BitVec.ofNat 9 new }
  | 0x1C => s.setLane l { x with errLimit := new % 2 ^ 16 }
  | 0x2C =>
    let s := s.setLane l { x with
      genPattern := bits new 2 0, chkPattern := bits new 5 3, injectKind := bits new 10 9, injectRate := bits new 15 11 }
    let s := if x.genEn ≠ new.testBit 6 || x.chkEn ≠ new.testBit 7 then laneTest l (new.testBit 6) (new.testBit 7) s else s
    if w1.testBit 16 then laneInject l s else s
  | 0x30 => s.setLane l { x with testPattern := x.testPattern / 2 ^ 32 * 2 ^ 32 + new % 2 ^ 32 }
  | 0x34 => s.setLane l { x with testPattern := x.testPattern % 2 ^ 32 + new % 2 ^ 32 * 2 ^ 32 }
  | _ => s

/-- LANE_RESTART (R117): a full bring-up of an enabled lane. -/
def laneRestart (l : Nat) (s : State) : State := if (s.lane l).enable then restartLane l s else s

/-! ### Commands (R119) -/

/-- LANE_SET, opcode 0x0200. -/
def cmdLaneSet : CommandDef := {
  opcode := 0x0200
  modes := [.standby, .configure, .calibrate, .maintain]
  lengths := [12]
  check := fun c _ s =>
    let mask := u64 c.p 0
    if mask = 0 || 2 ^ 58 ≤ mask || 3 < u8 c.p 8 || 8 ≤ u8 c.p 9 || u16 c.p 10 ≠ 0 then stOutOfRange
    else if 2 ^ 48 ≤ mask then stConflict
    else if !lanesAgree mask (u8 c.p 8) ((u8 c.p 9).testBit 0) s then stConflict
    else if (setIndices 48 mask).any (fun l => portInUse (l / 4) s) then stConflict
    else stDone
  commit := fun c s =>
    let flags := u8 c.p 9
    .reply [] ((setIndices 48 (u64 c.p 0)).foldl (fun s l =>
      let x := s.lane l
      let y := { x with
        rate := u8 c.p 8, enable := flags.testBit 0, rxInvert := flags.testBit 1, txInvert := flags.testBit 2 }
      if x = y then s else restartLane l (s.setLane l y)) s) }

/-- LANE_REG_READ, opcode 0x0201. -/
def cmdLaneRegRead : CommandDef := {
  opcode := 0x0201
  lengths := [4]
  reads := true
  replyMax := fun c => 4 * u16 c.p 2
  check := fun c _ _ =>
    let off := u16 c.p 0
    let n := u16 c.p 2
    if 0x1CFC < off || off % 4 ≠ 0 || n = 0 || 12 < n || 0x1D00 < off + 4 * n then stOutOfRange else stDone
  commit := fun c s =>
    .reply ((List.range (u16 c.p 2)).flatMap fun k => le 4 (laneSpaceWord (u16 c.p 0 + 4 * k) s)) s }

/-- LANE_REG_WRITE, opcode 0x0202. -/
def cmdLaneRegWrite : CommandDef := {
  opcode := 0x0202
  lengths := [12]
  check := fun c _ s =>
    let off := u16 c.p 0
    if 0x1CFC < off || off % 4 ≠ 0 || u16 c.p 2 ≠ 0 then stOutOfRange else laneWriteCheck off (u32 c.p 4) (u32 c.p 8) s
  commit := fun c s => .reply [] (laneWrite (u16 c.p 0) (u32 c.p 4) (u32 c.p 8) s) }

end Sys2Proof.Machine
end

