-- ==== Sys2Proof/Machine/Calibration.lean ====
section
/-!
DEFINITION. Sys2Proof/Machine/Calibration.lean: electrical calibration (chapter 25): items and their codes (R523-R526), runs
(R527, R528, R532), when a run is allowed (R530) and the commands of R534.
-/
namespace Sys2Proof.Machine

def modCal (f : Cal → Cal) (s : State) : State := { s with cal := f s.cal }

/-! ### Items and codes (R523-R526) -/

/-- Is an index one an item has (R523)? -/
def calIndexOk (item index : Nat) : Bool :=
  match item with
  | 1 | 2 => index < 58
  | 3 => 48 ≤ index && index < 58
  | 4 | 7 => index < 4
  | 5 | 6 => index < 8
  | 8 => index = 0
  | _ => false

/-- The code range of an item (R523). -/
def calRange (item : Nat) : Int × Int :=
  match item with
  | 1 | 2 | 8 => (0, 255)
  | 3 | 5 => (0, 65535)
  | 4 => (0, 1023)
  | 6 => (-2048, 2047)
  | _ => (-1024, 1023)

/-- The largest offset of an item (R523). -/
def calOffsetMax (item : Nat) : Int :=
  match item with
  | 1 | 2 => 16
  | 3 => 500
  | 4 => 64
  | 5 | 6 => 256
  | 7 => 80
  | _ => 32

/-- The factory code at temperature T, from the three sets (R524). -/
def factoryAt (f0 f1 f2 t : Int) : Int :=
  let mix := fun (a b t0 : Int) =>
    let w := ((t - t0) * 256 + 480) / 960
    a + ((b - a) * w + 128) / 256
  if t ≤ -320 then f0
  else if 1600 ≤ t then f2
  else if t < 640 then mix f0 f1 (-320)
  else mix f1 f2 640

/-- The sensor of an index of items 4 and 7: 0 hub, 1 and 2 the dies, 3 Sentry. -/
def sensorTemp (index : Nat) (s : State) : Int :=
  match index with
  | 0 => nth 0 s.teller.dies 2
  | 1 => nth 0 s.teller.dies 0
  | 2 => nth 0 s.teller.dies 1
  | _ => s.cal.sentryTemp

def calKey (item index : Nat) : Nat := 64 * item + index

/-- The temperature an item's factory code is taken at: of the die that holds it; for item 7, what its sensor reads with
the 40 degree set in place of the applied code (R524, R525). -/
def calTemp (item index : Nat) (s : State) : Int :=
  match item with
  | 4 => sensorTemp index s
  | 7 =>
    let f1 := Config.calFactory 7 index 1
    sensorTemp index s - ((s.calItem (calKey 7 index)).applied.getD f1) + f1
  | _ => sensorTemp 0 s

/-- F, the factory code in force. -/
def calF (item index : Nat) (s : State) : Int :=
  factoryAt (Config.calFactory item index 0) (Config.calFactory item index 1) (Config.calFactory item index 2) (calTemp item index s)

/-- V = clamp(F + C + U, code range) (R526). -/
def calV (item index : Nat) (s : State) : Int :=
  let x := s.calItem (calKey item index)
  clampInt (calRange item).1 (calRange item).2 (calF item index s + x.correction + x.offset)

/-- A lane that has entered BIT_LOCK applies V of items 1 to 3 (R526). -/
def applyLane (l : Nat) (s : State) : State :=
  let s := ([1, 2, 3].filter fun i => calIndexOk i l).foldl (fun s i =>
    modCalItem (calKey i l) (fun x => { x with applied := some (calV i l s) }) s) s
  modLane l (fun x => { x with calDue := false }) s

/-- The lanes that entered BIT_LOCK in this step. -/
def applyLanes (s : State) : State :=
  ((s.lanes.lanes.filter fun e => e.2.calDue).map (·.1)).foldl (fun s l => applyLane l s) s

/-- The indices of items 4 to 8. -/
def steppedItems : List (Nat × Nat) :=
  (List.range 4).map (4, ·) ++ (List.range 8).map (5, ·) ++ (List.range 8).map (6, ·) ++ (List.range 4).map (7, ·) ++ [(8, 0)]

/-- One step of an applied code towards V; the first code applied since reset is V itself. -/
def stepCode (applied : Option Int) (v : Int) : Int :=
  match applied with
  | none => v
  | some a => if a < v then a + 1 else if v < a then a - 1 else a

/-- CAL_RECOMPUTE, 100 ms after the last one: the applied codes of items 4 to 8 move one step towards V (R526). The Sentry sensor is read. -/
def calRecompute (sentry : Int) (s : State) : State :=
  if !elapsed 100000000 s.cal.recomputedAt s.now then s
  else
    let s := modCal (fun c => { c with sentryTemp := sentry, recomputedAt := some s.now }) s
    steppedItems.foldl (fun s e =>
      modCalItem (calKey e.1 e.2) (fun x => { x with applied := some (stepCode x.applied (calV e.1 e.2 s)) }) s) s

/-! ### Runs (R527, R528, R530-R532) -/

/-- The lane group a step calibrates, if it is a lane-group step. -/
def stepGroup (b : Nat) : Option Nat := if 4 ≤ b then some (b - 4) else none

/-- A step begins: a lane group's link is paused, through IDLE (R109, R527). -/
def beginStep (s : State) : State :=
  match s.cal.run with
  | some r => match r.steps.head?.bind stepGroup with
    | some g => idleGroup g s
    | none => s
  | none => s

/-- The lane group of the step in progress returns to service on the resume path. -/
def endStep (r : CalRun) (s : State) : State :=
  match r.steps.head?.bind stepGroup with
  | some g => wakeGroup g s
  | none => s

/-- A run ends: its journal entry, its event, its reply, and CONFIGURE unless STAY is set (R527, R530, R532, R533). -/
def endRun (r : CalRun) (status : Nat) (s : State) : State :=
  let s := modCal (fun c => { c with run := none }) s
  let s := if status = stDone then
      r.staged.foldl (fun s e => modCalItem (calKey e.1 e.2.1) (fun x => { x with correction := e.2.2, lastRun := s.chainTime }) s) s
    else s
  let s := endStep r s
  let s := raise (if status = stDone then 496 else 497) (journal 0x1200 0 93 (le 4 r.scope ++ le 2 status) s)
  let s := finishOne 0x1200 (fun _ => true) status
    (if status = stDone then le 4 (sat 32 ((s.now - r.startedAt) / 1000)) ++ le 4 r.drift ++ zeros 8 else []) s
  if s.mode = .calibrate && !r.stay && s.modes.waitingModes = [] && s.modes.trans.isNone then
    { s with modes := { s.modes with wanted := some (.configure, 0) } }
  else s

/-- The items a step calibrates. -/
def stepItems (b : Nat) : List (Nat × Nat) :=
  match b with
  | 0 => (List.range 4).map (4, ·)
  | 1 => (List.range 8).map (5, ·) ++ (List.range 8).map (6, ·)
  | 2 => (List.range 4).map (7, ·)
  | 3 => [(8, 0)]
  | b => (lanesOf (b - 4)).map (1, ·) ++ (lanesOf (b - 4)).map (2, ·)
    ++ ((lanesOf (b - 4)).filter (48 ≤ ·)).map (3, ·)

/-- What a step measured: C of each of its items; one not listed keeps its own. -/
def stepStaged (b : Nat) (measured : List (Nat × Nat × Int)) (s : State) : List (Nat × Nat × Int) :=
  (stepItems b).map fun e =>
    (e.1, e.2, ((measured.find? fun m => m.1 = e.1 && m.2.1 = e.2).map (·.2.2)).getD (s.calItem (calKey e.1 e.2)).correction)

/-- Is an item's target met within its code range (R528)? -/
def targetMet (e : Nat × Nat × Int) (s : State) : Bool :=
  let v := calF e.1 e.2.1 s + e.2.2
  (calRange e.1).1 ≤ v && v ≤ (calRange e.1).2

/-- CAL_STEP_DONE: the step in progress has measured its items; calres is the resistor as step 1 found it, in milliohms. 1 s
after its start the run has timed out (R532). -/
def calStepDone (calres : Nat) (measured : List (Nat × Nat × Int)) (s : State) : State :=
  match s.cal.run with
  | none => s
  | some r =>
    match r.steps with
    | [] => s
    | b :: rest =>
      if r.startedAt + 1000000000 ≤ s.now then endRun r stTimedOut s
      else if workHeld 1 s then s
      else if b = 0 && (calres < 4900000 || 5080000 < calres) then endRun r stHwFault (raise 499 s)
      else
        let xs := stepStaged b measured s
        if xs.any (fun e => !targetMet e s) then endRun r stHwFault s
        else
          let drifts := xs.any fun e => calOffsetMax e.1 < 4 * (e.2.2.natAbs : Int)
          let s := raiseIf (drifts && r.drift = 0) 498 s
          let r := { r with staged := r.staged ++ xs, drift := if drifts then r.drift ||| 2 ^ b else r.drift }
          if s.modes.waitingModes ≠ [] || s.modes.trans.isSome then endRun r stAborted s
          else if rest = [] then endRun r stDone s
          else beginStep (modCal (fun c => { c with run := some { r with steps := rest } }) (endStep r s))

/-- CAL_RUN_TIMEOUT: 1 s after its start a run has not completed (R532). -/
def calTimeout (s : State) : State :=
  match s.cal.run with
  | some r => if r.startedAt + 1000000000 ≤ s.now then endRun r stTimedOut s else s
  | none => s

/-- Does the teller accept a lane group's calibration: no named port of a station that learns, keeps or inspects (R530)? -/
def calPortsFree (scope : Nat) (s : State) : Bool :=
  (List.range 4).all fun k =>
    let busy := (s.mode = .configure || s.mode = .learn) && ((s.learn k).set.options.getLsbD 0 || (s.learn k).set.options.getLsbD 1)
    !busy || (s.station k).ports.all fun n => !scope.testBit (4 + n)

/-- CAL_RUN, opcode 0x1200. -/
def cmdCalRun : CommandDef := {
  opcode := 0x1200
  modes := [.calibrate, .configure, .learn]
  lengths := [8]
  replyMax := fun _ => 16
  check := fun c _ s =>
    let scope := u32 c.p 0
    if scope = 0 || 0x7FFFF < scope || 1 < u8 c.p 4 || !zeroAt c.p 5 3 then stOutOfRange
    else if s.mode ≠ .calibrate && (scope % 16 ≠ 0 || 2 ^ 16 ≤ scope) then stWrongMode
    else if s.cal.run.isSome then stBusy
    else if (s.mode ≠ .calibrate && !calPortsFree scope s)
      || (List.range 15).any (fun g => scope.testBit (4 + g) && (lanesOf g).any fun l => (s.lane l).state = .test)
      || (2 ^ 16 ≤ scope && (!s.sys.staged.isEmpty || s.twin.role ≠ .off)) then stConflict
    else stDone
  commit := fun c s =>
    let r : CalRun := { scope := u32 c.p 0, steps := setIndices 19 (u32 c.p 0), stay := u8 c.p 4 = 1, startedAt := s.now }
    .later (beginStep (modCal (fun x => { x with run := some r }) s)) 0 }

/-- CAL_OFFSET_SET, opcode 0x1201. -/
def cmdCalOffsetSet : CommandDef := {
  opcode := 0x1201
  modes := [.standby, .configure, .calibrate, .maintain]
  lengths := [8]
  check := fun c _ _ =>
    if !calIndexOk (u8 c.p 0) (u16 c.p 2) || calOffsetMax (u8 c.p 0) < (s16 c.p 4).natAbs || u8 c.p 1 ≠ 0 || u16 c.p 6 ≠ 0 then stOutOfRange
    else stDone
  commit := fun c s =>
    .reply [] (modCalItem (calKey (u8 c.p 0) (u16 c.p 2)) (fun x => { x with offset := s16 c.p 4 }) s) }

/-- CAL_STATUS, opcode 0x1202. -/
def cmdCalStatus : CommandDef := {
  opcode := 0x1202
  lengths := [4]
  reads := true
  replyMax := fun _ => 20
  check := fun c _ _ => if !calIndexOk (u8 c.p 0) (u16 c.p 2) || u8 c.p 1 ≠ 0 then stOutOfRange else stDone
  commit := fun c s =>
    let i := u8 c.p 0
    let n := u16 c.p 2
    let x := s.calItem (calKey i n)
    .reply (les 2 (calF i n s) ++ les 2 x.correction ++ les 2 x.offset ++ les 2 (calV i n s) ++ les 2 (x.applied.getD (calV i n s))
      ++ les 2 (calTemp i n s) ++ le 8 x.lastRun) s }

/-- Offsets 8 to 15 of capability 0x0013's body (R534). -/
def capCal : List Byte := [8, 3] ++ le 2 40 ++ le 4 1800

end Sys2Proof.Machine
end

