-- ==== Sys2Proof/Machine/Dram.lean ====
section
/-!
DEFINITION. Sys2Proof/Machine/Dram.lean: the DRAM controller (chapter 18): the address map (R395), refresh (R398-R400),
training and retraining slices (R388, R402-R404), errors and scrub (R405-R408), and the commands of R411.
-/
namespace Sys2Proof.Machine

def modDram (f : Dram → Dram) (s : State) : State := { s with dram := f s.dram }

/-! ### Refresh (R398-R400) -/

/-- Does a channel work: fitted, trained, out of self-refresh? -/
def channelWorks (c : Nat) (s : State) : Bool := c < Config.dramChannels && !(s.dramCh c).failed && !(s.dramCh c).selfRefresh

/-- REFRESH_DUE: postponed while the channel has reads queued, of its queue or `reads` of a unit whose traffic the queues do not carry
(assumption 100), and fewer than POSTPONE_MAX are owed, else sent, which closes every row
(R398, R399). -/
def refreshDue (c : Nat) (reads : Bool) (s : State) : State :=
  let x := s.dramCh c
  if !channelWorks c s then s
  else if (x.readsQueued || reads) && x.owed < s.dram.set.postponeMax then
    let full := x.owed + 1 = s.dram.set.postponeMax && elapsed 1000000000 x.limitAt s.now
    raiseIf full 386 (s.setDramCh c { x with
      owed := x.owed + 1, owedPeak := max x.owedPeak (x.owed + 1), limitAt := if full then some s.now else x.limitAt })
  else s.setDramCh c x.closeRows

/-- REFRESH_MR4_POLL: 16 ms after the last poll, the shortest interval that any device of the channel asks for is in force (R398). -/
def mr4Poll (c : Nat) (levels : List Nat) (s : State) : State :=
  let level := levels.foldl max 0
  if channelWorks c s && elapsed 16000000 (s.dramCh c).mr4At s.now then
    raiseIf ((s.dramCh c).interval < level) 387 (modDramCh c (fun x => { x with interval := level, mr4At := some s.now }) s)
  else s

/-- What a channel owes is made up back to back (R400). -/
def DramCh.madeUp (x : DramCh) : DramCh := if x.owed = 0 then x else { x.closeRows with owed := 0 }

/-- REFRESH_MAKEUP: what is owed is made up as soon as the read queue has been empty for 100 ns (R400). -/
def refreshMakeup (c : Nat) (s : State) : State :=
  let x := s.dramCh c
  if channelWorks c s && !x.readsQueued && x.readsEnd + 100 ≤ s.now then s.setDramCh c x.madeUp else s

/-- The channels enter self-refresh, owing nothing (R400). -/
def dramSleep (s : State) : State :=
  (List.range Config.dramChannels).foldl (fun s c => modDramCh c (fun x => { x.closeRows with selfRefresh := true, owed := 0 }) s) s

/-- Each channel's neighbour-refresh LFSR is seeded from entropy (R401). -/
def seedNeighbours (s : State) : State :=
  (List.range Config.dramChannels).foldl (fun s c =>
    let r := s.drawFree (2 ^ 32)
    modDramCh c (fun x => { x with lfsr := BitVec.ofNat 32 r.1 }) r.2) s

/-- The channels leave self-refresh; every rank then needs a slice (R404). -/
def dramWake (s : State) : State :=
  (List.range Config.dramChannels).foldl (fun s c => modDramCh c (fun x =>
    if x.selfRefresh then { x with selfRefresh := false, due := BitVec.ofNat 2 (2 ^ Config.dramRanks - 1) } else x) s) s

/-! ### Training (R388, R402-R404) -/

/-- Does a correction exceed 1/8 of a unit interval (R404)? -/
def driftLarge (ps : Nat) : Bool := 1000000 < 8 * ps * Config.dramRate

/-- The hub die's temperature, in 1/16 degree: the controllers are on it. -/
def hubTemp (s : State) : Int := nth 0 s.teller.dies 2

/-- A rank has a slice: what is owed is made up first, the channel's requests wait for as long as it takes, and it is counted with its
correction (R400, R404). -/
def sliceRun (c rank took drift : Nat) (s : State) : State :=
  raiseIf (driftLarge drift) 388 (modDramCh c (fun x => { x.madeUp with
    slices := sat 32 (x.slices + 1), driftMax := max x.driftMax (sat 16 drift)
    due := x.due &&& ~~~ BitVec.ofNat 2 (2 ^ rank), sliceUntil := max x.sliceUntil s.now + took
    ranks := Tab.set {} x.ranks rank { sliceAt := max x.sliceUntil s.now + took, temp := hubTemp s } }) s)

/-- RETRAIN_DUE: a rank needs a slice, RETRAIN_MS after its last one or once the die's temperature has moved 5 degrees since (R404). -/
def retrainDue (c rank : Nat) (s : State) : State :=
  let r := Tab.get {} (s.dramCh c).ranks rank
  let due := r.sliceAt + 1000000 * s.dram.set.retrainMs ≤ s.now || 80 ≤ (hubTemp s - r.temp).natAbs
  if channelWorks c s && rank < Config.dramRanks && due then
    modDramCh c (fun x => { x with due := x.due ||| BitVec.ofNat 2 (2 ^ rank) }) s
  else s

/-- RETRAIN_SLICE_GRANT: a rank that needs a slice has it, 20 us after the last one ended at the earliest (R388, R404). -/
def sliceGrant (c rank took drift : Nat) (s : State) : State :=
  if channelWorks c s && (s.dramCh c).due.getLsbD rank && elapsed 20000 s.teller.sliceAt s.now then
    let s := sliceRun c rank took drift s
    { s with teller := { s.teller with sliceAt := some (s.dramCh c).sliceUntil } }
  else s

/-- A channel's training ends: its results are held, or it is marked failed and TRAIN_FAILED is raised (R403). -/
def trained (c : Nat) (ok : Bool) (s : State) : State :=
  raiseIf (!ok) 389 (modDramCh c (fun x => { x with trained := ok, failed := !ok }) s)

/-- The mask of failed channels. -/
def failedChannels (s : State) : Nat := maskOf ((List.range Config.dramChannels).filter fun c => (s.dramCh c).failed)

/-! ### Errors (R405-R408) -/

/-- What the code makes of the lanes in error of one beat: one is corrected; two, or some of one aligned nibble, are detected; of any others
it promises nothing (R405). -/
inductive BeatFate where
  | corrected (lane : Nat)
  | detected
  | beyond
  deriving DecidableEq, Repr

/-- The fate of a beat whose error is not empty. -/
def beatFate (e : BitVec 40) : BeatFate :=
  match setIndices 40 e.toNat with
  | [l] => .corrected l
  | l :: rest => if rest.length = 1 || rest.all (fun i => i / 4 = l / 4) then .detected else .beyond
  | [] => .beyond

/-- What the ECC makes of a burst: the lanes in error of each of its 16 beats. Whether an error beyond the code's promise is detected is a free
value (R405; DESIGN CHOICE, assumption 100); undetected, the burst reads as a clean one. -/
def readOutcome (errors : List (BitVec 40)) (s : State) : ReadOutcome × State :=
  let hit := ((errors.take 16).zipIdx.filter fun e => e.1 ≠ 0).map fun e => (beatFate e.1, e.2)
  let beats : Fin 65536 := Fin.ofNat 65536 (maskOf (hit.map (·.2)))
  match hit with
  | [] => (.clean, s)
  | _ =>
    if hit.any (fun e => e.1 = .detected) then (.uncorrectable beats, s)
    else if hit.any (fun e => e.1 = .beyond) then
      let r := s.drawFree 2
      (if r.1 = 0 then .clean else .uncorrectable beats, r.2)
    else
      let lane := (hit.findSome? fun e => match e.1 with
        | .corrected l => some l
        | _ => none).getD 0
      (.corrected beats (Fin.ofNat 40 lane), s)

/-- An error enters its channel's log (R407). -/
def logError (e : DramError) (s : State) : State := modDramCh (dramChannel e.addr) (fun x => { x with log := (e :: x.log).take 16 }) s

/-- The entry of a burst's error. -/
def burstError (a kind reader beats lane : Nat) (s : State) : DramError :=
  { addr := a, time := s.chainTime, sub := dramSub a, rank := dramRank a, kind := kind, reader := reader, beats := beats, lane := lane }

/-- A corrected read: counted, logged, to be written back (R406). -/
def correctedRead (a reader beats lane : Nat) (s : State) : State :=
  let s := logError (burstError a 1 reader beats lane s) s
  let s := modDramCh (dramChannel a) (fun x => { x with
    corrected := sat 32 (x.corrected + 1), writebacks := if x.writebacks.contains a then x.writebacks else x.writebacks ++ [a] }) s
  if elapsed 1000000 s.dram.correctedAt s.now then raise 384 (modDram (fun d => { d with correctedAt := some s.now }) s) else s

/-- A pixel of a specimen whose burst cannot be read: mean 0, and a class above 15, for which no threshold is on (R407). -/
def unreadable : SpecPix := (0, 0, 0, 16)

/-- The specimen pixels of a burst at an offset of a specimen cannot be read until it is loaded again (R231, R407). -/
def spoilSpecimen (off : Nat) (sp : Specimen) : Specimen :=
  if off < 64 then sp
  else
    let tile := (off - 64) / 14336
    let o := (off - 64) % 14336
    let tx := sp.width / 64
    let x0 := tile % max tx 1 * 64
    let y0 := tile / max tx 1 * 64
    let lines := if o < 12288 then [y0 + o % 4096 / 64] else [y0 + (o - 12288) / 32, y0 + (o - 12288) / 32 + 1]
    { sp with rows := sp.rows.zipIdx.map fun r =>
      if lines.contains r.2 then r.1.zipIdx.map fun p => if x0 ≤ p.2 && p.2 < x0 + 64 then unreadable else p.1 else r.1 }

/-- The bytes of a crop ring's slot from an offset on, 64 of them, read as zero (R303, R407). -/
def spoilRing (from_ : Int) (x : RingLine) : RingLine :=
  let hit := fun o : Nat => from_ ≤ (o : Int) && (o : Int) < from_ + 64
  { x with
    spoiled := true
    px := x.px.zipIdx.map fun p =>
      let v := p.1.getD (255, 128, 128)
      if hit (64 + p.2) || hit (16704 + p.2) || hit (33344 + p.2) then
        some (if hit (64 + p.2) then 0 else v.1, if hit (16704 + p.2) then 0 else v.2.1, if hit (33344 + p.2) then 0 else v.2.2)
      else p.1
    grow := x.grow.zipIdx.map fun g => g.1 && !hit (49984 + g.2 / 8) }

/-- What a burst that cannot be corrected holds is lost to its readers: specimens and crop rings (R407). -/
def spoil (a : Nat) (s : State) : State :=
  let s := (List.range 4).foldl (fun s k =>
    match (s.learn k).loaded with
    | some sp =>
      let b := Config.specimenBase k
      if b ≤ a && a < b + 64 + 14336 * (sp.width / 64 * ((sp.lines + 63) / 64)) then
        modLearn k (fun l => { l with loaded := some (spoilSpecimen (a - b) sp) }) s
      else s
    | none => s) s
  (List.range 12).foldl (fun s n =>
    let b := Config.ringBase n
    if b < a + 64 && a < b + 4096 * 52064 then
      { s with ledger := { s.ledger with rings := Tab.modify [] s.ledger.rings n fun xs => xs.map fun x =>
        let at_ : Int := (a : Int) - (b + x.head.line % 4096 * 52064 : Nat)
        if -64 < at_ && at_ < 52064 then spoilRing at_ x else x } }
    else s) s

/-- An uncorrectable read: counted, logged, journalled; the burst is not written back (R407, R466). -/
def uncorrectableRead (a reader beats : Nat) (s : State) : State :=
  let c := dramChannel a
  let s := logError (burstError a 2 reader beats 0xFF s) s
  let s := modDramCh c (fun x => { x with uncorrectable := sat 32 (x.uncorrectable + 1) }) s
  spoil a (journal 0x0B00 (0x40 + c) (95 + c) (le 1 c ++ zeros 3 ++ le 8 a) (raise 385 s))

/-- ECC_WRITEBACK: once the channel's read queue is empty, its oldest corrected burst that no write has replaced is written back (R406). -/
def eccWriteback (c : Nat) (s : State) : State :=
  match (s.dramCh c).writebacks with
  | a :: rest =>
    if channelWorks c s && !(s.dramCh c).readsQueued then
      askDram true a 64 1 (modDramCh c (fun x => { x with writebacks := rest }) s)
    else s
  | [] => s

/-- A burst is read by a reader, with the lanes in error that it meets: what the ECC makes of it, counted and logged (R405-R407). -/
def readBurst (a reader : Nat) (errors : List (BitVec 40)) (s : State) : ReadOutcome × State :=
  let r := readOutcome errors s
  (r.1, match r.1 with
    | .clean => r.2
    | .corrected beats lane => correctedRead a reader beats.val lane.val r.2
    | .uncorrectable beats => uncorrectableRead a reader beats.val r.2)

/-- The length of a scrub period, in ns (R408). -/
def scrubPeriod (s : State) : Nat := s.dram.set.scrubHours * 3600000000000

/-- SCRUB_READ: the scrubber reads its next burst, only while the channel's read queue is empty; with the last one of the map a pass is
complete, and the next waits for its period (R408). A throttle level that withholds Bulk, a pause, or a channel that does not work holds
it. -/
def scrubRead (errors : List (BitVec 40)) (s : State) : State :=
  let a := s.dram.scrubAt
  let c := dramChannel a
  if s.dram.set.scrubHours = 0 || s.mode = .sentry || workHeld 3 s || !channelWorks c s || (s.dramCh c).readsQueued || s.now < s.dram.scrubFrom then s
  else
    let s := (readBurst a 2 errors (askDram false a 64 2 s)).2
    let last := Config.dramCapacity ≤ a + 64
    raiseIf last 390 (modDram (fun d => { d with
      scrubAt := if last then 0 else a + 64, scrubFrom := if last then max s.now (d.scrubFrom + scrubPeriod s) else d.scrubFrom }) s)

/-! ### Commands (R411) -/

/-- DRAM_INFO, opcode 0x0B00. -/
def cmdDramInfo : CommandDef := {
  opcode := 0x0B00
  lengths := [0]
  reads := true
  replyMax := fun _ => 16
  commit := fun _ s => .reply (le 1 Config.dramChannels ++ le 1 Config.dramRanks ++ le 1 Config.dramDensity
    ++ le 1 (8 + Config.dramGrainCode.val) ++ le 2 Config.dramRate ++ le 1 (failedChannels s) ++ zeros 1 ++ le 8 Config.dramCapacity) s }

/-- DRAM_SET, opcode 0x0B01. -/
def cmdDramSet : CommandDef := {
  opcode := 0x0B01
  modes := [.standby, .configure, .maintain]
  lengths := [8]
  check := fun c _ _ =>
    if 8 < u8 c.p 0 || 1 < u8 c.p 1 || 1 < u8 c.p 2 || u8 c.p 3 < 4 || 16 < u8 c.p 3 || u16 c.p 4 < 10 || 1000 < u16 c.p 4 || 168 < u16 c.p 6 then
      stOutOfRange else stDone
  commit := fun c s => .reply [] (modDram (fun d => { d with set := {
    postponeMax := u8 c.p 0, fine := u8 c.p 1 = 1, neighbour := u8 c.p 2 = 1, neighbourK := u8 c.p 3, retrainMs := u16 c.p 4
    scrubHours := u16 c.p 6 } }) s) }

/-- A channel that is not fitted is absent. -/
def channelStatus (c : Nat) : Nat := if c < Config.dramChannels then stDone else stAbsent

/-- DRAM_STATUS, opcode 0x0B02. -/
def cmdDramStatus : CommandDef := {
  opcode := 0x0B02
  lengths := [4]
  kinds := [0x40]
  reads := true
  replyMax := fun _ => 40
  check := fun c i _ => if 1 < u8 c.p 0 || !zeroAt c.p 1 3 then stOutOfRange else channelStatus i
  commit := fun c s =>
    let x := s.dramCh c.target
    .reply (le 1 (b2n x.selfRefresh + 2 * b2n (s.now < x.sliceUntil) + 4 * b2n (0 < x.interval) + 8 * b2n x.failed) ++ le 1 x.owed
        ++ le 1 x.owedPeak ++ zeros 1 ++ le 4 x.corrected ++ le 4 x.uncorrectable ++ le 4 x.neighbours ++ le 4 x.slices ++ le 2 x.driftMax
        ++ zeros 2 ++ le 8 x.readBytes ++ le 8 x.writeBytes)
      (if u8 c.p 0 = 1 then s.setDramCh c.target { x with
        owedPeak := x.owed, corrected := 0, uncorrectable := 0, neighbours := 0, slices := 0, driftMax := 0, readBytes := 0, writeBytes := 0 }
      else s) }

/-- The 32 bytes of a log entry. -/
def DramError.toBytes (e : DramError) : List Byte :=
  le 8 e.addr ++ le 8 e.time ++ le 1 e.sub ++ le 1 e.rank ++ le 1 e.kind ++ le 1 e.reader ++ le 4 e.beats ++ le 1 e.lane ++ zeros 7

/-- DRAM_ERROR_LOG, opcode 0x0B03. -/
def cmdDramErrorLog : CommandDef := {
  opcode := 0x0B03
  lengths := [0]
  kinds := [0x40]
  reads := true
  replyMax := fun _ => 516
  check := fun _ i _ => channelStatus i
  commit := fun c s =>
    let x := s.dramCh c.target
    .reply (le 4 x.log.length ++ x.log.flatMap DramError.toBytes) s }

/-- The channels a command with BLOCK 0xFF acts on: those fitted. -/
def channelsOf (c : Call) : List Nat := if c.a.block = 0xFF then List.range Config.dramChannels else c.targets

/-- Does a channel fail what a training command does to it? `fails` says that it does; with BLOCK 0xFF, which channels, by bits. -/
def channelFails (c : Call) (i : Nat) : Bool := c.a.fails.any fun m => c.a.block ≠ 0xFF || m.testBit i

/-- DRAM_TRAIN, opcode 0x0B04: the eye it finds is a free value. In STANDBY the channels are back in self-refresh when it ends (R400). -/
def cmdDramTrain : CommandDef := {
  opcode := 0x0B04
  modes := [.standby, .maintain]
  lengths := [0]
  kinds := [0x40]
  multi := [0xFF]
  replyMax := fun _ => 4
  check := fun c i _ => if c.a.block = 0xFF then stDone else channelStatus i
  commit := fun c s =>
    let ok := (channelsOf c).all fun i => !channelFails c i
    let s := (channelsOf c).foldl (fun s i => trained i (!channelFails c i) s) s
    let s := if s.mode = .standby then dramSleep s else s
    if ok then
      let r := s.drawBytes 2
      .reply (r.1 ++ zeros 2) r.2
    else .ended stHwFault [] s }

/-- DRAM_RETRAIN, opcode 0x0B05: a slice on each rank at once, with no grant; the corrections are free values (R388, R404). -/
def cmdDramRetrain : CommandDef := {
  opcode := 0x0B05
  modes := [.configure, .calibrate, .learn, .inspect, .reduced, .shadow, .drain, .maintain, .faultHold]
  lengths := [0]
  kinds := [0x40]
  replyMax := fun _ => 4
  check := fun _ i _ => channelStatus i
  commit := fun c s =>
    let r := (List.range Config.dramRanks).foldl (fun (acc : Nat × State) rank =>
      let d := acc.2.drawFree 65536
      let took := d.2.drawFree 1501
      (max acc.1 d.1, sliceRun c.target rank took.1 d.1 took.2)) (0, s)
    .reply (le 2 r.1 ++ zeros 2) (modDram (fun d => { d with busyUntil := max d.busyUntil (r.2.dramCh c.target).sliceUntil }) r.2) }

/-- The 24 bytes of one channel's test: errors and failing lanes are the medium's, free values; none when the test does not fail. -/
def testResult (fails : Bool) (s : State) : List Byte × State :=
  if fails then
    let r := s.drawBytes 14
    (r.1.take 9 ++ zeros 3 ++ (r.1.drop 9) ++ zeros 3 ++ zeros 4, r.2)
  else (zeros 24, s)

/-- DRAM_TEST, opcode 0x0B06: it acts on the training areas, which hold no data, and of each channel that fails finds errors. -/
def cmdDramTest : CommandDef := {
  opcode := 0x0B06
  modes := [.standby, .configure, .maintain]
  lengths := [12]
  kinds := [0x40]
  multi := [0xFF]
  replyMax := fun c => if c.a.block = 0xFF then 24 * Config.dramChannels else 24
  check := fun c i _ =>
    if 2 < u8 c.p 0 || u8 c.p 1 ≠ 0 || u16 c.p 2 = 0 || 1000 < u16 c.p 2 then stOutOfRange
    else if c.a.block = 0xFF then stDone else channelStatus i
  commit := fun c s =>
    let r := (channelsOf c).foldl (fun (acc : List Byte × State) i =>
      let x := testResult (channelFails c i) acc.2
      (acc.1 ++ x.1, x.2)) (([] : List Byte), s)
    .reply r.1 (raise 391 r.2) }

/-- The DRAM capability's body, ID 0x000C version 1 (R411). -/
def capDram : List Byte :=
  le 1 Config.dramChannels ++ le 1 Config.dramRanks ++ le 2 Config.dramRate ++ le 2 (Config.dramCapacity / 2 ^ 30)
    ++ le 1 (8 + Config.dramGrainCode.val) ++ zeros 1

end Sys2Proof.Machine
end

