-- ==== Sys2Proof/Machine/Inflate.lean ====
section
/-!
DEFINITION. Sys2Proof/Machine/Inflate.lean: the formats of the compression engines (R433-R436): Adler-32, the decompressor
for DEFLATE (RFC 1951) with its faults, and the form of a compressed stream.
-/
namespace Sys2Proof.Machine

/-! ### Adler-32 (RFC 1950) -/

/-- The two sums of Adler-32 after one byte more. -/
def adlerByte (x : Nat × Nat) (b : Byte) : Nat × Nat :=
  let a := (x.1 + b.toNat) % 65521
  (a, (x.2 + a) % 65521)

/-- Adler-32 of bytes that follow others whose Adler-32 is given; 1 for none. -/
def adler32 (start : Nat) (bs : List Byte) : Nat :=
  let x := bs.foldl adlerByte (start % 65536, start / 65536)
  x.2 * 65536 + x.1

/-! ### Bits -/

/-- The bits of bytes, least significant first. -/
def bitsOf (bs : List Byte) : List Bool := bs.flatMap fun b => (List.range 8).map fun i => b.getLsbD i

/-- The number n bits spell, least significant first; none when there are not n. -/
def takeBits (n : Nat) (bs : List Bool) : Option (Nat × List Bool) :=
  if bs.length < n then none
  else some ((bs.take n).foldr (fun b x => b2n b + 2 * x) 0, bs.drop n)

/-! ### Codes (RFC 1951, 3.2) -/

/-- What decoding a symbol comes to. -/
inductive Symbol where
  | more
  | bad
  | sym (n : Nat) (rest : List Bool)

/-- Decodes one symbol of the canonical code with the given lengths: `first` is the first code of the length reached. -/
def symbolGo (lens : List Nat) : Nat → Nat → Nat → Nat → List Bool → Symbol
  | 0, _, _, _, _ => .bad
  | fuel + 1, len, code, first, bs =>
    match bs with
    | [] => .more
    | b :: rest =>
      let code := 2 * code + b2n b
      let syms := (List.range lens.length).filter fun i => nth 0 lens i = len
      if code < first + syms.length then .sym (nth 0 syms (code - first)) rest
      else symbolGo lens fuel (len + 1) code (2 * (first + syms.length)) rest

/-- Decodes one symbol. -/
def symbol (lens : List Nat) (bs : List Bool) : Symbol := symbolGo lens 15 1 0 0 bs

/-- The Kraft sum of a code's lengths in units of 2^-15. -/
def kraft (lens : List Nat) : Nat := sumNat (lens.map fun l => if l = 0 then 0 else 2 ^ (15 - l))

/-- Is a code complete? -/
def codeComplete (lens : List Nat) : Bool := kraft lens = 2 ^ 15

/-- A distance code may also hold a single code, or none (R436). -/
def distOk (lens : List Nat) : Bool :=
  codeComplete lens || (kraft lens < 2 ^ 15 && (lens.filter (· ≠ 0)).length ≤ 1)

/-- The code lengths of a fixed-Huffman block. -/
def fixedLits : List Nat :=
  List.replicate 144 8 ++ List.replicate 112 9 ++ List.replicate 24 7 ++ List.replicate 8 8

def fixedDists : List Nat := List.replicate 32 5

/-- Length base and extra bits of a length code less 257. -/
def lengthBase : List (Nat × Nat) :=
  [(3, 0), (4, 0), (5, 0), (6, 0), (7, 0), (8, 0), (9, 0), (10, 0), (11, 1), (13, 1), (15, 1), (17, 1), (19, 2), (23, 2),
   (27, 2), (31, 2), (35, 3), (43, 3), (51, 3), (59, 3), (67, 4), (83, 4), (99, 4), (115, 4), (131, 5), (163, 5), (195, 5),
   (227, 5), (258, 0)]

/-- Distance base and extra bits of a distance code. -/
def distBase (c : Nat) : Nat × Nat :=
  if c < 4 then (c + 1, 0) else ((2 + c % 2) * 2 ^ (c / 2 - 1) + 1, c / 2 - 1)

/-- The order in which the lengths of the code length code are sent. -/
def clOrder : List Nat := [16, 17, 18, 0, 8, 7, 9, 6, 10, 5, 11, 4, 12, 3, 13, 2, 14, 1, 15]

/-- What reading a dynamic block's header comes to. -/
inductive Header where
  | more
  | fault (code : Nat)
  | ok (lits dists : List Nat) (rest : List Bool)

/-- The code lengths of a dynamic block, by repeat codes, until `want` of them stand (R436: faults 1 and 3). -/
def lengthsGo (cl : List Nat) (want hlit : Nat) : Nat → List Nat → List Bool → Header
  | 0, _, _ => .more
  | fuel + 1, got, bs =>
    if want ≤ got.length then .ok (got.take hlit) (got.drop hlit) bs
    else
      match symbol cl bs with
      | .more => .more
      | .bad => .fault 1
      | .sym n rest =>
        if n < 16 then lengthsGo cl want hlit fuel (got ++ [n]) rest
        else
          let base := if n = 16 then (2, 3) else if n = 17 then (3, 3) else (7, 11)
          match takeBits base.1 rest with
          | none => .more
          | some (x, rest) =>
            if n = 16 && got = [] then .fault 3
            else if want < got.length + base.2 + x then .fault 3
            else lengthsGo cl want hlit fuel (got ++ List.replicate (base.2 + x) (if n = 16 then got.getLastD 0 else 0)) rest

/-- The lengths of the code length code, in their places. -/
def clLengths (xs : List Nat) : List Nat :=
  (List.range 19).map fun i => nth 0 xs (clOrder.findIdx (· = i))

/-- Reads n numbers of three bits. -/
def takeThrees : Nat → List Bool → Option (List Nat × List Bool)
  | 0, bs => some ([], bs)
  | n + 1, bs =>
    match takeBits 3 bs with
    | none => none
    | some (x, rest) => (takeThrees n rest).map fun r => (x :: r.1, r.2)

/-- The header of a dynamic block. -/
def dynamicHeader (bs : List Bool) : Header :=
  match takeBits 14 bs with
  | none => .more
  | some (x, rest) =>
    let hlit := x % 32 + 257
    let hdist := x / 32 % 32 + 1
    match takeThrees (x / 1024 + 4) rest with
    | none => .more
    | some (ls, rest) =>
      let cl := clLengths ls
      if !codeComplete cl then .fault 1
      else match lengthsGo cl (hlit + hdist) hlit (hlit + hdist + 1) [] rest with
        | .ok lits dists rest => if codeComplete lits && distOk dists then .ok lits dists rest else .fault 1
        | h => h

/-! ### The decompressor -/

/-- The decompressor at work: where the stream stands, its output so far (newest byte first, history behind it), the bytes
of history that may be reached, and the bytes this job has put out. -/
structure Inflater where
  st : InflateState
  back : List Byte
  reach : Nat
  made : Nat := 0
  fault : Nat := 0

/-- Puts out one byte. -/
def Inflater.put (x : Inflater) (b : Byte) : Inflater :=
  { x with back := b :: x.back, reach := min 32768 (x.reach + 1), made := x.made + 1 }

/-- Puts out n bytes from a distance back. -/
def Inflater.copy (dist : Nat) : Nat → Inflater → Inflater
  | 0, x => x
  | n + 1, x => Inflater.copy dist n (x.put (nth 0 x.back (dist - 1)))

/-- One step of the decompressor; none when it needs more input or has ended. -/
def inflateStep (zlib : Bool) (adlerOf : Inflater → Nat) (x : Inflater) : Option Inflater :=
  let st := x.st
  let stop := fun c : Nat => some { x with fault := c }
  match st.stage with
  | 0 =>
    if !zlib then some { x with st := { st with stage := 1 } }
    else match takeBits 16 st.bits with
      | none => none
      | some (h, rest) =>
        let cmf := h % 256
        let flg := h / 256
        if cmf % 16 ≠ 8 || 7 < cmf / 16 || (cmf * 256 + flg) % 31 ≠ 0 || flg.testBit 5 then stop 4
        else some { x with st := { st with stage := 1, bits := rest } }
  | 1 =>
    if st.isFinal then some { x with st := { st with stage := 4, bits := st.bits.drop (st.bits.length % 8) } }
    else match takeBits 3 st.bits with
      | none => none
      | some (h, rest) =>
        let st := { st with isFinal := h % 2 = 1 }
        match h / 2 with
        | 0 =>
          match takeBits 32 (rest.drop (rest.length % 8)) with
          | none => none
          | some (n, rest) =>
            if n % 65536 + n / 65536 ≠ 65535 then stop 1
            else some { x with st := { st with stage := 2, left := n % 65536, bits := rest } }
        | 1 => some { x with st := { st with stage := 3, lits := fixedLits, dists := fixedDists, bits := rest } }
        | 2 =>
          match dynamicHeader rest with
          | .more => none
          | .fault c => stop c
          | .ok lits dists rest => some { x with st := { st with stage := 3, lits := lits, dists := dists, bits := rest } }
        | _ => stop 1
  | 2 =>
    if st.left = 0 then some { x with st := { st with stage := 1 } }
    else match takeBits 8 st.bits with
      | none => none
      | some (b, rest) => some ({ x with st := { st with left := st.left - 1, bits := rest } }.put (BitVec.ofNat 8 b))
  | 3 =>
    match symbol st.lits st.bits with
    | .more => none
    | .bad => stop 1
    | .sym n rest =>
      if n < 256 then some ({ x with st := { st with bits := rest } }.put (BitVec.ofNat 8 n))
      else if n = 256 then some { x with st := { st with stage := 1, bits := rest } }
      else if 285 < n then stop 1
      else
        let lb := nth (0, 0) lengthBase (n - 257)
        match takeBits lb.2 rest with
        | none => none
        | some (e, rest) =>
          match symbol st.dists rest with
          | .more => none
          | .bad => stop 1
          | .sym d rest =>
            if 29 < d then stop 1
            else match takeBits (distBase d).2 rest with
              | none => none
              | some (f, rest) =>
                let dist := (distBase d).1 + f
                if x.reach < dist then stop 2
                else some (Inflater.copy dist (lb.1 + e) { x with st := { st with bits := rest } })
  | 4 =>
    if !zlib then some { x with st := { st with stage := 5 } }
    else match takeBits 32 st.bits with
      | none => none
      | some (a, rest) =>
        let sent := a % 256 * 2 ^ 24 + a / 256 % 256 * 2 ^ 16 + a / 65536 % 256 * 256 + a / 2 ^ 24
        if sent ≠ adlerOf x then stop 5 else some { x with st := { st with stage := 5, bits := rest } }
  | _ => none

/-- Runs the decompressor until it needs more input, ends, meets a fault, or has put out more than `limit` bytes. -/
def inflateGo (zlib : Bool) (adlerOf : Inflater → Nat) (limit : Nat) : Nat → Inflater → Inflater
  | 0, x => x
  | fuel + 1, x =>
    if x.fault ≠ 0 || limit < x.made then x
    else match inflateStep zlib adlerOf x with
      | none => x
      | some y => inflateGo zlib adlerOf limit fuel y

/-- What a run over some input comes to: the output, whether the stream has ended, the fault of R436 or 0, the input byte at
which it stands, and the state to go on from. -/
structure Inflated where
  out : List Byte
  ended : Bool
  fault : Nat
  used : Nat
  state : InflateState

/-- Decompresses input that goes on from a state with history (oldest first) and the running Adler-32 of what went before. -/
def inflate (zlib : Bool) (limit : Nat) (st : InflateState) (history : List Byte) (adler : Nat) (input : List Byte) : Inflated :=
  let bits := st.bits ++ bitsOf input
  let start : Inflater := { st := { st with bits := bits }, back := history.reverse, reach := history.length }
  let sum := fun x : Inflater => adler32 adler (x.back.take x.made).reverse
  let x := inflateGo zlib sum limit (bits.length + 2 * input.length + 8) start
  { out := (x.back.take x.made).reverse, ended := x.st.stage = 5, fault := x.fault
    used := (8 * input.length - x.st.bits.length + 7) / 8, state := x.st }

/-! ### The compressor (R433-R435) -/

/-- What the match search makes of a block: a byte for itself, or a match of 3 to 258 bytes from 1 to 32,768 back. -/
inductive Token where
  | lit (b : Byte)
  | ref (len dist : Nat)
  deriving DecidableEq, Repr

/-- The last 32,768 bytes of some bytes, newest first. -/
def window (bs : List Byte) : List Byte := bs.reverse.take 32768

/-- What tokens put out after a window (newest first); none where one is not a match of R434. -/
def untoken (back : List Byte) (made : List Byte) : List Token → Option (List Byte)
  | [] => some made.reverse
  | .lit b :: ts => untoken ((b :: back).take 32768) (b :: made) ts
  | .ref len dist :: ts =>
    if len < 3 || 258 < len || dist < 1 || back.length < dist then none
    else
      let out := (List.range len).map fun i => nth 0 back (dist - 1 - i % dist)
      untoken ((out.reverse ++ back).take 32768) (out.reverse ++ made) ts

/-- The match search of a level over one block: its hash chains are 8 or 32 deep, lazy by one byte at LEVEL 3 (R434). Which of several
matches it finds is opaque; what is no parse of the block counts for none, byte by byte (DESIGN CHOICE, assumption 8). -/
def blockTokens (level : Nat) (back block : List Byte) : List Token :=
  let found := (Config.matchSearch (if level = 1 then 8 else 32) (level = 3) back block).map fun e =>
    if e.1 = 0 then Token.lit (BitVec.ofNat 8 e.2) else .ref e.1 e.2
  if untoken back [] found = some block then found else block.map Token.lit

/-- A number as n bits, least significant first. -/
def numBits (n x : Nat) : List Bool := (List.range n).map fun i => x.testBit i

/-- The canonical code of a symbol among lengths, most significant bit first (RFC 1951). -/
def codeBits (lens : List Nat) (sym : Nat) : List Bool :=
  let l := nth 0 lens sym
  let first := (List.range l).foldl (fun c k => 2 * (c + (if k = 0 then 0 else (lens.filter (· = k)).length))) 0
  (numBits l (first + ((lens.take sym).filter (· = l)).length)).reverse

/-- The bits of a token under a block's codes. -/
def tokenBits (lits dists : List Nat) : Token → List Bool
  | .lit b => codeBits lits b.toNat
  | .ref len dist =>
    let lc := (List.range 29).foldl (fun c i => if (nth (0, 0) lengthBase i).1 ≤ len then i else c) 0
    let dc := (List.range 30).foldl (fun c i => if (distBase i).1 ≤ dist then i else c) 0
    codeBits lits (257 + lc) ++ numBits (nth (0, 0) lengthBase lc).2 (len - (nth (0, 0) lengthBase lc).1)
      ++ codeBits dists dc ++ numBits (distBase dc).2 (dist - (distBase dc).1)

/-- The symbols a block uses, of the literal/length and of the distance code. -/
def usesSymbols (ts : List Token) (lits dists : List Nat) : Bool :=
  nth 0 lits 256 ≠ 0 && ts.all fun t => match t with
    | .lit b => nth 0 lits b.toNat ≠ 0
    | .ref len dist =>
      let lc := (List.range 29).foldl (fun c i => if (nth (0, 0) lengthBase i).1 ≤ len then i else c) 0
      let dc := (List.range 30).foldl (fun c i => if (distBase i).1 ≤ dist then i else c) 0
      nth 0 lits (257 + lc) ≠ 0 && nth 0 dists dc ≠ 0

/-- A coded block: its header bits, its tokens, the end of the block. -/
def codedBlock (last : Bool) (type : Nat) (head : List Bool) (lits dists : List Nat) (ts : List Token) : List Bool :=
  numBits 3 (b2n last + 2 * type) ++ head ++ ts.flatMap (tokenBits lits dists) ++ codeBits lits 256

/-- A stored block after some bits of the stream: it begins on a byte. -/
def storedBlock (last : Bool) (before : Nat) (bs : List Byte) : List Bool :=
  let pad := (8 - (before + 3) % 8) % 8
  numBits 3 (b2n last) ++ List.replicate pad false ++ numBits 16 bs.length ++ numBits 16 (65535 - bs.length) ++ bitsOf bs

/-- The dynamic-Huffman block of some tokens, if the code lengths that the engine finds are written as a header that reads back to them. -/
def dynamicBlock (last : Bool) (ts : List Token) : Option (List Bool) :=
  let head := Config.dynamicHeader (ts.map fun t => match t with
    | .lit b => (0, b.toNat)
    | .ref len dist => (len, dist))
  match dynamicHeader head with
  | .ok lits dists [] => if usesSymbols ts lits dists then some (codedBlock last 2 head lits dists ts) else none
  | _ => none

/-- One block of a stream: the shortest of a stored, a fixed-Huffman and a dynamic-Huffman block, on a tie in that order (R434). -/
def bestBlock (level : Nat) (last : Bool) (before : Nat) (back block : List Byte) : List Bool :=
  let ts := blockTokens level back block
  let stored := storedBlock last before block
  let fixed := codedBlock last 1 [] fixedLits fixedDists ts
  let best := if fixed.length < stored.length then fixed else stored
  match dynamicBlock last ts with
  | some d => if d.length < best.length then d else best
  | none => best

/-- The blocks of a job's input, 32,768 bytes each, after bits of the stream and history; a job that does not end the stream closes with an
empty stored block, one that ends it sets BFINAL in its last (R434, R435). -/
def deflateGo (level : Nat) (last : Bool) (made : List Bool) (back : List Byte) : List (List Byte) → List Bool
  | [] => if last then (if made = [] then codedBlock true 1 [] fixedLits fixedDists [] else made) else made ++ storedBlock false made.length []
  | b :: rest =>
    deflateGo level last (made ++ bestBlock level (last && rest.isEmpty) made.length back b) (window (back.reverse ++ b)) rest

/-- Bits as bytes, the last filled up with zeros. -/
def bytesOf (bs : List Bool) : List Byte := (chunksOf 8 bs).map fun c => BitVec.ofNat 8 (c.foldr (fun b x => b2n b + 2 * x) 0)

/-- The blocks of a job's output (R434, R435). The same input, level and history always give the same bytes. -/
def deflateBlocks (level : Nat) (last : Bool) (history input : List Byte) : List Byte :=
  bytesOf (deflateGo level last [] (window history) (chunksOf 32768 input))

/-- The zlib header of a level (R433). -/
def zlibHeader (level : Nat) : List Byte :=
  [0x78#8, if level = 1 then 0x01#8 else if level = 2 then 0x5E#8 else 0x9C#8]

/-- The Adler-32 trailer, most significant byte first. -/
def zlibTrailer (adler : Nat) : List Byte := (le 4 adler).reverse

/-- A whole zlib stream of some bytes. -/
def zlibStream (level : Nat) (bs : List Byte) : List Byte :=
  zlibHeader level ++ deflateBlocks level true [] bs ++ zlibTrailer (adler32 1 bs)

/-- A day-book record as the vault keeps it: the record of 128 bytes, and its crop as the engines compress it (R458, R439); the level is the
device's. -/
def dayImage (bs : List Byte) : List Byte :=
  bs.take 128 ++ (if 128 < bs.length then zlibStream (Config.libraryLevel.val + 1) (bs.drop 128) else [])

end Sys2Proof.Machine
end

