-- ==== Sys2Proof/Machine/Compress.lean ====
section
/-!
DEFINITION. Sys2Proof/Machine/Compress.lean: the compression engines (chapter 20): jobs, contexts, split jobs, counters.
-/
namespace Sys2Proof.Machine

def modComp (f : Comp → Comp) (s : State) : State := { s with comp := f s.comp }

/-! ### Parameters of COMP_JOB (R443) -/

def jobOp (p : List Byte) : Nat := u8 p 0
def jobZlib (p : List Byte) : Bool := u8 p 1 = 1
def jobLevel (p : List Byte) : Nat := u8 p 2
def jobResume (p : List Byte) : Bool := (u8 p 3).testBit 0
def jobSave (p : List Byte) : Bool := (u8 p 3).testBit 1
def jobLast (p : List Byte) : Bool := (u8 p 3).testBit 2
def jobParts (p : List Byte) : Nat := u8 p 4
def jobSrc (p : List Byte) : Nat := u64 p 8
def jobSrcBytes (p : List Byte) : Nat := u32 p 16
def jobDstBytes (p : List Byte) : Nat := u32 p 20
def jobDst (p : List Byte) : Nat := u64 p 24
def jobContext (p : List Byte) : Nat := u64 p 32

/-- Do two ranges of addresses overlap? -/
def rangesMeet (a n b m : Nat) : Bool := a < b + m && b < a + n && 0 < n && 0 < m

/-- Does a range lie in the Courier user region (R426)? -/
def inUserRegion (a n : Nat) (s : State) : Bool := s.host.userBase ≤ a && a + n ≤ s.host.userBase + s.host.userBytes

/-- A context's header fields as they stand in memory: OP, FRAMING, LEVEL, HISTORY_BYTES, ADLER, TOTAL_IN, TOTAL_OUT. -/
def contextBytes (at_ : Nat) (s : State) : List Byte := Mem.readN s.dramMem at_ 32

/-- The history a context holds, oldest byte first. -/
def contextHistory (at_ : Nat) (s : State) : List Byte :=
  let n := min 32768 (u32 (contextBytes at_ s) 4)
  Mem.readN s.dramMem (at_ + 8192 + 32768 - n) n

/-! ### Starting (R440, R441) -/

/-- The started COMP_JOB commands, oldest first. -/
def compJobs (s : State) : List Started := s.sys.started.filter fun x => x.op = 0x0D00 && !x.relayed

/-- Its own parameters. -/
def jobP (x : Started) : List Byte := x.args.params

/-- The parts of a job that have been given to an engine or are done. -/
def partsTaken (x : Started) (s : State) : Nat :=
  match s.comp.splits.find? fun y => y.cmd = x.args.tag && y.src = x.args.src with
  | some y => y.next
  | none => if (List.range 4).any (fun e => (s.engine e).job.any fun j => j.user = 0 && j.cmd = x.args.tag && j.src = x.args.src) then 1 else 0

/-- Does an internal user hold an engine for a part of its work: of the specimen library (1) a station's store, or 4 more for its recall; of
the day book (2) a record's crop (R440)? -/
def userHolds (user part : Nat) (s : State) : Bool := (List.range 4).any fun e => (s.engine e).job.any fun j => j.user = user && j.part = part

/-- Does the specimen library hold an engine for a part of its work? -/
def compHolds (part : Nat) (s : State) : Bool := userHolds 1 part s

/-- Work that waits for an engine: its class, what the engine will hold, in how many parts it runs, and the BLOCK it names. -/
structure CompWaiter where
  cls : Nat
  job : CompJob
  parts : Nat := 1
  block : Nat := 0

/-- Work of the specimen library runs at class Second (R439). -/
def libraryWaiter (part : Nat) (s : State) : Option CompWaiter :=
  if compHolds part s then none else some { cls := 2, job := { user := 1, part := part } }

/-- A started command as it waits for an engine, if it does: a job with a part not yet given to one, a store, a recall. -/
def commandWaiter (s : State) (x : Started) : Option CompWaiter :=
  let k := x.args.block - 0x30
  let i := partsTaken x s
  if x.relayed then none
  else if x.op = 0x0D00 then
    if i < jobParts (jobP x) then
      some { cls := x.args.cls, job := { cmd := x.args.tag, src := x.args.src, part := i }, parts := jobParts (jobP x), block := x.args.block }
    else none
  else if x.op = 0x0603 && (s.learn k).storing.isSome then libraryWaiter k s
  else if x.op = 0x0604 && (s.learn k).recalling.isSome then libraryWaiter (k + 4) s
  else none

/-- The day book's next record waits for an engine, at class Bulk, when it has a crop to compress (R439, R458). -/
def dayWaiter (s : State) : Option CompWaiter :=
  if userHolds 2 0 s then none
  else ((s.vault.waiting.find? fun o => o.kind = .dayRecord).filter fun o => 128 < o.bytes.length).map fun _ => { cls := 3, job := { user := 2 } }

/-- All that waits for an engine, oldest first: internal users wait in the same way as commands (R440). A recall that a resume image asked
for has no command and comes first (DESIGN CHOICE, assumption 97); the day book, whose class is the lowest, comes last. -/
def compWaiters (s : State) : List CompWaiter :=
  ((List.range 4).filter fun k => (s.learn k).recalling.isSome
      && (findStarted 0x0604 (fun x => x.args.block = 0x30 + k) s).isNone).filterMap (fun k => libraryWaiter (k + 4) s)
    ++ s.sys.started.filterMap (commandWaiter s) ++ (dayWaiter s).toList

/-- The first waiting work, by class and age, that engine e can take now (R371, R440): a job runs on the engine it names, or on any (R443). -/
def jobFor (e : Nat) (s : State) : Option CompWaiter :=
  let ws := (compWaiters s).filter fun w => (w.block = 0 || w.block = 0x48 + e) && !workHeld w.cls s
  (List.range 4).findSome? fun c => ws.find? (·.cls = c)

/-- Does an engine run a job? -/
def enginesRun (s : State) : Bool := s.comp.engines.any fun e => e.2.job.isSome

/-- Is the entry into STANDBY or SENTRY in progress: it lets running jobs complete, and begins no other (R83, R440)? -/
def restComes (s : State) : Bool := s.modes.wanted = some (.sentry, 0) || s.modes.trans.any (·.target = .standby)

/-- May work begin on an engine: any, or, as STANDBY or SENTRY is entered, a further part of a split job that runs (R440)? -/
def mayBegin (w : CompWaiter) (s : State) : Bool := !restComes s || 0 < w.job.part && w.job.user = 0

/-- Free engines take what waits. -/
def compFill (s : State) : State :=
  (List.range 4).foldl (fun s e =>
    if (s.engine e).job.isSome then s
    else match (jobFor e s).filter fun w => mayBegin w s with
      | none => s
      | some w =>
        let s := modEngine e (fun y => { y with job := some w.job }) s
        if w.parts = 1 then s
        else
          let mine := fun y : CompSplit => y.cmd = w.job.cmd && y.src = w.job.src
          let old := s.comp.splits
          let new := if old.any mine then old.map fun y => if mine y then { y with next := w.job.part + 1 } else y
            else old ++ [{ cmd := w.job.cmd, src := w.job.src, next := w.job.part + 1 }]
          modComp (fun c => { c with splits := new }) s) s

/-- An internal user's work ends on the engine it ran on: what went in and out, or none where it failed; counters and event (R442, R443). -/
def compRelease (user part : Nat) (io : Option (Nat × Nat)) (s : State) : State :=
  match (List.range 4).find? fun e => (s.engine e).job.any fun j => j.user = user && j.part = part with
  | none => s
  | some e => match io with
    | some (a, b) => raise (416 + 4 * e) (modEngine e (fun y => { y with
        job := none, jobs := sat 32 (y.jobs + 1), bytesIn := sat 64 (y.bytesIn + a), bytesOut := sat 64 (y.bytesOut + b) }) s)
    | none => raise (419 + 4 * e) (modEngine e (fun y => { y with job := none, jobs := sat 32 (y.jobs + 1), hwFaults := sat 32 (y.hwFaults + 1) }) s)

/-- A store of the specimen library that waits for an engine is given up, ABORTED (R440; DEDUCED, assumption 97). -/
def storeAbort (k : Nat) (s : State) : State :=
  if (s.learn k).storing.isNone || compHolds k s then s
  else
    let waiting := s.vault.waiting.filter fun o => !(o.kind = .specimen && o.station = k)
    finishOne 0x0603 (fun x => x.args.block = 0x30 + k) stAborted []
      (modLearn k (fun l => { l with storing := none }) { s with vault := { s.vault with waiting := waiting } })

/-- A recall that waits for an engine is given up, ABORTED (R440; DEDUCED, assumption 97). -/
def recallAbort (k : Nat) (s : State) : State :=
  if (s.learn k).recalling.isNone || compHolds (k + 4) s then s
  else finishOne 0x0604 (fun x => x.args.block = 0x30 + k) stAborted [] (modLearn k (fun l => { l with recalling := none }) s)

/-- On entry into STANDBY, SENTRY or FAULT_HOLD jobs that have not started reply ABORTED: those that wait as commands, those that wait for an
engine, and the specimen library's, which waits in the same way (R440). -/
def compAbort (s : State) : State :=
  let late := s.sys.waiting.filter (·.op = 0x0D00)
  let s := late.foldl (fun s x => refuse x.op stAborted x.args s)
    { s with sys := { s.sys with waiting := s.sys.waiting.filter (·.op ≠ 0x0D00) } }
  let s := (compJobs s).foldl (fun s x => if partsTaken x s = 0 then finishStarted x stAborted [] s else s) s
  (List.range 4).foldl (fun s k => recallAbort k (storeAbort k s)) s

/-! ### Running a job (R433-R438, R441) -/

/-- What a job or part comes to: a status, its output, the input used, the running Adler-32, fault and its offset, and the
state of a decompressor. -/
structure JobResult where
  status : Nat
  out : List Byte := []
  used : Nat := 0
  adler : Nat := 1
  fault : Nat := 0
  at_ : Nat := 0
  st : InflateState := {}
  tail : List Byte := []

/-- Source bytes of a job: the user region's, or what the device keeps elsewhere in DRAM, whose places no rule gives: free values. -/
def jobBytes (a n : Nat) (s : State) : List Byte :=
  (List.range n).map fun i =>
    if inUserRegion (a + i) 1 s then Mem.read s.dramMem (a + i) else Config.freeByte s.sys.free (a + i)

/-- The source bytes of part i of n. -/
def partRange (bytes parts i : Nat) : Nat × Nat :=
  if parts ≤ 1 then (0, bytes)
  else
    let each := bytes / parts / 4096 * 4096
    (i * each, if i + 1 = parts then bytes - i * each else each)

/-- Runs part i of a job. -/
def runPart (p : List Byte) (i : Nat) (hwFault : Bool) (s : State) : JobResult :=
  let parts := jobParts p
  let r := partRange (jobSrcBytes p) parts i
  let input := jobBytes (jobSrc p + r.1) r.2 s
  let ctx := contextBytes (jobContext p) s
  let history := if 0 < i then jobBytes (jobSrc p + r.1 - min r.1 32768) (min r.1 32768) s
    else if jobResume p then contextHistory (jobContext p) s else []
  let adler0 := if jobResume p then u32 ctx 8 else 1
  if hwFault then { status := stHwFault }
  else if jobOp p = 0 then
    let last := jobLast p && i + 1 = max parts 1
    let adler := adler32 adler0 (jobBytes (jobSrc p) (r.1 + r.2) s)
    let out := (if jobZlib p && i = 0 && !jobResume p then zlibHeader (jobLevel p) else [])
      ++ deflateBlocks (jobLevel p) last history input ++ (if jobZlib p && last then zlibTrailer adler else [])
    if jobDstBytes p < out.length then { status := stNoSpace }
    else { status := stDone, out := out, used := input.length, adler := adler, tail := history ++ input }
  else
    let st := if jobResume p then Tab.get {} s.comp.saved (jobContext p) else {}
    let x := inflate (jobZlib p) (jobDstBytes p) st history adler0 input
    if x.fault ≠ 0 then { status := stOutOfRange, fault := x.fault, at_ := x.used }
    else if jobDstBytes p < x.out.length then { status := stNoSpace }
    else if jobLast p && !x.ended then { status := stOutOfRange, fault := 6, at_ := input.length }
    else { status := stDone, out := x.out, used := if x.ended then x.used else input.length
           adler := adler32 adler0 x.out, st := x.state, tail := history ++ x.out }

/-- Writes a context (R437): its opaque part holds values the rules do not give. -/
def writeContext (p : List Byte) (r : JobResult) (inBytes outBytes : Nat) (s : State) : State :=
  let at_ := jobContext p
  let old := contextBytes at_ s
  let before := fun off : Nat => if jobResume p then u64 old off else 0
  let h := r.tail.drop (r.tail.length - min 32768 r.tail.length)
  let f := s.drawBytes 8160
  let s := f.2
  let mem := Mem.writeN s.dramMem at_ (le 1 (jobOp p) ++ le 1 (u8 p 1) ++ le 1 (jobLevel p) ++ zeros 1 ++ le 4 h.length
    ++ le 4 r.adler ++ zeros 4 ++ le 8 (before 16 + inBytes) ++ le 8 (before 24 + outBytes) ++ f.1)
  let mem := Mem.writeN mem (at_ + 8192 + 32768 - h.length) h
  modComp (fun c => { c with saved := Tab.set {} c.saved at_ r.st }) { s with dramMem := mem }

/-- Counters and the event of an engine at a job's end (R442, R443). -/
def endOnEngine (e : Nat) (r : JobResult) (s : State) : State :=
  let kind := if r.status = stDone then 0 else if r.status = stNoSpace then 1 else if r.status = stHwFault then 3 else 2
  let s := modEngine e (fun y => { y with
    job := none, jobs := sat 32 (y.jobs + 1)
    bytesIn := if kind = 0 then sat 64 (y.bytesIn + r.used) else y.bytesIn
    bytesOut := if kind = 0 then sat 64 (y.bytesOut + r.out.length) else y.bytesOut
    noSpace := if kind = 1 then sat 32 (y.noSpace + 1) else y.noSpace
    faults := if kind = 2 then sat 32 (y.faults + 1) else y.faults
    hwFaults := if kind = 3 then sat 32 (y.hwFaults + 1) else y.hwFaults }) s
  raise (416 + 4 * e + kind) s

/-- The reply data of a job in one part. -/
def jobReply (r : JobResult) : List Byte :=
  le 4 r.used ++ le 4 r.out.length ++ le 4 r.adler ++ le 1 r.fault ++ zeros 3 ++ le 4 r.at_

/-- A job in one part ends: output, then context, then reply (R438). -/
def endJob (x : Started) (p : List Byte) (r : JobResult) (s : State) : State :=
  let s := if r.status = stDone then
      let s := { s with dramMem := Mem.writeN s.dramMem (jobDst p) r.out }
      if jobSave p then writeContext p r r.used r.out.length s else s
    else s
  if r.status = stDone then finishStarted x stDone (jobReply r) s
  else if r.fault ≠ 0 then finishStarted x stOutOfRange (jobReply r) s
  else finishStarted x r.status [] s

/-- A part of a split job ends; with the last of them the reply goes (R441, R49). -/
def endPart (x : Started) (p : List Byte) (i : Nat) (r : JobResult) (s : State) : State :=
  let mine := fun y : CompSplit => y.cmd = x.args.tag && y.src = x.args.src
  let s := if r.status = stDone then { s with dramMem := Mem.writeN s.dramMem (jobDst p + i * jobDstBytes p) r.out } else s
  let units := if r.status = stDone then r.out.length else 0
  let splits := s.comp.splits.map fun y => if mine y then { y with done := insertBy (·.1) (i, r.status, units) y.done } else y
  let s := modComp (fun c => { c with splits := splits }) s
  match s.comp.splits.find? mine with
  | none => s
  | some y =>
    if y.done.length < jobParts p then s
    else
      let s := modComp (fun c => { c with splits := c.splits.filter fun z => !mine z }) s
      let source := jobBytes (jobSrc p) (jobSrcBytes p) s
      let before := if jobResume p then contextHistory (jobContext p) s else []
      let adler := adler32 (if jobResume p then u32 (contextBytes (jobContext p) s) 8 else 1) source
      let all := y.done.all (·.2.1 = stDone)
      let some_ := y.done.any (·.2.1 = stDone)
      let s := if all && jobSave p then
          writeContext p { status := stDone, adler := adler, tail := before ++ source } source.length (sumNat (y.done.map (·.2.2))) s
        else s
      let data := le 2 y.done.length ++ zeros 2
        ++ y.done.flatMap (fun d => le 2 d.1 ++ le 2 d.2.1 ++ le 4 d.2.2) ++ le 4 adler ++ zeros 4
      finishStarted x (if all then stDone else if some_ then stPartial else (y.done.headD (0, stDone, 0)).2.1)
        (if some_ then data else []) s

/-- What part i of a job reads: its source with the history a later part begins with, then the context that the first one resumes (R437, R441). -/
def jobReads (p : List Byte) (i : Nat) : List (Nat × Nat) :=
  let r := partRange (jobSrcBytes p) (jobParts p) i
  let h := if 0 < i then min r.1 32768 else 0
  (jobSrc p + r.1 - h, r.2 + h) :: if i = 0 && jobResume p then [(jobContext p, 40960)] else []

/-- The address of the given burst among ranges that are read one after the other, the last one's last where there are not so many; none of
nothing. -/
def burstAt : List (Nat × Nat) → Nat → Option Nat
  | [], _ => none
  | r :: rest, b =>
    let n := if r.2 = 0 then 0 else (r.1 + r.2 - 1) / 64 - r.1 / 64 + 1
    if b < n then some ((r.1 / 64 + b) * 64)
    else match burstAt rest (b - n) with
      | some a => some a
      | none => if n = 0 then none else some ((r.1 / 64 + n - 1) * 64)

/-- COMP_JOB_DONE: engine e finishes its job or part and commits it, or fails. The lanes in error that one of the bursts it reads meets are the
operand: an uncorrectable one fails the job (R407, R438). In a pause its work stands (R91). -/
def compJobDone (e burst : Nat) (errors : List (BitVec 40)) (s : State) : State :=
  match (if s.modes.pause then none else (s.engine e).job) with
  | none => s
  | some j =>
    match (compJobs s).find? fun x => x.args.tag = j.cmd && x.args.src = j.src && j.user = 0 with
    | none => s
    | some x =>
      let p := jobP x
      let s := (jobReads p j.part).foldl (fun s r => askDram false r.1 r.2 1 s) s
      let o := match burstAt (jobReads p j.part) burst with
        | some a => readBurst a 1 errors s
        | none => (ReadOutcome.clean, s)
      let s := o.2
      let hwFault := match o.1 with
        | .uncorrectable _ => true
        | _ => false
      let r := runPart p j.part hwFault s
      let s : State := { s with sys := { s.sys with free := s.sys.free + 1 } }
      let s := endOnEngine e r (askDram true (jobDst p + j.part * jobDstBytes p) r.out.length 1 s)
      if jobParts p = 1 then endJob x p r s else endPart x p j.part r s

/-! ### Commands (R443) -/

/-- COMP_JOB, opcode 0x0D00. -/
def cmdCompJob : CommandDef := {
  opcode := 0x0D00
  modes := [.configure, .calibrate, .learn, .inspect, .reduced, .drain, .maintain]
  lengths := [64]
  kinds := [0x00, 0x48]
  replyMax := fun c => if jobParts c.p = 1 then 20 else 12 + 8 * jobParts c.p
  check := fun c _ s =>
    let p := c.p
    let flags := u8 p 3
    let dst := jobParts p * jobDstBytes p
    let ctx := contextBytes (jobContext p) s
    if 1 < jobOp p || 1 < u8 p 1 || 7 < flags || !zeroAt p 5 3 || !zeroAt p 40 24 then stOutOfRange
    else if jobOp p = 0 && (jobLevel p < 1 || 3 < jobLevel p) then stOutOfRange
    else if jobOp p = 1 && jobLevel p ≠ 0 then stOutOfRange
    else if jobParts p < 1 || 4 < jobParts p || (jobParts p ≠ 1 && (c.a.block ≠ 0 || jobOp p = 1)) then stOutOfRange
    else if 8388608 < jobSrcBytes p || (jobSrcBytes p = 0 && !(jobOp p = 0 && jobLast p)) then stOutOfRange
    else if jobDstBytes p < 64 || 8392704 < jobDstBytes p then stOutOfRange
    else if Config.dramCapacity < jobSrc p + jobSrcBytes p || !inUserRegion (jobDst p) dst s then stOutOfRange
    else if jobContext p % 64 ≠ 0 || (jobContext p = 0 && (jobResume p || jobSave p)) then stOutOfRange
    else if jobContext p ≠ 0 && !inUserRegion (jobContext p) 40960 s then stOutOfRange
    else if rangesMeet (jobSrc p) (jobSrcBytes p) (jobDst p) dst then stOutOfRange
    else if jobContext p ≠ 0 && (rangesMeet (jobSrc p) (jobSrcBytes p) (jobContext p) 40960
        || rangesMeet (jobDst p) dst (jobContext p) 40960) then stOutOfRange
    else if jobResume p && (u8 ctx 0 ≠ jobOp p || u8 ctx 1 ≠ u8 p 1 || u8 ctx 2 ≠ jobLevel p) then stConflict
    else stDone
  commit := fun _ s => .later s 0 }

/-- COMP_STATUS, opcode 0x0D01. -/
def cmdCompStatus : CommandDef := {
  opcode := 0x0D01
  lengths := [4]
  kinds := [0x48]
  reads := true
  replyMax := fun _ => 40
  check := fun c _ _ => if 1 < u8 c.p 0 || !zeroAt c.p 1 3 then stOutOfRange else stDone
  commit := fun c s =>
    let y := s.engine c.target
    .reply (le 1 (b2n y.job.isSome) ++ le 1 ((y.job.map (·.user)).getD 0) ++ zeros 2 ++ le 4 y.jobs ++ le 8 y.bytesIn
        ++ le 8 y.bytesOut ++ le 4 y.noSpace ++ le 4 y.faults ++ le 4 y.hwFaults ++ zeros 4)
      (if u8 c.p 0 = 1 then s.setEngine c.target { job := y.job } else s) }

/-- The compression capability's body, ID 0x000E version 1 (R443). -/
def capCompress : List Byte := [4, 3, 0, 0] ++ le 4 8388608 ++ le 4 40960 ++ zeros 4

end Sys2Proof.Machine
end

