-- ==== Sys2Proof/Machine/Ecdsa.lean ====
section
/-!
DEFINITION. Sys2Proof/Machine/Ecdsa.lean: the signature check of KEY_RESPONSE (R61, R62): ECDSA on P-384 over a SHA-384 digest. The rules name
the scheme; the curve and the check are those of FIPS 186-4 (PRESUMED, assumption 71).
-/
namespace Sys2Proof.Machine

/-- The field's prime, the curve's b, the order of the base point, and the base point. -/
def p384 : Nat := 2 ^ 384 - 2 ^ 128 - 2 ^ 96 + 2 ^ 32 - 1
def p384B : Nat := 0xB3312FA7E23EE7E4988E056BE3F82D19181D9C6EFE8141120314088F5013875AC656398D8A2ED19D2A85C8EDD3EC2AEF
def p384N : Nat := 0xFFFFFFFFFFFFFFFFFFFFFFFFFFFFFFFFFFFFFFFFFFFFFFFFC7634D81F4372DDF581A0DB248B0A77AECEC196ACCC52973
def p384G : Nat × Nat :=
  (0xAA87CA22BE8B05378EB1C71EF320AD746E1D3B628BA79B9859F741E082542A385502F25DBF55296C3A545E3872760AB7,
   0x3617DE4A96262C6F5D9E98BF9292DC29F8F41DBD289A147CE9DA3113B5F0B8C00A60B1CE1D7E819D7A431D7C90EA0E5F)

/-- a to the power e modulo m; `fuel` bounds the bits of e. -/
def powMod (m : Nat) : Nat → Nat → Nat → Nat → Nat
  | 0, _, _, acc => acc
  | fuel + 1, a, e, acc => powMod m fuel (a * a % m) (e / 2) (if e % 2 = 1 then acc * a % m else acc)

/-- The inverse modulo a prime. -/
def invMod (m a : Nat) : Nat := powMod m 384 (a % m) (m - 2) 1

/-- The sum of two points of the curve; none is the point at infinity. -/
def pointAdd (p q : Option (Nat × Nat)) : Option (Nat × Nat) :=
  match p, q with
  | none, q => q
  | p, none => p
  | some (x1, y1), some (x2, y2) =>
    if x1 = x2 && (y1 + y2) % p384 = 0 then none
    else
      let l := if x1 = x2 then (3 * x1 * x1 + p384 - 3) * invMod p384 (2 * y1) % p384
        else (y2 + p384 - y1) * invMod p384 (x2 + p384 - x1) % p384
      let x := (l * l + 2 * p384 - x1 - x2) % p384
      some (x, (l * (x1 + p384 - x) + p384 - y1) % p384)

/-- A multiple of a point; `fuel` bounds the bits of the factor. -/
def pointMul : Nat → Nat → Option (Nat × Nat) → Option (Nat × Nat) → Option (Nat × Nat)
  | 0, _, _, acc => acc
  | fuel + 1, k, p, acc => pointMul fuel (k / 2) (pointAdd p p) (if k % 2 = 1 then pointAdd acc p else acc)

/-- The point a SEC 1 uncompressed encoding of 97 bytes names, if it is one of the curve. -/
def pointOf (key : List Byte) : Option (Nat × Nat) :=
  let x := ofBe ((key.drop 1).take 48)
  let y := ofBe ((key.drop 49).take 48)
  if u8 key 0 = 4 && key.length = 97 && x < p384 && y < p384 && (y * y) % p384 = (x * x * x + (p384 - 3) * x + p384B) % p384 then some (x, y)
  else none

/-- Does a signature of a message pass under a public key? -/
def ecdsaOk (key message sigR sigS : List Byte) : Bool :=
  let r := ofBe sigR
  let s := ofBe sigS
  match pointOf key with
  | none => false
  | some q =>
    if r = 0 || p384N ≤ r || s = 0 || p384N ≤ s then false
    else
      let e := ofBe (sha384 message)
      let w := invMod p384N s
      match pointAdd (pointMul 384 (e * w % p384N) (some p384G) none) (pointMul 384 (r * w % p384N) (some q) none) with
      | none => false
      | some (x, _) => x % p384N = r

end Sys2Proof.Machine
end

