-- ==== Sys2Proof/Machine/Ports.lean ====
section
/-!
DEFINITION. Sys2Proof/Machine/Ports.lean: the sensor ports (chapter 05): the receive checks of R126, camera time (R129),
control messages and exposure epochs (R133-R140), the statistics records of R141, and the port commands.
-/
namespace Sys2Proof.Machine

/-- VOID: the value of a pixel that has no sample (R125). -/
def void : Nat := 65535

/-- The station a port belongs to, if any: the first whose port list names it (R210). -/
def stationOf (n : Nat) (s : State) : Option Nat := (List.range 4).find? fun k => (s.station k).ports.contains n

/-- Bits per sample of a DEPTH code (R122). -/
def depthBits (code : Nat) : Nat := 8 + 2 * code

/-- Raises a port's source k (R142): 2 to 4 at most once until a block closes or 10 ms have passed. -/
def portEvent (n k : Nat) (s : State) : State :=
  let p := s.port n
  if 2 ≤ k && k ≤ 4 then
    let last := Tab.get 0 p.faultAt k
    if last = 0 || last - 1 + 10000000 ≤ s.now then
      raise (32 + 8 * n + k) (s.setPort n { p with faultAt := Tab.set 0 p.faultAt k (s.now + 1) })
    else s
  else raise (32 + 8 * n + k) s

/-! ### Device messages to the camera (R133-R137) -/

/-- May the device transmit towards a camera? Not while the port's transmitters are dark (R96, R137). -/
def portTransmits (n : Nat) (s : State) : Bool := groupLink n s = 1

/-- A message's bytes: MSG_START bytes 1-7, the body, and the CRC-32C over both (R120, R133). -/
def camMsgBytes (m : CamMsg) : List Byte :=
  let head := le 1 m.kind ++ le 1 m.seq ++ le 2 m.body.length ++ zeros 3 ++ m.body
  head ++ le 4 (crc32c head).toNat

/-- A message goes out: as a frame of the port layer, striped over the group (R101, R120). -/
def sendCam (n : Nat) (m : CamMsg) (s : State) : State :=
  sendLayer n (frameBlocks 0xB1 (camMsgBytes m)) (send .camera n m.kind (camMsgBytes m) s)

/-- A message as it is sent: a SET_EXPOSURE takes the epoch after the port's current one (R136, R138, R140). -/
def CamMsg.numbered (m : CamMsg) (p : Port) : CamMsg :=
  if m.kind = 2 then
    let e := wrap 16 (p.epoch + 1)
    { m with epoch := e, body := le 2 e ++ le 2 m.gain ++ le 4 m.exposure }
  else m

/-- Sends the next message of a port's queue when none is outstanding (R134). -/
def camNext (n : Nat) (s : State) : State :=
  let p := s.port n
  match p.outstanding, p.queue with
  | none, m :: rest =>
    if portTransmits n s then
      let m := { m.numbered p with seq := p.seq, tries := 0, sentAt := s.now }
      sendCam n m (s.setPort n { p with outstanding := some m, queue := rest, seq := if p.seq = 254 then 0 else p.seq + 1 })
    else s
  | _, _ => s

/-- A message joins the queue and goes out as soon as it may. -/
def camQueue (n : Nat) (m : CamMsg) (s : State) : State :=
  camNext n (modPort n (fun p => { p with queue := p.queue ++ [m] }) s)

/-- The SET_LINE of a port's configuration (R133, R136). -/
def setLineMsg (p : Port) : CamMsg :=
  { kind := 1, body := le 2 p.pixels ++ le 1 p.planes ++ le 1 ((p.depth - 8) / 2) ++ le 4 p.lineRate }

/-- A SET_EXPOSURE; its epoch and its body are formed when it is sent. -/
def setExposureMsg (exposure gain : Nat) (command : Bool) : CamMsg := { kind := 2, command := command, exposure := exposure, gain := gain }

/-- GET_INFO (R133). -/
def getInfoMsg : CamMsg := { kind := 3 }

/-- SET_LINE and then SET_EXPOSURE, from a configured port whose link is ACTIVE (R136, R560). -/
def sendLineSetup (n : Nat) (s : State) : State :=
  let p := s.port n
  if p.configured && portTransmits n s then
    camQueue n (setExposureMsg p.exposure p.gain false) (camQueue n (setLineMsg p) s)
  else s

/-- A port's lane group enters ACTIVE or LISTEN: no INFO has come and no epoch is expected (R138, R142, R143). A message that a command waits for
stays. CAMERA_REFUSED is cleared here and by the next SET_LINE that the camera applies (DESIGN CHOICE, assumption 86). -/
def portUp (n : Nat) (s : State) : State :=
  let s := modPort n (fun p => { p with
    info := [], epochKnown := false, outstanding := p.outstanding.filter (·.command), queue := p.queue.filter (·.command)
    refused := false }) s
  portEvent n 0 s

/-- A port's lane group enters ACTIVE, by bring-up or lit out of LISTEN: no epoch is expected, and the set-up messages go out anew (R136, R138,
R143). The device then asks for the camera's INFO (DESIGN CHOICE, assumption 86). -/
def portLit (n : Nat) (s : State) : State :=
  let s := modPort n (fun p => { p with
    epochKnown := false, outstanding := p.outstanding.filter (·.command), queue := p.queue.filter (·.command) }) s
  camQueue n getInfoMsg (sendLineSetup n s)

/-- A flat-field capture ends without its lines (R161). -/
def captureFails (n status : Nat) (s : State) : State :=
  if (s.photo n).capture.any (fun c => c.done < c.lines) then
    finishOne 0x0305 (fun y => y.args.block = 0x10 + n) status [] (modPhoto n (fun p => { p with capture := none }) s)
  else s

/-- A port's lane group is dark and goes on in LISTEN: no epoch is expected (R138), and a capture fails (R161). -/
def portDark (n : Nat) (s : State) : State := captureFails n stConflict (modPort n (fun p => { p with epochKnown := false }) s)

/-- The reply a CAMERA_SET or CAMERA_MESSAGE waits for. -/
def camReply (n : Nat) (m : CamMsg) (status : Nat) (data : List Byte) (s : State) : State :=
  if m.command then finishOne (if m.kind = 2 then 0x0222 else 0x0223) (fun x => x.args.block = 0x10 + n) status
    (if status = stDone then data else []) s else s

/-- A port's lane group leaves ACTIVE or LISTEN (R142); a message in flight then gets no answer, and a capture fails (R161). -/
def portDown (n : Nat) (s : State) : State := captureFails n stConflict (portEvent n 1 s)

/-- A message fails after its last resend, or SET_LINE is refused (R134, R136). -/
def cameraTimeout (n : Nat) (m : CamMsg) (result : Nat) (s : State) : State :=
  journal 0x0201 (0x10 + n) (77 + n) (le 1 n ++ le 1 m.kind ++ le 1 m.seq ++ le 1 result) (portEvent n 6 s)

/-- CAMERA_MSG_RESEND: 1 ms without an answer; resent under the same SEQ at most three times, then the message fails (R134, R140). -/
def camResend (n : Nat) (s : State) : State :=
  let p := s.port n
  match p.outstanding with
  | none => s
  | some m =>
    if s.now < m.sentAt + 1000000 then s
    else if m.tries < 3 then
      let m := { m with tries := m.tries + 1, sentAt := s.now }
      let s := s.setPort n { p with outstanding := some m, msgRetries := sat 32 (p.msgRetries + 1) }
      if portTransmits n s then sendCam n m s else s
    else
      let s := s.setPort n { p with outstanding := none, msgTimeouts := sat 32 (p.msgTimeouts + 1) }
      camNext n (camReply n m stTimedOut [] (cameraTimeout n m 0xFF s))

/-- The status a camera's RESULT becomes (R143). -/
def camStatus (result : Nat) : Nat :=
  match result with
  | 0 => stDone | 1 => stOutOfRange | 2 => stAbsent | 3 => stBusy | _ => stHwFault

/-- Does a block that holds a FIRST_LINE keep the next CAMERA_SET out (R139)? -/
def Mode.holdsEpoch (m : Mode) : Bool := m = .learn || m = .inspect || m = .reduced

/-- The new epoch an ACK brings (R137, R138, R139); a capture fails by it (R161). -/
def newEpoch (n epoch exposure gain firstLine : Nat) (own command : Bool) (s : State) : State :=
  captureFails n stConflict (modPort n (fun p => { p with
    prevEpoch := if p.epochs = [] then p.epoch else p.prevEpoch
    epochs := p.epochs ++ [{ first := wrap 32 firstLine, epoch := epoch, command := command }], epoch := epoch, epochKnown := true
    exposure := if own then exposure else p.exposure
    gain := if own then gain else p.gain
    holdEpoch := if command then some epoch else p.holdEpoch
    epochBlock := if command then none else p.epochBlock }) s)

/-- Counts a framing or format fault; it is flagged with the next accepted line (R128). -/
def formatError (n : Nat) (s : State) : State :=
  portEvent n 4 (modPort n (fun p => { p with
    formatErrors := sat 32 (p.formatErrors + 1), faults := { p.faults with other := true } }) s)

/-- Counts a message that is discarded whole: it raises no event and flags no line (DESIGN CHOICE, assumption 85). -/
def badMessage (n : Nat) (s : State) : State := modPort n (fun p => { p with formatErrors := sat 32 (p.formatErrors + 1) }) s

/-- A message from the camera, MSG_START bytes 1 to 7 and what follows: framed and checked, it is acted on if it has the type and a body length
that its receiver takes (R120, R126, R133). A body of another length is discarded as one that fails its CRC is (DESIGN CHOICE,
assumption 85). -/
def camMessage (n type : Nat) (lengthOk : Nat → Bool) (msg : List Byte) (act : List Byte → State → State) (s : State) : State :=
  let len := u16 msg 2
  if groupLink n s = 0 then s
  else if 1024 < len || msg.length < 11 + len then formatError n s
  else if (crc32c (msg.take (7 + len))).toNat ≠ u32 msg (7 + len) then badMessage n s
  else if u8 msg 0 ≠ type then s
  else if !lengthOk len then badMessage n s
  else act ((msg.drop 7).take len) s

/-- The answer to the message that is outstanding, by its RESULT (R133, R136, R138, R140, R143). -/
def camAnswer (n : Nat) (m : CamMsg) (result epoch firstLine : Nat) (s : State) : State :=
  match m.kind with
  | 1 =>
    let s := modPort n (fun p => { p with refused := result ≠ 0 }) s
    if result = 0 then s else cameraTimeout n m result s
  | 2 =>
    let s := if result = 0 then newEpoch n epoch m.exposure m.gain firstLine true m.command s else s
    camReply n m (camStatus result) (le 2 epoch ++ zeros 2 ++ le 4 firstLine) s
  | _ => camReply n m (camStatus result) [] s

/-- An ACK a port in LISTEN overhears. It does not hear what is answered: an ACK that names the epoch already in force brings none
(R137; DEDUCED, assumption 86). -/
def overhearAck (n result epoch firstLine : Nat) (s : State) : State :=
  let p := s.port n
  if result ≠ 0 || (p.epochKnown && epoch = p.epoch) then s else newEpoch n epoch 0 0 firstLine false false s

/-- CAMERA_ACK_RECEIVED (R133-R140). -/
def camAck (n : Nat) (msg : List Byte) (s : State) : State :=
  camMessage n 0x81 (· = 8) msg (fun b s =>
    if groupLink n s = 2 then overhearAck n (u8 b 1) (u16 b 2) (u32 b 4) s
    else match (s.port n).outstanding with
      | some m =>
        if m.seq = u8 b 0 then
          camNext n (camAnswer n m (u8 b 1) (u16 b 2) (u32 b 4) (modPort n (fun p => { p with outstanding := none }) s))
        else s
      | none => s) s

/-- The body of an INFO: it answers a GET_INFO, and is stored when its body from byte 1 on differs (R135). -/
def camInfo (n : Nat) (b : List Byte) (s : State) : State :=
  let s := match (s.port n).outstanding with
    | some m => if m.kind = 3 && m.seq = u8 b 0 then camNext n (modPort n (fun p => { p with outstanding := none }) s) else s
    | none => s
  if b.drop 1 = (s.port n).info.drop 1 then s
  else portEvent n 7 (modPort n (fun p => { p with info := b }) s)

/-- VENDOR_REPLY_RECEIVED (R133, R134, R143): the body begins with ACK_SEQ. -/
def camVendor (n : Nat) (msg : List Byte) (s : State) : State :=
  camMessage n 0x84 (1 ≤ ·) msg (fun b s =>
    match (s.port n).outstanding with
    | some m =>
      if m.kind = 4 && m.seq = u8 b 0 then
        camNext n (camReply n m stDone (b.drop 1) (modPort n (fun p => { p with outstanding := none }) s))
      else s
    | none => s) s

/-! ### Camera time (R129) -/

/-- r times a camera time: r = 1 + ratio / 2^32. -/
def rTimes (p : Port) (x : Int) : Int := x + x * p.ratio / (2 ^ 32 : Nat)

/-- m of a line that arrived at A and whose exposure ended at camera time C: A - r C (R129). -/
def mapAt (p : Port) (x : Int × Int) : Int := x.1 - rTimes p x.2

/-- The offset o: m of the last completed window, or the minimum so far, less LATENCY and CABLE_DELAY_NS. When r changes, m is taken under the
new r (DEDUCED, assumption 87); before any plane 0 has arrived m is 0 (DESIGN CHOICE, assumption 110). -/
def clockOffset (p : Port) : Int :=
  (((p.mapDone <|> p.mapMin).map (mapAt p)).getD 0) - (u32 p.info 24 : Int) - (p.cableDelay : Int)

/-- Camera time of a CAM_TIME, unwrapped by differences modulo 2^48. -/
def unwrapCam (p : Port) (camTime : Nat) : Int :=
  match p.camLast with
  | none => (camTime : Int)
  | some last => p.camExt + toInt 48 (camTime + 2 ^ 48 - last)

/-- A plane 0 arrived: it takes part in its window's minimum m (R129), and in the rate window (R132). That window counts the lines whose plane 0
arrived, by its arrival (DESIGN CHOICE, assumption 110). -/
def clockSample (arrival camTime exposure : Nat) (s : State) (p : Port) : Port :=
  let ext := unwrapCam p camTime
  let x : Int × Int := ((s.chainTimeAt arrival : Int), ext + exposure)
  let better := match p.mapMin with
    | none => true
    | some y => mapAt p x < mapAt p y
  { p with
    camExt := ext, camLast := some (camTime % 2 ^ 48)
    mapMin := if better then some x else p.mapMin
    rateLines := p.rateLines + 1
    rateFrom := if p.rateLines = 0 then arrival else p.rateFrom
    rateLast := arrival }

/-- CLOCK_MAP_WINDOW: a window of 1,024 input lines is full; r follows from the change in m, which is what the two lines that gave it show of
the two clocks, within 250 ppm (R129). -/
def clockWindow (n : Nat) (s : State) : State :=
  let p := s.port n
  match p.mapMin with
  | none => s
  | some x =>
    if p.mapLines < 1024 then s
    else
      let bound : Int := 2 ^ 32 * 250 / 1000000
      let ratio := match p.mapDone with
        | some y => if x.2 = y.2 then p.ratio else clampInt (-bound) bound (((x.1 - y.1) - (x.2 - y.2)) * (2 ^ 32 : Nat) / (x.2 - y.2))
        | none => p.ratio
      s.setPort n { p with ratio := ratio, mapDone := some x, mapMin := none, mapLines := 0 }

/-- LINE_RATE_WINDOW: the mean of 4,096 input line periods; a measured rate more than 1 % above the declared one raises FORMAT_FAULT once
per block (R132). RATE_EXCEEDED is that of the block in progress as the window ends, not of later ones (DESIGN CHOICE, assumption 110). -/
def rateWindow (n : Nat) (s : State) : State :=
  let p := s.port n
  if p.rateLines ≤ 4096 then s
  else
    let span := p.rateLast - p.rateFrom
    let fast := p.configured && p.lineRate * 101 * span < (p.rateLines - 1) * 100 * 10 ^ 9
    let s := s.setPort n { p with
      linePeriod := sat 32 (span * 1000 / (p.rateLines - 1)), rateLines := 1, rateFrom := p.rateLast
      rateExceeded := p.rateExceeded || fast }
    if fast && !p.rateExceeded then portEvent n 4 s else s

/-! ### Line packets (R120-R124) -/

/-- A line packet as its header and sample field have it (R122, R123). -/
structure LinePacket where
  format : Nat
  plane : Nat
  depth : Nat
  lineCount : Nat
  camTime : Nat
  epoch : Nat
  temp : Nat
  gain : Nat
  exposure : Nat
  samples : List Nat
  arrival : Nat

/-- The samples of a little-endian bit stream, sample 0 first (R123). -/
def unpackSamples (depth : Nat) : Nat → Nat → List Nat
  | 0, _ => []
  | k + 1, stream => stream % 2 ^ depth :: unpackSamples depth k (stream / 2 ^ depth)

/-- The bytes of a sample field: ceil(PIXELS x D / 8) (R123). -/
def fieldBytes (pixels depth : Nat) : Nat := (pixels * depth + 7) / 8

/-- The bytes from which a packet's length is known, its length with the CRC, and whether the length can be known (R122, R126). -/
def packetLength (b : List Byte) : Nat := 36 + fieldBytes (u16 b 2) (depthBits (bits (u8 b 1) 7 4))

/-- The fields of a packet whose CRC is good (R122, R123). -/
def parsePacket (arrival : Nat) (b : List Byte) : LinePacket :=
  let d := bits (u8 b 1) 7 4
  { format := u8 b 0, plane := bits (u8 b 1) 3 0, depth := d, lineCount := u32 b 4, camTime := fld 6 b 8, epoch := u16 b 14
    temp := u16 b 16, gain := u16 b 18, exposure := u32 b 20, arrival := arrival
    samples := unpackSamples (depthBits d) (u16 b 2) (fld (fieldBytes (u16 b 2) (depthBits d)) b 32) }

/-! ### Receive checks (R126) -/

/-- Does a LINE_COUNT lie at a FIRST_LINE or after it (R138)? -/
def EpochStart.reached (e : EpochStart) (count : Nat) : Bool := 0 ≤ toInt 32 (ofInt 32 ((count : Int) - e.first))

/-- How many of the epochs whose FIRST_LINE has not arrived begin with a LINE_COUNT, or before it (R138). -/
def epochsReached (p : Port) (count : Nat) : Nat :=
  (p.epochs.zipIdx.map fun e => if e.1.reached count then e.2 + 1 else 0).foldl max 0

/-- The epoch the device expects of a LINE_COUNT (R138). -/
def expectedEpoch (p : Port) (count : Nat) : Nat :=
  (((p.epochs.take (epochsReached p count)).getLast?).map (·.epoch)).getD p.prevEpoch

/-- The raw statistics of one plane of a line of a given depth (R141). -/
def planeStat (depth : Nat) (xs : List Nat) : PlaneStat :=
  let good := xs.filter (· ≠ void)
  { sum := sumNat (good.map fun v => v * 2 ^ (16 - depth))
    count := good.length
    saturated := (good.filter (· = 2 ^ depth - 1)).length
    voids := xs.length - good.length }

/-- A line as it leaves the front end: missing planes VOID, its mid-exposure instant, its epoch judged, and the faults that waited for it
(R126-R129, R138). -/
def finishLine (p : Port) (c : CurLine) : InLine :=
  let planes := (List.range p.planes).map fun k =>
    match c.got.find? (fun e => e.1 = k) with
    | some e => e.2
    | none => List.replicate p.pixels void
  let ext := p.camExt + toInt 48 (c.camTime + 2 ^ 48 - p.camLast.getD c.camTime)
  { lineCount := c.count, epoch := c.epoch, temp := c.temp, exposure := c.exposure, gain := c.gain
    tMid := rTimes p ext + rTimes p c.exposure / 2 + clockOffset p
    planes := planes, short := c.short, long := c.long
    planeMissing := c.got.length < p.planes
    epochUnknown := p.epochKnown && c.epoch ≠ expectedEpoch p c.count
    gap := c.gap || p.faults.gap, resync := c.resync || p.faults.resync
    firstOf := (((p.epochs.take (epochsReached p c.count)).filter (·.command)).getLast?.map (·.epoch)) <|> p.faults.firstOf
    faults := p.faults
    stats := planes.map (planeStat p.depth) }

/-- The line being put together is closed: it goes on, and the port's books follow it (R126, R138). LINES_RECEIVED counts it, also where the full
front-end buffer then drops it (DESIGN CHOICE, assumption 88). -/
def closeLine (n : Nat) (s : State) : List InLine × State :=
  let p := s.port n
  match p.cur with
  | none => ([], s)
  | some c =>
    let x := finishLine p c
    let applied := epochsReached p c.count
    let s := s.setPort n { p with
      cur := none, curDone := true, faults := {}
      linesReceived := wrap 64 (p.linesReceived + 1)
      epochUnknown := if x.epochUnknown then sat 32 (p.epochUnknown + 1) else p.epochUnknown
      mapLines := p.mapLines + 1
      prevEpoch := expectedEpoch p c.count, epochs := p.epochs.drop applied }
    ([x], (List.range applied).foldl (fun s _ => portEvent n 5 s) s)

/-- A sample run brought to the configured count: short ones padded with VOID, long ones cut (R126). -/
def fitPixels (pixels : Nat) (xs : List Nat) : List Nat := (xs ++ List.replicate (pixels - xs.length) void).take pixels

/-- SENSOR_TEMP, or the last valid one, or TEMP_DEFAULT (R126). -/
def lineTemp (p : Port) (raw : Nat) : Int := if raw = 0x8000 then p.lastTemp.getD p.tempDefault else toInt 16 raw

/-- A checked packet joins the line being put together, which goes on when its last plane is in; a line is counted short, or long, once
(R126). -/
def joinPlane (n : Nat) (k : LinePacket) (s : State) : List InLine × State :=
  let p := s.port n
  let short := k.samples.length < p.pixels
  let long := p.pixels < k.samples.length
  let p := { p with
    shortLines := if short && !p.cur.any (·.short) then sat 32 (p.shortLines + 1) else p.shortLines
    longLines := if long && !p.cur.any (·.long) then sat 32 (p.longLines + 1) else p.longLines
    lastTemp := if k.temp = 0x8000 then p.lastTemp else some (toInt 16 k.temp) }
  let p := if k.plane = 0 then clockSample k.arrival k.camTime k.exposure s p else p
  let xs := fitPixels p.pixels k.samples
  let c := match p.cur with
    | some c => { c with got := c.got ++ [(k.plane, xs)], last := k.plane, short := c.short || short, long := c.long || long }
    | none =>
      { count := k.lineCount, lead := k.plane, camTime := k.camTime, epoch := k.epoch, exposure := k.exposure, gain := k.gain
        temp := lineTemp p k.temp, last := k.plane, got := [(k.plane, xs)], short := short, long := long }
  let s := s.setPort n { p with cur := some c, curDone := false, lastPlane := k.plane, lastCount := some k.lineCount }
  let s := if short || long then portEvent n 4 s else s
  if k.plane + 1 = p.planes then closeLine n s else ([], s)

/-- A plane of a new LINE_COUNT: the gap or resynchronisation it shows is noted, the line before it closed (R126, R127). A port that has accepted
no line has no last LINE_COUNT: its first line shows neither (DESIGN CHOICE, assumption 88). -/
def newLine (n : Nat) (k : LinePacket) (s : State) : List InLine × State :=
  let r := closeLine n s
  let s := r.2
  let p := s.port n
  let d := match p.lastCount with
    | none => 1
    | some l => (k.lineCount + 2 ^ 32 - l) % 2 ^ 32
  let gap := 2 ≤ d && d ≤ 1024
  let resync := d = 0 || 1024 < d
  let s := s.setPort n { p with
    linesLost := if gap then sat 32 (p.linesLost + (d - 1)) else p.linesLost
    resyncs := if resync then sat 32 (p.resyncs + 1) else p.resyncs
    faults := if gap then { p.faults with lost := p.faults.lost + (d - 1) } else p.faults }
  let s := if gap || resync then portEvent n 3 s else s
  let q := joinPlane n k s
  let mark := fun x : InLine => { x with gap := gap, resync := resync }
  let s := modPort n (fun p => { p with cur := p.cur.map fun c => { c with gap := gap, resync := resync } }) q.2
  (r.1 ++ q.1.map mark, s)

/-- A packet whose length is known and whose CRC is good (R126, R560). -/
def checkedPacket (n : Nat) (k : LinePacket) (s : State) : List InLine × State :=
  let p := s.port n
  if !p.configured then ([], s)
  else if k.format ≠ 1 || depthBits k.depth ≠ p.depth || p.planes ≤ k.plane || k.samples.length = 0 then ([], formatError n s)
  else if p.lastCount = some k.lineCount && k.plane ≤ p.lastPlane then
    ([], s.setPort n { p with duplicates := sat 32 (p.duplicates + 1), faults := { p.faults with other := true } })
  else if p.lastCount = some k.lineCount && p.cur.isSome then joinPlane n k s
  else newLine n k s

/-- LINE_PACKET_RECEIVED in the front end: the framing, the length and the CRC, then the packet itself (R120, R124, R126): the lines that go on
to stage 2, and the port's new state. Data after the packet's end lies outside any packet, but for the zeros that pad its last block. -/
def receivePacket (n : Nat) (k : PortPacket) (s : State) : List InLine × State :=
  let b := k.bytes
  let len := packetLength b
  if groupLink n s = 0 || k.start = some 0xB1 then ([], s)
  else if k.start ≠ some 0xB0 then ([], formatError n s)
  else if b.length < 4 then ([], formatError n s)
  else if 2 < bits (u8 b 1) 7 4 || 16384 < u16 b 2 then ([], formatError n s)
  else if b.length < len then ([], formatError n s)
  else
    let r := if (crc32c (b.take (len - 4))).toNat ≠ u32 b (len - 4) then
        ([], portEvent n 2 (modPort n (fun p => { p with
          crcErrors := sat 32 (p.crcErrors + 1), faults := { p.faults with crc := p.faults.crc + 1 } }) s))
      else checkedPacket n (parsePacket k.arrival b) s
    (r.1, if len + 8 ≤ b.length then formatError n r.2 else r.2)

/-- The front-end buffer of R18 has no room for a line: 256 lines, or 6.5 MiB of line packets. -/
def bufferFull (p : Port) : Bool :=
  256 ≤ p.buffered.length || 6815744 < (p.buffered.length + 1) * p.planes * (36 + fieldBytes p.pixels p.depth)

/-- The faults of two lines together (R128). -/
def LineFaults.join (a b : LineFaults) : LineFaults :=
  { crc := a.crc + b.crc, lost := a.lost + b.lost, other := a.other || b.other, gap := a.gap || b.gap, resync := a.resync || b.resync
    firstOf := a.firstOf <|> b.firstOf }

/-- What a line that lands in no block leaves to the next one: its faults, the gap or new run it showed, the epoch it began (R127, R128, R139). -/
def InLine.leaves (x : InLine) : LineFaults := { x.faults with gap := x.gap, resync := x.resync, firstOf := x.firstOf }

/-- A line lands in no block: the next one takes over what it had to tell. -/
def leaveToNext (n : Nat) (x : InLine) (s : State) : State := modPort n (fun p => { p with faults := p.faults.join x.leaves }) s

/-- A line waits in the front end; the newest line is dropped when the buffer is full, and counted as lost: a gap before the next one (R18,
R126, R127, R142). -/
def bufferLine (n : Nat) (x : InLine) (s : State) : State :=
  let p := s.port n
  if bufferFull p then
    portEvent n 3 (modPort n (fun p => { p with
      linesLost := sat 32 (p.linesLost + 1), faults := { p.faults with lost := p.faults.lost + 1, gap := true } }) (leaveToNext n x s))
  else s.setPort n { p with buffered := p.buffered ++ [x] }

/-! ### Statistics records (R139, R141) -/

/-- Adds one plane's figures to another's. -/
def addPlaneStat (a b : PlaneStat) : PlaneStat :=
  { sum := a.sum + b.sum, count := a.count + b.count, saturated := a.saturated + b.saturated, voids := a.voids + b.voids }

/-- A line that has landed in the block enters the statistics of its epoch (R128, R139, R141). -/
def statLine (n block : Nat) (x : InLine) (s : State) : State :=
  modPort n (fun p =>
    let old := p.stats.find? fun e => e.epoch = x.epoch && e.block = block
    let e := match old with
      | some e => e
      | none => { block := block, epoch := x.epoch, firstLine := x.lineCount, tempMin := x.temp, tempMax := x.temp
                  planes := x.stats.map fun _ => {}, exposure := x.exposure, gain := x.gain }
    let e := { e with
      inputLines := wrap 32 (e.inputLines + 1)
      linesLost := sat 16 (e.linesLost + x.faults.lost)
      crcErrors := sat 16 (e.crcErrors + x.faults.crc)
      shortLines := sat 16 (e.shortLines + b2n x.short)
      longLines := sat 16 (e.longLines + b2n x.long)
      voidSamples := wrap 32 (e.voidSamples + sumNat (x.stats.map (·.voids)))
      tempMin := min e.tempMin x.temp, tempMax := max e.tempMax x.temp
      planes := e.planes.zipWith addPlaneStat x.stats
      unknown := e.unknown || x.epochUnknown, missing := e.missing || x.planeMissing, other := e.other || x.faults.other }
    { p with stats := p.stats.filter (fun o => !(o.epoch = x.epoch && o.block = block)) ++ [e] }) s

/-- The 64 bytes of one statistics record (R141). -/
def statRecord (n block : Nat) (two rate : Bool) (period : Nat) (e : EpochStat) : List Byte :=
  let flags := b2n two + 2 * b2n (0 < e.shortLines) + 4 * b2n (0 < e.longLines) + 8 * b2n (0 < e.crcErrors)
    + 16 * b2n (0 < e.linesLost) + 32 * b2n e.unknown + 64 * b2n rate + 128 * b2n e.missing
  let mean := fun x : PlaneStat => if x.count = 0 then 0 else (2 * x.sum + x.count) / (2 * x.count)
  le 1 n ++ le 1 flags ++ le 2 e.epoch ++ le 4 block ++ le 4 e.firstLine ++ le 4 e.inputLines ++ le 2 e.linesLost
    ++ le 2 e.crcErrors ++ le 2 e.shortLines ++ le 2 e.longLines ++ le 4 e.voidSamples ++ les 2 e.tempMin ++ les 2 e.tempMax
    ++ padTo 8 (e.planes.flatMap fun x => le 2 (mean x)) ++ padTo 8 (e.planes.flatMap fun x => le 2 (sat 16 x.saturated))
    ++ le 4 e.exposure ++ le 2 e.gain ++ zeros 2 ++ le 4 period ++ zeros 4

/-- STATS_RECORD: a block of the port closes; one record per epoch present goes to its mailbox (R139, R141). -/
def closeStats (n block : Nat) (s : State) : State :=
  let p := s.port n
  let due := p.stats.filter fun e => e.block = block
  let two := 1 < due.length
  let s := if p.statsMailbox = 0xFFFF then s
    else due.foldl (fun s e => (pushRecord p.statsMailbox (statRecord n block two p.rateExceeded p.linePeriod e) s).2) s
  modPort n (fun p => { p with
    stats := p.stats.filter (fun e => block < e.block), rateExceeded := false, faultAt := []
    holdEpoch := if p.epochBlock = some block then none else p.holdEpoch
    epochBlock := if p.epochBlock = some block then none else p.epochBlock }) s

/-! ### Commands (R143) -/

/-- Does a set image hold as many pixels and planes as a configuration needs (R156)? The default set always does. -/
def setFits (image : List Byte) (pixels planes : Nat) : Bool :=
  image = [] || (pixels ≤ u16 image 4 && planes ≤ u8 image 6)

/-- Do all of a port's sets, in use or committed for a block boundary, fit a configuration (R156)? A set being loaded is tried as it comes. -/
def setsFit (x : Photo) (pixels planes : Nat) : Bool :=
  setFits x.base pixels planes && setFits x.trim pixels planes
    && (x.newBase.all fun e => setFits e.image pixels planes) && (x.newTrim.all fun e => setFits e.image pixels planes)

/-- Blocks per plane of R130. -/
def blocksPerPlane (pixels depth : Nat) : Nat := 1 + ((36 + (pixels * depth + 7) / 8 - 7) + 7) / 8

/-- The line budget of a rate code, blocks per second (R130). -/
def lineBudget (rate : Nat) : Nat :=
  match rate with
  | 0 => 624200000 | 1 => 851200000 | 2 => 1560600000 | _ => 1702500000

/-! ### What the outlets take of the host link (R25, R227) -/

/-- Bytes per outlet pixel, as ROW_STRIDE counts them: one plane at a time for code 1 (R225, R227). -/
def outletPixelBytes (format : Nat) : Nat :=
  match format with
  | 0 => 3 | 1 => 1 | 2 => 2 | 3 => 2 | 4 => 1 | _ => 2

/-- ROW_STRIDE: the row padded to 64 bytes (R225). -/
def outletStride (o : OutletSet) : Nat := (o.cw / max o.sx 1 * outletPixelBytes o.format + 63) / 64 * 64

/-- The highest LINE_RATE among a station's ports (R227). -/
def stationRate (k : Nat) (s : State) : Nat := ((s.station k).ports.map fun n => (s.port n).lineRate).foldl max 0

/-- An outlet's computed rate, bytes/s (R227). -/
def outletRate (o : OutletSet) (s : State) : Nat :=
  outletStride o * (if o.format = 1 then 3 else 1) * stationRate o.station s / max o.sy 1

/-- The outlet streams' total, under the settings in force and those that wait for a block boundary (R25, R227). -/
def outletTotal (s : State) : Nat :=
  sumNat ((List.range 8).map fun j =>
    let o := ((s.outlet j).newSet).getD (s.outlet j).set
    if o.enable then outletRate o s else 0)

/-- The outlets' share of the host link, bytes/s (R25). -/
def outletLimit : Nat := 24000000000

/-- PORT_SET, opcode 0x0220. A line rate that would raise the outlets above their share is refused (R25). -/
def cmdPortSet : CommandDef := {
  opcode := 0x0220
  modes := [.standby, .configure]
  lengths := [24]
  kinds := [0x10]
  multi := [0xFE]
  check := fun c n s =>
    let pixels := u16 c.p 0
    let planes := u8 c.p 2
    let depth := u8 c.p 3
    let rate := u32 c.p 4
    if pixels < 64 || 16384 < pixels || pixels % 64 ≠ 0 || planes = 0 || 4 < planes then stOutOfRange
    else if !([8, 10, 12].contains depth) || rate < 1000 || 400000 < rate then stOutOfRange
    else if lineBudget (s.lane (4 * n)).rate < planes * blocksPerPlane pixels depth * rate then stOutOfRange
    else if s16 c.p 10 < -640 || 2400 < s16 c.p 10 then stOutOfRange
    else if u16 c.p 12 ≠ 0xFFFF && (u16 c.p 12 < 32 || 8191 < u16 c.p 12) then stOutOfRange
    else if u32 c.p 16 < 100 || 10 ^ 9 < u32 c.p 16 * rate then stOutOfRange
    else if u16 c.p 20 < 0x100 || 0x1000 < u16 c.p 20 || u16 c.p 14 ≠ 0 || u16 c.p 22 ≠ 0 then stOutOfRange
    else if !portFitted n s then stAbsent
    else if !setsFit (s.photo n) pixels planes then stConflict
    else if outletLimit < outletTotal (c.targets.foldl (fun s m => modPort m (fun p => { p with lineRate := rate }) s) s) then stOutOfRange
    else stDone
  commit := fun c s =>
    .reply [] (c.targets.foldl (fun s n =>
      let s := modPort n (fun p => { p with
        configured := true, pixels := u16 c.p 0, planes := u8 c.p 2, depth := u8 c.p 3, lineRate := u32 c.p 4
        cableDelay := u16 c.p 8, tempDefault := s16 c.p 10, statsMailbox := u16 c.p 12
        exposure := u32 c.p 16, gain := u16 c.p 20, cur := none }) s
      sendLineSetup n s) s) }

/-- PORT_STATUS, opcode 0x0221. LAST_TEMP and LAST_LINE_COUNT read zero before the port has taken a valid one (DESIGN CHOICE, assumption 88). -/
def cmdPortStatus : CommandDef := {
  opcode := 0x0221
  lengths := [4]
  kinds := [0x10]
  reads := true
  replyMax := fun _ => 64
  check := fun c _ _ => if 2 ≤ u8 c.p 0 || !zeroAt c.p 1 3 then stOutOfRange else stDone
  commit := fun c s =>
    let n := c.target
    let p := s.port n
    let data := le 1 (groupLink n s) ++ le 1 (b2n p.refused + 2 * b2n p.outstanding.isSome + 4 * b2n (p.info ≠ []))
      ++ le 2 p.epoch ++ les 2 (p.lastTemp.getD 0) ++ zeros 2 ++ le 4 (p.lastCount.getD 0) ++ le 4 p.linePeriod
      ++ le 8 p.linesReceived ++ le 4 p.linesLost ++ le 4 p.crcErrors ++ le 4 p.shortLines ++ le 4 p.longLines
      ++ le 4 p.formatErrors ++ le 4 p.duplicates ++ le 4 p.resyncs ++ le 4 p.epochUnknown ++ le 4 p.msgRetries ++ le 4 p.msgTimeouts
    .reply data (if (u8 c.p 0).testBit 0 then s.setPort n { p with
      linesReceived := 0, linesLost := 0, crcErrors := 0, shortLines := 0, longLines := 0, formatErrors := 0
      duplicates := 0, resyncs := 0, epochUnknown := 0, msgRetries := 0, msgTimeouts := 0 } else s) }

/-- CAMERA_SET, opcode 0x0222: the reply comes with the camera's ACK. -/
def cmdCameraSet : CommandDef := {
  opcode := 0x0222
  modes := [.configure, .calibrate, .learn, .inspect, .reduced]
  lengths := [8]
  kinds := [0x10]
  replyMax := fun _ => 8
  check := fun c n s =>
    let p := s.port n
    if u16 c.p 6 ≠ 0 || u32 c.p 0 < 100 || u16 c.p 4 < 0x100 || 0x1000 < u16 c.p 4 then stOutOfRange
    else if !p.configured then stConflict
    else if 10 ^ 9 < u32 c.p 0 * p.lineRate || (p.info ≠ [] && u16 p.info 18 < u16 c.p 4) then stOutOfRange
    else if groupLink n s ≠ 1 then stConflict
    else if p.outstanding.isSome || (p.holdEpoch.isSome && Mode.holdsEpoch s.mode) then stBusy
    else stDone
  commit := fun c s =>
    .later (camQueue c.target (setExposureMsg (u32 c.p 0) (u16 c.p 4) true) s) 0 }

/-- CAMERA_MESSAGE, opcode 0x0223: the reply comes with the camera's answer; what it changes is the camera's. -/
def cmdCameraMessage : CommandDef := {
  opcode := 0x0223
  modes := [.configure, .calibrate, .maintain]
  lenOk := fun p => p.length = 4 + u16 p 0
  kinds := [0x10]
  reads := true
  replyMax := fun _ => 1023
  check := fun c n s =>
    if u16 c.p 0 = 0 || 1024 < u16 c.p 0 || u16 c.p 2 ≠ 0 then stOutOfRange
    else if groupLink n s ≠ 1 then stConflict
    else if (s.port n).outstanding.isSome then stBusy
    else stDone
  commit := fun c s => .later (camQueue c.target { kind := 4, body := c.p.drop 4, command := true } s) 0 }

/-- CAMERA_INFO, opcode 0x0224. -/
def cmdCameraInfo : CommandDef := {
  opcode := 0x0224
  lengths := [0]
  kinds := [0x10]
  reads := true
  replyMax := fun _ => 40
  check := fun _ n s => if (s.port n).info = [] then stAbsent else stDone
  commit := fun c s => .reply (s.port c.target).info s }

end Sys2Proof.Machine
end

