-- ==== Sys2Proof/Machine/Photo.lean ====
section
/-!
DEFINITION. Sys2Proof/Machine/Photo.lean: photometric correction (chapter 06): the arithmetic of R144-R150 on set
images of R157 and R158, selection of base sets (R152, R155), flat-field capture (R160, R161) and the commands of R162.
-/
namespace Sys2Proof.Machine

/-! ### Set images (R157, R158) -/

def imgSets (im : List Byte) : Nat := u8 im 3
def imgPixels (im : List Byte) : Nat := u16 im 4
def imgPlanes (im : List Byte) : Nat := u8 im 6
def imgHasLut (im : List Byte) : Bool := (u8 im 7).testBit 0
def imgTemp (im : List Byte) (k : Nat) : Int := s16 im (8 + 2 * k)
def imgDefects (im : List Byte) : Nat := u16 im 16
def imgSerial (im : List Byte) : Nat := u64 im 24

/-- Where the tables start. -/
def lutStart (im : List Byte) : Nat := 64 + imgSets im * imgPlanes im * imgPixels im * 4

/-- Where the defect entries start. -/
def defectStart (im : List Byte) : Nat := lutStart im + if imgHasLut im then imgPlanes im * 8192 else 0

/-- The size the header implies (R158). -/
def imgSize (im : List Byte) : Nat := defectStart im + 4 * imgDefects im

/-- The offset of a coefficient (R158). -/
def coefAt (im : List Byte) (set plane i : Nat) : Nat := 64 + ((set * imgPlanes im + plane) * imgPixels im + i) * 4

/-- Dark offset and gain of a set, plane and pixel; the default set has 0 and 0x4000 (R153). -/
def coef (im : List Byte) (set plane i : Nat) : Int × Nat :=
  if im = [] then (0, 0x4000) else (s16 im (coefAt im set plane i), u16 im (coefAt im set plane i + 2))

/-- The image's CRC, over itself with the field taken as zero (R157). -/
def imgCrc (im : List Byte) : Nat := (crc32c (im.take 60 ++ zeros 4 ++ im.drop 64)).toNat

/-- Are the header's fields within range, for a KIND (R146, R157)? -/
def imgHeaderOk (im : List Byte) (kind : Nat) : Bool :=
  let n := imgSets im
  let temps := (List.range 4).map (imgTemp im)
  u16 im 0 = 1 && u8 im 2 = kind && 1 ≤ n && n ≤ (if kind = 1 then 4 else 1)
    && 64 ≤ imgPixels im && imgPixels im ≤ 16384 && imgPixels im % 64 = 0
    && 1 ≤ imgPlanes im && imgPlanes im ≤ 4 && u8 im 7 ≤ (if kind = 1 then 1 else 0)
    && imgDefects im ≤ 1024 && zeroAt im 22 2 && zeroAt im 40 20
    && (temps.drop (if kind = 1 then n else 0)).all (· = 0)
    && (List.range (n - 1)).all (fun k => imgTemp im k + 32 ≤ imgTemp im (k + 1))
    && (kind = 1 || imgSerial im = 0)

/-- Are the sections in range: no table entry 0xFFFF, no reserved bit in a defect entry (R148, R150)? -/
def imgBodyOk (im : List Byte) : Bool :=
  (!imgHasLut im || (List.range (imgPlanes im * 4096)).all fun j => u16 im (lutStart im + 2 * j) ≠ 0xFFFF)
    && (List.range (imgDefects im)).all fun j => u32 im (defectStart im + 4 * j) < 2 ^ 20

/-- The status an image is refused with, if any (R157). -/
def imgStatus (im : List Byte) (kind : Nat) : Nat :=
  if im.length < 64 then stBadLength
  else if !imgHeaderOk im kind then stOutOfRange
  else if im.length ≠ imgSize im then stBadLength
  else if u32 im 60 ≠ imgCrc im || !imgBodyOk im then stOutOfRange
  else stDone

/-! ### The arithmetic (R144-R150) -/

/-- The bracket k and weight w that a governing temperature selects (R146); with weight 0 set k is used unchanged. -/
def bracketOf (im : List Byte) (t : Int) : Nat × Nat :=
  let n := imgSets im
  if im = [] || n ≤ 1 || t ≤ imgTemp im 0 then (0, 0)
  else if imgTemp im (n - 1) ≤ t then (n - 1, 0)
  else
    let k := ((List.range (n - 1)).find? fun k => imgTemp im k ≤ t && t < imgTemp im (k + 1)).getD 0
    let span := imgTemp im (k + 1) - imgTemp im k
    (k, (((t - imgTemp im k) * 256 + span / 2) / span).toNat)

/-- A coefficient interpolated between two sets (R146). -/
def blendCoef (x y : Int) (w : Nat) : Int := x + ((y - x) * w + 128) / 256

/-- d_base and g_base of a pixel (R144, R146). -/
def baseCoef (im : List Byte) (k w plane i : Nat) : Int × Int :=
  let a := coef im k plane i
  if w = 0 then (a.1, a.2) else
    let b := coef im (k + 1) plane i
    (blendCoef a.1 b.1 w, blendCoef a.2 b.2 w)

/-- Steps 1 to 4 of R144: the signed product c. -/
def photoC (depth v : Nat) (d : Int) (g : Int) (dTrim gTrim : Int) : Int :=
  let s12 : Int := v * 2 ^ (12 - depth)
  let dd := clampInt (-32768) 32767 (d + dTrim)
  let gg := min ((g * gTrim + 2 ^ 13) / 2 ^ 14) 65535
  (s12 * 16 - dd) * gg

/-- Step 5 before its clamp. -/
def photoRound (c : Int) : Int := (c + 2 ^ 17) / 2 ^ 18

/-- The METHOD of a pixel and plane in an image's map, if it is listed there (R148). -/
def defectIn (im : List Byte) (plane i : Nat) : Option Nat :=
  ((List.range (imgDefects im)).find? fun j =>
    let e := u32 im (defectStart im + 4 * j)
    bits e 13 0 = i && (bits e 17 14).testBit plane).map fun j => bits (u32 im (defectStart im + 4 * j)) 19 18

/-- The METHOD in force: the trim entry governs where both list the pixel (R148). -/
def defectMethod (base trim : List Byte) (plane i : Nat) : Option Nat :=
  (if trim = [] then none else defectIn trim plane i) <|> (if base = [] then none else defectIn base plane i)

/-- The nearest good pixel within 4, by a step to the left or right (R149). -/
def nearestGood (good : Nat → Option Nat) (i : Nat) (left : Bool) : Option Nat :=
  [1, 2, 3, 4].findSome? fun k => if left then (if k ≤ i then good (i - k) else none) else good (i + k)

/-- The value that replaces a defective pixel (R149). -/
def replacePixel (good : Nat → Option Nat) (i method : Nat) : Nat :=
  let l := nearestGood good i true
  let r := nearestGood good i false
  match method with
  | 0 => match l, r with
    | some a, some b => (a + b + 1) / 2
    | some a, none => a
    | none, some b => b
    | none, none => void
  | 1 => l.getD void
  | 2 => r.getD void
  | _ => void

/-- Step 7: the linearisation table, or the identity times 16 (R150). -/
def linearise (im : List Byte) (plane c12 : Nat) : Nat :=
  if im ≠ [] && imgHasLut im then u16 im (lutStart im + plane * 8192 + 2 * c12) else c12 * 16

/-- The correction of one plane of a line, with its counts: clamped low, clamped high, replaced, voided (R144-R150). -/
def correctPlane (base trim : List Byte) (depth k w plane : Nat) (xs : List Nat) : List Nat × (Nat × Nat × Nat × Nat) :=
  let raw := xs.zipIdx.map fun e =>
    if e.1 = void then none else
      let b := baseCoef base k w plane e.2
      let t := coef trim 0 plane e.2
      some (photoRound (photoC depth e.1 b.1 b.2 t.1 t.2))
  let methods := (List.range xs.length).map (defectMethod base trim plane)
  let step5 := raw.map fun o => o.map fun x => (clampInt 0 4095 x).toNat
  let good := fun j => if (methods.getD j none).isSome then none else (step5.getD j none)
  let step6 := (step5.zip methods).zipIdx.map fun e =>
    match e.1.1, e.1.2 with
    | none, _ => (void, false)
    | some v, none => (v, false)
    | some _, some m => (replacePixel good e.2 m, true)
  let out := step6.map fun e => if e.1 = void then void else linearise base plane e.1
  (out, ((raw.filter fun o => o.any (· < 0)).length, (raw.filter fun o => o.any (4095 < ·)).length,
    (step6.filter fun e => e.2 && e.1 ≠ void).length, (step6.filter fun e => e.2 && e.1 = void).length))

/-- PHOTO_CORRECT_LINE: stage 2 on one line with the sets in use, or those in use when the front end accepted it (R144, R155). -/
def correctLine (n : Nat) (x : InLine) (s : State) : InLine × State :=
  let p := s.photo n
  let sets := x.fixed.getD (p.base, p.trim)
  let kw := bracketOf sets.1 x.temp
  let rs := x.planes.zipIdx.map fun e => correctPlane sets.1 sets.2 (s.port n).depth kw.1 kw.2 e.2 e.1
  let tot := fun f : (Nat × Nat × Nat × Nat) → Nat => sumNat (rs.map fun r => f r.2)
  ({ x with planes := rs.map (·.1), corrected := true, fixed := none },
    s.setPhoto n { p with
      bracket := kw.1, weight := kw.2, lineTemp := x.temp
      clampLow := sat 32 (p.clampLow + tot (·.1)), clampHigh := sat 32 (p.clampHigh + tot (·.2.1))
      replaced := sat 32 (p.replaced + tot (·.2.2.1)), voided := sat 32 (p.voided + tot (·.2.2.2)) })

/-! ### Sets coming into use (R152, R155) -/

/-- A committed base set comes into use. -/
def useBase (x : NewSet) (p : Photo) : Photo :=
  { p with base := x.image, baseSerial := x.serial, baseState := x.state, newBase := none }

/-- A committed trim set comes into use. -/
def useTrim (x : NewSet) (p : Photo) : Photo := { p with trim := x.image, newTrim := none }

/-- Before a line that lands in block b is corrected, sets committed in an earlier block come into use (R155). -/
def takeSets (n : Nat) (b : Option Nat) (s : State) : State :=
  let due : NewSet → Bool := fun x => match b, x.block with
    | some b, some c => c < b
    | _, _ => true
  modPhoto n (fun p =>
    let p := match p.newBase with
      | some x => if due x then useBase x p else p
      | none => p
    match p.newTrim with
      | some x => if due x then useTrim x p else p
      | none => p) s

/-- The block in progress of a port, for a set committed now; outside the inspecting modes none holds it back (R155). -/
def blockNow (n : Nat) (s : State) : Option Nat := if s.mode.inspects then (s.res n).blockLanded else none

/-- The lines that wait in a port's front end were accepted before the commit of a set: outside the inspecting modes they keep those in use
(R155). -/
def fixBuffered (n : Nat) (s : State) : State :=
  let p := s.photo n
  modPort n (fun q => { q with buffered := q.buffered.map fun x => { x with fixed := x.fixed <|> some (p.base, p.trim) } }) s

/-- A base set is committed for a port (R155). -/
def commitBase (n : Nat) (image : List Byte) (serial state : Nat) (s : State) : State :=
  let x : NewSet := { image := image, serial := serial, state := state, block := blockNow n s }
  if s.mode.inspects then modPhoto n (fun p => { p with newBase := some x }) s
  else modPhoto n (useBase x) (fixBuffered n s)

/-- A trim set is committed for a port (R155). -/
def commitTrim (n : Nat) (image : List Byte) (s : State) : State :=
  let x : NewSet := { image := image, block := blockNow n s }
  if s.mode.inspects then modPhoto n (fun p => { p with newTrim := some x }) s
  else modPhoto n (useTrim x) (fixBuffered n s)

/-- The base set stored in the vault under a serial (R151). -/
def storedBase (serial : Nat) (s : State) : Option VObj := vaultFind .baseSet serial s

/-- The set a port will have in use once what is committed has taken effect: image, serial, BASE_STATE. -/
def basePending (p : Photo) : List Byte × Nat × Nat :=
  match p.newBase with
  | some x => (x.image, x.serial, x.state)
  | none => (p.base, p.baseSerial, p.baseState)

/-- Under FOLLOW the default set stands in, with the BASE_STATE that says why; a load of another set is given up (R152). -/
def followDefault (n why : Nat) (s : State) : State :=
  let s := modPhoto n (fun p => { p with loading := none }) s
  if basePending (s.photo n) = ([], 0, why) then s else commitBase n [] 0 why s

/-- Under FOLLOW, the set for an attached camera: its vault read starts, or the default is loaded. SERIAL 0 names the generic set, which
matches a camera only under FIXED (R152). -/
def followCamera (n serial : Nat) (s : State) : State :=
  match if serial = 0 then none else storedBase serial s with
  | none => followDefault n 2 s
  | some o =>
    if setFits o.bytes (s.port n).pixels (s.port n).planes then modPhoto n (fun p => { p with loading := some serial }) s
    else followDefault n 3 s

/-- An INFO has been stored: under FOLLOW another SERIAL than that of the set in use selects anew (R152). With the SERIAL of the set in use, a
set of another camera that was on its way is given up (DEDUCED, assumption 89); an image that replaces the one in use still comes (R162). -/
def followInfo (n : Nat) (s : State) : State :=
  let p := s.photo n
  let serial := u64 (s.port n).info 8
  if p.selMode ≠ 0 || (s.port n).info = [] then s
  else if p.baseState = 1 && p.baseSerial = serial then s.setPhoto n { p with
    loading := p.loading.filter (· = serial), newBase := p.newBase.filter fun x => x.state = 1 && x.serial = serial }
  else if p.loading = none && p.newBase.any (fun x => x.state = 1 && x.serial = serial) then s
  else followCamera n serial s

/-- VAULT_OBJECT_COMMIT: the next part of a firmware write, or the next object, is programmed and committed (R447, R459). A day-book record with a crop is committed with the engine that compresses it, and waits for one (R439, R440, R458).
As a base set becomes visible, each port under FOLLOW whose camera has its serial loads it (R152, R162). -/
def storeCommit (fill : Nat) (s : State) : State :=
  if !s.vault.mounted then s
  else match fwWriteNext s, nextWaiting s with
  | some w, _ => fwWritePart w s
  | none, none => s
  | none, some o =>
    let crop := o.kind = .dayRecord && 128 < o.bytes.length
    if crop && !userHolds 2 0 s then s else
    let s := objectCommit o fill s
    if crop then compRelease 2 0 (some (o.bytes.length - 128, o.stored - 128)) s
    else if o.kind = .baseSet then
      (List.range 12).foldl (fun s n =>
        if (s.photo n).selMode = 0 && (s.port n).info ≠ [] && u64 (s.port n).info 8 = o.key then followCamera n o.key s else s) s
    else s

/-- BASE_SET_LOAD_DONE: the vault read, which is First-class work, ends and the set takes effect as R155 gives, if it still fits the port (R152,
R156). -/
def baseLoaded (n : Nat) (s : State) : State :=
  match (s.photo n).loading with
  | none => s
  | some serial =>
    if workHeld 1 s || !s.vault.mounted then s
    else match storedBase serial s with
    | some o =>
      if o.lost then followDefault n 2 s
      else if setFits o.bytes (s.port n).pixels (s.port n).planes then
        commitBase n o.bytes serial 1 (vaultRead o (modPhoto n (fun p => { p with loading := none }) s))
      else followDefault n 3 s
    | none => followDefault n 2 s

/-- CAMERA_INFO_RECEIVED: the front end's part, then the base-set choice (R135, R152). -/
def infoReceived (n : Nat) (msg : List Byte) (s : State) : State :=
  camMessage n 0x82 (· = 40) msg (fun b s => followInfo n (camInfo n b s)) s

/-! ### Flat-field capture (R160, R161) -/

/-- The value a capture averages of one sample, in 1/16 codes, at its STAGE (R160). -/
def captureValue (base trim : List Byte) (depth k w stage plane i v : Nat) : Int :=
  if stage = 0 then (v * 2 ^ (12 - depth) * 16 : Nat)
  else
    let b := baseCoef base k w plane i
    let t := if stage = 1 then (0, 0x4000) else coef trim 0 plane i
    (photoC depth v b.1 b.2 t.1 t.2 + 2 ^ 13) / 2 ^ 14

/-- Counts one sample. -/
def capAdd (c : CapPixel) (v : Int) : CapPixel := { n := c.n + 1, sum := c.sum + v, sumSq := c.sumSq + (v * v).toNat }

/-- An accepted line does not reach stage 2, as when no district serves its port: a capture counts consecutive lines, and begins anew behind it
(R160; DEDUCED, assumption 89). -/
def captureAnew (n : Nat) (s : State) : State :=
  modPhoto n (fun p => { p with capture := p.capture.map fun c =>
    if c.done < c.lines then { c with done := 0, epoch := none, pixels := [] } else c }) s

/-- An accepted line counts towards a capture of its port; a change of epoch fails it (R160, R161). -/
def captureLine (n : Nat) (x : InLine) (s : State) : State :=
  let p := s.photo n
  match p.capture with
  | none => s
  | some c =>
    if c.lines ≤ c.done then s
    else if c.epoch.any (· ≠ x.epoch) then captureFails n stConflict s
    else
      let sets := x.fixed.getD (p.base, p.trim)
      let kw := bracketOf sets.1 x.temp
      let depth := (s.port n).depth
      let old := if c.pixels = [] then x.planes.map (fun xs => xs.map fun _ => {}) else c.pixels
      let px := (old.zip x.planes).zipIdx.map fun e => (e.1.1.zip e.1.2).zipIdx.map fun f =>
        if f.1.2 = void || (defectMethod sets.1 sets.2 e.2 f.2).isSome then f.1.1
        else capAdd f.1.1 (captureValue sets.1 sets.2 depth kw.1 kw.2 c.stage e.2 f.2 f.1.2)
      s.setPhoto n { p with capture := some { c with
        done := c.done + 1, epoch := some x.epoch, pixels := px
        tempMin := if c.done = 0 then x.temp else min c.tempMin x.temp
        tempMax := if c.done = 0 then x.temp else max c.tempMax x.temp } }

/-- MEAN of a pixel: unsigned at 1/16 code; 0xFFFF when too few samples were counted (R160, R162). -/
def capMean (lines : Nat) (c : CapPixel) : Nat :=
  if 2 * c.n < lines || c.n = 0 then 0xFFFF else (clampInt 0 0xFFFE (divHalfUp c.sum c.n)).toNat

/-- SPREAD of a pixel: the standard deviation, unsigned 8.8 in codes, saturating (R162). -/
def capSpread (c : CapPixel) : Nat :=
  if c.n = 0 then 0
  else sat 16 (16 * isqrt ((c.n * c.sumSq - (c.sum * c.sum).toNat)) / c.n)

/-- The reply of a capture (R162). -/
def captureReply (c : Capture) : List Byte :=
  le 2 (c.epoch.getD 0) ++ les 2 c.tempMin ++ les 2 c.tempMax ++ zeros 2 ++ le 4 c.lines ++ zeros 4
    ++ c.pixels.flatMap (fun ps => ps.flatMap fun x => le 2 (capMean c.lines x))
    ++ c.pixels.flatMap (fun ps => ps.flatMap fun x => le 2 (capSpread x))

/-- PHOTO_CAPTURE_DONE: once LINES lines have been counted the means and spreads are returned (R160). -/
def captureDone (n : Nat) (s : State) : State :=
  match (s.photo n).capture with
  | some c =>
    if c.lines ≤ c.done then
      finishOne 0x0305 (fun y => y.args.block = 0x10 + n) stDone (captureReply c) (modPhoto n (fun p => { p with capture := none }) s)
    else s
  | none => s

/-- PHOTO_CAPTURE_TIMEOUT: 2 × LINES / LINE_RATE + 100 ms after its start a capture without its lines fails (R161). -/
def captureTimeout (n : Nat) (s : State) : State :=
  match (s.photo n).capture with
  | some c =>
    if c.done < c.lines && c.startedAt + 2 * c.lines * 10 ^ 9 / max 1 (s.port n).lineRate + 100000000 ≤ s.now then captureFails n stTimedOut s
    else s
  | none => s

/-! ### Commands (R162) -/

/-- PHOTO_STORE_BASE, opcode 0x0300: the image is sealed and becomes visible when its object commits in the vault. A set that still waits for
its vault program counts as stored (R52, R151). -/
def cmdPhotoStoreBase : CommandDef := {
  opcode := 0x0300
  modes := [.configure, .maintain]
  lenOk := fun p => 64 ≤ p.length
  check := fun c _ s =>
    let st := imgStatus c.p 1
    if st ≠ stDone then st
    else if ((storedBase (imgSerial c.p) s).isSome || s.vault.waiting.any (fun o => o.kind = .baseSet && o.key = imgSerial c.p))
        && !s.sys.grantBase then stLocked
    else vaultWriteStatus .baseSet c.p.length s
  reserves := fun c _ _ => (0, VKind.baseSet.area, 4096 * objectSectors c.p.length)
  commit := fun c s => .later (vaultQueue { kind := .baseSet, key := imgSerial c.p, bytes := c.p, stored := c.p.length } s) 0 }

/-- PHOTO_SELECT_BASE, opcode 0x0301. -/
def cmdPhotoSelectBase : CommandDef := {
  opcode := 0x0301
  modes := [.standby, .configure, .calibrate, .inspect, .reduced]
  lengths := [16]
  kinds := [0x10]
  multi := [0xFE]
  check := fun c n s =>
    if 2 < u8 c.p 0 || !zeroAt c.p 1 7 || (u8 c.p 0 ≠ 1 && u64 c.p 8 ≠ 0) then stOutOfRange
    else if u8 c.p 0 = 1 then match storedBase (u64 c.p 8) s with
      | none => stAbsent
      | some o => if setFits o.bytes (s.port n).pixels (s.port n).planes then stDone else stConflict
    else stDone
  commit := fun c s => .reply [] (c.targets.foldl (fun s n =>
    let s := modPhoto n (fun p => { p with selMode := u8 c.p 0, loading := none }) s
    match u8 c.p 0 with
    | 0 => if (s.port n).info = [] then s else followCamera n (u64 (s.port n).info 8) s
    | 1 => match storedBase (u64 c.p 8) s with
      | some o => if o.lost then commitBase n [] 0 2 s else commitBase n o.bytes (u64 c.p 8) 1 (vaultRead o s)
      | none => s
    | _ => commitBase n [] 0 0 s) s) }

/-- PHOTO_SET_TRIM, opcode 0x0302. -/
def cmdPhotoSetTrim : CommandDef := {
  opcode := 0x0302
  modes := [.standby, .configure, .calibrate, .inspect, .reduced]
  lenOk := fun p => p.length = 8 || 64 ≤ p.length
  kinds := [0x10]
  multi := [0xFE]
  check := fun c n s =>
    if c.p.length = 8 then (if zeroAt c.p 0 8 then stDone else stOutOfRange)
    else
      let st := imgStatus c.p 2
      if st ≠ stDone then st
      else if setFits c.p (s.port n).pixels (s.port n).planes then stDone else stConflict
  commit := fun c s => .reply [] (c.targets.foldl (fun s n => commitTrim n (if c.p.length = 8 then [] else c.p) s) s) }

/-- The image of a default set for a port's configuration, with its CRC (R153, R162). -/
def defaultImage (kind pixels planes : Nat) : List Byte :=
  let im := le 2 1 ++ le 1 kind ++ le 1 1 ++ le 2 pixels ++ le 1 planes ++ zeros 57
    ++ (List.range (planes * pixels)).flatMap fun _ => le 2 0 ++ le 2 0x4000
  im.take 60 ++ le 4 (imgCrc im) ++ im.drop 64

/-- A stored base image as it is returned: SEALED set and the CRC over it as returned (R162). -/
def sealImage (im : List Byte) : List Byte :=
  let im := im.set 7 (im.getD 7 0 ||| 2#8)
  im.take 60 ++ le 4 (imgCrc im) ++ im.drop 64

/-- PHOTO_READ, opcode 0x0303. -/
def cmdPhotoRead : CommandDef := {
  opcode := 0x0303
  lengths := [4]
  kinds := [0x10]
  reads := true
  replyMax := fun c => if u8 c.p 0 = 2 then 64 + 4 * 16384 * 4 + 4 * 1024 else 1085504
  check := fun c n s =>
    if u8 c.p 0 = 0 || 2 < u8 c.p 0 || !zeroAt c.p 1 3 then stOutOfRange
    else
      let im := if u8 c.p 0 = 1 then (s.photo n).base else (s.photo n).trim
      if im = [] && !(s.port n).configured then stAbsent else stDone
  commit := fun c s =>
    let n := c.target
    let im := if u8 c.p 0 = 1 then (s.photo n).base else (s.photo n).trim
    .reply (if im = [] then defaultImage (u8 c.p 0) (s.port n).pixels (s.port n).planes
      else if u8 c.p 0 = 1 then sealImage im else im) s }

/-- PHOTO_STATUS, opcode 0x0304. -/
def cmdPhotoStatus : CommandDef := {
  opcode := 0x0304
  lengths := [4]
  kinds := [0x10]
  reads := true
  replyMax := fun _ => 36
  check := fun c _ _ => if 2 ≤ u8 c.p 0 || !zeroAt c.p 1 3 then stOutOfRange else stDone
  commit := fun c s =>
    let p := s.photo c.target
    .reply (le 8 p.baseSerial ++ le 1 p.baseState ++ le 1 p.selMode ++ le 1 (if p.base = [] then 1 else imgSets p.base)
        ++ le 1 (b2n (p.trim ≠ [])) ++ le 1 p.bracket ++ zeros 1 ++ le 2 p.weight ++ les 2 p.lineTemp ++ zeros 2
        ++ le 4 p.clampLow ++ le 4 p.clampHigh ++ le 4 p.replaced ++ le 4 p.voided)
      (if (u8 c.p 0).testBit 0 then
        s.setPhoto c.target { p with clampLow := 0, clampHigh := 0, replaced := 0, voided := 0 } else s) }

/-- Is a number a power of two between two powers of two? -/
def powerBetween (lo hi x : Nat) : Bool := (List.range (hi + 1 - lo)).any fun k => x = 2 ^ (lo + k)

/-- PHOTO_CAPTURE, opcode 0x0305: the reply comes when its lines have been counted. -/
def cmdPhotoCapture : CommandDef := {
  opcode := 0x0305
  modes := [.configure, .calibrate]
  lengths := [8]
  kinds := [0x10]
  reads := true
  replyMax := fun _ => 262160
  check := fun c n s =>
    if !powerBetween 4 16 (u32 c.p 0) || 2 < u8 c.p 4 || !zeroAt c.p 5 3 then stOutOfRange
    else if !(s.port n).configured || groupLink n s ≠ 1 then stConflict
    else if (s.photo n).capture.isSome then stBusy
    else stDone
  commit := fun c s =>
    .later (modPhoto c.target (fun p => { p with capture := some { lines := u32 c.p 0, stage := u8 c.p 4, startedAt := s.now } }) s) 0 }

end Sys2Proof.Machine
end

