-- ==== Sys2Proof/Machine/Position.lean ====
section
/-!
DEFINITION. Sys2Proof/Machine/Position.lean: web position (chapter 07): counts, direction and high-water (R164-R172),
postmarks (R174, R175), latch units (R176-R178), compare units (R181-R184), their registers and their commands.
-/
namespace Sys2Proof.Machine

/-! ### Positions and postmarks -/

/-- x - y as a signed 48-bit difference: positive when x is ahead of y (R168). -/
def posDiff (x y : Int) : Int := toInt 48 (ofInt 48 (x - y))

/-- A count, wrapped to 48 bits. -/
def pos48 (x : Int) : Int := wrapInt 48 x

/-- The 16 bytes of a postmark, least significant first (R174). -/
def Postmark.toBytes (m : Postmark) : List Byte :=
  le 2 (m.flags.toNat + 4096 * m.source) ++ les 6 m.pos ++ le 8 m.time

/-- The postmark a run of 16 bytes holds (R174). -/
def Postmark.ofBytes (p : List Byte) : Postmark :=
  { flags := BitVec.ofNat 12 (u16 p 0), source := u16 p 0 / 4096, pos := toInt 48 (fld 6 p 2), time := u64 p 8 }

/-- The flags every postmark taken from channel q carries (R175). -/
def sourceFlags (q : Nat) (s : State) : BitVec 12 :=
  let e := s.encoder q
  (if e.reverse then 0x020 else 0) ||| (if e.encoderFault then 0x040 else 0) ||| (if e.indexError then 0x080 else 0)
    ||| (if s.chain.synced then 0 else 0x200)

/-- A postmark of channel q at a chain time and position. -/
def postmarkAt (q : Nat) (time : Nat) (p : Int) (extra : BitVec 12) (s : State) : Postmark :=
  { time := time, pos := pos48 p, source := q, flags := sourceFlags q s ||| extra }

/-- A time-only postmark of this moment (R174). -/
def timePostmark (s : State) : Postmark :=
  { time := s.chainTime, pos := 0, source := 0xF, flags := if s.chain.synced then 0 else 0x200 }

/-! ### Events of a channel -/

/-- Raises a channel's event, but none in SENTRY (R186). -/
def channelEvent (src : Nat) (s : State) : State := if s.mode = .sentry then s else raise src s

/-- Raises the event of a flag; set in SENTRY it waits for WOKEN (R186). -/
def flagEvent (q src : Nat) (s : State) : State :=
  if s.mode = .sentry then
    modEncoder q (fun e => { e with missed := if e.missed.contains src then e.missed else e.missed ++ [src] }) s
  else raise src s

/-- An illegal transition or a bad SSI frame (R166, R169): the third within the window sets ENCODER_FAULT. -/
def illegalTransition (q : Nat) (s : State) : State :=
  let e := s.encoder q
  let times := (s.now :: e.illegalTimes.filter (fun t => s.now ≤ t + 1000 * e.illegalWindow)).take 3
  let trips := 3 ≤ times.length && !e.encoderFault
  let shows := s.mode ≠ .sentry && elapsed 1000000 e.illegalAt s.now
  let s := s.setEncoder q { e with
    illegalCount := sat 32 (e.illegalCount + 1)
    illegalTimes := times
    encoderFault := e.encoderFault || trips
    illegalAt := if shows then some s.now else e.illegalAt }
  let s := raiseIf shows (280 + 6 * q) s
  if trips then flagEvent q (282 + 6 * q) s else s

/-- A pulse shorter than MIN_EDGE_NS is ignored and counted (R165). -/
def edgeFault (q : Nat) (s : State) : State :=
  let e := s.encoder q
  let shows := s.mode ≠ .sentry && elapsed 1000000 e.edgeFaultAt s.now
  let s := s.setEncoder q { e with
    edgeFaults := sat 32 (e.edgeFaults + 1)
    edgeFaultAt := if shows then some s.now else e.edgeFaultAt }
  raiseIf shows (281 + 6 * q) s

/-! ### Compare units (R181-R184) -/

/-- Is a position already reached, as a unit's channel and direction see it (R182, R183)? -/
def reached (q : Nat) (rev : Bool) (p : Int) (s : State) : Bool :=
  let e := s.encoder q
  if rev then e.reverse && posDiff e.ext p ≤ 0 else 0 ≤ posDiff e.hw p

/-- A unit fires: FIRED_PM, FIRED and LATE, FIRE_COUNT, its event, and the gates that hang on it (R182). The k-th firing
of one sample stands k samples later. -/
def fireUnit (c q : Nat) (rev late : Bool) (k : Nat) (s : State) : State :=
  let e := s.encoder q
  let pm := postmarkAt q (s.chainTimeAt (s.now + 5 * k)) (if rev then e.ext else e.hw) (if late then 0x004 else 0) s
  let u := s.compare c
  let s := s.setCompare c { u with
    fired := true, late := u.late || late, firedPm := pm, fireCount := wrap 32 (u.fireCount + 1) }
  let s := { s with pos := { s.pos with firings := s.pos.firings ++ [(c, pm)] } }
  raise (256 + c) (send .compare c 0 pm.toBytes s)

/-- Fires the heads of a unit's queue that have fallen due, in queue order (R182). -/
def fireDue (c : Nat) (late : Bool) : Nat → Nat → State → State
  | 0, _, s => s
  | fuel + 1, k, s =>
    let u := s.compare c
    match u.queue with
    | [] => s
    | p :: rest =>
      if reached u.encoder u.reverse p s then
        fireDue c late fuel (k + 1) (fireUnit c u.encoder u.reverse late k (s.setCompare c { u with queue := rest }))
      else s

/-- After a channel has moved, its units are judged; units stop in SENTRY (R181, R182). -/
def judgeCompares (q : Nat) (late : Bool) (s : State) : State :=
  if s.mode = .sentry then s
  else (List.range 16).foldl (fun s c => if (s.compare c).encoder = q then fireDue c late 32 0 s else s) s

/-- What an arm comes to (R183). -/
inductive ArmResult where
  | queued | fires | stale | order | full
  deriving DecidableEq, Repr

/-- Judges an arm; what is already reached is judged before the queue (R181, R183). -/
def judgeArm (q : Nat) (rev catchUp : Bool) (queue : List Int) (p : Int) (s : State) : ArmResult :=
  if reached q rev p s then (if catchUp then .fires else .stale)
  else match queue.getLast? with
    | some l =>
      if (if rev then 0 < posDiff p l else posDiff p l < 0) then .order
      else if 32 ≤ queue.length then .full else .queued
    | none => .queued

/-- An arm takes effect on a unit whose channel and direction are set; a refusal sets its bit and raises the event. -/
def applyArm (c : Nat) (p : Int) (r : ArmResult) (s : State) : State :=
  let u := s.compare c
  match r with
  | .queued => s.setCompare c { u with queue := u.queue ++ [pos48 p] }
  | .fires => fireUnit c u.encoder u.reverse true 0 s
  | .stale => raise 318 (s.setCompare c { u with stale := true })
  | .order => raise 318 (s.setCompare c { u with order := true })
  | .full => raise 318 (s.setCompare c { u with full := true })

/-- The ledger path arms a claimed unit, always with CATCH_UP (R184). -/
def ledgerArm (c : Nat) (p : Int) (s : State) : State :=
  let u := s.compare c
  applyArm c p (judgeArm u.encoder u.reverse true u.queue p s) s

/-- COMPARE_ARM: a write of ARM (R183-R185). The units stop in SENTRY (R181, R186). -/
def compareArm (c : Nat) (s : State) : State :=
  let u := s.compare c
  if s.mode = .sentry then s
  else if u.claimed then s.setCompare c { u with ignored := true }
  else
    let p := toInt 48 u.armPos
    applyArm c p (judgeArm u.encoder u.reverse u.catchUp u.queue p s) s

/-- COMPARE_FLUSH: a write of FLUSH (R184, R185). -/
def compareFlush (c : Nat) (s : State) : State :=
  let u := s.compare c
  if s.mode = .sentry then s
  else s.setCompare c (if u.claimed then { u with ignored := true } else { u with queue := [] })

/-! ### Counting -/

/-- A channel's flag, extreme and high-water follow a new count (R170). -/
def Encoder.follow (e : Encoder) (count : Int) : Encoder × Bool :=
  let flips := if e.reverse then (e.backlash : Int) < posDiff count e.ext else posDiff count e.ext < -(e.backlash : Int)
  let further := if e.reverse then posDiff count e.ext < 0 else 0 < posDiff count e.ext
  ({ e with
      count := count
      hw := if 0 < posDiff count e.hw then count else e.hw
      ext := if flips || further then count else e.ext
      reverse := if flips then !e.reverse else e.reverse
      indexRef := if flips then none else e.indexRef }, flips)

/-- The count moves by a number of counts (R164, R169, R170). -/
def moveCount (q : Nat) (d : Int) (s : State) : State :=
  let e := s.encoder q
  let r := e.follow (pos48 (e.count + d))
  let s := s.setEncoder q r.1
  judgeCompares q false (if r.2 then channelEvent (285 + 6 * q) s else s)

/-- How long a new level must be held to be accepted, ns: MIN_EDGE_NS; in SENTRY rounded up to whole 40 ns samples, 80 ns at least (R165). -/
def filterNs (e : Encoder) (s : State) : Nat :=
  if s.mode = .sentry then max 80 ((e.minEdge + 39) / 40 * 40) else e.minEdge

/-- ENCODER_EDGE (R164-R166): A or B, or both at once, take a new level for so many ns. A pulse too short for the filter is ignored and
counted, one for each line that showed it. A disabled channel holds its count (R173). -/
def encoderEdge (q : Nat) (k : EdgeKind) (held : Nat) (s : State) : State :=
  let e := s.encoder q
  if !e.enable then s
  else if held < filterNs e s then
    match k with
    | .illegal => edgeFault q (edgeFault q s)
    | _ => edgeFault q s
  else match k with
    | .aLeads => moveCount q (if e.dirInvert then -1 else 1) s
    | .bLeads => moveCount q (if e.dirInvert then 1 else -1) s
    | .illegal => illegalTransition q s

/-- INDEX_EDGE: Z rises and stays high for so many ns (R165, R171, R172). -/
def indexEdge (q held : Nat) (s : State) : State :=
  let e := s.encoder q
  if !e.enable then s
  else if held < filterNs e s then edgeFault q s
  else if !e.indexCheck || e.reverse then s
  else
    let s := channelEvent (283 + 6 * q) s
    match e.indexRef with
    | none => s.setEncoder q { e with indexRef := some e.count }
    | some r =>
      let diff := posDiff e.count r - e.nominal
      let bad := e.indexTol < diff.natAbs
      let shift := if bad && e.rezero then diff else 0
      let s := s.setEncoder q { e with
        indexDelta := wrapInt 32 diff, indexError := bad
        count := pos48 (e.count - shift), ext := pos48 (e.ext - shift), hw := pos48 (e.hw - shift)
        speedBase := pos48 (e.speedBase - shift)
        indexRef := some (pos48 (e.count - shift)) }
      let s := if bad then flagEvent q (284 + 6 * q) s else s
      if shift = 0 then s else judgeCompares q true s

/-- Gray code to binary, for numbers below 2^n. -/
def fromGray : Nat → Nat → Nat
  | 0, x => x
  | n + 1, x => x ^^^ fromGray n (x / 2)

/-- SSI_FRAME (R169, R177): a frame that fails parity changes nothing; one that jumps too far only becomes the reference
(DEDUCED, assumption 12). -/
def ssiFrame (q : Nat) (data : Nat) (parity : Bool) (sampled : Nat) (s : State) : State :=
  let e := s.encoder q
  if !e.enable then s
  else
    let d := data % 2 ^ e.ssiBits
    let v := if e.ssiGray then fromGray e.ssiBits d else d
    if e.ssiParity && (popcount e.ssiBits d + b2n parity) % 2 = 1 then illegalTransition q s
    else
      let s := s.setEncoder q { e with ssiLast := some (v, sampled) }
      match e.ssiLast with
      | none => s
      | some (old, _) =>
        let delta := toInt e.ssiBits (ofInt e.ssiBits ((v : Int) - old))
        if 2 ^ (e.ssiBits - 2) < delta.natAbs then illegalTransition q s else moveCount q delta s

/-- ENCODER_CLEAR_FAULT: a write of CLEAR_FAULT (R166). -/
def clearEncoderFault (q : Nat) (s : State) : State := modEncoder q (fun e => { e with encoderFault := false }) s

/-- SPEED_WINDOW: counts per second over the last millisecond (R185); a window that ends late is taken over its own length, rounded toward
minus infinity (DESIGN CHOICE, assumption 80). Nothing is kept up in SENTRY, where SPEED is not read. -/
def speedWindow (q : Nat) (s : State) : State :=
  let e := s.encoder q
  let dt := s.now - e.speedAt
  if dt < 1000000 || s.mode = .sentry then s
  else s.setEncoder q { e with
    speed := clampInt (-(2 ^ 31)) (2 ^ 31 - 1) (posDiff e.count e.speedBase * 1000000000 / dt), speedBase := e.count, speedAt := s.now
    slowFrom := if e.speed.natAbs < s.frank.machine.stopCounts then e.slowFrom else s.now }

/-- The speed windows begin anew, as the hub's clocks do (R83, R185). -/
def restartSpeeds (s : State) : State :=
  (List.range 6).foldl (fun s q => modEncoder q (fun e => { e with speedBase := e.count, speedAt := s.now }) s) s

/-! ### Latch units (R176-R178) -/

/-- Is the frame period of an SSI channel, (SSI_BITS + parity + 1) / clock + recovery, at most so many ns (R169, R178)? -/
def ssiWithin (ns : Nat) (e : Encoder) : Bool :=
  (e.ssiBits + b2n e.ssiParity + 1) * 1000000 + 500 * e.ssiRecovery * e.ssiClock ≤ ns * e.ssiClock

/-- May a latch unit serve as the track of a station on channel q (R178)? -/
def trackFit (q u : Nat) (s : State) : Bool :=
  let l := s.latch u
  l.mode = 1 && l.encoder = q && l.period ≤ 10000 && (q < 4 || ssiWithin 10000 (s.encoder q))

/-- A station's track unit: the lowest that meets R178. -/
def trackUnit (k : Nat) (s : State) : Option Nat :=
  (List.range 8).find? fun u => trackFit (s.grid k).encoder u s

/-- Is a station at work: it has ports and the package is in a mode that inspects (R70, R178)? -/
def stationWorks (k : Nat) (s : State) : Bool := s.mode.inspects && (s.station k).ports ≠ []

/-- STATION: the unit serves as a track (R178). -/
def servesTrack (u : Nat) (s : State) : Bool :=
  (List.range 4).any fun k => stationWorks k s && trackUnit k s = some u

/-- Does a station at work use a channel (R187)? -/
def channelUsed (q : Nat) (s : State) : Bool :=
  (List.range 4).any fun k => stationWorks k s && (s.grid k).encoder = q

/-- The time and position of a latch (R177). -/
def latchPair (q : Nat) (s : State) : Nat × Int :=
  let e := s.encoder q
  if q < 4 then (s.chainTimeAt (s.now - (e.minEdge + 5)), e.count)
  else match e.ssiLast with
    | some (_, at_) => if e.enable then (s.chainTimeAt at_, e.count) else (s.chainTime, e.count)
    | none => (s.chainTime, e.count)

/-- A latch joins a track: its times rise strictly (DESIGN CHOICE, assumption 14). -/
def joinTrack (p : TrackPair) (ps : List TrackPair) : List TrackPair := (p :: ps.filter (fun o => o.time < p.time)).take 64

/-- A unit takes a latch; a track's latch goes to its station's districts (R176-R178). i: the task input it ran on. -/
def takeLatch (u : Nat) (i : Option Nat) (s : State) : State :=
  let l := s.latch u
  let p := latchPair l.encoder s
  let pm := postmarkAt l.encoder p.1 p.2 0 s
  let s := s.setLatch u { l with seq := wrap 32 (l.seq + 1), ring := Tab.set {} l.ring (l.seq % 8) pm }
  let s := (List.range 4).foldl (fun s k =>
    if s.mode.receives && trackUnit k s = some u then
      modGrid k (fun g => { g with track := joinTrack { time := p.1, pos := p.2, flags := pm.flags } g.track }) s
    else s) s
  if l.eventEn then raiseBy i (272 + u) s else s

/-- LATCH_PERIODIC: PERIOD_NS after the latch before (R176); units stop in SENTRY. -/
def latchPeriodic (u : Nat) (s : State) : State :=
  let l := s.latch u
  if l.mode = 1 && s.mode ≠ .sentry && elapsed l.period l.takenAt s.now then
    takeLatch u none (s.setLatch u { l with takenAt := some s.now })
  else s

/-- LATCH_TRIGGER: a write of TRIGGER, in SOFTWARE mode (R176, R185). -/
def latchTrigger (u : Nat) (s : State) : State :=
  if (s.latch u).mode = 3 && s.mode ≠ .sentry && !servesTrack u s then takeLatch u none s else s

/-- A latch unit's task input is activated (R176). -/
def latchTask (u i : Nat) (s : State) : State :=
  if (s.latch u).mode = 2 && s.mode ≠ .sentry then takeLatch u (some i) s else s

/-! ### Registers (R185) -/

/-- A register value out of range: the register holds, and the block counts it (R7). -/
def posRegFault (s : State) : State := { s with pos := { s.pos with regFaults := s.pos.regFaults + 1 } }

/-- A write to a compare unit's word (R184, R185). -/
def compareWrite (c off v : Nat) (s : State) : State :=
  let u := s.compare c
  if off = 0x0C then s.setCompare c { u with
    fired := u.fired && !v.testBit 0, late := u.late && !v.testBit 1, stale := u.stale && !v.testBit 2
    order := u.order && !v.testBit 3, full := u.full && !v.testBit 4, ignored := u.ignored && !v.testBit 5 }
  else if off = 0x00 || off = 0x04 || off = 0x08 then
    if u.claimed then s.setCompare c { u with ignored := true }
    else if off = 0x00 then s.setCompare c { u with armPos := u.armPos / 2 ^ 32 * 2 ^ 32 + v % 2 ^ 32 }
    else if off = 0x04 then s.setCompare c { u with armPos := u.armPos % 2 ^ 32 + v % 2 ^ 16 * 2 ^ 32 }
    else
      let enc := bits v 2 0
      if 5 < enc then posRegFault s
      else
        let change := u.encoder ≠ enc || u.reverse ≠ v.testBit 3
        let bad := change && u.queue ≠ []
        let s := s.setCompare c { u with
          encoder := if bad then u.encoder else enc
          reverse := if bad then u.reverse else v.testBit 3
          catchUp := v.testBit 4
          ignored := u.ignored || bad }
        let s := if v.testBit 6 then compareFlush c s else s
        if v.testBit 5 then compareArm c s else s
  else s

/-- A write to a latch unit's word (R185). -/
def latchWrite (u off v : Nat) (s : State) : State :=
  let l := s.latch u
  if off = 0x00 then
    if servesTrack u s then s
    else if 5 < bits v 2 0 then posRegFault s
    else
      let s := s.setLatch u { l with
        encoder := bits v 2 0, mode := bits v 4 3, eventEn := v.testBit 6
        takenAt := if l.mode = 1 then l.takenAt else none }
      if v.testBit 5 then latchTrigger u s else s
  else if off = 0x04 then
    if v % 2 ^ 20 < 1000 || 1000000 < v % 2 ^ 20 then posRegFault s else s.setLatch u { l with period := v % 2 ^ 20 }
  else s

/-- A write at an offset of the position window. -/
def posWrite (off v : Nat) (s : State) : State :=
  if off < 0x400 then compareWrite (off / 0x40) (off % 0x40) v s
  else if off < 0xC00 then latchWrite ((off - 0x400) / 0x100) ((off - 0x400) % 0x100) v s
  else if off < 0xD80 then
    (if (off - 0xC00) % 0x40 = 0x20 && v.testBit 0 then clearEncoderFault ((off - 0xC00) / 0x40) s else s)
  else s

/-- The word of a compare unit. -/
def Compare.word (u : Compare) (off : Nat) : Nat :=
  if off = 0x00 then u.armPos % 2 ^ 32
  else if off = 0x04 then u.armPos / 2 ^ 32
  else if off = 0x08 then u.encoder + 8 * b2n u.reverse + 16 * b2n u.catchUp + 128 * b2n u.claimed + 256 * u.queue.length
  else if off = 0x0C then b2n u.fired + 2 * b2n u.late + 4 * b2n u.stale + 8 * b2n u.order + 16 * b2n u.full + 32 * b2n u.ignored
  else if off < 0x20 then u32 u.firedPm.toBytes (off - 0x10)
  else if off = 0x20 then u.fireCount
  else 0

/-- The word of a latch unit. -/
def latchWord (u off : Nat) (s : State) : Nat :=
  let l := s.latch u
  if off = 0x00 then l.encoder + 8 * l.mode + 64 * b2n l.eventEn + 128 * b2n (servesTrack u s)
  else if off = 0x04 then l.period
  else if off = 0x08 then l.seq
  else if 0x10 ≤ off && off < 0x90 then u32 (Tab.get {} l.ring ((off - 0x10) / 16)).toBytes (off % 16)
  else 0

/-- A read of a channel's word, with what it captures (R185). -/
def channelRead (q off : Nat) (s : State) : Nat × State :=
  let e := s.encoder q
  match off with
  | 0x00 => (ofInt 48 e.count % 2 ^ 32,
      s.setEncoder q { e with countHi := ofInt 48 e.count / 2 ^ 32 + 2 ^ 16 * b2n e.reverse })
  | 0x04 => (e.countHi + 2 ^ 17 * b2n e.encoderFault + 2 ^ 18 * b2n e.indexError, s)
  | 0x08 => (ofInt 48 e.hw % 2 ^ 32, s.setEncoder q { e with hwHi := ofInt 48 e.hw / 2 ^ 32 })
  | 0x0C => (e.hwHi, s)
  | 0x10 => (ofInt 32 e.speed, s)
  | 0x14 => (e.illegalCount, s)
  | 0x18 => (e.edgeFaults, s)
  | 0x1C => (ofInt 32 e.indexDelta, s)
  | _ => (0, s)

/-- A read at an offset of the position window. -/
def posRead (off : Nat) (s : State) : Nat × State :=
  if off < 0x400 then ((s.compare (off / 0x40)).word (off % 0x40), s)
  else if off < 0xC00 then (latchWord ((off - 0x400) / 0x100) ((off - 0x400) % 0x100) s, s)
  else if off < 0xD80 then channelRead ((off - 0xC00) / 0x40) ((off - 0xC00) % 0x40) s
  else if off = 0xE00 then (s.chainTime % 2 ^ 32, { s with pos := { s.pos with timeHi := s.chainTime / 2 ^ 32 } })
  else if off = 0xE04 then (s.pos.timeHi, s)
  else (0, s)

/-! ### Commands (R187) -/

/-- The modes of POS_ENCODER_SET and POS_SET_COUNT. -/
def encoderModes : List Mode := [.standby, .configure, .calibrate, .maintain, .learn, .inspect, .reduced, .shadow]

/-- POS_ENCODER_SET, opcode 0x0400. -/
def cmdPosEncoderSet : CommandDef := {
  opcode := 0x0400
  modes := encoderModes
  lengths := [24]
  kinds := [0x58]
  multi := [0xFE]
  check := fun c q s =>
    let f := u8 c.p 0
    let quad := q < 4
    if 64 ≤ f || (quad && bits f 5 4 ≠ 0) || (!quad && bits f 3 2 ≠ 0) || 15 < u8 c.p 1 then stOutOfRange
    else if (if quad then u16 c.p 2 < 5 || 10000 < u16 c.p 2 || u16 c.p 2 % 5 ≠ 0 else u16 c.p 2 ≠ 0) then stOutOfRange
    else if u32 c.p 4 = 0 || 10000000 < u32 c.p 4 then stOutOfRange
    else if (if f.testBit 2 then u32 c.p 8 < 4 || 2 ^ 31 ≤ u32 c.p 8 else u32 c.p 8 ≠ 0) then stOutOfRange
    else if 32767 < u16 c.p 12 || u16 c.p 14 = 0 then stOutOfRange
    else if (if quad then u8 c.p 16 ≠ 0 || u8 c.p 17 ≠ 0 || u16 c.p 18 ≠ 0
      else u8 c.p 16 < 8 || 32 < u8 c.p 16 || u8 c.p 17 = 0 || 80 < u8 c.p 17 || u16 c.p 18 < 100 || 10000 < u16 c.p 18) then stOutOfRange
    else if u32 c.p 20 ≠ 0 then stOutOfRange
    else if channelUsed q s then stConflict
    else stDone
  commit := fun c s => .reply [] (c.targets.foldl (fun s q =>
    let f := u8 c.p 0
    modEncoder q (fun e =>
      let flip := e.dirInvert ≠ f.testBit 1
      { e with
        enable := f.testBit 0, dirInvert := f.testBit 1, indexCheck := f.testBit 2, rezero := f.testBit 3
        ssiGray := f.testBit 4, ssiParity := f.testBit 5, backlash := u8 c.p 1, minEdge := u16 c.p 2
        pitchPm := u32 c.p 4, nominal := u32 c.p 8, indexTol := u16 c.p 12, illegalWindow := u16 c.p 14
        ssiBits := u8 c.p 16, ssiRecovery := u8 c.p 17, ssiClock := u16 c.p 18
        hw := if flip then e.count else e.hw
        ext := if flip then e.count else e.ext
        indexRef := if e.enable ≠ f.testBit 0 || e.indexCheck ≠ f.testBit 2 then none else e.indexRef
        ssiLast := if e.enable ≠ f.testBit 0 then none else e.ssiLast }) s) s) }

/-- POS_SET_COUNT, opcode 0x0401. -/
def cmdPosSetCount : CommandDef := {
  opcode := 0x0401
  modes := encoderModes
  lengths := [8]
  kinds := [0x58]
  check := fun c q s =>
    if s64 c.p 0 < -(2 ^ 47) || 2 ^ 47 ≤ s64 c.p 0 then stOutOfRange
    else if channelUsed q s then stConflict
    else if (List.range 16).any (fun u => (s.compare u).encoder = q && (s.compare u).queue ≠ []) then stConflict
    else stDone
  commit := fun c s => .reply [] (modEncoder c.target (fun e => { e with
    count := s64 c.p 0, hw := s64 c.p 0, ext := s64 c.p 0, speedBase := s64 c.p 0, indexRef := none }) s) }

/-- POS_STATUS, opcode 0x0402, of the Sentry subset. -/
def cmdPosStatus : CommandDef := {
  opcode := 0x0402
  modes := everyMode
  sentry := true
  lengths := [4]
  kinds := [0x58]
  reads := true
  replyMax := fun _ => 48
  check := fun c _ _ => if 2 ≤ u8 c.p 0 || !zeroAt c.p 1 3 then stOutOfRange else stDone
  commit := fun c s =>
    let e := s.encoder c.target
    .reply (les 8 e.count ++ les 8 e.hw ++ les 8 e.ext
        ++ (if s.mode = .sentry then le 4 0x80000000 else les 4 e.speed) ++ les 4 e.indexDelta
        ++ le 4 e.illegalCount ++ le 4 e.edgeFaults
        ++ le 1 (b2n e.reverse + 2 * b2n e.encoderFault + 4 * b2n e.indexError + 8 * b2n e.enable) ++ zeros 7)
      (if (u8 c.p 0).testBit 0 then
        s.setEncoder c.target { e with encoderFault := false, illegalCount := 0, edgeFaults := 0 } else s) }

/-- POS_LATCH_SET, opcode 0x0403. -/
def cmdPosLatchSet : CommandDef := {
  opcode := 0x0403
  lengths := [8]
  check := fun c _ s =>
    if 7 < u8 c.p 0 || 5 < u8 c.p 1 || 3 < u8 c.p 2 || 1 < u8 c.p 3 then stOutOfRange
    else if (if u8 c.p 2 = 1 then u32 c.p 4 < 1000 || 1000000 < u32 c.p 4 else u32 c.p 4 ≠ 0) then stOutOfRange
    else if servesTrack (u8 c.p 0) s then stConflict
    else stDone
  commit := fun c s => .reply [] (modLatch (u8 c.p 0) (fun l => { l with
    encoder := u8 c.p 1, mode := u8 c.p 2, eventEn := (u8 c.p 3).testBit 0
    takenAt := if l.mode = 1 then l.takenAt else none
    period := if u8 c.p 2 = 1 then u32 c.p 4 else l.period }) s) }

/-- The queue a POS_COMPARE_ARM finds, after FLUSH_FIRST. -/
def armQueue (c : Call) (s : State) : List Int :=
  if (u8 c.p 2).testBit 2 then [] else (s.compare (u8 c.p 0)).queue

/-- How a POS_COMPARE_ARM is judged. -/
def armJudged (c : Call) (s : State) : ArmResult :=
  judgeArm (u8 c.p 1) ((u8 c.p 2).testBit 0) ((u8 c.p 2).testBit 1) (armQueue c s) (s64 c.p 8) s

/-- Would a POS_COMPARE_ARM change the channel or direction of a queue that holds positions, or is the unit claimed? -/
def armBlocked (c : Call) (s : State) : Bool :=
  let u := s.compare (u8 c.p 0)
  u.claimed || (armQueue c s ≠ [] && (u.encoder ≠ u8 c.p 1 || u.reverse ≠ (u8 c.p 2).testBit 0))

/-- The status bit a refused arm sets (R183). -/
def armRefused (c : Call) (status : Nat) (s : State) : State :=
  let k := u8 c.p 0
  if status = stStale then raise 318 (modCompare k (fun u => { u with stale := true }) s)
  else if status = stNoSpace then raise 318 (modCompare k (fun u => { u with full := true }) s)
  else if status = stConflict then
    raise 318 (if armBlocked c s then s else modCompare k (fun u => { u with order := true }) s)
  else s

/-- POS_COMPARE_ARM, opcode 0x0404. -/
def cmdPosCompareArm : CommandDef := {
  opcode := 0x0404
  lengths := [16]
  registered := true
  replyMax := fun _ => 20
  check := fun c _ s =>
    if 15 < u8 c.p 0 || 5 < u8 c.p 1 || 7 < u8 c.p 2 || !zeroAt c.p 3 5 then stOutOfRange
    else if s64 c.p 8 < -(2 ^ 47) || 2 ^ 47 ≤ s64 c.p 8 then stOutOfRange
    else if armBlocked c s then stConflict
    else match armJudged c s with
      | .stale => stStale
      | .order => stConflict
      | .full => stNoSpace
      | _ => stDone
  commit := fun c s =>
    let k := u8 c.p 0
    let r := armJudged c s
    let s := modCompare k (fun u => { u with
      queue := armQueue c s, encoder := u8 c.p 1, reverse := (u8 c.p 2).testBit 0 }) s
    let s := applyArm k (s64 c.p 8) r s
    let u := s.compare k
    .reply (le 1 u.queue.length ++ le 1 (b2n (r = .fires)) ++ zeros 2
      ++ (if r = .fires then u.firedPm.toBytes else zeros 16)) s
  onRefusal := fun c st s => if c.p.length = 16 && u8 c.p 0 ≤ 15 then armRefused c st s else s }

/-- The position capability, ID 0x0005 version 1: the body from offset 8 (R187). -/
def capPosition : List Byte := [4, 2, 8, 16, 32, 0, 0, 0]

end Sys2Proof.Machine
end

