-- ==== Sys2Proof/Machine/Resample.lean ====
section
/-!
DEFINITION. Sys2Proof/Machine/Resample.lean: distance-domain resampling (chapter 08): the station grid (R188-R190, R561),
placement (R191-R193), box integration (R194-R197), the presets and the issue of output lines (R198-R207).
-/
namespace Sys2Proof.Machine

/-! ### Presets (R198) -/

/-- The taps of a preset. -/
def presetTaps (p : Nat) : List Nat :=
  match p with
  | 0 => [9, 36, 111, 266, 496, 722, 816, 722, 496, 266, 111, 36, 9]
  | 1 => [18, 221, 991, 1636, 991, 221, 18]
  | 2 => [1536, 1792, 640, 128]
  | _ => [3072, 1024]

/-- The label delay D of a preset. -/
def presetDelay (p : Nat) : Nat :=
  match p with
  | 0 => 6 | 1 => 3 | 2 => 1 | _ => 0

/-- The filter length L of a preset. -/
def presetLength (p : Nat) : Nat := (presetTaps p).length

/-- The offset of a preset in 1/32 output lines: 5/32 for Fast, -8/32 for Fastest. -/
def presetEps32 (p : Nat) : Int :=
  match p with
  | 0 => 0 | 1 => 0 | 2 => 5 | _ => -8

/-! ### The grid (R188-R190, R204, R561) -/

/-- The grid a port of station k resamples on: pitch, origin in 1/65536 counts, and the number of its first line. -/
structure Geometry where
  pitch : Nat
  origin : Int
  lineBase : Nat
  deriving DecidableEq, Repr

/-- P0 of a station's own grid, once it is set; in SHADOW, whatever FIXED_ORIGIN holds, only the active member's copy sets it (R189, R508). -/
def gridSet (k : Nat) (s : State) : Option Int :=
  if s.mode = .shadow && !s.twin.grids.getLsbD k then none else (s.grid k).origin

/-- The origin in force: outside the inspecting modes a provisional one stands in for one not yet fixed (R561). -/
def gridOrigin (k : Nat) (s : State) : Option Int :=
  match gridSet k s with
  | some o => some o
  | none => if s.mode.inspects then none else (s.grid k).provisional

/-- The last of the pitch changes still under way that line m lies behind (R204). -/
def Grid.changeAt (g : Grid) (m : Nat) : Option GridChange := (g.changes.filter fun x => 256 * x.block ≤ m).getLast?

/-- The grid of station k that line m lies on (R204). -/
def gridAt (k m : Nat) (s : State) : Option Geometry :=
  let g := s.grid k
  match g.changeAt m with
  | some x => some { pitch := x.pitch, origin := x.origin, lineBase := 256 * x.block }
  | none => (gridOrigin k s).map fun o => { pitch := g.pitch, origin := o, lineBase := g.lineBase }

/-- The grid a port of station k resamples on: that of the next line it may issue. -/
def geometry (k n : Nat) (s : State) : Option Geometry := gridAt k (s.res n).nextLine s

/-- K of R190, rounded half up. -/
def gridK (pitchPm pitch : Nat) : Nat := (2 ^ 41 * pitchPm + pitch * 62500) / (2 * (pitch * 62500))

/-- A position in 1/65536 counts as grid units with 20 fraction bits, absolute by line number (R190). -/
def gridUnits (geo : Geometry) (pitchPm : Nat) (p16 : Int) : Int :=
  (toInt 64 (ofInt 64 (p16 - geo.origin)) * gridK pitchPm geo.pitch + 2 ^ 35) / 2 ^ 36 + geo.lineBase * 2 ^ 20

/-- COUNT_PITCH_PM of a station's encoder. -/
def stationPm (k : Nat) (s : State) : Nat := (s.encoder (s.grid k).encoder).pitchPm

/-- The lower edge of an output line. -/
def lineEdge (m : Nat) : Int := (m : Int) * 2 ^ 20

/-- An empty history: the sums, the high-water and the boxes restart at the next line to issue (R193, R203). -/
def clearHistory (n : Nat) (s : State) : State :=
  let l := match stationOf n s with
    | some k => presetLength (s.grid k).preset
    | none => 0
  modRes n (fun r => { r with planes := [], unsettled := l }) s

/-- What a port counts by the blocks of a grid ends with that grid: the statistics of its open blocks, the first block of an epoch, the
block in progress that held a new set back (R139, R141, R155, R561). -/
def dropBlocks (n : Nat) (s : State) : State :=
  let s := modPort n (fun p => { p with
    stats := [], holdEpoch := if p.epochBlock.isSome then none else p.holdEpoch, epochBlock := none }) s
  modPhoto n (fun p => { p with
    newBase := p.newBase.map fun x => { x with block := none }, newTrim := p.newTrim.map fun x => { x with block := none } }) s

/-- What a port holds for the next block boundary comes into force as its numbering begins again, which is one (R203, R229). -/
def takeNext (n : Nat) (s : State) : State :=
  let s := modRes n (fun r => { r with offsets := r.newOffsets.getD r.offsets, newOffsets := none, nextLine := 0, issuedTo := 0 }) s
  modPmap n (fun m => match m.newColour with
    | some c => { m with matrix := c.2.1, offs := c.2.2, newColour := none }
    | none => m) s

/-- A port's part in a run of station k on the grid in force: its history is cleared, and its numbering resumes at the line that holds the
first placed input line beyond H; on another grid than before it counts anew (R189, R203). -/
def startPort (k : Nat) (renumber : Bool) (s : State) (n : Nat) : State :=
  let s := (s.res n).queue.foldl (fun s x => leaveToNext n x s) s
  let s := modRes n (fun r => { r with queue := [], started := false, prevSpeed := none, blockLanded := none }) s
  let s := if renumber then takeNext n s else s
  let b := match geometry k n s with
    | some geo => gridUnits geo (stationPm k s) ((s.encoder (s.grid k).encoder).hw * 2 ^ 16)
    | none => 0
  let s := clearHistory n (modRes n (fun r => { r with beyond := b }) s)
  if renumber then dropBlocks n s else s

/-- A run of station k begins on the grid in force, at every port (R189, R203). -/
def startRun (k : Nat) (renumber : Bool) (s : State) : State :=
  let s := if renumber then modSeg k (fun g => { g with stormBlock := none }) s else s
  (s.station k).ports.foldl (startPort k renumber) s

/-- Station k begins its lines on its own grid, which is fixed at H where it has none (R189). -/
def enterGrid (k : Nat) (s : State) : State :=
  let g := s.grid k
  let fresh := g.origin.isNone
  let h : Int := (s.encoder g.encoder).hw * 2 ^ 16
  startRun k fresh (if fresh then s.setGrid k { g with origin := some h, p0 := some h, provisional := none, lineBase := 0 } else s)

/-- Entry into LEARN, INSPECT or INSPECT_REDUCED fixes the grid of every station that has none (R189). -/
def enterGrids (s : State) : State := (List.range 4).foldl (fun s k => enterGrid k s) s

/-- A member that leaves SHADOW with no copy of a station's grid enters on a grid of its own (R189, R508). -/
def ownGrids (s : State) : State :=
  (List.range 4).foldl (fun s k => if s.twin.grids.getLsbD k then s else enterGrid k s) s

/-- Outside the modes that receive pixels no latch reaches a district: the tracks are empty. -/
def dropTracks (s : State) : State := (List.range 4).foldl (fun s k => modGrid k (fun g => { g with track := [] }) s) s

/-! ### Positions from the track (R180) -/

/-- Raises TRACK_STALE, at most once per millisecond (R180). -/
def trackStale (s : State) : State :=
  if elapsed 1000000 s.pos.staleAt s.now then raise 316 { s with pos := { s.pos with staleAt := some s.now } } else s

/-- Consecutive pairs of a track, newest first: (newer, older). -/
def trackSteps (ps : List TrackPair) : List (TrackPair × TrackPair) := ps.zip (ps.drop 1)

/-- The two pairs that serve an instant, newer and older, and whether they are extrapolated from (R180). -/
def pairsFor (ps : List TrackPair) (t : Int) : Option ((TrackPair × TrackPair) × Bool) :=
  match (trackSteps ps).find? (fun e => (e.2.time : Int) ≤ t && t ≤ e.1.time) with
  | some e => some (e, false)
  | none =>
    match ps with
    | newest :: _ :: _ =>
      if (newest.time : Int) < t then (trackSteps ps).head?.map fun e => (e, true)
      else (trackSteps ps).getLast?.map fun e => (e, true)
    | _ => none

/-- The position at an instant in 1/65536 counts, EXTRAPOLATED and TRACK_STALE (R180); none before the first pair. -/
def trackPosition (ps : List TrackPair) (period : Nat) (t : Int) : Option (Int × Bool × Bool) :=
  match ps with
  | [] => none
  | newest :: _ =>
    let stale := (newest.time + 4 * period : Int) < t
    match pairsFor ps t with
    | none => some (newest.pos * 2 ^ 16, true, stale)
    | some (e, ex) =>
      let dt := e.1.time - e.2.time
      some (e.2.pos * 2 ^ 16 + divHalfUp (posDiff e.1.pos e.2.pos * 2 ^ 16 * (t - e.2.time)) dt, ex, stale)

/-- The track period of station k, ns. -/
def trackPeriod (k : Nat) (s : State) : Nat := ((trackUnit k s).map fun u => (s.latch u).period).getD 0

/-! ### Box integration (R194-R197) -/

/-- v × w added where v is a sample. -/
def addSums (sums : List (Nat × Nat)) (vs : List Nat) (w : Nat) : List (Nat × Nat) :=
  sums.zipWith (fun a v => if v = void then a else ((a.1 + v * w) % 2 ^ 40, (a.2 + w) % 2 ^ 24)) vs

/-- The box value of R196. -/
def boxValue (a snap : Nat × Nat) : Nat :=
  let da := (a.1 + 2 ^ 40 - snap.1) % 2 ^ 40
  let dw := (a.2 + 2 ^ 24 - snap.2) % 2 ^ 24
  if dw < 2 ^ 19 then void else (da + dw / 2) / dw

/-- The interpolated value of R197 between two lines. -/
def interpValue (k : Nat) (a b : PrevLine) (va vb : Nat) : Nat :=
  if va = void then vb
  else if vb = void then va
  else
    let num : Int := ((vb : Int) - va) * ((k : Int) * 2 ^ 20 + 2 ^ 19 - a.centre) + (b.centre - a.centre) / 2
    ((va : Int) + num / (b.centre - a.centre)).toNat

/-- Does a line's centre lie in output line k? -/
def centreIn (k : Nat) (x : PrevLine) : Bool := x.centre / 2 ^ 20 = (k : Int)

/-- The values of a box that ends with line x integrated and line next accepted; the two lines of an interpolation contribute to it, with
what they carry (R191, R196, R197, R207). -/
def finishBox (r : PlaneRes) (x next : PrevLine) (hasCentre : Bool) : Box :=
  let plain := r.sums.zipWith boxValue r.snaps
  let k := r.box.k
  let a := if x.centre < lineEdge k then some x else r.before
  let b := if x.centre < lineEdge k then next else x
  match a with
  | some a =>
    if hasCentre then { r.box with values := plain }
    else { r.box with
      values := a.samples.zipWith (fun va vb => interpValue k a b va vb) b.samples, under := true
      flagged := r.box.flagged || a.flagged || b.flagged
      extrapolated := r.box.extrapolated || a.extrapolated || b.extrapolated
      stale := r.box.stale || a.stale || b.stale }
  | none => { r.box with values := plain }

/-- Integrates line x over [at, hi), box by box; next is the accepted line after it. hasC: a centre lay in the box. -/
def integrate (x next : PrevLine) (hi : Int) : Nat → Int → Bool → PlaneRes → PlaneRes × Bool
  | 0, _, hasC, r => (r, hasC)
  | fuel + 1, at_, hasC, r =>
    let top := lineEdge (r.box.k + 1)
    let e := min hi top
    let w := (e - at_).toNat
    let box := if 0 < w then { r.box with
        lines := sat 16 (r.box.lines + 1)
        gap := r.box.gap || (x.gap && at_ < x.centre) || (next.gap && x.centre < e)
        flagged := r.box.flagged || x.flagged
        extrapolated := r.box.extrapolated || x.extrapolated
        stale := r.box.stale || x.stale } else r.box
    let r := { r with sums := addSums r.sums x.samples w, box := box }
    let hasC := hasC || centreIn r.box.k x
    if top ≤ hi then
      let b := finishBox r x next hasC
      integrate x next hi fuel top false { r with boxes := b :: r.boxes, snaps := r.sums, box := { k := r.box.k + 1 } }
    else (r, hasC)

/-- Does a plane hold a centre in the box in progress, from the lines accepted before x? -/
def earlierCentre (r : PlaneRes) : Bool := r.before.any (centreIn r.box.k)

/-- The boxes of a history that its plane's first line, in box `upto`, leaves behind: they are complete, and no sample lies in them (R196,
R197, R205). -/
def emptyBoxes (first upto : Nat) (samples : List Nat) : List Box :=
  ((List.range (upto - first)).map fun i => { k := first + i, values := samples.map fun _ => void }).reverse

/-- A plane of a placed line is accepted at a centre, or dropped and not counted in (R193, R194). -/
def acceptPlane (c : Int) (samples : List Nat) (gap flagged ex stale : Bool) (r : PlaneRes) : PlaneRes × Bool :=
  if c ≤ r.h || c < 0 then (r, false)
  else
    let x : PrevLine := { centre := c, lo := c, samples := samples, gap := gap, flagged := flagged, extrapolated := ex, stale := stale }
    match r.prev with
    | none =>
      let upto := (c / 2 ^ 20).toNat
      ({ r with h := c, prev := some x, boxes := emptyBoxes r.box.k upto samples, box := { k := upto }
                sums := samples.map fun _ => (0, 0), snaps := samples.map fun _ => (0, 0) }, true)
    | some p =>
      let mid := (p.centre + c + 1) / 2
      let fuel := (mid / 2 ^ 20 - (r.box.k : Int)).toNat + 2
      let q := (integrate p x mid fuel p.lo (earlierCentre r) r).1
      ({ q with h := c, prev := some { x with lo := mid }, before := some p }, true)

/-! ### Placement (R191-R193) -/

/-- A port's plane offset on the grid, rounded half up (R192). -/
def planeShift (offset : Int) (pitch : Nat) : Int := divHalfUp (offset * 2 ^ 20) pitch

/-- Plane offsets given for a port come into force at the next block boundary (R203). -/
def takeOffsets (n block l : Nat) (s : State) : State :=
  modRes n (fun r => match r.newOffsets with
    | some o => if r.blockLanded.any (· < block) then { r with offsets := o, newOffsets := none, unsettled := l } else r
    | none => r) s

/-- The planes of a port's history, made at its first accepted line: the high-water is the lower edge of the first line that may still be
issued on the grid, and the boxes begin at line `first` (R193). -/
def openPlanes (count first : Nat) (r : PortRes) : PortRes :=
  { r with planes := r.planes
      ++ List.replicate (count - r.planes.length) { h := lineEdge r.issuedTo, box := { k := first } } }

/-- Is plane 3 of a port out of use in the next line it issues: DROP_PLANE3 applied to its station, from a block boundary on (R382, R383)? -/
def planeDropped (n : Nat) (s : State) : Bool :=
  match stationOf n s with
  | some k =>
    let d := s.decl k
    let on := match d.due with
      | some (b, m) => if 256 * b ≤ (s.res n).nextLine then m else d.applied
      | none => d.applied
    (s.port n).planes = 4 && on.getLsbD 0
  | none => false

/-- Is plane 3 of a port corrected and resampled no more? It is again as soon as its use is to begin anew, so that the block at whose start it
does finds it resampled (R382, R384; DEDUCED, assumption 111). -/
def planeIdle (n : Nat) (s : State) : Bool :=
  planeDropped n s && ((stationOf n s).bind fun k => (s.decl k).due).all fun x => x.2.getLsbD 0

/-- A line without the plane that is out of use. -/
def usedPlanes (n : Nat) (x : InLine) (s : State) : InLine := if planeIdle n s then { x with planes := x.planes.take 3 } else x

/-- A CAMERA_SET's FIRST_LINE lands: in a block, whose close ends the hold on the next one, or in none that has still to close (R139). -/
def firstLands (n : Nat) (x : InLine) (block : Option Nat) (s : State) : State :=
  modPort n (fun p =>
    if x.firstOf.isSome && x.firstOf = p.holdEpoch then
      { p with epochBlock := block, holdEpoch := if block.isSome then p.holdEpoch else none }
    else p) s

/-- Line m has been issued, or the run has not yet come to the line after it: what lies behind the FIR window goes. -/
def pruneBoxes (l d m : Nat) (r : PlaneRes) : PlaneRes :=
  { r with boxes := r.boxes.filter fun b => m + 1 + d < b.k + l || r.boxes.length ≤ 1 }

/-- A line is placed on the grid, corrected if it has not been, and integrated, at a plane's own position and before the run's first line too
(R189-R197). -/
def placeAt (n k : Nat) (x : InLine) (ex : Bool) (s : State) : State :=
  let pm := stationPm k s
  let l := presetLength (s.grid k).preset
  match trackPosition (s.grid k).track (trackPeriod k s) x.tMid with
  | none => leaveToNext n x s
  | some (p16, tex, stale) =>
    let s := if stale then trackStale s else s
    let s := if (gridOrigin k s).isNone && !s.mode.inspects then
        modGrid k (fun g => { g with provisional := some ((s.encoder g.encoder).hw * 2 ^ 16) }) s else s
    match geometry k n s with
    | none => leaveToNext n x s
    | some geo =>
      let u := gridUnits geo pm p16
      let line := (u / 2 ^ 20).toNat
      let block := line / 256
      let x := usedPlanes n x s
      let s := if x.corrected then s else takeSets n (some block) s
      let cx := if x.corrected then (x, s) else correctLine n x s
      let x := cx.1
      let s := takeOffsets n block l cx.2
      let s := modRes n (fun r => { r with
        blockLanded := some (max block (r.blockLanded.getD 0)), extrapolated := if ex then sat 32 (r.extrapolated + 1) else r.extrapolated }) s
      let open_ := decide ((s.res n).nextLine / 256 ≤ block)
      let s := firstLands n x (if open_ then some block else none) s
      let s := if open_ then statLine n block x s else s
      let s := if x.resync && (s.res n).planes ≠ [] then clearHistory n s else s
      let r := s.res n
      let first := if r.started then r.nextLine else max r.nextLine line
      let starts := r.started || decide (r.beyond < u)
      let r := openPlanes x.planes.length first { r with started := starts, nextLine := if starts then first else r.nextLine }
      let flagged := x.short || x.long || x.planeMissing
      let done := (r.planes.zip x.planes).zipIdx.map fun e =>
        acceptPlane (u - planeShift (nth 0 r.offsets e.2) geo.pitch) e.1.2 x.gap flagged (ex || tex) stale e.1.1
      let keep := if starts then id else pruneBoxes l (presetDelay (s.grid k).preset) (line - 1)
      s.setRes n { r with
        planes := done.map fun d => keep d.1
        reverseDropped := sat 32 (r.reverseDropped + (done.filter fun d => !d.2).length) }

/-- Places the lines of a port's queue whose time the track has passed, in order (R191). -/
def placeQueue (n k : Nat) : Nat → State → State
  | 0, s => s
  | fuel + 1, s =>
    match (s.res n).queue, (s.grid k).track with
    | x :: rest, newest :: _ =>
      if x.tMid ≤ newest.time then
        placeQueue n k fuel (placeAt n k x false (modRes n (fun r => { r with queue := rest }) s))
      else s
    | _, _ => s

/-- A line reaches the district of its port: stage 2 alone where no grid serves it, or the placement queue (R70, R208, R561). A capture counts
it in every mode (R160). -/
def passLine (n : Nat) (x : InLine) (s : State) : State :=
  let x := usedPlanes n x s
  let unit := (stationOf n s).filter fun k => (trackUnit k s).isSome
  let x := if s.mode.inspects then { x with fixed := none } else x
  let r : InLine × State :=
    if s.mode.inspects then
      let s := captureLine n x s
      if unit.isSome then (x, s) else correctLine n x s
    else correctLine n x (captureLine n x (takeSets n none s))
  match unit with
  | some k => placeQueue n k 64 (modRes n (fun p => { p with queue := p.queue ++ [r.1] }) r.2)
  | none => firstLands n r.1 none r.2

/-- Do a port's lines wait in its front end: its route changes, its district is being reset, or the placement queue holds its 64 lines
(R13, R18, R208; the last DEDUCED, assumption 90)? -/
def frontHolds (n : Nat) (s : State) : Bool :=
  (s.port n).rerouting || (s.district (s.route n)).resetting || 64 ≤ (s.res n).queue.length

/-- The lines that wait in a port's front end go on, oldest first, while its district takes them. -/
def drainFront (n : Nat) : Nat → State → State
  | 0, s => s
  | fuel + 1, s =>
    match (s.port n).buffered with
    | [] => s
    | x :: rest => if frontHolds n s then s else drainFront n fuel (passLine n x (modPort n (fun p => { p with buffered := rest }) s))

/-- PLACE_EXTRAPOLATE (R191): two track periods after a line's t_mid without a latch, it is placed by extrapolation. -/
def placeExtrapolate (n : Nat) (s : State) : State :=
  match stationOf n s with
  | none => s
  | some k =>
    match (s.res n).queue, (s.grid k).track with
    | x :: rest, newest :: _ =>
      if (newest.time : Int) < x.tMid && x.tMid + 2 * trackPeriod k s ≤ s.chainTime then
        drainFront n 256 (placeQueue n k 64 (placeAt n k x true (modRes n (fun r => { r with queue := rest }) s)))
      else s
    | _, _ => s

/-- The latches a step has taken go to the districts, and the lines that waited for them are placed (R178, R191). -/
def placeStations (s : State) : State :=
  (List.range 4).foldl (fun s k => (s.station k).ports.foldl (fun s n => drainFront n 256 (placeQueue n k 64 s)) s) s

/-- An accepted line goes on from the front end, behind the lines that wait there (R18, R70). -/
def acceptLine (n : Nat) (s : State) (x : InLine) : State :=
  if !s.mode.receives || ((s.pmap n).lost && !(s.port n).rerouting) then captureAnew n s
  else if frontHolds n s || (s.port n).buffered ≠ [] then bufferLine n x s
  else passLine n x s

/-- LINE_PACKET_RECEIVED: the front end, then every line it lets go on (R126). -/
def packetReceived (n : Nat) (k : PortPacket) (s : State) : State :=
  let r := receivePacket n k s
  r.1.foldl (acceptLine n) r.2

/-! ### Output lines (R199-R207) -/

/-- A plane's box k; before its first box copies of the first, past its last copies of the last (R203, R206). -/
def boxFor (bs : List Box) (k : Int) : Option Box :=
  match bs.find? (fun b => (b.k : Int) = k) with
  | some b => some b
  | none =>
    match bs.head?, bs.getLast? with
    | some newest, some oldest => some (if k < oldest.k then oldest else newest)
    | _, _ => none

/-- The values of that box. -/
def boxAt (bs : List Box) (k : Int) : List Nat := ((boxFor bs k).map (·.values)).getD []

/-- The boxes that contribute to output line m of a plane (R199). -/
def firBoxes (preset : Nat) (bs : List Box) (m : Nat) : List Box :=
  (List.range (presetLength preset)).filterMap fun i => boxFor bs ((m : Int) + presetDelay preset - i)

/-- The filtered values of output line m of one plane (R199). -/
def firLine (preset : Nat) (bs : List Box) (m : Nat) : List Nat :=
  let own := boxAt bs m
  let ins := (presetTaps preset).zipIdx.map fun h => (h.1, boxAt bs ((m : Int) + presetDelay preset - h.2))
  own.zipIdx.map fun e =>
    if e.1 = void then void
    else
      let v := sumNat (ins.map fun h => let x := nth void h.2 e.2; h.1 * (if x = void then e.1 else x))
      min ((v + 2048) / 4096) 0xFFFE

/-- The centre of output line m in 1/65536 counts (R188, R200). -/
def lineCentre (geo : Geometry) (pm m : Nat) : Int :=
  geo.origin + divHalfUp ((2 * ((m : Int) - geo.lineBase) + 1) * (geo.pitch * 62500 * 2 ^ 15 : Nat)) pm

/-- The time at which the track crosses a centre, the speed there in um/s, and the flags of R200 that come of it. -/
structure Crossing where
  time : Int := 0
  speed : Nat := 0
  extrapolated : Bool := true
  flags : BitVec 12 := 0
  deriving DecidableEq, Repr

/-- The crossing of a centre, in 1/65536 counts, by the two latch pairs of R200. -/
def crossing (ps : List TrackPair) (pm : Nat) (c : Int) : Crossing :=
  let rel := fun p : TrackPair => toInt 64 (ofInt 64 (p.pos * 2 ^ 16 - c))
  let keep := fun p : TrackPair => p.flags &&& 0x2C0
  match ps with
  | [] => {}
  | [p] => { time := p.time, flags := keep p, extrapolated := true }
  | newest :: _ =>
    let hit := (trackSteps ps).find? fun e => rel e.2 ≤ 0 && 0 ≤ rel e.1
    let pair := match hit with
      | some e => some e
      | none => if rel newest < 0 then (trackSteps ps).head? else (trackSteps ps).getLast?
    match pair with
    | none => {}
    | some (b, a) =>
      let d := rel b - rel a
      let dt := b.time - a.time
      let ex := hit.isNone
      if d = 0 then
        if rel a = 0 then { time := a.time, flags := keep b, extrapolated := ex }
        else { time := b.time, flags := keep b, extrapolated := true }
      else
        { time := if 0 < d then a.time + divHalfUp (-(rel a) * dt) d.toNat else a.time + divHalfUp (rel a * dt) (-d).toNat
          speed := sat 32 (divHalfUp (d * pm * 1000) (dt * 2 ^ 16)).toNat
          flags := keep b, extrapolated := ex }

/-- The postmark of output line m, corrected for its preset (R200, R201). -/
def linePostmark (g : Grid) (geo : Geometry) (pm m : Nat) (x : Crossing) (flags : BitVec 12) : Postmark :=
  let c := lineCentre geo pm m
  let e := presetEps32 g.preset
  let num : Int := c * (512 * pm : Nat) + e * (geo.pitch * 1000000 : Nat) * 2 ^ 16
  let pos := if e = 0 then divHalfUp c (2 ^ 16) else divHalfUp num (512 * pm * 2 ^ 16)
  let time := if e = 0 || x.speed = 0 then x.time
    else x.time + divHalfUp (e * (geo.pitch * 1000000000 : Nat)) (512 * x.speed)
  { time := ofInt 64 time, pos := pos48 pos, source := g.encoder, flags := flags ||| x.flags ||| (if e = 0 then 0 else 0x002) }

/-- How far all planes of a port have complete boxes: the first box not complete in some plane. -/
def completeTo (r : PortRes) : Nat :=
  match r.planes with
  | [] => 0
  | p :: ps => ps.foldl (fun m q => min m q.box.k) p.box.k

/-- Is the next output line of a port due, or in a cut any whose own box is complete (R205, R206)? -/
def lineDue (delay : Nat) (cut : Bool) (r : PortRes) : Bool :=
  r.started && r.planes ≠ [] && r.nextLine + (if cut then 0 else delay) < completeTo r

/-- Raises SPEED_LIMIT, at most once per millisecond (R197). -/
def speedLimit (s : State) : State :=
  if elapsed 1000000 s.pos.speedLimitAt s.now then raise 317 { s with pos := { s.pos with speedLimitAt := some s.now } } else s

/-- The pitch changes that every port of their station has passed are the grid (R204). -/
def foldChange (k : Nat) (s : State) : State :=
  let g := s.grid k
  let done := g.changes.takeWhile fun x => (s.station k).ports.all fun n => 256 * x.block ≤ (s.res n).nextLine || (s.pmap n).lost
  match done.getLast? with
  | none => s
  | some x => s.setGrid k { g with
      pitch := x.pitch, oldPitch := (done.dropLast.getLast?.map (·.pitch)).getD g.pitch
      origin := some x.origin, lineBase := 256 * x.block, changes := g.changes.drop done.length }

/-- A port whose next line is the first on a new pitch: its history is cleared (R203, R204). -/
def crossChange (k n : Nat) (s : State) : State :=
  foldChange k (if (s.grid k).changes.any fun x => 256 * x.block = (s.res n).nextLine then clearHistory n s else s)

/-- The next output line of a port is filtered and issued (R199-R207); in a cut the last line closes its block. -/
def issueLine (n k : Nat) (cut : Bool) (s : State) : Option (OutLine × State) :=
  let g := s.grid k
  let r := s.res n
  let r := if planeDropped n s then { r with planes := r.planes.take 3 } else r
  let d := presetDelay g.preset
  let l := presetLength g.preset
  match geometry k n s with
  | none => none
  | some geo =>
    if !lineDue d cut r then none
    else
      let m := r.nextLine
      let pm := stationPm k s
      let planes := r.planes.map fun p => firLine g.preset p.boxes m
      let own := r.planes.filterMap fun p => p.boxes.find? (fun b => b.k = m)
      let used := own ++ r.planes.flatMap fun p => firBoxes g.preset p.boxes m
      let x := crossing g.track pm (lineCentre geo pm m)
      let stale := used.any (·.stale) || (g.track.head?.any fun p => (p.time + 4 * trackPeriod k s : Int) < x.time)
      let under := own.any (·.under)
      let step := match r.prevSpeed with
        | some v => g.stepPct * max v 1000 < 100 * (if v ≤ x.speed then x.speed - v else v - x.speed)
        | none => false
      let left := if step then l else r.unsettled
      let tail := completeTo r ≤ m + d
      let unsettled := 0 < left || tail
      let last := cut && completeTo r ≤ m + 1
      let flags : BitVec 12 := (if x.extrapolated || used.any (·.extrapolated) then 0x001 else 0)
        ||| (if unsettled then 0x008 else 0) ||| (if under then 0x010 else 0) ||| (if stale then 0x100 else 0)
      let out : OutLine := {
        line := m, postmark := linePostmark g geo pm m x flags, speed := x.speed
        inputLines := match r.planes.head? with
          | some p => ((p.boxes.find? fun b => b.k = m).map (·.lines)).getD 0
          | none => 0
        flags := BitVec.ofNat 16 (b2n unsettled + 2 * b2n under + 4 * b2n (planes.any (·.contains void))
          + 8 * b2n (own.any (·.gap)) + 16 * b2n step + 32 * b2n last + 64 * b2n (used.any (·.flagged)))
        planes := planes }
      let s := s.setRes n { r with
        nextLine := m + 1, issuedTo := m + 1, unsettled := left - 1, lastSpeed := x.speed, prevSpeed := some x.speed
        planes := (s.res n).planes.map (pruneBoxes l d m)
        unsettledLines := if unsettled then sat 32 (r.unsettledLines + 1) else r.unsettledLines
        undersampled := if under then sat 32 (r.undersampled + 1) else r.undersampled
        speedSteps := if step then sat 32 (r.speedSteps + 1) else r.speedSteps }
      let s := if under then speedLimit s else s
      let s := crossChange k n s
      some (out, if m % 256 = 255 || last then closeStats n (m / 256) s else s)

/-- OUT of the block in progress of a port when its mode is left with nothing more to issue: the statistics close (R206). -/
def closeCut (n : Nat) (s : State) : State :=
  let m := (s.res n).nextLine
  if (s.res n).started && m % 256 ≠ 0 then closeStats n (m / 256) s else s

/-! ### Commands (R209) -/

/-- RESAMPLE_PLANE_OFFSET, opcode 0x0501. -/
def cmdResamplePlaneOffset : CommandDef := {
  opcode := 0x0501
  modes := [.standby, .configure, .calibrate]
  lengths := [16]
  kinds := [0x10]
  multi := [0xFE]
  check := fun c n s =>
    let os := (List.range 4).map fun i => s32 c.p (4 * i)
    if os.any (fun o => o < -64000 || 64000 < o) then stOutOfRange
    else if (os.drop (s.port n).planes).any (· ≠ 0) then stOutOfRange
    else stDone
  commit := fun c s => .reply [] (c.targets.foldl (fun s n =>
    let os := (List.range 4).map fun i => s32 c.p (4 * i)
    modRes n (fun r => if r.planes = [] then { r with offsets := os, newOffsets := none } else { r with newOffsets := some os }) s) s) }

/-- RESAMPLE_STATUS, opcode 0x0502. A provisional grid is not the station's: ORIGIN reads zero and bit 2 is clear. A port of no station reads
the grid fields zero (DESIGN CHOICE, assumption 90). -/
def cmdResampleStatus : CommandDef := {
  opcode := 0x0502
  lengths := [4]
  kinds := [0x10]
  reads := true
  replyMax := fun _ => 48
  check := fun c _ _ => if 2 ≤ u8 c.p 0 || !zeroAt c.p 1 3 then stOutOfRange else stDone
  commit := fun c s =>
    let n := c.target
    let r := s.res n
    let g := (stationOf n s).map s.grid
    let geo := (stationOf n s).bind fun k => geometry k n s
    let own := ((stationOf n s).bind fun k => gridSet k s).isSome
    .reply (les 8 (if own then divHalfUp ((geo.map (·.origin)).getD 0) (2 ^ 16) else 0) ++ le 8 r.nextLine ++ le 4 r.lastSpeed
        ++ le 2 ((geo.map (·.pitch)).getD ((g.map (·.pitch)).getD 0)) ++ le 1 ((g.map (·.preset)).getD 0)
        ++ le 1 (b2n (0 < r.unsettled) + 2 * b2n (r.planes = []) + 4 * b2n own)
        ++ le 4 r.unsettledLines ++ le 4 r.undersampled ++ le 4 r.reverseDropped ++ le 4 r.speedSteps ++ le 4 r.extrapolated ++ zeros 4)
      (if (u8 c.p 0).testBit 0 then
        s.setRes n { r with unsettledLines := 0, undersampled := 0, reverseDropped := 0, speedSteps := 0, extrapolated := 0 } else s) }

end Sys2Proof.Machine
end

