-- ==== Sys2Proof/Machine/Stitch.lean ====
section
/-!
DEFINITION. Sys2Proof/Machine/Stitch.lean: stitching, colour and outlets (chapter 09): binning and the column cubic
(R211-R214), seams (R215-R219), colour and CIELAB (R221, R222), the outlets (R224-R228) and their commands (R229).
-/
namespace Sys2Proof.Machine

/-- The ports in use: those that belong to stations (R562). -/
def portsInUse (s : State) : List Nat := (List.range 12).filter fun n => (stationOf n s).isSome

/-! ### Columns (R211-R214) -/

/-- The pixel indices of the groups of a factor BIN (R212). -/
def binGroups {α : Type} (bin : Nat) (xs : List α) : List (List α) := chunksOf (max bin 1) xs

/-- The mean of numbers, rounded half up. -/
def meanHalfUp (xs : List Nat) : Nat := if xs = [] then 0 else (2 * sumNat xs + xs.length) / (2 * xs.length)

/-- The group positions of a map, in 1/256 um (R212). -/
def groupPositions (m : PortMap) : List Nat := (binGroups m.bin m.map).map meanHalfUp

/-- The group values of a plane: the mean of the members that are not VOID (R212). -/
def groupValues (bin : Nat) (xs : List Nat) : List Nat :=
  (binGroups bin xs).map fun g =>
    let good := g.filter (· ≠ void)
    if good = [] then void else meanHalfUp good

/-- The centre of column j, in 1/256 um, at a pitch in 1/16 um (R210, R213). -/
def columnCentre (pitch j : Nat) : Nat := (2 * j + 1) * 8 * pitch

/-- FIRST and LAST of the columns between two positions, within a width (R213). -/
def coverage (pitch width : Nat) (ps : List Nat) : Option (Nat × Nat) :=
  match ps with
  | [] => none
  | p :: rest =>
    let lo := rest.foldl min p
    let hi := rest.foldl max p
    let first := (lo - 8 * pitch + 16 * pitch - 1) / (16 * pitch)
    if hi < 8 * pitch || width = 0 then none
    else
      let last := min ((hi - 8 * pitch) / (16 * pitch)) (width - 1)
      if last < first then none else some (first, last)

/-- The group index and fraction (in 1/256) of a column centre (R214). -/
def columnIndex (ps : List Nat) (c : Nat) : Nat × Nat :=
  let up := ps.headD 0 ≤ ps.getLastD 0
  let below := (ps.filter fun p => if up then p ≤ c else c ≤ p).length
  let i := min (below - 1) (ps.length - 2)
  let a := nth 0 ps i
  let b := nth 0 ps (i + 1)
  let d := if a ≤ b then b - a else a - b
  let e := if a ≤ c then c - a else a - c
  if ps.length ≤ 1 || d = 0 then (0, 0)
  else
    let f := (512 * e + d) / (2 * d)
    if 256 ≤ f then (i + 1, 0) else (i, f)

/-- The four cubic weights of a fraction, in 1/4,096 (R214). -/
def cubicWeights (f : Nat) : Int × Int × Int × Int :=
  let x : Int := f
  let wm := divHalfUp (-(x * x * x) + 512 * x * x - 65536 * x) 8192
  let w1 := divHalfUp (-3 * x * x * x + 1024 * x * x + 65536 * x) 8192
  let w2 := divHalfUp (x * x * x - 256 * x * x) 8192
  (wm, 4096 - wm - w1 - w2, w1, w2)

/-- A column value of one plane (R214). -/
def columnValue (gs : List Nat) (i f : Nat) : Nat :=
  let w := cubicWeights f
  let tap := fun k : Nat => nth void gs (clampNat 0 (gs.length - 1) k)
  let near := if f < 128 then tap i else tap (i + 1)
  if near = void then void
  else
    let t := fun k : Nat => ((if tap k = void then near else tap k : Nat) : Int)
    (clampInt 0 0xFFFE ((w.1 * t (i - 1) + w.2.1 * t i + w.2.2.1 * t (i + 1) + w.2.2.2 * t (i + 2) + 2048) / 4096)).toNat

/-! ### The station's geometry (R215, R219, R220) -/

/-- The pitch that line m of a station lies on (R204). -/
def linePitch (k m : Nat) (s : State) : Nat :=
  let g := s.grid k
  let here := if m < g.lineBase && g.oldPitch ≠ 0 then g.oldPitch else g.pitch
  ((g.changeAt m).map (·.pitch)).getD here

/-- The pitch of the columns in force: that of the line after the last one completed, or with no run of the grid as it stands (R220, R229). -/
def pitchNow (k : Nat) (s : State) : Nat :=
  match (s.station k).nextLine with
  | some m => linePitch k m s
  | none => (s.grid k).pitch

/-- WIDTH' at a pitch of the teller's (R220). -/
def widthAt (k pitch : Nat) (s : State) : Nat :=
  let g := s.grid k
  if pitch = g.basePitch then (s.station k).width else 64 * (((s.station k).width * g.basePitch + 64 * pitch - 1) / (64 * pitch))

/-- A seam between two ports: FIRST of the right one, LAST of the left one, the overlap W, and the boundary B. -/
structure Seam where
  first : Nat := 0
  last : Nat := 0
  w : Nat := 0
  b : Nat := 0
  deriving DecidableEq, Repr

/-- The boundary of two coverages: the multiple of 64 nearest to their middle, the lower of two (R215). -/
def seamBoundary (first last : Nat) : Option Nat :=
  let lo := (first + 63) / 64
  let hi := (last + 1) / 64
  let dist := fun b : Nat => if 128 * b ≤ first + last + 1 then first + last + 1 - 128 * b else 128 * b - (first + last + 1)
  ((List.range (hi + 1 - lo)).map (lo + ·)).foldl (fun best b =>
    match best with
    | none => some b
    | some x => if dist b < dist x then some b else some x) none |>.map (64 * ·)

/-- The coverage of each port of a station. -/
def portRanges (k pitch : Nat) (s : State) : List (Option (Nat × Nat)) :=
  (s.station k).ports.map fun n => coverage pitch (widthAt k pitch s) (groupPositions (s.pmap n))

/-- The seams of a station whose coverages exist and meet. -/
def seamsOf (ranges : List (Option (Nat × Nat))) : List Seam :=
  (ranges.zip (ranges.drop 1)).map fun e =>
    match e.1, e.2 with
    | some a, some b =>
      { first := b.1, last := a.2, w := a.2 + 1 - b.1, b := (seamBoundary b.1 a.2).getD b.1 }
    | _, _ => {}

/-- The owned columns of each port, from and up to (R215). -/
def ownedRanges (k pitch : Nat) (s : State) : List (Nat × Nat) :=
  let bs := (seamsOf (portRanges k pitch s)).map (·.b)
  (0 :: bs).zip (bs ++ [widthAt k pitch s])

/-- Do consecutive group positions lie between 0.5 q and 2 q apart (R212)? -/
def spacingOk (pitch : Nat) (ps : List Nat) : Bool :=
  (ps.zip (ps.drop 1)).all fun e =>
    let d := if e.1 ≤ e.2 then e.2 - e.1 else e.1 - e.2
    8 * pitch ≤ d && d ≤ 32 * pitch

/-- The first index of a list at which a test holds, under a code. -/
def firstBad {α : Type} (code : Nat) (bad : α → Bool) (xs : List α) : Option (Nat × Nat) :=
  (xs.zipIdx.find? fun e => bad e.1).map fun e => (code, e.2)

/-- CHECK and CHECK_PORT of a station at a pitch: 0 when it is valid (R219, R229). -/
def stationCheck (k pitch : Nat) (s : State) : Nat × Nat :=
  let st := s.station k
  let ranges := portRanges k pitch s
  let pairs := ranges.zip (ranges.drop 1)
  let planesBad := fun n => let p := (s.port n).planes; !(if st.mono then p = 1 else p = 3 || p = 4)
  if st.ports = [] then (1, 0)
  else
    ((firstBad 1 planesBad st.ports)
      <|> (firstBad 2 (fun n => (s.pmap n).map = [] || (s.pmap n).map.length ≠ (s.port n).pixels) st.ports)
      <|> (firstBad 3 (fun n => !spacingOk pitch (groupPositions (s.pmap n))) st.ports)
      <|> (firstBad 4 (fun r : Option (Nat × Nat) => match r with
        | some x => 16640 < x.2 + 1 - x.1
        | none => false) ranges)
      <|> (firstBad 5 (fun e : Option (Nat × Nat) × Option (Nat × Nat) => match e with
        | (some a, some b) => a.2 + 1 < b.1 || 256 < a.2 + 1 - b.1
        | _ => true) pairs)
      <|> (firstBad 6 (fun e : Option (Nat × Nat) × Option (Nat × Nat) => match e with
        | (some a, some b) => (seamBoundary b.1 a.2).isNone
        | _ => true) pairs)
      <|> (firstBad 7 (fun r : Nat × Nat => r.2 < r.1 || 16640 < r.2 - r.1) (ownedRanges k pitch s))).getD (0, 0)

/-! ### Colour (R221, R222) -/

/-- A column's working RGB, and how many components were clamped (R221). -/
def workRgb (mono : Bool) (m : List Int) (offs : List Int) (xs : List Nat) : Rgb × Nat :=
  if xs.contains void then ((void, void, void), 0)
  else
    let comp := fun c : Nat =>
      let v := if mono then nth 0 m 0 * (xs.headD 0 : Int)
        else sumInt (xs.zipIdx.map fun e => nth 0 m (4 * c + e.2) * (e.1 : Int))
      (v + 2048) / 4096 + nth 0 offs c
    let r := comp 0
    let g := if mono then r else comp 1
    let b := if mono then r else comp 2
    let fit := fun x : Int => (clampInt 0 0xFFFE x).toNat
    let above := fun x : Int => b2n (x < 0 || 0xFFFE < x)
    ((fit r, fit g, fit b), if mono then above r else above r + above g + above b)

/-- The largest f whose rounded cube root the table holds: the binary search of F (R222). -/
def cubeGo (n : Nat) : Nat → Nat → Nat
  | 0, f => f
  | i + 1, f =>
    let c := f + 2 ^ i
    if (2 * c - 1) ^ 3 * 3072 ≤ 2 ^ 48 * n then cubeGo n i c else cubeGo n i f

/-- F[n] = round(32,768 φ(n / 3,072)) (R222). -/
def labF (n : Nat) : Nat :=
  if 663552 < 24389 * n then cubeGo n 17 0
  else (2 * 32768 * (n * 841 * 29 + 4 * 3072 * 108) + 3072 * 108 * 29) / (2 * 3072 * 108 * 29)

/-- f of a t value, interpolated in the table (R222). -/
def labInterp (t : Nat) : Int :=
  let a : Int := labF (t / 16)
  let b : Int := labF (t / 16 + 1)
  a + ((b - a) * (t % 16 : Nat) + 8) / 16

/-- The t values of a pixel (R222). -/
def labT (mono : Bool) (n : List Nat) (p : Rgb) : Nat × Nat × Nat :=
  let row := fun k => min ((nth 0 n (3 * k) * p.1 + nth 0 n (3 * k + 1) * p.2.1 + nth 0 n (3 * k + 2) * p.2.2 + 8192) / 16384) 65535
  if mono then (p.1, p.1, p.1) else (row 0, row 1, row 2)

/-- Working RGB to CIELAB (R222). -/
def toLab (mono : Bool) (n : List Nat) (p : Rgb) : Lab :=
  if p.1 = void then none
  else
    let t := labT mono n p
    let fx := labInterp t.1
    let fy := labInterp t.2.1
    let fz := labInterp t.2.2
    some ((clampInt 0 65535 ((116 * fy + 32) / 64 - 8192)).toNat,
      clampInt (-32768) 32767 ((125 * (fx - fy) + 32) / 64), clampInt (-32768) 32767 ((25 * (fy - fz) + 16) / 32))

/-! ### One port's part of a line -/

/-- A port's index in its station. -/
def portIndex (k n : Nat) (s : State) : Nat := (s.station k).ports.findIdx (· = n)

/-- A colour change whose line has come is in force (R229). -/
def takeColour (n line : Nat) (s : State) : State :=
  modPmap n (fun m => match m.newColour with
    | some c => if c.1 ≤ line then { m with matrix := c.2.1, offs := c.2.2, newColour := none } else m
    | none => m) s

/-- The working RGB of every column a port covers, from FIRST, and the components clamped (R212-R214, R221). -/
def portColumns (k n pitch : Nat) (planes : List (List Nat)) (s : State) : Nat × List Rgb × Nat :=
  let m := s.pmap n
  let ps := groupPositions m
  match coverage pitch (widthAt k pitch s) ps with
  | none => (0, [], 0)
  | some (first, last) =>
    let gs := planes.map (groupValues m.bin)
    let cols := (List.range (last + 1 - first)).map fun d =>
      let i := columnIndex ps (columnCentre pitch (first + d))
      workRgb (s.station k).mono m.matrix m.offs (gs.map fun g => columnValue g i.1 i.2)
    (first, cols.map (·.1), sumNat (cols.map (·.2)))

/-- The columns [lo, hi) of a run that begins at column first; what it does not hold is VOID. -/
def sliceCols (first : Nat) (cols : List Rgb) (lo hi : Nat) : List Rgb :=
  (List.range (hi - lo)).map fun d => if lo + d < first then (void, void, void) else nth (void, void, void) cols (lo + d - first)

/-- One component blended across a seam (R216). -/
def blend1 (w wr l r : Nat) : Nat :=
  if w = 0 then l else ((4096 - wr) * l + wr * r + 2048) / 4096

/-- The blend of overlap column j (R216). -/
def blendRgb (x : Seam) (j : Nat) (l r : Rgb) : Rgb :=
  if l.1 = void then r
  else if r.1 = void then l
  else
    let wr := ((2 * (j - x.first) + 1) * 4096 + x.w) / (2 * x.w)
    (blend1 x.w wr l.1 r.1, blend1 x.w wr l.2.1 r.2.1, blend1 x.w wr l.2.2 r.2.2)

/-- A waiting line takes a neighbour's values: the overlap columns it owns are blended (R216, R217). -/
def blendLine (lo : Nat) (x : Seam) (v : SeamValues) (y : SeamLine) : SeamLine :=
  { y with
    own := y.own.zipIdx.map fun e =>
      let j := lo + e.2
      if v.first ≤ j && j < v.first + v.values.length then
        let o := nth (void, void, void) v.values (j - v.first)
        if v.fromLeft then blendRgb x j o e.1 else blendRgb x j e.1 o
      else e.1
    leftDue := y.leftDue && !v.fromLeft
    rightDue := y.rightDue && v.fromLeft }

/-- A line whose wait is over joins the station's line, or waits by itself where the station has gone on without it (R14, R217, R218). -/
def addPiece (k i : Nat) (y : SeamLine) (s : State) : State :=
  let st := s.station k
  let word : BitVec 3 := (if y.leftMissing then 1 else 0) ||| (if y.rightMissing then 2 else 0)
  let miss := y.leftMissing || y.rightMissing
  let rest := st.lines.filter fun x => x.head.line ≠ y.head.line
  let head := { y.head with planes := [] }
  let piece : Piece := { port := i, head := head, seam := word, voids := y.voids, px := y.own }
  let past := st.nextLine.any (y.head.line < ·)
  let x := match st.lines.find? fun x => x.head.line = y.head.line with
    | some x => { x with head := { x.head with flags := x.head.flags ||| y.head.flags }, seam := x.seam ||| word
                         pieces := x.pieces ++ [piece] }
    | none => { head := head, seam := word, pieces := [piece] }
  s.setStation k { st with
    lines := if past then st.lines else insertBy (fun x : StLine => x.head.line) x rest
    late := if past then st.late ++ [piece] else st.late
    seamMissing := if miss then sat 32 (st.seamMissing + 1) else st.seamMissing }

/-- The waiting lines of a port. -/
def waitingOf (k i : Nat) (s : State) : List SeamLine := Tab.get [] (s.station k).waiting i

def setWaiting (k i : Nat) (ys : List SeamLine) (s : State) : State :=
  modStation k (fun st => { st with waiting := Tab.set [] st.waiting i ys }) s

/-- Lines of a port that wait for nothing more go on, in order (R217). -/
def releaseLines (k i : Nat) : Nat → State → State
  | 0, s => s
  | fuel + 1, s =>
    match waitingOf k i s with
    | y :: rest => if y.leftDue || y.rightDue then s else releaseLines k i fuel (addPiece k i y (setWaiting k i rest s))
    | [] => s

/-- The wait for neighbours' values ends for the lines a test names (R217). -/
def endWaits (k i : Nat) (ended : Nat → Bool) (s : State) : State :=
  let ys := (waitingOf k i s).map fun y =>
    if ended y.head.line then
      { y with leftDue := false, rightDue := false
               leftMissing := y.leftMissing || y.leftDue, rightMissing := y.rightMissing || y.rightDue }
    else y
  releaseLines k i 64 (setWaiting k i ys s)

/-- The index of the neighbour of port i on one side. -/
def neighbour (i : Nat) (left : Bool) : Nat := if left then i - 1 else i + 1

/-- Is the neighbour of a station's port i on one side lost (R218)? -/
def neighbourLost (k i : Nat) (left : Bool) (s : State) : Bool :=
  match (s.station k).ports[neighbour i left]? with
  | some n => (s.pmap n).lost
  | none => false

/-- Values that had arrived before the owner's line are blended into it, unless their sender has been lost since (R217, R218, R223). -/
def takeArrived (k i n lo : Nat) (seams : List Seam) (y : SeamLine) (s : State) : SeamLine × State :=
  let st := s.station k
  let mine := st.ring.filter fun v => v.arrived && v.owner = n && v.line = y.head.line && !neighbourLost k i v.fromLeft s
  let y := mine.foldl (fun y v => blendLine lo (nth {} seams (if v.fromLeft then i - 1 else i)) v y) y
  (y, s.setStation k { st with ring := st.ring.filter fun v => !(v.arrived && v.owner = n && v.line = y.head.line) })

/-- A port's output line passes stage 4: columns, colour, the values for its neighbours, and the wait for theirs. -/
def stitchLine (k n : Nat) (out : OutLine) (s : State) : State :=
  let s := takeColour n out.line s
  let pitch := linePitch k out.line s
  let i := portIndex k n s
  let ports := (s.station k).ports
  let seams := seamsOf (portRanges k pitch s)
  let own := nth (0, 0) (ownedRanges k pitch s) i
  let pc := portColumns k n pitch out.planes s
  let left := if 0 < i then some (nth {} seams (i - 1)) else none
  let right := if i + 1 < ports.length then some (nth {} seams i) else none
  let lostL := left.isSome && neighbourLost k i true s
  let lostR := right.isSome && neighbourLost k i false s
  let toLeft : List SeamValues := match left with
    | some x => if x.b ≤ x.first then [] else
      [{ line := out.line, owner := nth 0 ports (i - 1), fromLeft := false, first := x.first
         values := sliceCols pc.1 pc.2.1 x.first (min x.b (x.last + 1)) }]
    | none => []
  let toRight : List SeamValues := match right with
    | some x => if x.last < x.b then [] else
      [{ line := out.line, owner := nth 0 ports (i + 1), fromLeft := true, first := x.b
         values := sliceCols pc.1 pc.2.1 x.b (x.last + 1) }]
    | none => []
  let needL := left.any fun x => x.b ≤ x.last
  let needR := right.any fun x => x.first < x.b
  let s := modStation k (fun st => { st with
    ring := st.ring ++ (toLeft ++ toRight).filter (fun v => !(s.pmap v.owner).lost)
    clamped := sat 32 (st.clamped + pc.2.2) }) s
  let y : SeamLine := {
    head := { out with planes := [] }
    voids := maskOf ((List.range out.planes.length).filter fun p => (nth [] out.planes p).all (· = void))
    own := sliceCols pc.1 pc.2.1 own.1 own.2
    leftDue := needL && !lostL, rightDue := needR && !lostR
    leftMissing := lostL, rightMissing := lostR }
  let r := takeArrived k i n own.1 seams y s
  let s := setWaiting k i (waitingOf k i r.2 ++ [r.1]) r.2
  let s := endWaits k i (fun m => m + 4 ≤ out.line) (releaseLines k i 64 s)
  if out.line % 256 = 255 || out.flags.getLsbD 5 then endWaits k i (fun m => m / 256 = out.line / 256) s else s

/-- Values arrive at a port's district: blended, kept for a line still to come, or discarded, as late ones are (R217, R218). While the seam
buffer of that side holds its 8 lines they stay on the ring (R223; DESIGN CHOICE, assumption 91). -/
def seamDeliver (n : Nat) (fromLeft : Bool) (line : Nat) (s : State) : State :=
  match stationOf n s with
  | none => s
  | some k =>
    let st := s.station k
    match st.ring.find? fun v => !v.arrived && v.owner = n && v.fromLeft = fromLeft && v.line = line with
    | none => s
    | some v =>
      let i := portIndex k n s
      let pitch := linePitch k line s
      let rest := st.ring.erase v
      let held := (rest.filter fun v => v.arrived && v.owner = n && v.fromLeft = fromLeft).length
      if neighbourLost k i fromLeft s then s.setStation k { st with ring := rest }
      else if (waitingOf k i s).any fun y => y.head.line = line then
        let seams := seamsOf (portRanges k pitch s)
        let lo := (nth (0, 0) (ownedRanges k pitch s) i).1
        let ys := (waitingOf k i s).map fun y =>
          if y.head.line = line then blendLine lo (nth {} seams (if fromLeft then i - 1 else i)) v y else y
        releaseLines k i 64 (setWaiting k i ys (s.setStation k { st with ring := rest }))
      else if (s.res n).nextLine ≤ line then
        if 8 ≤ held then s else s.setStation k { st with ring := rest ++ [{ v with arrived := true }] }
      else s.setStation k { st with ring := rest, seamLate := sat 32 (st.seamLate + 1) }

/-- A port of a station has been lost: its own lines wait no more and are gone, and its neighbours wait no more for its values (R218). -/
def dropSeams (k n : Nat) (s : State) : State :=
  let i := portIndex k n s
  let stop := fun (j : Nat) (left : Bool) (s : State) =>
    releaseLines k j 64 (setWaiting k j ((waitingOf k j s).map fun y =>
      if left then { y with leftDue := false, leftMissing := y.leftMissing || y.leftDue }
      else { y with rightDue := false, rightMissing := y.rightMissing || y.rightDue }) s)
  let s := setWaiting k i [] s
  let s := modStation k (fun st => { st with ring := st.ring.filter fun v => v.owner ≠ n }) s
  stop (i + 1) true (if 0 < i then stop (i - 1) false s else s)

/-- The districts of a station's line that have not got it. -/
def absentPieces (k : Nat) (x : StLine) (s : State) : List Nat :=
  (List.range (s.station k).ports.length).filter fun i => !x.pieces.any fun p => p.port = i

/-- Has a district gone past a line, or is its port lost, so that its piece will not come? -/
def piecePast (k i line : Nat) (s : State) : Bool :=
  let n := nth 0 (s.station k).ports i
  (s.pmap n).lost || (line < (s.res n).nextLine && !(waitingOf k i s).any fun y => y.head.line = line)

/-- The newest line the lead district has passed on to labelling, among those of the station that are not complete (R279). -/
def leadLine (k : Nat) (s : State) : Option Nat :=
  ((s.station k).lines.filter fun x => x.pieces.any (·.port = 0)).foldl (fun m x => some (max (m.getD 0) x.head.line)) none

/-- The oldest line of a station, if every district has it or none waits longer for it: the lead district is 16 lines past it, or it is the
lead's own part that is missing and another district is (R14, R279; DEDUCED, assumption 91). -/
def takeLine (k : Nat) (flush : Bool) (s : State) : Option (StLine × State) :=
  let st := s.station k
  match st.lines with
  | [] => none
  | x :: rest =>
    let absent := absentPieces k x s
    let late := (leadLine k s).any (x.head.line + 16 ≤ ·) || (absent.contains 0 && rest.any fun y => x.head.line + 16 ≤ y.head.line)
    if flush || late || absent.all (fun i => piecePast k i x.head.line s) then
      let lostAny := st.ports.any fun n => (s.pmap n).lost
      some ({ x with missing := absent.filter (fun i => !(s.pmap (nth 0 st.ports i)).lost)
                     seam := x.seam ||| (if lostAny then 4 else 0) },
        s.setStation k { st with lines := rest })
    else none

/-- The whole picture of a station's line: every column, VOID where no district has it. -/
def wholeLine (k : Nat) (x : StLine) (s : State) : List Rgb :=
  (ownedRanges k (linePitch k x.head.line s) s).zipIdx.flatMap fun e =>
    match x.pieces.find? fun p => p.port = e.2 with
    | some p => p.px
    | none => List.replicate (e.1.2 - e.1.1) (void, void, void)


/-- The rule table that waited for the block in progress to end is in force (R296). -/
def Seg.putRules (g : Seg) : Seg :=
  match g.newRules with
  | some x => { g with rules := x.2, newRules := none }
  | none => g

/-- Open blobs and what waits to be labelled go without entries; how many blobs they were (R74, R281). -/
def discardBlobs (k : Nat) (s : State) : Nat × State :=
  let g := s.seg k
  (g.blobs.length, s.setSeg k { g.putRules with
    blobs := [], split := [], frags := [], storm := none, stormRuns := 0, pending := [], findings := [], missingFrom := [], gaps := []
    labelled := none, gone := [], atCut := [] })

/-! ### Outlets (R224-R228) -/

/-- The sRGB encode table: E[n] rounded to nearest (R225; DESIGN CHOICE, assumption 15). -/
def srgbGo (n : Nat) : Nat → Nat → Nat
  | 0, e => e
  | i + 1, e =>
    let c := e + 2 ^ i
    if ((2 * c - 1) * 1000 + 450450) ^ 12 * 3072 ^ 5 ≤ 8640450 ^ 12 * n ^ 5 then srgbGo n i c else srgbGo n i e

/-- E of the sRGB transfer curve, clamped above reference white. -/
def srgbE (n : Nat) : Nat :=
  if 3072 ≤ n then 4095
  else if n ≤ 9 then (2 * 4095 * 1292 * n + 307200) / (2 * 307200)
  else min 4095 (srgbGo n 12 0)

/-- The encoded value of a code (R225). -/
def encodeE (table : List Nat) (v : Nat) : Nat :=
  let n := min v 65535 / 16
  if table = [] then srgbE n else nth 0 table n

/-- A column pair's luma weights and chroma weights: those of R', G' and B' at 219 and 224 steps, in 1/65,536 (R225; assumption 92). -/
def ycbcrCoef (format : Nat) : (Int × Int × Int) × (Int × Int × Int) × (Int × Int × Int) :=
  if format = 2 then ((4291363, 8424849, 1636172), (-2477054, -4862978, 7340032), (7340032, -6146361, -1193671))
  else ((3051317, 10264825, 1036242), (-1681926, -5658106, 7340032), (7340032, -6666994, -673038))

/-- Two outlet pixels as Y0 Cb Y1 Cr (R225). -/
def ycbcrPair (format : Nat) (a b : Nat × Nat × Nat) : List Byte :=
  let c := ycbcrCoef format
  let dot := fun (w : Int × Int × Int) (p : Nat × Nat × Nat) => w.1 * p.1 + w.2.1 * p.2.1 + w.2.2 * p.2.2
  let y := fun p => (clampInt 16 235 (16 + divHalfUp (dot c.1 p) (65536 * 4095))).toNat
  let sum := (a.1 + b.1, a.2.1 + b.2.1, a.2.2 + b.2.2)
  let ch := fun w => (clampInt 16 240 (128 + divHalfUp (dot w sum) (131072 * 4095))).toNat
  le 1 (y a) ++ le 1 (ch c.2.1) ++ le 1 (y b) ++ le 1 (ch c.2.2)

/-- A row's bytes, padded; plane selects the component of code 1. A pixel whose inputs were all VOID is black, whatever E holds (R224). -/
def outletRow (o : Outlet) (mono : Bool) (xyz : List Nat) (plane : Nat) (row : List Rgb) : List Byte :=
  let e := fun (p : Rgb) v => if p.1 = void then 0 else encodeE o.table v
  let e8 := fun p v => le 1 (min ((e p v + 8) / 16) 255)
  let bs := match o.set.format with
    | 0 => row.flatMap fun p => e8 p p.1 ++ e8 p p.2.1 ++ e8 p p.2.2
    | 1 => row.flatMap fun p => e8 p (if plane = 0 then p.1 else if plane = 1 then p.2.1 else p.2.2)
    | 4 => row.flatMap fun p => e8 p (labT mono xyz p).2.1
    | 5 => row.flatMap fun p => le 2 (if p.1 = void then 0 else (labT mono xyz p).2.1)
    | f => (chunksOf 2 row).flatMap fun q =>
      let code := fun p : Rgb => (e p p.1, e p p.2.1, e p p.2.2)
      match q with
      | [a, b] => ycbcrPair f (code a) (code b)
      | _ => []
  padTo (outletStride o.set) bs

/-- A frame's bytes: header and rows (R225, R226). -/
def outletFrame (i : Nat) (o : Outlet) (short : Bool) (s : State) : List Byte :=
  let st := s.station o.set.station
  let planes := if o.set.format = 1 then [0, 1, 2] else [0]
  le 1 i ++ le 1 o.set.format ++ le 1 o.set.station
    ++ le 1 (b2n o.pitchChanged + 2 * b2n short + 4 * b2n o.droppedBefore)
    ++ le 4 (o.set.cw / max o.set.sx 1) ++ le 2 o.rows.length ++ le 2 (outletStride o.set) ++ le 4 o.seq ++ le 8 o.firstLine
    ++ o.postmark.toBytes ++ le 2 o.lineFlags.toNat ++ le 2 o.seamFlags.toNat ++ le 4 (o.set.sx + 256 * o.set.sy) ++ zeros 16
    ++ planes.flatMap fun p => o.rows.flatMap (outletRow o st.mono st.xyz p)

/-- Does the teller withhold class First (R228)? -/
def firstWithheld (s : State) : Bool := s.teller.withheld.getLsbD 1

/-- The frame in progress ends: delivered, or dropped and counted (R226-R228); the next begins afresh. -/
def endFrame (i : Nat) (short : Bool) (s : State) : State :=
  let o := s.outlet i
  let clean : Outlet := { o with
    rows := [], acc := [], accLines := 0, lineFlags := 0, seamFlags := 0
    table := o.newTable.getD o.table, newTable := none }
  if o.rows = [] then s.setOutlet i clean
  else
    let r := if o.rateOver || firstWithheld s then (none, s) else pushBuffer o.set.mailbox o.seq (outletFrame i o short s) s
    let ok := r.1.isSome
    r.2.setOutlet i { clean with
      seq := wrap 32 (o.seq + 1)
      droppedBefore := !ok
      pitchChanged := o.pitchChanged && !ok
      sent := if ok then sat 32 (o.sent + 1) else o.sent
      dropped := if ok then o.dropped else sat 32 (o.dropped + 1)
      short := if short && ok then sat 32 (o.short + 1) else o.short }

/-- New settings of an outlet come into force: the frame in progress closes short (R229). -/
def takeOutletSet (i : Nat) (s : State) : State :=
  match (s.outlet i).newSet with
  | none => s
  | some x => modOutlet i (fun o => { o with set := x, newSet := none, started := none, pitch := none }) (endFrame i true s)

/-- Adds a line's pixel to the sums of an outlet pixel (R224). -/
def accPixel (a : Nat × Nat × Nat × Nat) (p : Rgb) : Nat × Nat × Nat × Nat :=
  if p.1 = void then a else (a.1 + 1, a.2.1 + p.1, a.2.2.1 + p.2.1, a.2.2.2 + p.2.2)

/-- The mean of an outlet pixel, or VOID where every input was (R224). -/
def accMean (a : Nat × Nat × Nat × Nat) : Rgb :=
  let m := fun v => (2 * v + a.1) / (2 * a.1)
  if a.1 = 0 then (void, void, void) else (m a.2.1, m a.2.2.1, m a.2.2.2)

/-- A station's line reaches an outlet (R224-R228). -/
def outletLine (i : Nat) (x : StLine) (px : List Rgb) (s : State) : State :=
  let o := s.outlet i
  let m := x.head.line
  let start := o.started.getD ((m + o.set.sy - 1) / max o.set.sy 1 * o.set.sy)
  let o := { o with started := some start, windowLines := o.windowLines + 1 }
  if m < start then s.setOutlet i o
  else
    let n := o.set.cw / max o.set.sx 1
    let cols := (px.drop o.set.c0).take o.set.cw
    let acc := if o.acc = [] then List.replicate n (0, 0, 0, 0) else o.acc
    let acc := (acc.zip (chunksOf (max o.set.sx 1) cols)).map fun e => e.2.foldl accPixel e.1
    let first : Bool := o.rows = [] && o.accLines = 0
    let o : Outlet := { o with
      acc := acc, accLines := o.accLines + 1
      firstLine := if first then m else o.firstLine
      postmark := if first then x.head.postmark else o.postmark
      lineFlags := o.lineFlags ||| x.head.flags, seamFlags := o.seamFlags ||| x.seam }
    if o.set.sy ≤ m + 1 - start && (m + 1 - start) % max o.set.sy 1 = 0 then
      let s := s.setOutlet i { o with rows := o.rows ++ [o.acc.map accMean], acc := [], accLines := 0 }
      if o.set.frameRows ≤ o.rows.length + 1 then endFrame i false s else s
    else s.setOutlet i o

/-- The multiple of n at or below x. -/
def floorTo (n x : Nat) : Nat := x / max n 1 * max n 1

/-- The pitch of a station changes under an outlet: the frame closes and the crop is scaled (R228). -/
def outletPitch (i old new : Nat) (s : State) : State :=
  let s := endFrame i true s
  modOutlet i (fun o =>
    let unit := if o.set.format = 2 || o.set.format = 3 then 2 * o.set.sx else o.set.sx
    { o with pitchChanged := true, started := none, pitch := some new
             set := { o.set with c0 := o.set.c0 * old / new, cw := floorTo unit (o.set.cw * old / new) } }) s

/-- The station whose block boundary an outlet's new settings wait for: its own, or where it taps none that runs, the one they name (R229). -/
def outletHost (i : Nat) (s : State) : Nat :=
  let o := s.outlet i
  if o.set.enable && (s.station o.set.station).nextLine.isSome then o.set.station else (o.newSet.getD o.set).station

/-- The outlets of a station take a line of it (R224); at a block's start new settings come first, and a crop counts at the line's pitch (R228). -/
def outletsLine (k : Nat) (x : StLine) (px : List Rgb) (s : State) : State :=
  let m := x.head.line
  let q := linePitch k m s
  (List.range 8).foldl (fun s i =>
    let s := if outletHost i s = k && (m % 256 = 0 || (s.station k).nextLine.isNone) then takeOutletSet i s else s
    let o := s.outlet i
    if o.set.enable && o.set.station = k then
      let old := o.pitch.getD q
      let s := if q ≠ old then outletPitch i old q s else modOutlet i (fun o => { o with pitch := some q }) s
      let s := outletLine i x px s
      if x.head.flags.getLsbD 5 then modOutlet i (fun o => { o with started := none }) (endFrame i true s) else s
    else s) s

/-- OUTLET_RATE_WINDOW: once a millisecond has passed, its lines are held against the computed rate (R227). -/
def outletWindow (i : Nat) (s : State) : State :=
  let o := s.outlet i
  if s.now < o.windowFrom + 1000000 then s
  else s.setOutlet i { o with
    rateOver := stationRate o.set.station s * (s.now - o.windowFrom) < 10 ^ 9 * o.windowLines, windowLines := 0, windowFrom := s.now }

/-- The outlets that tap a station stop: the frame in progress is sent short (R228). -/
def stopOutlets (k : Nat) (s : State) : State :=
  (List.range 8).foldl (fun s i =>
    if (s.outlet i).set.enable && (s.outlet i).set.station = k then
      modOutlet i (fun o => { o with started := none }) (endFrame i true s)
    else s) s

/-- A run ends or begins for a station: its outlets' frames end, and nothing is left on its ring or between its stages. -/
def clearStation (k : Nat) (s : State) : State :=
  modStation k (fun st => { st with waiting := [], ring := [], lines := [], late := [], nextLine := none }) (stopOutlets k s)

/-! ### A grid set anew (R189, R209, R561) -/

/-- Entry into CONFIGURE or CALIBRATE sets the provisional grids again; what was numbered on one before is gone (R561). -/
def enterProvisional (s : State) : State :=
  (List.range 4).foldl (fun s k =>
    let g := s.grid k
    let fresh := g.origin.isNone
    let s := if fresh then clearStation k s else s
    startRun k fresh (s.setGrid k { g with provisional := none })) s

/-- The steps in force by what the stations have applied (R383, R384). -/
def stepsApplied (s : State) : Nat :=
  let on := fun i => b2n ((List.range 4).any fun k => (s.decl k).applied.getLsbD i)
  on 0 + 2 * on 1

/-- A grid set anew has the pitch it is given: COARSE_PITCH is applied to its station no more, and its outlets' crops count at that pitch
(DESIGN CHOICE, assumption 111). -/
def stopCoarse (k : Nat) (s : State) : State :=
  let s := (List.range 8).foldl (fun s i =>
    if (s.outlet i).set.station = k then modOutlet i (fun o => { o with pitch := none }) s else s) s
  if (s.decl k).applied.getLsbD 1 || (s.decl k).due.isSome then
    let s := modDecl k (fun d => { d with applied := (d.due.map (·.2)).getD d.applied &&& 1, due := none }) s
    { s with teller := { s.teller with steps := stepsApplied s } }
  else s

/-- RESAMPLE_SET, opcode 0x0500. The last clause needs the pitch a loaded specimen was learned at. -/
def cmdResampleSet : CommandDef := {
  opcode := 0x0500
  modes := [.standby, .configure]
  lengths := [16]
  kinds := [0x30]
  multi := [0xFE]
  check := fun c k s =>
    if u16 c.p 0 < 80 || 3200 < u16 c.p 0 || 3 < u8 c.p 2 || 5 < u8 c.p 3 || u8 c.p 4 = 0 || 100 < u8 c.p 4 then stOutOfRange
    else if 1 < u8 c.p 5 || u16 c.p 6 ≠ 0 then stOutOfRange
    else if u8 c.p 5 = 0 && u64 c.p 8 ≠ 0 then stOutOfRange
    else if s64 c.p 8 < -(2 ^ 47) || 2 ^ 47 ≤ s64 c.p 8 then stOutOfRange
    else if (s.specimenPitch k).any (· ≠ u16 c.p 0) then stConflict
    else stDone
  commit := fun c s => .reply [] (c.targets.foldl (fun s k =>
    let g := s.grid k
    let fixed := u8 c.p 5 = 1
    let s := stopCoarse k (clearStation k s)
    let origin := if fixed then some (s64 c.p 8 * 2 ^ 16) else none
    let s := s.setGrid k { g with
      pitch := u16 c.p 0, oldPitch := 0, basePitch := u16 c.p 0, preset := u8 c.p 2, encoder := u8 c.p 3, stepPct := u8 c.p 4
      fixedOrigin := fixed, originGiven := s64 c.p 8
      origin := origin, p0 := origin, lineBase := 0, provisional := none, changes := []
      track := if g.encoder = u8 c.p 3 then g.track else [] }
    startRun k true s) s) }

/-! ### Commands (R229) -/

/-- The modes of the outlet commands. -/
def outletModes : List Mode :=
  [.standby, .configure, .calibrate, .learn, .inspect, .reduced, .shadow, .drain, .faultHold]

/-- STATION_SET, opcode 0x0510. A PORT_COUNT of 0 dissolves the station, and its WIDTH is then not looked at (DESIGN CHOICE, assumption 92). A
port that joins begins on the station's grid; a change that would raise the outlets above their share is refused (R25). -/
def cmdStationSet : CommandDef := {
  opcode := 0x0510
  modes := [.standby, .configure]
  lengths := [16]
  kinds := [0x30]
  check := fun c k s =>
    let cnt := u8 c.p 0
    let mono := u8 c.p 1 = 1
    let ps := (List.range cnt).map fun i => u8 c.p (8 + i)
    if 6 < cnt || 1 < u8 c.p 1 || u16 c.p 2 ≠ 0 || u16 c.p 14 ≠ 0 then stOutOfRange
    else if (ps.any fun n => 11 < n) || !ps.Nodup then stOutOfRange
    else if (List.range (6 - cnt)).any (fun i => u8 c.p (8 + cnt + i) ≠ 0xFF) then stOutOfRange
    else if cnt ≠ 0 && (u32 c.p 4 < 64 || 65536 < u32 c.p 4 || u32 c.p 4 % 64 ≠ 0) then stOutOfRange
    else if ps.any (fun n => (List.range 4).any fun j => j ≠ k && (s.station j).ports.contains n) then stConflict
    else if ps.any (fun n => let p := (s.port n).planes; !(if mono then p = 1 else p = 3 || p = 4)) then stConflict
    else if (s.specimenWidth k).any (· ≠ u32 c.p 4) then stConflict
    else if outletLimit < outletTotal (modStation k (fun st => { st with ports := ps }) s) then stOutOfRange
    else stDone
  commit := fun c s =>
    let k := c.target
    let cnt := u8 c.p 0
    let old := (s.station k).ports
    let s := clearStation k s
    let s := modStation k (fun st => { st with
      ports := (List.range cnt).map fun i => u8 c.p (8 + i)
      mono := u8 c.p 1 = 1, width := if cnt = 0 then 0 else u32 c.p 4 }) s
    .reply [] ((s.station k).ports.foldl (fun s n => startPort k (!old.contains n) s n) s) }

/-- Is a map strictly monotonic (R211)? -/
def monotone (xs : List Nat) : Bool :=
  (xs.zip (xs.drop 1)).all (fun e => e.1 < e.2) || (xs.zip (xs.drop 1)).all (fun e => e.2 < e.1)

/-- STITCH_MAP, opcode 0x0511. R212's spacing is judged at the pitch of the port's station, where it has one. -/
def cmdStitchMap : CommandDef := {
  opcode := 0x0511
  modes := [.standby, .configure]
  lenOk := fun p => p.length = 8 + 4 * u32 p 4
  kinds := [0x10]
  check := fun c n s =>
    let xs := (List.range (u32 c.p 4)).map fun i => u32 c.p (8 + 4 * i)
    if u8 c.p 0 = 0 || 4 < u8 c.p 0 || !zeroAt c.p 1 3 then stOutOfRange
    else if u32 c.p 4 ≠ (s.port n).pixels then stConflict
    else if !monotone xs then stOutOfRange
    else match stationOf n s with
      | some k => if spacingOk (s.grid k).pitch (groupPositions { bin := u8 c.p 0, map := xs }) then stDone else stOutOfRange
      | none => stDone
  commit := fun c s => .reply [] (modPmap c.target (fun m => { m with
    bin := u8 c.p 0, map := (List.range (u32 c.p 4)).map fun i => u32 c.p (8 + 4 * i) }) s) }

/-- COLOUR_MATRIX, opcode 0x0512. -/
def cmdColourMatrix : CommandDef := {
  opcode := 0x0512
  modes := [.standby, .configure, .calibrate, .inspect, .reduced]
  lengths := [32]
  kinds := [0x10]
  multi := [0xFE]
  check := fun c _ _ => if u16 c.p 30 ≠ 0 then stOutOfRange else stDone
  commit := fun c s => .reply [] (c.targets.foldl (fun s n =>
    let m := (List.range 12).map fun i => s16 c.p (2 * i)
    let o := (List.range 3).map fun i => s16 c.p (24 + 2 * i)
    let r := s.res n
    if r.started then modPmap n (fun x => { x with newColour := some ((r.nextLine + 255) / 256 * 256, m, o) }) s
    else modPmap n (fun x => { x with matrix := m, offs := o, newColour := none }) s) s) }

/-- COLOUR_XYZ, opcode 0x0513. -/
def cmdColourXyz : CommandDef := {
  opcode := 0x0513
  modes := [.standby, .configure]
  lengths := [20]
  kinds := [0x30]
  multi := [0xFE]
  check := fun c _ _ => if u16 c.p 18 ≠ 0 then stOutOfRange else stDone
  commit := fun c s => .reply [] (c.targets.foldl (fun s k =>
    modStation k (fun st => { st with xyz := (List.range 9).map fun i => u16 c.p (2 * i) }) s) s) }

/-- The settings an OUTLET_SET names. -/
def outletArgs (p : List Byte) : OutletSet :=
  { enable := u8 p 1 = 1, station := u8 p 2, format := u8 p 3, c0 := u32 p 4, cw := u32 p 8, sx := u8 p 12, sy := u8 p 13
    frameRows := u16 p 14, mailbox := u16 p 16 }


/-- OUTLET_SET, opcode 0x0514. -/
def cmdOutletSet : CommandDef := {
  opcode := 0x0514
  modes := outletModes
  lengths := [20]
  check := fun c _ s =>
    let x := outletArgs c.p
    if 7 < u8 c.p 0 || 1 < u8 c.p 1 || 3 < x.station || 5 < x.format || u16 c.p 18 ≠ 0 then stOutOfRange
    else if x.sx = 0 || 64 < x.sx || x.sy = 0 || 64 < x.sy || x.frameRows = 0 || 4096 < x.frameRows then stOutOfRange
    else if x.mailbox < 32 || 8191 < x.mailbox || x.cw = 0 then stOutOfRange
    else if x.cw % x.sx ≠ 0 || ((x.format = 2 || x.format = 3) && x.cw % (2 * x.sx) ≠ 0) then stOutOfRange
    else if widthAt x.station (pitchNow x.station s) s < x.c0 + x.cw then stOutOfRange
    else if outletLimit < outletTotal (modOutlet (u8 c.p 0) (fun o => { o with newSet := some x }) s) then stOutOfRange
    else stDone
  commit := fun c s =>
    let i := u8 c.p 0
    let s := modOutlet i (fun o => { o with newSet := some (outletArgs c.p) }) s
    .reply [] (if (s.station (outletHost i s)).nextLine.isSome then s else takeOutletSet i s) }

/-- OUTLET_TABLE, opcode 0x0515. -/
def cmdOutletTable : CommandDef := {
  opcode := 0x0515
  modes := outletModes
  lengths := [4, 8196]
  check := fun c _ _ =>
    if 7 < u8 c.p 0 || !zeroAt c.p 1 3 then stOutOfRange
    else if (List.range ((c.p.length - 4) / 2)).any (fun i => 4095 < u16 c.p (4 + 2 * i)) then stOutOfRange
    else stDone
  commit := fun c s =>
    let t := (List.range ((c.p.length - 4) / 2)).map fun i => u16 c.p (4 + 2 * i)
    .reply [] (modOutlet (u8 c.p 0) (fun o =>
      if o.rows = [] && o.accLines = 0 then { o with table := t, newTable := none } else { o with newTable := some t }) s) }

/-- STITCH_STATUS, opcode 0x0516. -/
def cmdStitchStatus : CommandDef := {
  opcode := 0x0516
  lengths := [4]
  kinds := [0x30]
  reads := true
  replyMax := fun _ => 64
  check := fun c _ _ => if 2 ≤ u8 c.p 0 || !zeroAt c.p 1 3 then stOutOfRange else stDone
  commit := fun c s =>
    let k := c.target
    let st := s.station k
    let pitch := pitchNow k s
    let chk := stationCheck k pitch s
    let ranges := portRanges k pitch s
    .reply (le 1 chk.1 ++ le 1 chk.2 ++ zeros 2 ++ le 4 (widthAt k pitch s)
        ++ padTo 24 (ranges.flatMap fun r => le 2 ((r.map (·.1)).getD 0) ++ le 2 ((r.map (·.2)).getD 0))
        ++ padTo 20 ((seamsOf ranges).flatMap fun x => le 4 x.b)
        ++ le 4 st.seamMissing ++ le 4 st.seamLate ++ le 4 st.clamped)
      (if (u8 c.p 0).testBit 0 then s.setStation k { st with seamMissing := 0, seamLate := 0, clamped := 0 } else s) }

/-- OUTLET_STATUS, opcode 0x0517. -/
def cmdOutletStatus : CommandDef := {
  opcode := 0x0517
  lengths := [4]
  reads := true
  replyMax := fun _ => 20
  check := fun c _ _ => if 7 < u8 c.p 0 || 2 ≤ u8 c.p 1 || u16 c.p 2 ≠ 0 then stOutOfRange else stDone
  commit := fun c s =>
    let i := u8 c.p 0
    let o := s.outlet i
    .reply (le 4 (outletRate o.set s) ++ le 4 o.sent ++ le 4 o.dropped ++ le 4 o.short
        ++ le 1 (b2n o.set.enable + 2 * b2n (o.set.enable && firstWithheld s)) ++ zeros 3)
      (if (u8 c.p 1).testBit 0 then s.setOutlet i { o with sent := 0, dropped := 0, short := 0 } else s) }

/-- The resampling, stitching and outlet capability, ID 0x0006 version 1: the body from offset 8 (R229). -/
def capStitch : List Byte :=
  [4, 4] ++ le 2 80 ++ le 2 3200 ++ [6, 8] ++ le 4 65536 ++ le 2 256 ++ [0x3F, 4] ++ le 4 24000 ++ zeros 4

end Sys2Proof.Machine
end

