-- ==== Sys2Proof/Machine/Register.lean ====
section
/-!
DEFINITION. Sys2Proof/Machine/Register.lean: registration and compare (chapter 11): the tracker (R252, R253), acquisition
(R254), the tile search (R255-R257), the field (R260), repeats (R259, R261), compare (R263-R266), the blank-area check of
R246 that stands in for it, the streak detector (R270, R271) and the commands of R274.
-/
namespace Sys2Proof.Machine

/-! ### Specimen units (R230) -/

/-- A CIELAB pixel in specimen units (R230). -/
def toPix8 (p : Lab) : Pix8 :=
  p.map fun x => ((clampInt 0 255 (((x.1 : Int) + 128) / 256)).toNat,
    (clampInt 0 255 ((x.2.1 + 64) / 128 + 128)).toNat, (clampInt 0 255 ((x.2.2 + 64) / 128 + 128)).toNat)

/-- dL8² + 4·da8² + 4·db8² of two pixels (R230). -/
def dist8 (a b : Nat × Nat × Nat) : Nat :=
  let d := fun (x y : Nat) => if x ≤ y then y - x else x - y
  d a.1 b.1 ^ 2 + 4 * d a.2.1 b.2.1 ^ 2 + 4 * d a.2.2 b.2.2 ^ 2

/-- A pixel of a specimen: lines wrap, columns take the nearest (R263). -/
def Specimen.at (sp : Specimen) (x y : Int) : SpecPix :=
  nth (0, 128, 128, 15) (nth [] sp.rows (y % (max sp.lines 1 : Nat)).toNat) (clampInt 0 ((sp.width : Int) - 1) x).toNat

/-- The tiles across and the tile rows of a specimen (R231). -/
def Specimen.tx (sp : Specimen) : Nat := sp.width / 64
def Specimen.ty (sp : Specimen) : Nat := (sp.lines + 63) / 64

/-- What registration works against: the loaded specimen, or in LEARN the anchor and, once it is loaded, the learned one
(R236, R243, R251). -/
def reference (k : Nat) (s : State) : Option Specimen :=
  if s.mode = .learn then (s.learn k).anchor <|> (s.learn k).loaded else (s.learn k).loaded

/-- REPEAT_LENGTH in 1/256 line of the pitch in force (R269), of the reference. -/
def repeatLength (k q : Nat) (s : State) : Nat :=
  if s.mode = .learn then (s.learn k).length
  else ((s.learn k).loaded.map fun sp => (divHalfUp (sp.length * sp.pitch : Nat) (max q 1)).toNat).getD 0

/-- REPEAT_LENGTH at the tracker's stretch (R259). -/
def stretched (len : Nat) (stretch : Int) : Int := divHalfUp ((len : Int) * (1000000 + stretch)) 1000000

/-- The predicted specimen line of output line m, in 1/16 (R252). -/
def predictLine (r : Reg) (m : Nat) : Int :=
  divHalfUp ((256 * (m : Int) - r.phase) * 1000000) (16 * (1000000 + r.stretch)).toNat

/-- The default thresholds (R266). -/
def defaultThresholds : List Thresholds :=
  ([(48, 32, 40, 24), (56, 36, 48, 28), (64, 40, 56, 32), (80, 48, 64, 40), (96, 64, 80, 48), (112, 72, 96, 56),
    (128, 80, 112, 64), (160, 96, 128, 80), (192, 112, 160, 96), (224, 128, 192, 112), (288, 160, 240, 128),
    (352, 192, 288, 160), (416, 240, 352, 192), (512, 288, 416, 240), (640, 352, 512, 288)].map
    fun x : Nat × Nat × Nat × Nat =>
      ({ seedDe := x.1, growDe := x.2.1, seedDl := x.2.2.1, growDl := x.2.2.2 } : Thresholds)) ++ [({} : Thresholds)]

/-- The thresholds of a class in force. -/
def Reg.threshold (r : Reg) (c : Nat) : Thresholds :=
  nth ({} : Thresholds) (if r.thresholds = [] then defaultThresholds else r.thresholds) c

/-! ### The tile search (R255-R257) -/

/-- The texture of a specimen tile, in 1/16 L8 (R257). -/
def tileTexture (sp : Specimen) (tx ty : Nat) : Nat :=
  let l := fun (x y : Nat) => (sp.at (64 * tx + x : Nat) (64 * ty + y : Nat)).1
  let d := fun (a b : Nat) => if a ≤ b then b - a else a - b
  let h := min 64 (sp.lines - 64 * ty)
  let across := (List.range h).flatMap fun y => (List.range 63).map fun x => d (l x y) (l (x + 1) y)
  let down := (List.range (h - 1)).flatMap fun y => (List.range 64).map fun x => d (l x y) (l x (y + 1))
  let n := across.length + down.length
  if n = 0 then 0 else (32 * (sumNat across + sumNat down) + n) / (2 * n)

/-- A live coordinate at pitch q on the specimen, and back: after a change of pitch both lie `correspondingly scaled` (R269). -/
def Specimen.toSpec (sp : Specimen) (q : Nat) (v : Int) : Int := divHalfUp (v * q) (max sp.pitch 1)
def Specimen.ofSpec (sp : Specimen) (q : Nat) (v : Int) : Int := divHalfUp (v * sp.pitch) (max q 1)

/-- The specimen's L8 at a position in 1/16: the four taps of R263, rounded to a code (R255; DEDUCED, assumption 94). -/
def lightAt (sp : Specimen) (xs ys : Int) : Nat :=
  let fx := xs % 16
  let fy := ys % 16
  let l := fun i j : Int => ((sp.at (xs / 16 + i) (ys / 16 + j)).1 : Int)
  (divHalfUp ((16 - fx) * (16 - fy) * l 0 0 + fx * (16 - fy) * l 1 0 + (16 - fx) * fy * l 0 1 + fx * fy * l 1 1) 256).toNat

/-- One line of a live tile: the pitch it lies on, its predicted specimen line in 1/16, the first of its columns, and their L8, none where
not valid (R255). -/
structure TileLine where
  pitch : Nat
  y16 : Int
  first : Nat
  vals : List (Option Nat)
  deriving DecidableEq, Repr

/-- The tile row in which a line of a repeat lies (R251). -/
def tileRow (sp : Specimen) (x : LabLine) : Int := sp.toSpec x.pitch x.y16 / 1024

/-- The first station column at pitch q of tile column tx (R251, R269). -/
def tileColumn (sp : Specimen) (q tx : Nat) : Nat := (64 * tx * sp.pitch + q - 1) / max q 1

/-- The live tile (tx, ty) among a repeat's lines, oldest first. A specimen pixel that DRAM cannot give makes its own invalid (R407). -/
def liveTile (sp : Specimen) (tx ty : Nat) (lines : List LabLine) : List TileLine :=
  (lines.filter fun x => tileRow sp x = (ty : Int)).map fun x =>
    let y := sp.toSpec x.pitch x.y16
    let first := tileColumn sp x.pitch tx
    { pitch := x.pitch, y16 := x.y16, first := first
      vals := ((x.px.drop first).take (tileColumn sp x.pitch (tx + 1) - first)).zipIdx.map fun e =>
        let c := divHalfUp (sp.toSpec x.pitch (16 * ((first + e.2 : Nat) : Int))) 16
        if y < 16 * (sp.lines : Int) && (sp.at c (divHalfUp y 16)).2.2.2 < 16 then e.1.map (·.1) else none }

/-- The absolute difference of two numbers. -/
def absDiff (a b : Nat) : Nat := if a ≤ b then b - a else a - b

/-- A valid pixel of a live tile: its line and column, and its L8. -/
structure TilePix where
  line : TileLine
  col : Nat
  v : Nat

/-- The valid pixels of some lines of a tile, columns from and up to. -/
def validPix (ls : List TileLine) (lo hi : Nat) : List TilePix :=
  ls.flatMap fun l => ((l.vals.zipIdx.drop lo).take (hi - lo)).filterMap fun e => e.1.map fun v => { line := l, col := l.first + e.2, v := v }

/-- The specimen under a live pixel: its predicted position, moved by a whole shift (R252, R255). -/
def underPix (sp : Specimen) (lateral dx dy : Int) (p : TilePix) : Nat :=
  lightAt sp (sp.toSpec p.line.pitch (16 * (p.col + dx) + lateral)) (sp.toSpec p.line.pitch (p.line.y16 + 16 * dy))

/-- A sum of differences scaled by 4,096 / n (R255). -/
def scaleSad (sum n : Nat) : Nat := if n = 0 then 0 else (2 * sum * 4096 + n) / (2 * n)

/-- SAD at a whole shift (R255). -/
def tileSad (sp : Specimen) (lateral : Int) (ps : List TilePix) (dx dy : Int) : Nat :=
  scaleSad (sumNat (ps.map fun p => absDiff p.v (underPix sp lateral dx dy p))) ps.length

/-- The blocks of 4 × 4 pixels of a tile, each as its valid pixels (R255). -/
def tileBlocks (t : List TileLine) : List (List TilePix) :=
  ((chunksOf 4 t).flatMap fun ls => (List.range 16).map fun b => validPix ls (4 * b) (4 * b + 4)).filter (!·.isEmpty)

/-- The level-1 SAD at a shift: the means of 4 × 4 pixels, times 16 (R255). A block that is valid in part counts with the mean of its valid
pixels (DESIGN CHOICE, assumption 94). -/
def blockSad (sp : Specimen) (lateral : Int) (bs : List (List TilePix)) (n : Nat) (dx dy : Int) : Nat :=
  16 * scaleSad (sumNat (bs.map fun b => absDiff (meanHalfUp (b.map (·.v))) (meanHalfUp (b.map (underPix sp lateral dx dy))))) n

/-- Is a shift before another under R255: less SAD, then smaller |dy|, |dx|, dy, dx? -/
def shiftBefore (a b : Nat × Int × Int) : Bool :=
  let key := fun x : Nat × Int × Int => [(x.1 : Int), x.2.2.natAbs, x.2.1.natAbs, x.2.2, x.2.1]
  decide (key a < key b)

/-- The best of some shifts. -/
def bestShift (xs : List (Nat × Int × Int)) : Option (Nat × Int × Int) :=
  xs.foldl (fun m x => match m with
    | none => some x
    | some y => if shiftBefore x y then some x else some y) none

/-- The refinement along one axis, in 1/16 pixel; none where it withdraws confidence (R256). -/
def refine (b : Int) (sm s0 sp : Nat) : Option Int :=
  let den : Int := 2 * ((sm : Int) - 2 * s0 + sp)
  if b.natAbs = 16 || den ≤ 0 then none else some (clampInt (-8) 8 (divHalfUp (16 * ((sm : Int) - sp)) den.toNat))

/-- The searched tile, if it is confident: displacement in 1/16 and Q (R255-R257). -/
def searchTile (set : RegSet) (texture : Nat) (sp : Specimen) (lateral : Int) (tx ty : Nat) (lines : List LabLine) : Option (Int × Int × Nat) :=
  let t := liveTile sp tx ty lines
  let ps := validPix t 0 64
  let bs := tileBlocks t
  if lines.any (fun x => x.bad && tileRow sp x = (ty : Int)) || ps.length < 1024 then none
  else
    let steps : List Int := [-16, -12, -8, -4, 0, 4, 8, 12, 16]
    let l1 := steps.flatMap fun dy => steps.map fun dx => (blockSad sp lateral bs ps.length dx dy, dx, dy)
    match bestShift l1 with
    | none => none
    | some b1 =>
      let near := fun c : Int => ([-2, -1, 0, 1, 2].map (c + ·)).filter fun v : Int => -16 ≤ v && v ≤ 16
      let l2 := (near b1.2.2).flatMap fun dy => (near b1.2.1).map fun dx => (tileSad sp lateral ps dx dy, dx, dy)
      match bestShift l2 with
      | none => none
      | some b =>
        let sad := tileSad sp lateral ps
        let far := l1.filter fun x => 4 < (x.2.1 - b1.2.1).natAbs || 4 < (x.2.2 - b1.2.2).natAbs
        let s0 := b.1
        let s2 := (far.map (·.1)).foldl min ((far.map (·.1)).headD 0)
        let q := if s2 ≤ s0 then 0 else min 255 ((2 * 256 * (s2 - s0) + s2) / (2 * s2))
        match refine b.2.1 (sad (b.2.1 - 1) b.2.2) s0 (sad (b.2.1 + 1) b.2.2),
              refine b.2.2 (sad b.2.1 (b.2.2 - 1)) s0 (sad b.2.1 (b.2.2 + 1)) with
        | some ex, some ey =>
          if set.textureMin ≤ texture && set.qMin ≤ q && s0 ≤ set.matchMax * 4096
            then some (16 * b.2.1 + ex, 16 * b.2.2 + ey, q) else none
        | _, _ => none

/-! ### The field (R260) -/

/-- The local shape of a tile: F of a confident tile, the Q-weighted mean around it, or NONE (R260). -/
def tileF (w h : Nat) (cur : List TileEntry) (cs : List (Int × Int)) (tx ty : Nat) : TileEntry :=
  let shape := fun x y : Nat =>
    let e := nth {} cur (y * w + x)
    let c := nth (0, 0) cs y
    (e.dx - c.1, e.dy - c.2, e.q)
  let e := nth {} cur (ty * w + tx)
  if e.confident then
    let f := shape tx ty
    { dx := f.1, dy := f.2.1, q := f.2.2, confident := true }
  else
    let around := (List.range 5).flatMap fun j => (List.range 5).filterMap fun i =>
      if tx + i < 2 || ty + j < 2 || w ≤ tx + i - 2 || h ≤ ty + j - 2 then none
      else if (nth {} cur ((ty + j - 2) * w + (tx + i - 2))).confident then some (shape (tx + i - 2) (ty + j - 2)) else none
    let q := sumNat (around.map (·.2.2))
    if q = 0 then { noField := true }
    else { dx := divHalfUp (sumInt (around.map fun a => a.1 * a.2.2)) q
           dy := divHalfUp (sumInt (around.map fun a => a.2.1 * a.2.2)) q, inherited := true }

/-- The smoothed tile (R260). -/
def tileFinal (w h elasticity : Nat) (cur : List TileEntry) (cs : List (Int × Int)) (tx ty : Nat) : TileEntry :=
  let f := tileF w h cur cs tx ty
  let ns := (List.range 3).flatMap fun j => (List.range 3).filterMap fun i =>
    if tx + i = 0 || ty + j = 0 || w < tx + i || h < ty + j then none
    else
      let g := tileF w h cur cs (tx + i - 1) (ty + j - 1)
      let pw := if i = 1 && j = 1 then 4 else if i = 1 || j = 1 then 2 else 1
      let cw := if g.confident then g.q else if g.inherited then 32 else 0
      some (pw * cw, g.dx, g.dy)
  let sw := sumNat (ns.map (·.1))
  if sw = 0 then f
  else
    let mx := divHalfUp (sumInt (ns.map fun n => (n.1 : Int) * n.2.1)) sw
    let my := divHalfUp (sumInt (ns.map fun n => (n.1 : Int) * n.2.2)) sw
    { f with dx := f.dx + ((mx - f.dx) * elasticity + 128) / 256, dy := f.dy + ((my - f.dy) * elasticity + 128) / 256 }

/-- The whole field of a repeat. -/
def wholeField (w h elasticity : Nat) (cur : List TileEntry) (cs : List (Int × Int)) : List TileEntry :=
  (List.range h).flatMap fun ty => (List.range w).map fun tx => tileFinal w h elasticity cur cs tx ty

/-- One axis of a bilinear look-up: tile index and fraction in 1/1,024 (R263). -/
def fieldAxis (n : Nat) (p16 : Int) : Nat × Int :=
  let u := p16 - 504
  if u < 0 then (0, 0)
  else if (n : Int) - 1 ≤ u / 1024 then (n - 1, 0)
  else ((u / 1024).toNat, u % 1024)

/-- The field's displacement at a predicted position, in 1/16 (R263). -/
def fieldAt (w h : Nat) (f : List TileEntry) (x16 y16 : Int) : Int × Int :=
  let a := fieldAxis w x16
  let b := fieldAxis h y16
  let e := fun x y : Nat => nth {} f (min y (h - 1) * w + min x (w - 1))
  let mix := fun g : TileEntry → Int =>
    divHalfUp ((g (e a.1 b.1) * (1024 - a.2) + g (e (a.1 + 1) b.1) * a.2) * (1024 - b.2)
      + (g (e a.1 (b.1 + 1)) * (1024 - a.2) + g (e (a.1 + 1) (b.1 + 1)) * a.2) * b.2) (2 ^ 20)
  (mix (·.dx), mix (·.dy))

/-! ### Compare (R263-R265, R275, R276) -/

/-- What stage 8 knows of one pixel: dE16 or dev, the differences, its severity and its bits. -/
structure CmpPix where
  de : Nat := 0
  dl : Int := 0
  da : Int := 0
  db : Int := 0
  sev : Nat := 0
  seed : Bool := false
  grow : Bool := false
  exempt : Bool := true
  deriving DecidableEq, Repr

/-- The compare word (R265). -/
def CmpPix.word (c : CmpPix) : Nat :=
  c.de + 4096 * b2n c.seed + 8192 * b2n c.grow + 16384 * b2n (c.dl < 0) + 32768 * b2n c.exempt

/-- Is a threshold on and reached (R265)? -/
def hits (t v : Nat) : Bool := t ≠ 0xFFFF && t ≤ v

/-- A term of the severity (R276). -/
def sevTerm (t v : Nat) : Nat := if t = 0xFFFF || t = 0 then 0 else (64 * v + t / 2) / t

/-- The warped values and the class at a specimen position in 1/16 (R263). -/
def warp (sp : Specimen) (xs ys : Int) : (Int × Int × Int) × Nat :=
  let fx := xs % 16
  let fy := ys % 16
  let x := xs / 16
  let y := ys / 16
  let p00 := sp.at x y
  let p10 := sp.at (x + 1) y
  let p01 := sp.at x (y + 1)
  let p11 := sp.at (x + 1) (y + 1)
  let w := fun f : SpecPix → Int => (16 - fx) * (16 - fy) * f p00 + fx * (16 - fy) * f p10 + (16 - fx) * fy * f p01 + fx * fy * f p11
  let c := if fy < 8 then (if fx < 8 then p00 else p10) else (if fx < 8 then p01 else p11)
  ((w fun p => p.1, (w (fun p => (p.2.1 : Int) - 128) + 1) / 2, (w (fun p => (p.2.2.1 : Int) - 128) + 1) / 2), c.2.2.2)

/-- ΔE16 of three differences (R264). -/
def deltaE16 (dl da db : Int) : Nat :=
  min ((isqrt (dl * dl + 16 * da * da + 16 * db * db).toNat + 16) / 32) 4095

/-- Compare of one pixel of a line at pitch q (R263-R265, R269). -/
def comparePixel (r : Reg) (sp : Specimen) (f : List TileEntry) (q : Nat) (y16 : Int) (col : Nat) (p : Lab) : CmpPix :=
  match p with
  | none => {}
  | some v =>
    let x16 : Int := 16 * (col : Int) + r.lateral
    let d := fieldAt sp.tx sp.ty f (sp.toSpec q x16) (sp.toSpec q y16)
    let w := warp sp (sp.toSpec q (x16 + d.1)) (sp.toSpec q (y16 + d.2) % (16 * max sp.lines 1 : Nat))
    let dl := (v.1 : Int) - w.1.1
    let da := v.2.1 - w.1.2.1
    let db := v.2.2 - w.1.2.2
    let de := deltaE16 dl da db
    let d16 := (dl + 16) / 32
    let t := r.threshold w.2
    let off := t.seedDe = 0xFFFF && t.growDe = 0xFFFF && t.seedDl = 0xFFFF && t.growDl = 0xFFFF
    let seed := hits t.seedDe de || hits t.seedDl d16.natAbs
    { de := de, dl := d16, da := (da + 4) / 8, db := (db + 4) / 8
      sev := min 255 (max (sevTerm t.seedDe de) (sevTerm t.seedDl d16.natAbs))
      seed := seed && !off, grow := (seed || hits t.growDe de || hits t.growDl d16.natAbs) && !off, exempt := off }

/-! ### The blank-area check (R246, R265, R275) -/

/-- The lower median of some numbers. -/
def lowerMedian (xs : List Nat) : Nat := nth 0 (sortBy id xs) ((xs.length - 1) / 2)

/-- ΔE in 1/16 of two pixels in specimen units: round (8 √D) (R230, R241). -/
def spread16 (a b : Nat × Nat × Nat) : Nat := (isqrt (256 * dist8 a b) + 1) / 2

/-- The blank-area words of one 64-column tile: its newest line against the tile of the last 64 lines (DEDUCED, assumption 18). -/
def blankTile (g : GoldenSet) (tile : List (List Pix8)) : List CmpPix :=
  let all := tile.flatMap fun l => l.filterMap id
  let med := (lowerMedian (all.map (·.1)), lowerMedian (all.map (·.2.1)), lowerMedian (all.map (·.2.2)))
  let near := (all.filter fun p => spread16 p med ≤ g.blankDe).length
  let ok := all ≠ [] && g.blankShare * all.length ≤ 100 * near
  (tile.headD []).map fun p => match p with
    | none => {}
    | some v =>
      let dev := spread16 v med
      { de := min dev 4095, dl := 8 * ((v.1 : Int) - med.1), da := 16 * ((v.2.1 : Int) - med.2.1), db := 16 * ((v.2.2 : Int) - med.2.2)
        sev := min 255 ((64 * min dev 4095 + g.blankDe / 2) / max g.blankDe 1)
        seed := ok && g.blankDe < dev, grow := ok && g.blankDe < 2 * dev, exempt := !ok }

/-- The blank-area words of a line, tile by tile; recent holds it first. -/
def blankLine (g : GoldenSet) (recent : List (List Pix8)) : List CmpPix :=
  if g.enable.getLsbD 1 then
    (List.range (((recent.headD []).length + 63) / 64)).flatMap fun t =>
      blankTile g (recent.map fun l => (l.drop (64 * t)).take 64)
  else (recent.headD []).map fun _ => {}

/-! ### Band profiles and correlation (R234, R254) -/

/-- The mean L8 of some pixels, in 1/256, rounded half up. -/
def meanL8 (xs : List Nat) : Nat := if xs = [] then 0 else (2 * 256 * sumNat xs + xs.length) / (2 * xs.length)

/-- The profile of a live line: eight bands (R234). -/
def liveProfile (px : List Pix8) : List Nat :=
  let w := px.length / 8
  (List.range 8).map fun b => meanL8 (((px.drop (b * w)).take w).filterMap fun p => p.map (·.1))

/-- The profile of a specimen line, class-15 pixels left out (R254). -/
def specProfile (row : List SpecPix) : List Nat :=
  let w := row.length / 8
  (List.range 8).map fun b => meanL8 ((((row.drop (b * w)).take w).filter fun p => p.2.2.2 ≠ 15).map (·.1))

/-- The band profile of a specimen, line by line of pitch q (R254, R269). -/
def specimenProfile (sp : Specimen) (prof : List (List Nat)) (q : Nat) : List (List Nat) :=
  (List.range (sp.ofSpec q sp.lines).toNat).map fun i => nth [] prof (min (sp.toSpec q i).toNat (sp.lines - 1))

/-- What is computed of a reference once, as a specimen is loaded or an anchor is complete: its textures and its band profile (R254, R257). -/
def prepareReference (k : Nat) (s : State) : State :=
  match reference k s with
  | some sp => modReg k (fun r => { r with
      textures := (List.range sp.ty).flatMap fun ty => (List.range sp.tx).map fun tx => tileTexture sp tx ty
      bandProfile := sp.rows.map specProfile }) s
  | none => s

/-- A, the lines of an acquisition window at pitch q (R254, R269). -/
def windowLines (sp : Specimen) (q : Nat) : Nat := min (sp.ofSpec q sp.lines).toNat 16384

/-- An integer square root of any size. -/
def bigSqrt (x : Nat) : Nat := isqrtGo x 128 0

/-- n times the sum of squares less the square of the sum. -/
def spreadOf (xs : List Nat) : Nat := xs.length * sumNat (xs.map fun x => x * x) - sumNat xs * sumNat xs

/-- Is a band flat: a standard deviation below 0.5 L8 (R234)? -/
def flatBand (xs : List Nat) : Bool := spreadOf xs < 128 * 128 * xs.length * xs.length

/-- The normalised cross-correlation of two equally long runs, in 1/2^20. -/
def nccBand (xs ys : List Nat) : Int :=
  let n := xs.length
  let cov : Int := (n * sumNat (xs.zipWith (· * ·) ys) : Nat) - (sumNat xs * sumNat ys : Nat)
  let den := bigSqrt (spreadOf xs * spreadOf ys)
  if den = 0 then 0 else divHalfUp (cov * 2 ^ 20) den

/-- The mean correlation over the bands that are not flat, in 1/2^20; none when every band is flat. -/
def nccMean (bands : List (List Nat × List Nat)) : Option Int :=
  let cs := (bands.filter fun b => !flatBand b.1).map fun b => nccBand b.1 b.2
  if cs = [] then none else some (divHalfUp (sumInt cs) cs.length)

/-- The vertex of a parabola through three values at -1, 0, 1, in 1/256, within half a step. -/
def vertex256 (cm c0 cp : Int) : Int :=
  let den := cm - 2 * c0 + cp
  if den < 0 then clampInt (-128) 128 (divHalfUp (-128 * (cm - cp)) (-den).toNat) else 0

/-- The best cyclic lag of a window on a specimen profile, with its correlation and refinement (R254). -/
def bestLag (win prof : List (List Nat)) : Option (Nat × Int × Int) :=
  let n := prof.length
  let a := win.length
  let col := fun (xs : List (List Nat)) (b : Nat) => xs.map fun l => nth 0 l b
  let c := fun t : Nat =>
    (nccMean ((List.range 8).map fun b => (col win b, ((col prof b).drop t ++ col prof b).take a))).getD (-(2 ^ 20))
  let cs := (List.range n).map c
  let best := cs.zipIdx.foldl (fun m e => match m with
    | none => some e
    | some x => if x.1 < e.1 then some e else some x) none
  best.map fun e => (e.2, e.1, vertex256 (nth 0 cs ((e.2 + n - 1) % max n 1)) e.1 (nth 0 cs ((e.2 + 1) % max n 1)))

/-! ### The streak detector (R270, R271) -/

/-- h of a column and the flatness of its context; none where the column does not count (R270). -/
def streakH (r : Reg) (sp : Specimen) (q : Nat) (y16 : Int) (labs : List Lab) (x : Nat) : Option (Int × Bool) :=
  let ctx := ((List.range 8).map fun (i : Nat) => (x : Int) - 24 + i) ++ ((List.range 8).map fun (i : Nat) => (x : Int) + 17 + i)
  let inside := 24 ≤ x && x + 24 < labs.length
  let vs := ctx.filterMap fun c => (nth none labs c.toNat).map (·.1)
  match nth none labs x with
  | none => none
  | some v =>
    if !inside || vs.length ≠ 16 || r.streakSet.ignore.any (fun g => g.1 ≤ x && x ≤ g.2) then none
    else
      let sorted := sortBy id vs
      let med := (nth 0 sorted 7 + nth 0 sorted 8 + 1) / 2
      let h := ((v.1 : Int) - med + 16) / 32
      let ls := ctx.map fun c => (sp.at (divHalfUp (sp.toSpec q (16 * c)) 16) (divHalfUp (sp.toSpec q y16) 16)).1
      let span := ls.foldl max 0 - ls.foldl min 255
      some (h, 8 * span ≤ r.streakSet.flat)

/-- The counts of one compared line join those of the repeat (R270). -/
def streakLine (r : Reg) (sp : Specimen) (q : Nat) (y16 : Int) (labs : List Lab) : List StreakCol :=
  let old := if r.streakNow = [] then labs.map fun _ => {} else r.streakNow
  old.zipIdx.map fun e => match streakH r sp q y16 labs e.2 with
    | some (h, true) =>
      { flat := e.1.flat + 1
        plus := e.1.plus + b2n ((r.streakSet.dl : Int) ≤ h), minus := e.1.minus + b2n (h ≤ -(r.streakSet.dl : Int))
        sumH := e.1.sumH + h }
    | _ => e.1

/-- Sums of the counts of a column over the ring. -/
def addStreak (a b : StreakCol) : StreakCol :=
  { flat := a.flat + b.flat, plus := a.plus + b.plus, minus := a.minus + b.minus, sumH := a.sumH + b.sumH }

/-- Is a column streaked with a sign (R271)? -/
def streaked (set : StreakSet) (dark : Bool) (c : StreakCol) : Bool :=
  set.minLines ≤ c.flat && set.coverPct * c.flat ≤ 100 * (if dark then c.minus else c.plus)

/-- Maximal runs of the columns at which a test holds: first and last. -/
def runsOf (xs : List Bool) : List (Nat × Nat) :=
  (xs.zipIdx.foldl (fun (acc : List (Nat × Nat)) e =>
    if e.1 then match acc with
      | (a, b) :: rest => if b + 1 = e.2 then (a, e.2) :: rest else (e.2, e.2) :: acc
      | [] => [(e.2, e.2)]
    else acc) []).reverse

/-- The sums of a ring, column by column; a repeat that was not compared has counted nothing (R271). -/
def ringTotal (ring : List (List StreakCol)) : List StreakCol :=
  (List.range (ring.foldl (fun n l => max n l.length) 0)).map fun x => (ring.map fun l => nth {} l x).foldl addStreak {}

/-- The streak ring and its sums (R272). -/
def Reg.withRing (r : Reg) (ring : List (List StreakCol)) : Reg := { r with streakRing := ring, streakSums := ringTotal ring }

/-- The streaks that a ring of so many repeats shows in its sums, light and dark (R271). -/
def ringStreaks (set : StreakSet) (maxCols repeats : Nat) (sums : List StreakCol) : List Streak :=
  if repeats < 8 then []
  else
    [false, true].flatMap fun dark =>
      ((runsOf (sums.map (streaked set dark))).filter fun r => r.2 + 1 - r.1 ≤ maxCols).map fun r =>
        let cs := (sums.drop r.1).take (r.2 + 1 - r.1)
        let f := sumNat (cs.map (·.flat))
        { first := r.1, last := r.2, dark := dark
          cover := (200 * sumNat (cs.map fun c => if dark then c.minus else c.plus) + f) / max (2 * f) 1
          mean := divHalfUp (sumInt (cs.map (·.sumH))) (max f 1) }

/-- Do two streaks stand for the same run: same sign and shared columns? -/
def sameStreak (a b : Streak) : Bool := a.dark = b.dark && a.first ≤ b.last && b.first ≤ a.last

/-- The streaks a ring shows against those that are tracked: each tracked one that persists, as it now is, each once; and the new ones
(R271; DEDUCED, assumption 94: a streak persists in a run of its sign that shares columns with it). -/
def matchStreaks (old now : List Streak) : List Streak × List Streak :=
  let r := now.foldl (fun (acc : List Streak × List Streak × List Streak) n =>
    match acc.1.find? (sameStreak n) with
    | some t => (acc.1.erase t, acc.2.1 ++ [{ n with found := t.found, since := t.since + 1 }], acc.2.2)
    | none => (acc.1, acc.2.1, acc.2.2 ++ [n])) (old, [], [])
  r.2

/-- SIGNATURE's lightness bits of a mean (R288). -/
def signBits (dl : Int) : Nat := if 0 < dl then 1 else if dl < 0 then 2 else 0

/-- The feature block of a streak finding (R285, R286). -/
def streakFeatures (origin : Nat) (firstLine length colFirst colLast de sev : Nat) (dl : Int) (dark : Bool) (segFlags : Nat) : List Byte :=
  let cols := colLast + 1 - colFirst
  le 8 firstLine ++ le 4 length ++ le 2 colFirst ++ le 2 colLast ++ le 4 (cols * length) ++ le 4 (cols * length) ++ zeros 8
    ++ le 2 de ++ le 2 de ++ le 1 sev ++ le 1 (signBits dl) ++ le 2 (min 4095 (16 * length / max cols 1))
    ++ les 2 dl ++ zeros 4 ++ le 1 origin ++ le 1 (b2n dark) ++ zeros 2 ++ le 2 segFlags ++ zeros 12

/-- The ports whose owned columns a run of columns touches, as a mask (R278, R286). -/
def portsOf (ranges : List (Nat × Nat)) (first last : Nat) : Nat :=
  maskOf ((ranges.zipIdx.filter fun e => e.1.1 ≤ last && first < e.1.2).map (·.2))

/-- The die that serves a station port (R16). -/
def portDie (k i : Nat) (s : State) : Nat := dieOf (s.route (nth 0 (s.station k).ports i))

/-- SEAM and DIE_SEAM of a set of station ports (R278). -/
def seamFlags (k mask : Nat) (s : State) : Nat :=
  let is := setIndices 6 mask
  if is.length ≤ 1 then 0
  else 1 + 2 * b2n (is.any fun i => portDie k i s ≠ portDie k (is.headD 0) s)

/-- At a repeat's end the streaks are judged: STREAK_FOUND, STREAK_CLEARED, the findings and the overflow (R271). -/
def judgeStreaks (k m : Nat) (s : State) : State :=
  let r := s.reg k
  let now := ringStreaks r.streakSet (s.learn k).golden.streakMaxCols r.streakRing.length r.streakSums
  let pairs := matchStreaks r.streaks now
  let kept := pairs.1
  let fresh := pairs.2.map fun n => { n with found := r.repeatNo }
  let gone := r.streaks.length - kept.length
  let room := 64 - kept.length
  let taken := fresh.take room
  let due := (kept.filter fun t => r.streakSet.repeats ≤ t.since) ++ taken
  let ranges := ownedRanges k (linePitch k m s) s
  let finding := fun t : Streak =>
    let mask := portsOf ranges t.first t.last
    (3, streakFeatures 3 r.first (m - r.first) t.first t.last (min 4095 t.mean.natAbs)
      (min 255 ((64 * t.mean.natAbs + r.streakSet.dl / 2) / max r.streakSet.dl 1)) t.mean t.dark (seamFlags k mask s), r.firstMark, r.lastMark)
  let s := s.setReg k { r with
    streaks := (kept.map fun t => if r.streakSet.repeats ≤ t.since then { t with since := 0 } else t) ++ taken
    streakOverflow := sat 16 (r.streakOverflow + (fresh.length - taken.length)) }
  let s := modSeg k (fun g => { g with findings := g.findings ++ due.map finding }) s
  let s := (List.range taken.length).foldl (fun s _ => raise 332 s) s
  (List.range gone).foldl (fun s _ => raise 333 s) s

/-! ### Rows and repeats (R258, R259, R261) -/

/-- UNREGISTERED, once per repeat (R273). -/
def raiseUnregistered (k : Nat) (s : State) : State :=
  if (s.reg k).unregRaised then s else raise 329 (modReg k (fun r => { r with unregRaised := true }) s)

end Sys2Proof.Machine
namespace Sys2Proof
open Machine

/-- Does compare run in the mode (R267)? -/
def Mode.compares : Mode → Bool
  | .inspect | .reduced | .shadow => true
  | _ => false

end Sys2Proof
namespace Sys2Proof.Machine

/-- The next tile row of the repeat is searched: the field, the tracker and the share of R261 follow (R258). -/
def registerRow (k : Nat) (s : State) : State :=
  match reference k s with
  | none => s
  | some sp =>
    let r := s.reg k
    let ty := r.rowsDone
    if sp.ty ≤ ty || !r.searched then s
    else
      let found := (List.range sp.tx).map fun tx => searchTile r.set (nth 0 r.textures (ty * sp.tx + tx)) sp r.lateral tx ty r.live.reverse
      let good := found.filterMap id
      let q := sumNat (good.map (·.2.2))
      let moves := 4 ≤ good.length
      let cx := if moves then divHalfUp (sumInt (good.map fun g => g.1 * g.2.2)) (max q 1) else 0
      let cy := if moves then divHalfUp (sumInt (good.map fun g => g.2.1 * g.2.2)) (max q 1) else 0
      let dp := if moves then -((cy * 16 * r.set.phaseGain + 128) / 256) else 0
      let dx := if moves then (cx * r.set.phaseGain + 128) / 256 else 0
      let conf := r.confident + good.length
      let low := 4 ≤ ty + 1 && 100 * conf < 30 * sp.tx * (ty + 1)
      let s := s.setReg k { r with
        cur := r.cur ++ found.map fun f => match f with
          | some d => { dx := d.1, dy := d.2.1, q := d.2.2, confident := true }
          | none => {}
        curC := r.curC ++ [(cx, cy)]
        phase := r.phase + dp, lateral := r.lateral + dx, sumDP := r.sumDP + dp
        rowsDone := ty + 1, confident := conf
        suspended := r.suspended || low
        live := if s.mode = .learn then r.live else r.live.filter fun x => (ty : Int) < tileRow sp x }
      if low && s.mode.compares && !r.suspended then raiseUnregistered k s else s

/-- All rows not yet registered (R259). -/
def registerRest (k : Nat) : Nat → State → State
  | 0, s => s
  | n + 1, s =>
    if (s.reg k).searched && (match reference k s with
      | some sp => (s.reg k).rowsDone < sp.ty
      | none => false) then registerRest k n (registerRow k s) else s

/-- Does output line m lie past the next row to register? -/
def rowPast (k m : Nat) (s : State) : Bool :=
  let r := s.reg k
  (r.state = .tracking || r.state = .coasting) && r.searched && match reference k s with
    | some sp => r.rowsDone < sp.ty && (r.rowsDone : Int) < sp.toSpec (linePitch k m s) (predictLine r m) / 1024
    | none => false

/-- The rows that line m leaves behind are registered before it goes on: a row's update applies from the next row's first line on (R258,
R268; DEDUCED, assumption 112: whenever within its 50 us the registration completes). -/
def registerPast (k m : Nat) : Nat → State → State
  | 0, s => s
  | n + 1, s => if rowPast k m s then registerPast k m n (registerRow k s) else s

/-- TILE_ROW_REGISTER: the row whose last output line has been issued is registered (R258). -/
def tileRowRegister (k : Nat) (s : State) : State :=
  match (s.station k).nextLine with
  | some m => if rowPast k m s then registerRow k s else s
  | none => s

/-- A pseudo-record of the repeat that ends, if one is due (R261). -/
def repeatPseudo (r : Reg) (m : Nat) (pct : Nat) (registered : Bool) : List Pseudo :=
  match r.susFirst with
  | some (a, pm) => [{ rep := r.repeatNo, first := a, last := (m : Int) - 1, pct := pct, cause := if r.searched then 0 else 1, mark := pm }]
  | none =>
    if r.searched && !registered then
      [{ rep := r.repeatNo, first := r.first, last := (r.first : Int) - 1, pct := pct, cause := 0, mark := r.firstMark.postmark }] else []

/-- A window of acquisition begins: the streak ring is cleared (R253, R254, R271). -/
def beginAcquire (r : Reg) : Reg :=
  { r with state := .acquire, window := [], susFirst := none, live := [], searched := false
           streakRing := [], streakSums := [], streakNow := [], prevRegistered := false }

/-- The repeat ends at line m (R259, R261, R271); in LEARN it is put before learning (R237). -/
def endRepeat (k m : Nat) (s : State) : State :=
  let s := registerRest k 8192 s
  let r := s.reg k
  let sp := (reference k s).getD {}
  let tiles := sp.tx * sp.ty
  let ok := r.searched && 30 * tiles ≤ 100 * r.confident
  let pct := if tiles = 0 || !r.searched then 0 else (200 * r.confident + tiles) / (2 * tiles)
  let len := repeatLength k (linePitch k m s) s
  let smeas := if len = 0 then 0 else divHalfUp (r.sumDP * 1000000) len
  let raw := r.stretch + (smeas * r.set.stretchGain + 128) / 256
  let st := if r.searched then clampInt (-20000) 20000 raw else r.stretch
  let coast := if !r.searched then r.coast else if ok then 0 else sat 8 (r.coast + 1)
  let lost := r.searched && !ok && r.state = .coasting && r.set.coastRepeats ≤ coast
  let field := wholeField sp.tx sp.ty r.set.elasticity r.cur r.curC
  let ring := if r.searched && s.mode.compares then (r.streakNow :: r.streakRing).take r.streakSet.repeats else r.streakRing
  let s := raiseIf (r.searched && st ≠ raw) 331 s
  let s := if r.searched && !ok then raiseUnregistered k s else s
  let s := if ring = r.streakRing then s else modReg k (·.withRing ring) s
  let s := if r.searched && s.mode.compares && r.streakSet.enable then judgeStreaks k m s else s
  let s := if s.mode = .learn && ((s.learn k).state = .stability || (s.learn k).state = .collecting) then
      modLearn k (fun l => { l with
        anchorIndex := l.anchorIndex + 1
        closed := l.closed ++ [{ pct := pct, stretch := st, lateral := r.lateral, confident := r.cur.map (·.confident)
                                 field := field, lines := r.live.reverse }] }) s
    else s
  let s := modReg k (fun q => { q with
    pseudos := if s.mode.compares then q.pseudos ++ repeatPseudo r m pct ok else q.pseudos
    stretch := st, coast := coast, confidentPct := if r.searched then pct else q.confidentPct
    unregRepeats := if r.searched && !ok then sat 32 (q.unregRepeats + 1) else q.unregRepeats
    state := if !r.searched then q.state else if ok then .tracking else .coasting
    prevRegistered := ok
    prev := if ok then some field else q.prev
    old := if ok then q.prev else q.old
    streakNow := [] }) s
  if lost then raise 330 (modReg k beginAcquire s)
  else modReg k (fun q =>
    let newSt := q.newStreak.getD q.streakSet
    let q := if q.newStreak.isSome then q.withRing [] else q
    { q with
      phase := q.phase + stretched len q.stretch
      repeatNo := if q.begun then wrap 32 (q.repeatNo + 1) else q.repeatNo
      begun := true, searched := (reference k s).isSome
      set := q.newSet.getD q.set, newSet := none
      streakSet := newSt, newStreak := none
      cur := [], curC := [], rowsDone := 0, confident := 0, sumDP := 0, live := [], susFirst := none
      first := m, unregRaised := false
      suspended := !q.prevRegistered || q.state = .coasting }) s

/-- A repeat has begun with line m: its first postmark, and UNREGISTERED when its compare starts suspended (R261, R273). -/
def openRepeat (k m : Nat) (pm : Postmark) (s : State) : State :=
  let s := modReg k (fun q => if q.first = m then { q with firstMark := { line := m, postmark := pm, rep := q.repeatNo } } else q) s
  if s.mode.compares && (s.reg k).suspended && (s.reg k).first = m then raiseUnregistered k s else s

/-- The repeats that line m has passed end (R259). -/
def passRepeats (k m : Nat) (pm : Postmark) : Nat → State → State
  | 0, s => s
  | n + 1, s =>
    let r := s.reg k
    let len := repeatLength k (linePitch k m s) s
    if (r.state = .tracking || r.state = .coasting) && 0 < len && r.phase + stretched len r.stretch ≤ 256 * (m : Int) then
      passRepeats k m pm n (openRepeat k m pm (endRepeat k m s))
    else s

/-! ### Acquisition (R254) -/

/-- A line in ACQUIRE: the window, and a pseudo-record for each REPEAT_LINES lines (R254, R261). -/
def acquireLine (k m : Nat) (unsettled : Bool) (pm : Postmark) (px : List Pix8) (s : State) : State :=
  let sp := (reference k s).getD {}
  let q := linePitch k m s
  let inspects := s.mode.compares
  modReg k (fun r =>
    let start := r.susFirst.getD (m, pm)
    let due := inspects && (sp.ofSpec q sp.lines).toNat ≤ m + 1 - start.1
    let full := windowLines sp q ≤ r.window.length
    { r with
      susFirst := if due || !inspects then none else some start
      pseudos := if due then r.pseudos ++ [{ rep := r.repeatNo, first := start.1, last := m, cause := 1, mark := start.2 }] else r.pseudos
      window := if unsettled then [] else if full then r.window else liveProfile px :: r.window
      windowFirst := if r.window = [] then m else r.windowFirst }) s

/-- ACQUIRE_DONE: the window is complete and is judged; the tracker is set, or a new window begins (R253, R254). P is that of the
repeat the line issued last lies in: the next one is the first that starts after acquisition. -/
def acquireDone (k : Nat) (s : State) : State :=
  let r := s.reg k
  let q := pitchNow k s
  match reference k s with
  | none => s
  | some sp =>
    if r.state ≠ .acquire || r.window = [] || r.window.length < windowLines sp q then s
    else match bestLag r.window.reverse (specimenProfile sp r.bandProfile q) with
      | none => s.setReg k { r with window := [] }
      | some (lag, c, d) =>
        if c < (r.set.acquireNcc * 1024 : Nat) then s.setReg k { r with window := [] }
        else
          let start := 256 * (r.windowFirst : Int) - (256 * lag + d)
          let issued := 256 * (((s.station k).nextLine.getD 0 : Int) - 1)
          let len : Int := repeatLength k q s
          raise 328 (s.setReg k { r with
          state := .tracking, phase := start + max 0 ((issued - start) / len) * len, stretch := 0, lateral := 0, coast := 0
          acquisitions := sat 32 (r.acquisitions + 1), window := [], searched := false, suspended := true, prevRegistered := false
          live := if s.mode = .learn then r.live else [], cur := [], curC := [], rowsDone := 0, confident := 0, sumDP := 0 })

/-! ### A line through stages 7 and 8 -/

/-- New thresholds are in force from a block boundary on (R267). -/
def takeThresholds (k m : Nat) (s : State) : State :=
  if m % 256 = 0 then modReg k (fun r => match r.newThresholds with
    | some t => { r with thresholds := t, newThresholds := none }
    | none => r) s
  else s

/-- What stage 8 makes of a line: its compare pixels, and its registration word (R262, R265). -/
structure Stage8 where
  pix : List CmpPix
  rep : Nat
  pos : Nat
  flags : BitVec 8
  deriving DecidableEq, Repr

/-- A line as its records will name it (R299). -/
def Stage8.mark (x : StLine) (r : Stage8) : LineMark :=
  { line := x.head.line, postmark := x.head.postmark, rep := r.rep, pos := r.pos, seam := x.seam, flags := x.head.flags, regFlags := r.flags }

/-- A row of the specimen is read for the compare of a line: mean and class of every tile (R231, R263, R409). -/
def specimenReads (k row : Nat) (sp : Specimen) (s : State) : State :=
  (List.range (sp.width / 64)).foldl (fun s tx =>
    let a := Config.specimenBase k + 64 + 14336 * (row / 64 * (sp.width / 64) + tx)
    let s := (List.range 3).foldl (fun s p => askDram false (a + 4096 * p + row % 64 * 64) 64 0 s) s
    askDram false (a + 12288 + row % 64 * 32) 32 0 s) s

/-- Stages 7 and 8 of a line of a station (R252-R268, R275). labs: its pixels; px: the same in specimen units. In repeats of fewer than four
tile rows no row of F_prev is final before the last row of the repeat before has been registered: their first tile row takes F_old, where there
is one (R260; DEDUCED, assumption 112). -/
def stage8 (k : Nat) (x : StLine) (labs : List Lab) (px : List Pix8) (s : State) : Stage8 × State :=
  let m := x.head.line
  let q := linePitch k m s
  let pm := x.head.postmark
  let s := takeThresholds k m s
  let s := modLearn k (fun l => { l with check := { l.check with recent := (px :: l.check.recent).take 64 } }) s
  let s := passRepeats k m pm 8 s
  let s := if (s.reg k).state = .acquire then acquireLine k m (x.head.flags.getLsbD 0) pm px s else s
  let s := registerPast k m 8192 s
  let r := s.reg k
  let l := s.learn k
  let tracks := r.state = .tracking || r.state = .coasting
  let y16 := predictLine r m
  let row := ((reference k s).map fun sp => sp.toSpec q y16 / 1024).getD 0
  let starts := tracks && r.begun && r.first = m
  let waits := r.rowWait && row = r.lastRow && !starts
  let susp := s.mode ≠ .learn && (r.state = .acquire || (tracks && r.suspended))
  let compares := s.mode.compares && tracks && !r.suspended && !waits && r.prev.isSome
  let older := compares && r.old.isSome && row ≤ 0 && (l.loaded.any fun sp => sp.ty < 4)
  let field := (if older then r.old else r.prev).getD []
  let pix := match compares, l.loaded with
    | true, some sp => labs.zipIdx.map fun e => comparePixel r sp field q y16 e.2 e.1
    | _, _ => if susp || s.mode = .learn then blankLine l.golden l.check.recent else labs.map fun _ => {}
  let s : State := match compares, l.loaded with
    | true, some sp => specimenReads k ((sp.toSpec q y16 / 16).toNat % max sp.lines 1) sp s
    | _, _ => s
  let streak := match compares, l.loaded with
    | true, some sp => if r.streakSet.enable then streakLine r sp q y16 labs else r.streakNow
    | _, _ => r.streakNow
  let flags : BitVec 8 := (if compares then 1 else 0) ||| (if susp then 2 else 0) ||| (if r.state = .acquire then 4 else 0)
    ||| (if r.state = .coasting then 8 else 0) ||| (if starts then 16 else 0) ||| (if older then 32 else 0)
  let live : LabLine := { line := m, pitch := q, y16 := y16, bad := x.head.flags.getLsbD 0 || x.head.flags.getLsbD 5, px := px }
  let keep := if s.mode = .learn then r.state ≠ .idle else tracks && r.searched
  let halts := susp && s.mode.compares && tracks && r.susFirst.isNone
  let s := if halts && r.begun then raiseUnregistered k s else s
  let out : Stage8 := { pix := pix, rep := r.repeatNo, pos := ofInt 24 (if tracks then ((reference k s).map fun sp => sp.toSpec q y16).getD y16 else 0), flags := flags }
  let s := s.setReg k { (s.reg k) with
    streakNow := streak
    live := if keep then live :: r.live else r.live
    susFirst := if halts then some (m, pm) else r.susFirst
    lastFlags := flags, rowWait := waits, lastRow := row
    firstMark := if tracks && r.first = m then out.mark x else r.firstMark, lastMark := out.mark x
    seedPixels := sat 64 (r.seedPixels + (pix.filter (·.seed)).length)
    growPixels := sat 64 (r.growPixels + (pix.filter (·.grow)).length) }
  (out, s)

/-! ### Entry and exit (R253, R269) -/

/-- The tracker goes IDLE; REPEAT starts anew (R253). -/
def regIdle (k : Nat) (s : State) : State :=
  modReg k (fun r => { r with
    state := .idle, begun := false, repeatNo := 0, phase := 0, stretch := 0, lateral := 0, coast := 0
    cur := [], curC := [], prev := none, old := none, rowsDone := 0, confident := 0, sumDP := 0, searched := false
    suspended := false, susFirst := none, prevRegistered := false, window := [], live := [], lastFlags := 0, rowWait := false, lastRow := 0 }) s

/-- Entry into a mode that compares: ACQUIRE for a station with a specimen (R253). -/
def regEnter (k : Nat) (s : State) : State :=
  if (s.learn k).loaded.isSome && (s.station k).ports ≠ [] then modReg k beginAcquire (regIdle k s) else regIdle k s

/-- A number scaled by a change of pitch (R269). -/
def scalePitch (old new : Nat) (x : Int) : Int := divHalfUp (x * old) (max new 1)

/-- The tracker and the fields are scaled at a pitch change (R269). P is counted from line m, the first on the new pitch, where the line
numbers of both pitches meet (R204; DEDUCED, assumption 95). An acquisition window begins anew. -/
def regPitch (k m old new : Nat) (s : State) : State :=
  let g := scalePitch old new
  let f := fun e : TileEntry => { e with dx := g e.dx, dy := g e.dy }
  modReg k (fun r => { r with
    phase := 256 * (m : Int) + g (r.phase - 256 * (m : Int)), lateral := g r.lateral, sumDP := g r.sumDP
    curC := r.curC.map (fun c => (g c.1, g c.2)), window := []
    prev := r.prev.map (·.map f), old := r.old.map (·.map f), cur := r.cur.map f }) s

/-! ### Commands (R274) -/

/-- The modes of REG_SET and STREAK_SET. -/
def regModes : List Mode := [.standby, .configure, .inspect, .reduced]

/-- The settings a REG_SET names. -/
def regArgs (p : List Byte) : RegSet :=
  { textureMin := u16 p 0, qMin := u8 p 2, matchMax := u8 p 3, elasticity := u16 p 4, phaseGain := u16 p 6
    stretchGain := u16 p 8, coastRepeats := u8 p 10, acquireNcc := u16 p 12 }

/-- Does a station's tracker run, so that changes wait for its next repeat (R267)? -/
def regRuns (k : Nat) (s : State) : Bool := (s.reg k).state ≠ .idle

/-- REG_SET, opcode 0x0610. -/
def cmdRegSet : CommandDef := {
  opcode := 0x0610
  modes := regModes
  lengths := [16]
  kinds := [0x30]
  multi := [0xFE]
  check := fun c _ _ =>
    let x := regArgs c.p
    if 4095 < x.textureMin || x.qMin = 0 || x.matchMax = 0 || 256 < x.elasticity || x.phaseGain < 16 || 256 < x.phaseGain then stOutOfRange
    else if 256 < x.stretchGain || x.coastRepeats = 0 || 8 < x.coastRepeats || x.acquireNcc < 512 || 1023 < x.acquireNcc then stOutOfRange
    else if u8 c.p 11 ≠ 0 || u16 c.p 14 ≠ 0 then stOutOfRange
    else stDone
  commit := fun c s => .reply [] (c.targets.foldl (fun s k =>
    if regRuns k s then modReg k (fun r => { r with newSet := some (regArgs c.p) }) s
    else modReg k (fun r => { r with set := regArgs c.p, newSet := none }) s) s) }

/-- The thresholds of entry i of a COMPARE_THRESHOLDS. -/
def thresholdArgs (p : List Byte) (i : Nat) : Thresholds :=
  { seedDe := u16 p (4 + 8 * i), growDe := u16 p (6 + 8 * i), seedDl := u16 p (8 + 8 * i), growDl := u16 p (10 + 8 * i) }

/-- Are thresholds in range, GROW not above SEED (R265)? -/
def Thresholds.ok (t : Thresholds) : Bool :=
  let one := fun v : Nat => v = 0xFFFF || (1 ≤ v && v ≤ 4095)
  let pair := fun sd gr : Nat => sd = 0xFFFF || gr = 0xFFFF || gr ≤ sd
  one t.seedDe && one t.growDe && one t.seedDl && one t.growDl && pair t.seedDe t.growDe && pair t.seedDl t.growDl

/-- The thresholds a station will hold, changes that wait included. -/
def Reg.wanted (r : Reg) : List Thresholds :=
  r.newThresholds.getD (if r.thresholds = [] then defaultThresholds else r.thresholds)

/-- A threshold table is given to a station: at once, or from the next block boundary (R267). -/
def giveThresholds (k : Nat) (t : List Thresholds) (s : State) : State :=
  if s.mode.inspects && (s.station k).nextLine.isSome then modReg k (fun r => { r with newThresholds := some t }) s
  else modReg k (fun r => { r with thresholds := t, newThresholds := none }) s

/-- COMPARE_THRESHOLDS, opcode 0x0611. -/
def cmdCompareThresholds : CommandDef := {
  opcode := 0x0611
  modes := [.standby, .configure, .learn, .inspect, .reduced]
  lengths := [132]
  kinds := [0x30]
  multi := [0xFE]
  check := fun c _ _ =>
    if u16 c.p 0 = 0 || u16 c.p 2 ≠ 0 then stOutOfRange
    else if (setIndices 16 (u16 c.p 0)).any (fun i => !(thresholdArgs c.p i).ok) then stOutOfRange
    else stDone
  commit := fun c s => .reply [] (c.targets.foldl (fun s k =>
    giveThresholds k ((s.reg k).wanted.zipIdx.map fun e =>
      if (u16 c.p 0).testBit e.2 then thresholdArgs c.p e.2 else e.1) s) s) }

/-- The IGNORE ranges of a STREAK_SET. -/
def ignoreArgs (p : List Byte) : List (Nat × Nat) :=
  (List.range (u8 p 9)).map fun i => (u16 p (16 + 4 * i), u16 p (18 + 4 * i))

/-- STREAK_SET, opcode 0x0612. -/
def cmdStreakSet : CommandDef := {
  opcode := 0x0612
  modes := regModes
  lengths := [80]
  kinds := [0x30]
  multi := [0xFE]
  check := fun c k s =>
    if 1 < u8 c.p 0 || u8 c.p 1 ≠ 0 || u16 c.p 2 < 8 || 256 < u16 c.p 2 || u16 c.p 4 < 4 || 1024 < u16 c.p 4 then stOutOfRange
    else if u16 c.p 6 < 4 || 1024 < u16 c.p 6 || u8 c.p 8 < 50 || 100 < u8 c.p 8 || 16 < u8 c.p 9 || u16 c.p 10 ≠ 0 then stOutOfRange
    else if u32 c.p 12 < 1000 || 100000000 < u32 c.p 12 then stOutOfRange
    else if (ignoreArgs c.p).any (fun g => g.2 < g.1 || (s.station k).width ≤ g.2) then stOutOfRange
    else if !zeroAt c.p (16 + 4 * u8 c.p 9) (64 - 4 * u8 c.p 9) then stOutOfRange
    else stDone
  commit := fun c s => .reply [] (c.targets.foldl (fun s k =>
    let x : StreakSet := {
      enable := u8 c.p 0 = 1, repeats := u16 c.p 2, dl := u16 c.p 4, flat := u16 c.p 6, coverPct := u8 c.p 8
      ignore := ignoreArgs c.p, minLines := u32 c.p 12 }
    if regRuns k s then modReg k (fun r => { r with newStreak := some x }) s
    else modReg k (fun r => { r with streakSet := x, newStreak := none, streakRing := [], streakSums := [] }) s) s) }

/-- The state's code (R274). -/
def RegState.code : RegState → Nat
  | .idle => 0 | .acquire => 1 | .tracking => 2 | .coasting => 3

/-- REG_STATUS, opcode 0x0613. -/
def cmdRegStatus : CommandDef := {
  opcode := 0x0613
  lengths := [4]
  kinds := [0x30]
  reads := true
  replyMax := fun _ => 48
  check := fun c _ _ => if 2 ≤ u8 c.p 0 || !zeroAt c.p 1 3 then stOutOfRange else stDone
  commit := fun c s =>
    let r := s.reg c.target
    .reply (le 1 r.state.code ++ le 1 (r.lastFlags.toNat % 4) ++ le 1 r.coast ++ le 1 r.confidentPct ++ le 4 r.repeatNo
        ++ les 8 r.phase ++ les 4 r.stretch ++ les 4 r.lateral ++ le 4 r.unregRepeats ++ le 4 r.acquisitions
        ++ le 8 r.seedPixels ++ le 8 r.growPixels)
      (if (u8 c.p 0).testBit 0 then
        s.setReg c.target { r with unregRepeats := 0, acquisitions := 0, seedPixels := 0, growPixels := 0 } else s) }

/-- STREAK_LIST, opcode 0x0614. -/
def cmdStreakList : CommandDef := {
  opcode := 0x0614
  lengths := [0]
  kinds := [0x30]
  reads := true
  replyMax := fun _ => 4 + 16 * 64
  commit := fun c s =>
    let r := s.reg c.target
    .reply (le 2 r.streaks.length ++ le 2 r.streakOverflow ++ r.streaks.flatMap fun t =>
      le 2 t.first ++ le 2 t.last ++ le 1 (b2n t.dark) ++ le 1 t.cover ++ les 2 t.mean ++ le 4 t.found ++ zeros 4) s }

/-- A field of REG_FIELD_READ: the current one as far as it has been searched, F_prev or F_old. -/
def readField (k which : Nat) (s : State) : Option (List TileEntry) :=
  let r := s.reg k
  match which with
  | 0 => if r.searched then (reference k s).map fun sp => wholeField sp.tx sp.ty r.set.elasticity r.cur r.curC else none
  | 1 => r.prev
  | _ => r.old

/-- REG_FIELD_READ, opcode 0x0615. The fields lie in DRAM: `fails` names a burst that cannot be corrected, which fails the command (R272, R407). -/
def cmdRegFieldRead : CommandDef := {
  opcode := 0x0615
  lengths := [8]
  kinds := [0x30]
  reads := true
  replyMax := fun c => 6 * 1024 * u16 c.p 4
  check := fun c k s =>
    if 2 < u8 c.p 0 || u8 c.p 1 ≠ 0 || u16 c.p 4 = 0 || 64 < u16 c.p 4 || u16 c.p 6 ≠ 0 then stOutOfRange
    else match readField k (u8 c.p 0) s, reference k s with
      | some _, some sp => if sp.ty < u16 c.p 2 + u16 c.p 4 then stOutOfRange else stDone
      | _, _ => stAbsent
  commit := fun c s =>
    let k := c.target
    match c.a.fails with
    | some a =>
      let beats := s.drawFree 65535
      .ended stHwFault [] (uncorrectableRead (a - a % 64) 1 (beats.1 + 1) beats.2)
    | none =>
    let w := ((reference k s).map (·.tx)).getD 0
    let es := ((readField k (u8 c.p 0) s).getD []).drop (w * u16 c.p 2)
    .reply ((es.take (w * u16 c.p 4)).flatMap fun e =>
      les 2 e.dx ++ les 2 e.dy ++ le 1 e.q ++ le 1 (b2n e.confident + 2 * b2n e.inherited + 4 * b2n e.noField)) s }

end Sys2Proof.Machine
end

