-- ==== Sys2Proof/Machine/DramSpace.lean ====
section
/-!
DEFINITION. Sys2Proof/Machine/DramSpace.lean: what the DRAM is given to (R78, R231, R245, R250, R303, R331, R432): the crop rings, the
specimens, the reservations of learning and recall, the networks of second look and the Courier user region.
-/
namespace Sys2Proof.Machine

/-- The bytes of a specimen of so many columns and lines: header and tiles (R231). -/
def specimenBytes (width lines : Nat) : Nat := 64 + width / 64 * ((lines + 63) / 64) * 14336

/-- The working memory of a learning station, slots and specimen (R245). -/
def learnBytes (width lines : Nat) : Nat := width / 64 * ((lines + 63) / 64) * (49152 + 14336)

/-- τmin, τmax, the window W and the profile length, from the settings and the pitch in 1/16 um (R234). -/
def searchRange (set : LearnSet) (pitch : Nat) : Nat × Nat × Nat × Nat :=
  let q := max pitch 1
  if set.options.getLsbD 2 then
    let n := (32 * set.nominal + q) / (2 * q)
    (98 * n / 100, (102 * n + 99) / 100, n, (202 * n + 99) / 100)
  else
    let hi := 16 * set.repeatMax / q
    ((16 * set.repeatMin + q - 1) / q, hi, hi, 2 * hi)

/-- The profile buffers of a learning station (R245). -/
def profileBytes (k : Nat) (s : State) : Nat := 32 * (searchRange (s.learn k).set (s.grid k).pitch).2.1

/-- What a learning station has reserved: the profile buffers from its entry on, its working memory from PERIOD_FOUND on (R245). -/
def reservedBytes (k : Nat) (s : State) : Nat :=
  let l := s.learn k
  match l.state with
  | .period => profileBytes k s
  | .stability | .collecting | .finalising => learnBytes (s.station k).width ((l.length + 128) / 256)
  | _ => 0

/-- The bytes of a specimen that a station holds, or none. -/
def heldBytes (x : Option Specimen) : Nat := (x.map fun sp => specimenBytes sp.width sp.lines).getD 0

/-- What a recall in progress will load (R248). -/
def recallBytes (k : Nat) (s : State) : Nat :=
  match (s.learn k).recalling with
  | some job => heldBytes ((vaultFind .specimen job s).bind (·.spec))
  | none => 0

/-- What a station's network takes (R331). -/
def networkBytes (k : Nat) (s : State) : Nat := (s.stLook k).image.length

/-- REPEAT_LINES of what a station registers against, or is about to: its specimen, one that it recalls, or what it learns; 0 for none. -/
def referenceLines (k : Nat) (s : State) : Nat :=
  let l := s.learn k
  let held := fun x : Option Specimen => (x.map (·.lines)).getD 0
  let recalled := held ((l.recalling.bind fun job => vaultFind .specimen job s).bind (·.spec))
  let learned := match l.state with
    | .stability | .collecting | .finalising => (l.length + 128) / 256
    | _ => 0
  max (max (held l.loaded) (held l.next)) (max recalled learned)

/-- What registration holds for a station: the three fields, the textures, the band profile, the streak ring and its sums (R272). -/
def registrationBytes (k : Nat) (s : State) : Nat :=
  let w := (s.station k).width
  match referenceLines k s with
  | 0 => 0
  | n => w / 64 * ((n + 63) / 64) * (3 * 6 + 2) + 8 * n * 2 + ((s.reg k).streakSet.repeats + 1) * w * 12

/-- What a station takes of the DRAM. -/
def stationBytes (k : Nat) (s : State) : Nat :=
  heldBytes (s.learn k).loaded + heldBytes (s.learn k).next + reservedBytes k s + recallBytes k s + networkBytes k s + registrationBytes k s

/-- The bytes in use: a crop ring for each port of a station, the user region and the stations (R231, R245, R272, R303, R432; the board of
four channels in chapter 18 counts the rings of the ports it uses; assumption 96). -/
def dramUse (s : State) : Nat :=
  (portsInUse s).length * (4096 * 52064) + s.host.userBytes + sumNat ((List.range 4).map fun k => stationBytes k s)
    + sumNat (s.sys.staged.map (·.dram))

/-- Do n more bytes fit? -/
def dramFits (n : Nat) (s : State) : Bool := dramUse s + n ≤ Config.dramCapacity

end Sys2Proof.Machine
end

