-- ==== Sys2Proof/Machine/HostLink.lean ====
section
/-!
DEFINITION. Sys2Proof/Machine/HostLink.lean: the host link (chapter 19): mailbox registers and doorbells (R413, R421-R424), errors
and resets of the link (R414, R422), the Courier (R425-R430) and the commands of R432.
-/
namespace Sys2Proof.Machine

def modHost (f : HostLink → HostLink) (s : State) : State := { s with host := f s.host }

def modBox (m : Nat) (f : Mailbox → Mailbox) (s : State) : State := s.setBox m (f (s.box m))

/-- A write ignored or out of range, counted by the owning block (R7, R423). -/
def hostFault (s : State) : State := modHost (fun h => { h with regFaults := h.regFaults + 1 }) s

/-! ### Mailboxes -/

/-- Does a function see a mailbox's registers? A mailbox from 32 on belongs to none while it is disabled (R413). -/
def boxAnswers (fn m : Nat) (b : Mailbox) : Bool := b.owner = fn || (32 ≤ m && !b.enable)

/-- Is a configuration one that ENABLE accepts (R415, R423, R424)? -/
def boxConfigOk (m : Nat) (b : Mailbox) : Bool :=
  4 ≤ b.sizeLog2 && b.sizeLog2 ≤ 16 && b.ring % 64 = 0 && b.wb % 8 = 0
    && (if m < 16 then b.kind = 0 else if m < 32 then b.kind = 1 else b.kind = 1 || b.kind = 2)

/-- A mailbox is enabled: both indices start at 0 (R415). -/
def Mailbox.start (b : Mailbox) : Mailbox :=
  { b with enable := true, producer := 0, consumer := 0, unsignalled := 0, timerFrom := none }

/-- A mailbox stops at once (R423). -/
def Mailbox.stop (b : Mailbox) : Mailbox := { b with enable := false, unsignalled := 0, timerFrom := none }

/-- The configuration fields of a mailbox, which only change while it is disabled (R423). -/
def Mailbox.config (b : Mailbox) : List Nat :=
  [b.ring, b.wb, b.kind, b.owner, b.sizeLog2, b.vector, b2n b.irqEn, b.coalesceCount, b.coalesceUs]

/-- BAD_DOORBELL (R421, R431). -/
def badDoorbell (m : Nat) (s : State) : State :=
  let shows := elapsed 1000000 s.host.badDoorbellAt s.now
  raiseIf shows 403 (modHost (fun h => { h with badDoorbellAt := if shows then some s.now else h.badDoorbellAt })
    (modBox m (fun b => { b with badDoorbell := true }) s))

/-- MAILBOX_DOORBELL: the host moves the index it owns (R421). -/
def doorbell (fn m v : Nat) (s : State) : State :=
  let b := s.box m
  if !boxAnswers fn m b then s
  else if !b.enable || !s.sys.fwRunning then badDoorbell m s
  else if b.kind = 1 then
    if (b.producer + 2 ^ 32 - v) % 2 ^ 32 ≤ b.held then s.setBox m { b with consumer := v } else badDoorbell m s
  else if (v + 2 ^ 32 - b.consumer) % 2 ^ 32 ≤ b.size then s.setBox m { b with producer := v }
  else badDoorbell m s

/-- A table entry with its configuration word +0x10 written; 3 in KIND, 0 above mailbox 31 and sizes out of range are out of range. -/
def boxControl (m v : Nat) (b : Mailbox) : Option Mailbox :=
  let b := if m < 32 then b else { b with kind := bits v 2 1, owner := bit v 3 }
  let b := { b with sizeLog2 := bits v 8 4, vector := bits v 14 9, irqEn := v.testBit 15 }
  if b.sizeLog2 < 4 || 16 < b.sizeLog2 || (32 ≤ m && (b.kind = 0 || b.kind = 3)) then none else some b

/-- A write of the configuration word: ENABLE clear stops the mailbox, ENABLE set checks it and starts it (R423). -/
def boxEnableWrite (m v : Nat) (s : State) : State :=
  let b := s.box m
  let w := boxControl m v b
  if b.enable then
    let s := if v.testBit 0 then s else s.setBox m b.stop
    if w.any (fun x => x.config = b.config) then s else hostFault s
  else match w with
    | none => hostFault s
    | some x =>
      if !v.testBit 0 then s.setBox m x
      else if boxConfigOk m x then s.setBox m x.start
      else hostFault (s.setBox m x)

/-- A half of a 64-bit value written. -/
def putHalf (high : Bool) (x v : Nat) : Nat :=
  if high then x % 2 ^ 32 + v % 2 ^ 32 * 2 ^ 32 else x / 2 ^ 32 * 2 ^ 32 + v % 2 ^ 32

/-- A write to a mailbox's table entry (R424). -/
def boxWrite (fn m off v : Nat) (s : State) : State :=
  let b := s.box m
  if !boxAnswers fn m b then s
  else if off = 0x10 then boxEnableWrite m v s
  else if off = 0x20 then s.setBox m { b with
    badDoorbell := b.badDoorbell && !v.testBit 0, fetchError := b.fetchError && !v.testBit 1, fullSeen := b.fullSeen && !v.testBit 2 }
  else if off = 0x18 || off = 0x1C || 0x20 < off then s
  else if b.enable then hostFault s
  else
    match off with
    | 0x00 => if v % 64 = 0 then s.setBox m { b with ring := putHalf false b.ring v } else hostFault s
    | 0x04 => s.setBox m { b with ring := putHalf true b.ring v }
    | 0x08 => if v % 8 = 0 then s.setBox m { b with wb := putHalf false b.wb v } else hostFault s
    | 0x0C => s.setBox m { b with wb := putHalf true b.wb v }
    | 0x14 => s.setBox m { b with coalesceCount := bits v 15 0, coalesceUs := bits v 31 16 }
    | _ => s

/-- A word of a mailbox's table entry (R424); the other function reads zero (R413). -/
def boxWord (fn m off : Nat) (s : State) : Nat :=
  let b := s.box m
  if !boxAnswers fn m b then 0
  else match off with
    | 0x00 => b.ring % 2 ^ 32
    | 0x04 => b.ring / 2 ^ 32
    | 0x08 => b.wb % 2 ^ 32
    | 0x0C => b.wb / 2 ^ 32
    | 0x10 => b2n b.enable + 2 * b.kind + 8 * b.owner + 2 ^ 4 * b.sizeLog2 + 2 ^ 9 * b.vector + 2 ^ 15 * b2n b.irqEn
    | 0x14 => b.coalesceCount + 2 ^ 16 * b.coalesceUs
    | 0x18 => b.producer
    | 0x1C => b.consumer
    | 0x20 => b2n b.badDoorbell + 2 * b2n b.fetchError + 4 * b2n b.fullSeen
    | 0x24 => b.dropped
    | _ => 0

/-- MSIX_COALESCE_TIMER (R420). -/
def coalesceTimer (m : Nat) (s : State) : State :=
  let b := s.box m
  match b.timerFrom with
  | some u =>
    if b.enable && b.irqEn && u + b.coalesceUs * 1000 ≤ s.now then
      sendMsix b.owner b.vector (s.setBox m { b with unsignalled := 0, timerFrom := none })
    else s
  | none => s

/-- HOST_MEMORY_ERROR: a read or write of a mailbox's host memory fails (R422). -/
def hostMemoryError (m : Nat) (s : State) : State :=
  let b := s.box m
  if !b.enable then s
  else
    let shows := elapsed 1000000 s.host.fetchErrorAt s.now
    raiseIf shows 404 (modHost (fun h => { h with
        fetchErrorAt := if shows then some s.now else h.fetchErrorAt, uncorrectable := sat 32 (h.uncorrectable + 1) })
      (s.setBox m { b.stop with fetchError := true }))

/-! ### The Courier: registers and starts (R425-R427, R430) -/

def State.courier (s : State) (k : Nat) : CourierCh := Tab.get {} s.host.couriers k

def State.setCourier (k : Nat) (x : CourierCh) (s : State) : State :=
  modHost (fun h => { h with couriers := Tab.set {} h.couriers k x }) s

def modCourier (k : Nat) (f : CourierCh → CourierCh) (s : State) : State := s.setCourier k (f (s.courier k))

/-- Fields of the configuration word (R430). -/
def CourierCh.cfg (x : CourierCh) (hi lo : Nat) : Nat := bits x.config.toNat hi lo

def CourierCh.mode (x : CourierCh) : Nat := x.cfg 8 6
def CourierCh.planes (x : CourierCh) : Nat := x.cfg 10 9 + 1
def CourierCh.shift (x : CourierCh) : Int := toInt 5 (x.cfg 15 11)
def CourierCh.srcHost (x : CourierCh) : Bool := x.config.getLsbD 17
def CourierCh.dstHost (x : CourierCh) : Bool := x.config.getLsbD 18

/-- A width code's bits (R427). -/
def widthBits (code : Nat) : Nat := nth 0 [8, 10, 12, 16, 32, 64] code

/-- A side of a channel: planes, elements in each, bits of each element, and whether it is a single run (R427). -/
structure Side where
  planes : Nat
  elements : Nat
  width : Nat
  single : Bool
  deriving DecidableEq, Repr

def CourierCh.source (x : CourierCh) : Side :=
  let w := widthBits (x.cfg 2 0)
  match x.mode with
  | 2 => { planes := 1, elements := x.planes * x.count, width := w, single := true }
  | 3 => { planes := 1, elements := x.count, width := w, single := true }
  | 4 => { planes := widthBits (x.cfg 5 3), elements := x.count, width := 1, single := false }
  | _ => { planes := x.planes, elements := x.count, width := w, single := false }

def CourierCh.dest (x : CourierCh) : Side :=
  let w := widthBits (x.cfg 5 3)
  match x.mode with
  | 1 => { planes := 1, elements := x.planes * x.count, width := w, single := true }
  | 3 => { planes := widthBits (x.cfg 2 0), elements := x.count, width := 1, single := false }
  | 4 => { planes := 1, elements := x.count, width := w, single := true }
  | _ => { planes := x.planes, elements := x.count, width := w, single := false }

/-- The bytes of one plane's run. -/
def Side.run (d : Side) : Nat := (d.elements * d.width + 7) / 8

/-- The bytes from the first of a side to its last. -/
def Side.span (d : Side) (stride : Nat) : Nat := if d.single then d.run else (d.planes - 1) * stride + d.run

/-- The byte ranges of a side: one for each plane's run, start and length (R426, R427). -/
def Side.ranges (d : Side) (base stride : Nat) : List (Nat × Nat) :=
  if d.single then [(base, d.run)] else (List.range d.planes).map fun p => (base + p * stride, d.run)

/-- Have two sides a byte in common (R426)? -/
def sidesMeet (xs ys : List (Nat × Nat)) : Bool :=
  xs.any fun a => ys.any fun b => a.1 < b.1 + b.2 && b.1 < a.1 + a.2

/-- Does a range lie in what its space allows: host memory, the device's address map, or the user region (R426)? -/
def rangeOk (host writes : Bool) (start len : Nat) (s : State) : Bool :=
  if host then start + len ≤ 2 ^ 64
  else if writes then s.host.userBase ≤ start && start + len ≤ s.host.userBase + s.host.userBytes
  else start + len ≤ Config.dramCapacity

/-- Is a combination of MODE, PLANES, widths and SHIFT one of R427? -/
def courierConfigOk (x : CourierCh) : Bool :=
  x.mode ≤ 4 && x.cfg 2 0 ≤ 5 && x.cfg 5 3 ≤ 5
    && (x.mode < 3 || (x.planes = 1 && x.shift = 0 && (if x.mode = 3 then x.cfg 2 0 ≤ 3 else x.cfg 5 3 ≤ 3)))

/-- The ERR_CODE of a start, 0 when it may run (R426). -/
def startError (x : CourierCh) (s : State) : Nat :=
  let a := x.source
  let b := x.dest
  let la := a.span x.srcStride
  let lb := b.span x.dstStride
  if x.count = 0 || !rangeOk x.srcHost false x.src la s || !rangeOk x.dstHost true x.dst lb s
    || (!a.single && 1 < a.planes && x.srcStride < a.run) || (!b.single && 1 < b.planes && x.dstStride < b.run) then 1
  else if !courierConfigOk x then 2
  else if x.srcHost = x.dstHost && sidesMeet (a.ranges x.src x.srcStride) (b.ranges x.dst x.dstStride) then 3
  else if (!x.srcHost || !x.dstHost) && (s.dramCh 0).selfRefresh then 7
  else if (x.srcHost || x.dstHost) && !s.host.up then 6
  else 0

/-- The task input that started a channel's run, if one did (R362). -/
def courierTask (k : Nat) (x : CourierCh) : Option Nat := if x.byTask then some (8 + k) else none

/-- A start is checked, and the channel runs from its registers as they stand (R426). -/
def courierRun (byTask : Bool) (k : Nat) (s : State) : State :=
  let x := s.courier k
  let e := startError x s
  if e = 0 then s.setCourier k { x with busy := true, errCode := 0, doneCount := 0, moved := 0, waited := 0, byTask := byTask }
  else raiseBy (if byTask then some (8 + k) else none) 401 (s.setCourier k { x with error := true, errCode := e })

/-- COURIER_START, by the control word or by task input 8 + k (R425). -/
def courierStart (byTask : Bool) (k : Nat) (s : State) : State :=
  let x := s.courier k
  if !x.busy then courierRun byTask k s
  else if !x.pending then s.setCourier k { x with pending := true, pendingTask := byTask }
  else
    let shows := elapsed 1000000 s.host.courierMissedAt s.now
    let s := modHost (fun h => { h with courierMissedAt := if shows then some s.now else h.courierMissedAt })
      (s.setCourier k { x with missed := true, missedCount := sat 32 (x.missedCount + 1) })
    if shows then raiseBy (if byTask then some (8 + k) else none) 402 s else s

/-- COURIER_STOP: the channel ends at its burst boundary; between two commands no burst is in progress (R425). -/
def courierStop (k : Nat) (s : State) : State :=
  let x := s.courier k
  if x.busy then s.setCourier k { x with busy := false, pending := false, stopped := true } else s

/-- Every channel stops, as on entry into STANDBY or SENTRY (R425). -/
def stopCouriers (s : State) : State := (List.range 64).foldl (fun s k => courierStop k s) s

/-- The function a channel belongs to (R425). -/
def courierOwner (k : Nat) : Nat := k / 32

/-- A write to a channel's registers (R425, R430); the other function's writes are ignored (R413). -/
def courierWrite (fn k off v : Nat) (s : State) : State :=
  let x := s.courier k
  if fn ≠ courierOwner k then s
  else if off = 0x20 then
    let s := if v.testBit 0 then courierStart false k s else s
    if v.testBit 1 then courierStop k s else s
  else if 0x34 ≤ off then s
  else if x.busy then s.setCourier k { x with ignored := true }
  else
    match off with
    | 0x00 => s.setCourier k { x with src := putHalf false x.src v }
    | 0x04 => s.setCourier k { x with src := putHalf true x.src v }
    | 0x08 => s.setCourier k { x with dst := putHalf false x.dst v }
    | 0x0C => s.setCourier k { x with dst := putHalf true x.dst v }
    | 0x10 => s.setCourier k { x with count := v }
    | 0x14 => s.setCourier k { x with srcStride := v }
    | 0x18 => s.setCourier k { x with dstStride := v }
    | 0x1C =>
      if 5 < bits v 2 0 || 5 < bits v 5 3 || 4 < bits v 8 6 || bits v 15 11 = 16 then hostFault s
      else s.setCourier k { x with config := BitVec.ofNat 24 v }
    | 0x24 => s.setCourier k { x with
        done := x.done && !v.testBit 2, error := x.error && !v.testBit 3, stopped := x.stopped && !v.testBit 4
        ignored := x.ignored && !v.testBit 5, missed := x.missed && !v.testBit 6 }
    | _ => s

/-- A word of a channel's registers (R430). -/
def courierWord (fn k off : Nat) (s : State) : Nat :=
  let x := s.courier k
  if fn ≠ courierOwner k then 0
  else match off with
    | 0x00 => x.src % 2 ^ 32
    | 0x04 => x.src / 2 ^ 32
    | 0x08 => x.dst % 2 ^ 32
    | 0x0C => x.dst / 2 ^ 32
    | 0x10 => x.count
    | 0x14 => x.srcStride
    | 0x18 => x.dstStride
    | 0x1C => x.config.toNat
    | 0x24 => b2n x.busy + 2 * b2n x.pending + 4 * b2n x.done + 8 * b2n x.error + 16 * b2n x.stopped + 32 * b2n x.ignored
        + 64 * b2n x.missed + 2 ^ 8 * x.errCode
    | 0x28 => x.doneCount
    | 0x2C => x.missedCount
    | 0x30 => x.completions
    | _ => 0

/-! ### The Courier: bursts (R427-R429) -/

/-- A byte of a space: host memory, the user region, or what the device keeps elsewhere in DRAM, whose places no rule gives:
a free value. -/
def spaceByte (host : Bool) (draw a : Nat) (s : State) : Byte :=
  if host then Mem.read s.hostMem a
  else if s.host.userBase ≤ a && a < s.host.userBase + s.host.userBytes then Mem.read s.dramMem a
  else Config.freeByte draw a

/-- Element i of plane p of the source (R427). -/
def sourceElement (x : CourierCh) (draw p i : Nat) (s : State) : Nat :=
  let d := x.source
  let at_ := x.src + (if d.single then 0 else p * x.srcStride)
  let lo := d.width * i
  let bytes := (List.range ((lo + d.width + 7) / 8 - lo / 8)).map fun j => spaceByte x.srcHost draw (at_ + lo / 8 + j) s
  ofLe bytes / 2 ^ (lo % 8) % 2 ^ d.width

/-- An element shifted and cut to the destination's width (R427). -/
def holdElement (x : CourierCh) (v : Nat) : Nat :=
  let w := x.dest.width
  let y := if 0 ≤ x.shift then v * 2 ^ x.shift.toNat else v / 2 ^ (-x.shift).toNat
  if x.config.getLsbD 16 then min y (2 ^ w - 1) else y % 2 ^ w

/-- Element j of plane q of the destination (R427). -/
def destElement (x : CourierCh) (draw q j : Nat) (s : State) : Nat :=
  match x.mode with
  | 1 => holdElement x (sourceElement x draw (j % x.planes) (j / x.planes) s)
  | 2 => holdElement x (sourceElement x draw 0 (x.planes * j + q) s)
  | 3 => bit (sourceElement x draw 0 j s) q
  | 4 => sumNat ((List.range x.source.planes).map fun b => sourceElement x draw b j s * 2 ^ b)
  | _ => holdElement x (sourceElement x draw q j s)

/-- Bytes of plane q of the destination from offset o on; the bits past its last element are free. -/
def destBytes (x : CourierCh) (draw q o len : Nat) (s : State) : List Byte :=
  let d := x.dest
  let first := 8 * o / d.width
  let last := (8 * (o + len) + d.width - 1) / d.width
  let v := sumNat ((List.range (last - first)).map fun j =>
    (if first + j < d.elements then destElement x draw q (first + j) s
     else Config.free (draw + first + j) % 2 ^ d.width) * 2 ^ (d.width * j))
  le len (v / 2 ^ (8 * o - d.width * first))

/-- The bytes a whole run writes. -/
def CourierCh.total (x : CourierCh) : Nat := x.dest.planes * x.dest.run

/-- Is a channel ready for a burst slot? -/
def courierReady (x : CourierCh) : Bool := x.busy && x.moved < x.total

/-- The channel a burst slot serves (R428): one that has waited 32 slots, oldest first; else the highest priority, round-robin. -/
def pickCourier (s : State) : Option Nat :=
  let ready := (List.range 64).filter fun k => courierReady (s.courier k)
  let late := ready.filter fun k => 32 ≤ (s.courier k).waited
  match late with
  | k :: rest => some (rest.foldl (fun b j => if (s.courier b).waited < (s.courier j).waited then j else b) k)
  | [] =>
    let prio := fun k => (s.courier k).cfg 20 19
    let top := (ready.map prio).foldl max 0
    let set := ready.filter fun k => prio k = top
    let last := Tab.get 0 s.host.courierRr top
    ((set.filter fun k => last ≤ k) ++ set).head?

/-- Elements of each plane complete after so many bytes of a run (R430). -/
def elementsDone (x : CourierCh) (moved : Nat) : Nat :=
  let d := x.dest
  let inLast := 8 * (moved - (d.planes - 1) * d.run) / d.width
  let n := min d.elements inLast
  if x.mode = 1 then n / x.planes else n

/-- The source burst that holds the first element a burst at byte `off` of destination plane q needs (R427). -/
def burstSource (x : CourierCh) (q off : Nat) : Nat :=
  let j := 8 * off / x.dest.width
  let e : Nat × Nat := match x.mode with
    | 1 => (j % x.planes, j / x.planes)
    | 2 => (0, x.planes * j + q)
    | 3 | 4 => (0, j)
    | _ => (q, j)
  let a := x.src + (if x.source.single then 0 else e.1 * x.srcStride) + x.source.width * e.2 / 8
  a - a % 64

/-- COURIER_BURST: the chosen channel moves a burst of at most 512 bytes; the lanes in error that a read of device DRAM meets are the
operand. -/
def courierBurst (errors : List (BitVec 40)) (s : State) : State :=
  if workHeld 1 s then s
  else match pickCourier s with
    | none => s
    | some k =>
      let x := s.courier k
      let d := x.dest
      let q := x.moved / max 1 d.run
      let off := x.moved % max 1 d.run
      let a := x.dst + (if d.single then 0 else q * x.dstStride) + off
      let len := min (min 512 (d.run - off)) (if x.dstHost then 4096 - a % 4096 else 512)
      let from_ := burstSource x q off
      let waiting := (List.range 64).filter fun j => j ≠ k && courierReady (s.courier j)
      let s := waiting.foldl (fun s j => modCourier j (fun y => { y with waited := y.waited + 1 }) s) s
      let s := modHost (fun h => { h with courierRr := Tab.set 0 h.courierRr (x.cfg 20 19) (k + 1) }) s
      let r := if x.srcHost then (ReadOutcome.clean, s)
        else readBurst from_ 1 errors (askDram false from_ (len * x.source.width / max 1 d.width) 1 s)
      let s := r.2
      match r.1 with
      | .uncorrectable _ =>
        raiseBy (courierTask k x) 401 (modCourier k (fun y => { y with
            busy := false, pending := false, error := true, errCode := 4, doneCount := elementsDone x x.moved }) s)
      | _ =>
        let bs := destBytes x s.sys.free q off len s
        let s : State := { s with sys := { s.sys with free := s.sys.free + 1 } }
        let s : State := if x.dstHost then s.writeHost a bs else askDram true a bs.length 1 { s with dramMem := Mem.writeN s.dramMem a bs }
        modCourier k (fun y => { y with
          moved := x.moved + len, waited := 0, doneCount := elementsDone x (x.moved + len) }) s

/-- An address moved on after a completed run (R429). -/
def advanced (on : Bool) (a : Nat) (d : Side) : Nat := if on then (a + d.run) % 2 ^ 64 else a

/-- A run completes (R429); a start held as PENDING runs at once. -/
def courierComplete (k : Nat) (s : State) : State :=
  let x := s.courier k
  let s := s.setCourier k { x with
    busy := false, pending := false, done := true, doneCount := x.count, completions := wrap 32 (x.completions + 1)
    src := advanced (x.config.getLsbD 21) x.src x.source
    dst := advanced (x.config.getLsbD 22) x.dst x.dest }
  let s := if x.config.getLsbD 23 then raiseBy (courierTask k x) 400 s else s
  if x.pending then courierRun x.pendingTask k s else s

/-- A channel stops at a burst that failed, and a start held as PENDING goes with it (R429; DEDUCED, assumption 37). -/
def courierFails (k code : Nat) (s : State) : State :=
  let x := s.courier k
  raiseBy (courierTask k x) 401 (s.setCourier k { x with busy := false, pending := false, error := true, errCode := code })

/-- COURIER_RUN_DONE: the last burst has completed, or a burst met a host error (R429). -/
def courierRunDone (k : Nat) (hostError : Bool) (s : State) : State :=
  let x := s.courier k
  if !x.busy then s
  else if hostError then
    (if x.srcHost || x.dstHost then courierFails k 5 (modHost (fun h => { h with uncorrectable := sat 32 (h.uncorrectable + 1) }) s) else s)
  else if x.total ≤ x.moved then courierComplete k s
  else s

/-! ### Resets of the host link (R414) -/

/-- A function's mailboxes are disabled. -/
def stopBoxes (q : Nat → Mailbox → Bool) (s : State) : State :=
  (s.host.boxes.map (·.1)).foldl (fun s m => if (s.box m).enable && q m (s.box m) then modBox m Mailbox.stop s else s) s

/-- FUNCTION_LEVEL_RESET of function f: its mailboxes, its channels and its MSI-X table; nothing else. -/
def functionReset (f : Nat) (s : State) : State :=
  let s := stopBoxes (fun _ b => b.owner = f) s
  let s := (List.range 64).foldl (fun s k =>
    let x := s.courier k
    if courierOwner k = f && x.busy then s.setCourier k { x with busy := false, pending := false, stopped := true, errCode := 7 } else s) s
  modHost (fun h => { h with
    msixTable := h.msixTable.filter fun e => e.1 / 2048 ≠ f
    flrs := sat 32 (h.flrs + 1) }) s

/-- HOST_LINK_DOWN: every mailbox and every channel that uses host memory stops; the event is raised. -/
def linkDown (s : State) : State :=
  if !s.host.up then s
  else
    let s := stopBoxes (fun _ _ => true) s
    let s := (List.range 64).foldl (fun s k =>
      let x := s.courier k
      if x.busy && (x.srcHost || x.dstHost) then courierFails k 6 s else s) s
    raise 405 (modHost (fun h => { h with up := false, speed := 0, width := 0, linkDowns := sat 32 (h.linkDowns + 1) }) s)

/-! ### Commands (R432) -/

/-- The table entry MAILBOX_SET asks for. -/
def boxArgs (p : List Byte) (b : Mailbox) : Mailbox :=
  { b with
    kind := u8 p 2
    owner := u8 p 3
    sizeLog2 := u8 p 4
    vector := if u8 p 5 = 0xFF then b.vector else u8 p 5
    irqEn := u8 p 5 ≠ 0xFF
    ring := u64 p 8
    wb := u64 p 16
    coalesceCount := u16 p 24
    coalesceUs := u16 p 26 }

/-- MAILBOX_SET, opcode 0x0C00. -/
def cmdMailboxSet : CommandDef := {
  opcode := 0x0C00
  lengths := [32]
  check := fun c _ s =>
    let m := u16 c.p 0
    let b := s.box m
    if m < 32 || 8191 < m || u8 c.p 2 < 1 || 2 < u8 c.p 2 || 1 < u8 c.p 3 || u8 c.p 4 < 4 || 16 < u8 c.p 4
      || (63 < u8 c.p 5 && u8 c.p 5 ≠ 0xFF) || 1 < u8 c.p 6 || u8 c.p 7 ≠ 0 || u64 c.p 8 % 64 ≠ 0 || u64 c.p 16 % 8 ≠ 0
      || !zeroAt c.p 28 4 then stOutOfRange
    else if b.enable && (boxArgs c.p b).config ≠ b.config then stConflict
    else stDone
  commit := fun c s =>
    let m := u16 c.p 0
    let b := s.box m
    let x := boxArgs c.p b
    .reply [] (if b.enable then (if u8 c.p 6 = 0 then s.setBox m b.stop else s)
      else s.setBox m (if u8 c.p 6 = 1 then x.start else x)) }

/-- MAILBOX_STATUS, opcode 0x0C01. -/
def cmdMailboxStatus : CommandDef := {
  opcode := 0x0C01
  lengths := [4]
  reads := true
  replyMax := fun _ => 16
  check := fun c _ _ => if 8191 < u16 c.p 0 || u16 c.p 2 ≠ 0 then stOutOfRange else stDone
  commit := fun c s =>
    let b := s.box (u16 c.p 0)
    .reply (le 4 b.producer ++ le 4 b.consumer ++ le 4 b.dropped
      ++ le 1 (b2n b.badDoorbell + 2 * b2n b.fetchError + 4 * b2n b.fullSeen) ++ le 1 b.kind ++ le 1 b.owner ++ le 1 (b2n b.enable)) s }

/-- COURIER_SET, opcode 0x0C02. -/
def cmdCourierSet : CommandDef := {
  opcode := 0x0C02
  modes := [.standby, .configure]
  lengths := [8]
  replyMax := fun _ => 8
  check := fun c _ s =>
    let n := u64 c.p 0
    if n % 2 ^ 20 ≠ 0 || Config.dramCapacity / 2 < n then stOutOfRange
    else if (List.range 64).any (fun k => (s.courier k).busy) then stBusy
    else if Config.dramCapacity < dramUse s - s.host.userBytes + n then stNoSpace
    else stDone
  reserves := fun c _ s => (u64 c.p 0 - s.host.userBytes, 0, 0)
  commit := fun c s =>
    let n := u64 c.p 0
    let base := if n = 0 then 0 else Config.userBase n % (Config.dramCapacity - n + 1)
    .reply (le 8 base) (modHost (fun h => { h with userBase := base, userBytes := n }) s) }

/-- HOST_LINK_STATUS, opcode 0x0C03. -/
def cmdHostLinkStatus : CommandDef := {
  opcode := 0x0C03
  lengths := [4]
  reads := true
  replyMax := fun _ => 24
  check := fun c _ _ => if 1 < u8 c.p 0 || !zeroAt c.p 1 3 then stOutOfRange else stDone
  commit := fun c s =>
    let h := s.host
    .reply (le 1 h.speed ++ le 1 h.width ++ zeros 2 ++ le 4 h.correctable ++ le 4 h.uncorrectable ++ le 4 h.linkDowns ++ le 4 h.flrs
        ++ le 4 h.repliesDiscarded)
      (if u8 c.p 0 = 1 then modHost (fun h => { h with
        correctable := 0, uncorrectable := 0, linkDowns := 0, flrs := 0, repliesDiscarded := 0 }) s else s) }

/-- Offsets 8 to 31 of capability 0x000D's body (R432). -/
def capHost (s : State) : List Byte :=
  le 2 8192 ++ [64, 4] ++ le 2 s.host.maxPayload ++ zeros 2 ++ le 8 s.host.userBase ++ le 8 s.host.userBytes

end Sys2Proof.Machine
end

