-- ==== Sys2Proof/Machine/Interlock.lean ====
section
/-!
DEFINITION. Sys2Proof/Machine/Interlock.lean: the twin interlock and roles as the rest of the block meets them (R500-R505):
who drives, the first step of a release, a change of role.
-/
namespace Sys2Proof.Machine

def modTwin (f : Twin → Twin) (s : State) : State := { s with twin := f s.twin }

def modModes (f : Modes → Modes) (s : State) : State := { s with modes := f s.modes }

/-- Does the package drive its process outputs and FRKh signals: it is no twin member, or it holds the interlock and has enabled
its drivers (R70, R500, R503)? -/
def drivesPins (s : State) : Bool := !s.modes.strapTwin || s.twin.driving

/-- The first step of a release: drivers to high impedance, sensor transmitters dark (R502). -/
def undrive (s : State) : State :=
  darkenSensors true (modTwin (fun t => { t with driving := false }) s)

/-- A member gives the interlock up: the first step now, TWIN_HOLD 1 us later (R502). Any take in progress ends. -/
def releaseInterlock (s : State) : State :=
  let s := modTwin (fun t => { t with stage := 0, wants := false, takeover := 0 }) s
  if s.twin.holding then undrive (modTwin (fun t => { t with releaseDue := some s.now }) s) else s

/-- TWIN_HOLD_RELEASE: the second step, 1 us after the first (R502). -/
def holdRelease (s : State) : State :=
  if s.twin.releaseDue.any (fun a => a + 1000 ≤ s.now) then modTwin (fun t => { t with releaseDue := none, holding := false }) s else s

/-- A role's code (R505). -/
def TwinRole.code : TwinRole → Nat
  | .off => 0 | .active => 1 | .syncing => 2 | .inSync => 3 | .failed => 4

/-- Sensor lanes run listen-only while the twin role keeps the package in SHADOW (R113, R117, R508). -/
def listenOnly (on : Bool) (s : State) : State :=
  (List.range 48).foldl (fun s l => modLane l (fun x => { x with listenOnly := on }) s) s

/-- The twin role changes, is recorded and raised, and sets the sensor lanes' LISTEN_ONLY (R113, R505, R521). -/
def setRole (new : TwinRole) (cause : Nat) (s : State) : State :=
  let old := s.twin.role
  if old = new then s
  else
    let s := listenOnly (new = .syncing || new = .inSync) s
    let s := journal 0x1100 0 127 (le 1 old.code ++ le 1 new.code ++ le 1 cause) (modTwin (fun t => { t with role := new }) s)
    raiseIf (new = .inSync) 481 (raise 480 s)

end Sys2Proof.Machine
end

