-- ==== Sys2Proof/Machine/EventFrame.lean ====
section
/-!
DEFINITION. Sys2Proof/Machine/EventFrame.lean: event routing (chapter 16): what a channel carries in a clock (R354, R357-R363),
what its inputs make of it (R355, R359, R360), locks (R364), bridging (R365), registers (R366) and commands (R367).
-/
namespace Sys2Proof.Machine

def modFrame (f : Frame → Frame) (s : State) : State := { s with frame := f s.frame }

def modChannel (c : Nat) (f : Channel → Channel) (s : State) : State := s.setChannel c (f (s.channel c))

def modInput (i : Nat) (f : TaskInput → TaskInput) (s : State) : State := s.setInput i (f (s.input i))

/-- A part that reaches a channel in a clock: the ripple it brings, none for a fresh one; its hop count; how many parts it
stands for (R359, R361). -/
structure Part where
  ripple : Option Nat
  hop : Nat
  count : Nat
  deriving DecidableEq, Repr

/-! ### What enters a channel -/

/-- The event that caused a raised event, when an activation did within 64 hub clocks (R362). -/
def causeOf (r : Raised) (clock : Nat) (s : State) : Option Cause :=
  match r.input with
  | none => none
  | some i => (s.input i).cause.filter fun c => clock ≤ c.clock + 64

/-- The part a raised event is; an event with more than four hops is none (R361, R362). -/
def partOf (r : Raised) (clock : Nat) (s : State) : Option Part :=
  match causeOf r clock s with
  | some c => if 4 < c.hop + 1 then none else some { ripple := some c.ripple, hop := c.hop + 1, count := 1 }
  | none => some { ripple := none, hop := 0, count := 1 }

/-- The channels a source feeds. -/
def channelsFed (src : Nat) (s : State) : List Nat :=
  (List.range 128).filter fun c => (s.channel c).producerEn && (s.channel c).producer = src

/-- May a channel originate a fresh event in a clock (R361)? -/
def mayOriginate (x : Channel) (clock : Nat) : Bool := (x.origins.filter fun t => clock < t + 64).length < 32

/-- The producer's, the bridge's and the software's parts, in that order, which of them gives the ripple (R363). -/
def partsFor (c clock : Nat) (rs : List Raised) (s : State) : List Part :=
  ((rs.filter fun r => r.chan.isNone && (s.channel c).producerEn && (s.channel c).producer = r.src).filterMap fun r => partOf r clock s)
    ++ ((rs.filter fun r => r.chan = some c && r.bridge).map fun r => { ripple := none, hop := r.hop, count := r.parts })
    ++ ((rs.filter fun r => r.chan = some c && !r.bridge).map fun _ => { ripple := none, hop := 0, count := 1 })

/-- A caused event that a channel has carried in the last 64 clocks is returned to its sender (R363). -/
def returnPart (c : Nat) (p : Part) (s : State) : State :=
  let x := s.channel c
  let shows := elapsed 1000000000 x.returnedAt s.now
  let s := s.setChannel c { x with
    returned := sat 8 (x.returned + 1)
    returnedAt := if shows then some s.now else x.returnedAt }
  if shows then journal 0x0900 0 93 (le 1 c ++ le 1 0 ++ le 2 (p.ripple.getD 0)) s else s

/-- Has a channel carried a part's ripple in the last 64 clocks? -/
def seenBy (x : Channel) (clock : Nat) (p : Part) : Bool :=
  p.ripple.any fun r => x.ripples.any fun e => e.1 = r && clock ≤ e.2 + 64

/-! ### What a channel carries -/

/-- The frame counts what it cannot hold or carry. -/
def addSaturated (n : Nat) (s : State) : State := modFrame (fun f => { f with saturated := sat 16 (f.saturated + n) }) s

/-- SEND slots on a channel send what it carries to every other package; a package in SHADOW sends nothing (R365, R494). -/
def bridgeSend (c n hop : Nat) (s : State) : State :=
  if s.mode = .shadow then s
  else (List.range 16).foldl (fun s b =>
    let x := s.bridge b
    if x.mode = 1 && x.channel = c then
      routeFrame 0x30 s.chain.postcode 0xFF (le 1 b ++ le 1 n ++ le 1 hop ++ zeros 5)
        (s.setBridge b { x with bridged := wrap 32 (x.bridged + 1) })
    else s) s

/-- A channel carries one event of multiplicity at most 7 (R359). -/
def carryEvent (c clock ripple hop n : Nat) (s : State) : State :=
  let x := s.channel c
  let s := s.setChannel c { x with
    carried := wrap 32 (x.carried + 1)
    ripples := (ripple, clock) :: x.ripples.filter fun e => clock ≤ e.2 + 64 }
  bridgeSend c (min n 7) hop (addSaturated (n - 7) s)

/-- What a channel carries: the event's ripple, its hop count, its multiplicity. -/
structure Carried where
  chan : Nat
  ripple : Nat
  hop : Nat
  count : Nat
  deriving DecidableEq, Repr

/-- The parts that reach a channel in a clock merge into one event; fresh ones beyond the channel's rate are held (R359-R363). -/
def carryParts (c clock : Nat) (ps : List Part) (s : State) : Option Carried × State :=
  let s := (ps.filter (seenBy (s.channel c) clock)).foldl (fun s p => returnPart c p s) s
  let x := s.channel c
  let kept := ps.filter fun p => !seenBy x clock p
  let may := mayOriginate x clock
  let held := if 0 < x.held && may then [({ ripple := none, hop := x.heldHop, count := 1 } : Part)] else []
  match kept ++ held with
  | [] => (none, s)
  | p :: rest =>
    let n := sumNat ((p :: rest).map (·.count))
    match p.ripple with
    | some r =>
      let s := if held = [] then s else modChannel c (fun y => { y with held := 0, heldHop := 0 }) s
      (some { chan := c, ripple := r, hop := p.hop, count := min n 7 }, carryEvent c clock r p.hop n s)
    | none =>
      if may then
        let r := 32 * c + x.fresh
        let s := modChannel c (fun y => { y with
          fresh := (y.fresh + 1) % 32
          origins := clock :: y.origins.filter fun t => clock < t + 64
          held := 0
          heldHop := 0 }) s
        (some { chan := c, ripple := r, hop := p.hop, count := min n 7 }, carryEvent c clock r p.hop n s)
      else
        let s := modChannel c (fun y => { y with held := y.held + n, heldHop := max y.heldHop p.hop }) s
        (none, modFrame (fun f => { f with mergedExcess := sat 16 (f.mergedExcess + n) }) s)

/-! ### Task inputs -/

/-- How a task input answers an event: what it activates at once, and the input after (R355, R359, R360). -/
def takeEvent (x : TaskInput) (n : Nat) : Nat × Nat × TaskInput :=
  let x := { x with events := wrap 32 (x.events + n) }
  if !x.count then (if x.enable then n else 0, 0, { x with coincidence := sat 16 (x.coincidence + (n - 1)) })
  else
    let total := x.acc + n
    let k := if x.enable then total / max 1 x.divide else 0
    let x := { x with acc := total % max 1 x.divide }
    let first := min 1 k
    let owes := x.owed + (k - first)
    (first, owes - 7, { x with owed := min 7 owes })

/-- A task input is activated: its cause is kept, its task performed with the multiplicity, and what the task raises is its doing (R355,
R362). -/
def activate (task : Nat → Nat → State → State) (i n : Nat) (cause : Cause) (s : State) : State :=
  causedBy i (task i n) (modInput i (fun x => { x with cause := some cause }) s)

/-- An event reaches one input. -/
def deliverTo (task : Nat → Nat → State → State) (clock : Nat) (e : Carried) (s : State) (i : Nat) : State :=
  let r := takeEvent (s.input i) e.count
  let cause : Cause := { ripple := e.ripple, hop := e.hop, clock := clock }
  let s := addSaturated r.2.1 (s.setInput i r.2.2)
  if r.1 = 0 then (if 0 < r.2.2.owed then modInput i (fun x => { x with cause := some cause }) s else s)
  else activate task i r.1 cause s

/-- An event reaches the inputs of its channel. -/
def deliverEvent (task : Nat → Nat → State → State) (clock : Nat) (s : State) (e : Carried) : State :=
  ((List.range 320).filter fun i => (s.input i).channel = e.chan).foldl (deliverTo task clock e) s

/-- Events with more than four hops are counted by each channel they would have entered (R362). -/
def dropHops (clock : Nat) (s : State) (r : Raised) : State :=
  if r.chan.isNone && (partOf r clock s).isNone then
    (channelsFed r.src s).foldl (fun s c => modChannel c (fun x => { x with hopDropped := sat 8 (x.hopDropped + 1) }) s) s
  else s

/-- Are two raised events the same entry into the frame, so that the second waits for the next clock? -/
def Raised.sameEntry (a b : Raised) : Bool := a.src = b.src && a.chan = b.chan && a.bridge = b.bridge

/-- The events raised in clock a, and those that wait: a source raises one event in a clock, a further one in the clock after. -/
def splitRaised (a : Nat) : List Raised → List Raised × List Raised
  | [] => ([], [])
  | r :: rest =>
    let x := splitRaised a rest
    if r.clock ≠ a then (x.1, r :: x.2)
    else if x.1.any r.sameEntry then
      (r :: x.1.filter (fun y => !r.sameEntry y), (x.1.filter r.sameEntry).map (fun y => { y with clock := a + 1 }) ++ x.2)
    else (r :: x.1, x.2)

/-- The first hub clock in which one of some events is raised. -/
def firstClock : List Raised → Nat
  | [] => 0
  | r :: rest => rest.foldl (fun a x => min a x.clock) r.clock

/-- The channels that raised events can reach. -/
def touched (rs : List Raised) (s : State) : List Nat :=
  (List.range 128).filter fun c => rs.any fun r =>
    r.chan = some c || (r.chan.isNone && (s.channel c).producerEn && (s.channel c).producer = r.src)

/-- One hop of the frame: the events raised in one clock are carried in the next, and reach the inputs in the one after (R354). -/
def frameRound (task : Nat → Nat → State → State) (s : State) : State :=
  let a := firstClock s.frame.raised
  let x := splitRaised a s.frame.raised
  let s := modFrame (fun f => { f with raised := x.2 }) s
  if s.mode = .sentry then modFrame (fun f => { f with raised := [] }) s
  else
    let s := x.1.foldl (dropHops a) s
    match touched x.1 s with
    | [] => s
    | cs =>
      let s := modFrame (fun f => { f with clock := a + 2 }) s
      let r := cs.foldl (fun (acc : List Carried × State) c =>
        let y := carryParts c (a + 1) (partsFor c a x.1 acc.2) acc.2
        (acc.1 ++ y.1.toList, y.2)) ([], s)
      r.1.foldl (deliverEvent task (a + 2)) r.2

/-- Rounds until nothing raised is left; `fuel` bounds them. -/
def frameRounds (task : Nat → Nat → State → State) : Nat → State → State
  | 0, s => s
  | fuel + 1, s => if s.frame.raised = [] then s else frameRounds task fuel (frameRound task s)

/-- HELD_EVENT_RELEASE: a channel carries its held event once it may originate again (R361). -/
def releaseHeld (task : Nat → Nat → State → State) (c : Nat) (s : State) : State :=
  let clock := s.frame.clock + 1
  if (s.channel c).held = 0 || s.mode = .sentry then s
  else
    let r := carryParts c clock [] (modFrame (fun f => { f with clock := clock + 1 }) s)
    r.1.toList.foldl (deliverEvent task (clock + 1)) r.2

/-- OWED_ACTIVATION: a COUNT input performs one activation it owes (R360). -/
def payOwed (task : Nat → Nat → State → State) (i : Nat) (s : State) : State :=
  let x := s.input i
  if x.owed = 0 || s.mode = .sentry then s
  else
    let clock := s.frame.clock
    let s := modFrame (fun f => { f with clock := clock + 1 }) (s.setInput i { x with owed := x.owed - 1 })
    if x.enable then activate task i 1 { (x.cause.getD {}) with clock := clock } s else s

/-! ### Software fires, bridge arrivals -/

/-- A part enters a channel directly. -/
def enterChannel (c hop parts : Nat) (bridge : Bool) (s : State) : State :=
  modFrame (fun f => { f with raised := f.raised ++ [{
    src := 512, input := none, chan := some c, bridge := bridge, hop := hop, parts := parts, clock := f.clock }] }) s

/-- A write of FIRE (R357). -/
def fireChannel (c : Nat) (s : State) : State :=
  if (s.channel c).noSwFire then modChannel c (fun x => { x with swRefused := sat 8 (x.swRefused + 1) }) s
  else enterChannel c 0 1 false s

/-- A write of SW_FIRE raises its sources in the hub clock after the write arrives (R358). -/
def fireSw (mask : Nat) (s : State) : State :=
  modFrame (fun f => { f with raised := f.raised ++ (setIndices 8 mask).map fun k => { src := 504 + k, clock := f.clock + 1 } }) s

/-- A bridged event arrives from a package (R365). -/
def bridgeArrive (slot sender mult hops : Nat) (s : State) : State :=
  let x := s.bridge slot
  if x.mode ≠ 2 || !(x.peerAny || x.peer = sender) || s.mode = .sentry then s
  else if 4 < hops + 1 then modChannel x.channel (fun y => { y with hopDropped := sat 8 (y.hopDropped + 1) }) s
  else enterChannel x.channel (hops + 1) (clampNat 1 7 mult) true (s.setBridge slot { x with bridged := wrap 32 (x.bridged + 1) })

/-! ### Locks (R364) -/

def lockChannel (c : Nat) (s : State) : State := modChannel c (fun x => { x with locked := true }) s

def lockViolated (c : Nat) (s : State) : State := modChannel c (fun x => { x with lockViolations := sat 8 (x.lockViolations + 1) }) s

/-- The fields of a channel that its lock freezes. -/
def Channel.frozen (x : Channel) : Nat × Bool × Bool := (x.producer, x.producerEn, x.noSwFire)

/-- The fields of an input that its channel's lock freezes. -/
def TaskInput.frozen (x : TaskInput) : Nat × Bool × Bool × Nat := (x.channel, x.enable, x.count, x.divide)

/-- The fields of a bridge slot that its channel's lock freezes. -/
def Bridge.frozen (x : Bridge) : Nat × Nat × Nat × Bool := (x.mode, x.channel, x.peer, x.peerAny)

def frameFault (s : State) : State := modFrame (fun f => { f with regFaults := f.regFaults + 1 }) s

/-! ### Registers (R366) -/

/-- A write to a channel's word. -/
def channelWrite (c off v : Nat) (s : State) : State :=
  let x := s.channel c
  if off = 0x00 then
    let y := { x with producer := bits v 8 0, producerEn := v.testBit 9, noSwFire := v.testBit 10 }
    if x.locked then (if y.frozen = x.frozen then s else lockViolated c s) else s.setChannel c y
  else if off = 0x04 then
    let s := if v.testBit 0 then fireChannel c s else s
    if v.testBit 1 && bits v 15 8 = 0xA5 then lockChannel c s else s
  else s

/-- A write to a task input's word. -/
def inputWrite (i off v : Nat) (s : State) : State :=
  let x := s.input i
  let y := { x with channel := bits v 6 0, enable := v.testBit 7, count := v.testBit 8, divide := bits v 31 16 }
  if off ≠ 0x00 then s
  else if y.divide = 0 then frameFault s
  else if (s.channel x.channel).locked then (if y.frozen = x.frozen then s else lockViolated x.channel s)
  else s.setInput i y

/-- A write to a bridge slot's word. -/
def bridgeWrite (b off v : Nat) (s : State) : State :=
  let x := s.bridge b
  let y := { x with mode := bits v 1 0, channel := bits v 14 8, peer := bits v 19 16, peerAny := v.testBit 20 }
  if off ≠ 0x00 then s
  else if y.mode = 3 then frameFault s
  else if (s.channel x.channel).locked then (if y.frozen = x.frozen then s else lockViolated x.channel s)
  else s.setBridge b y

/-- A write in the sorting-frame window, at an offset from 0x0100_0000. -/
def frameWrite (off v : Nat) (s : State) : State :=
  if off < 0x0800 then channelWrite (off / 16) (off % 16) v s
  else if off < 0x1000 then s
  else if off < 0x2400 then inputWrite ((off - 0x1000) / 16) (off % 16) v s
  else if off = 0x3000 then fireSw (bits v 7 0) s
  else if 0x3100 ≤ off && off < 0x3180 then bridgeWrite ((off - 0x3100) / 8) (off % 8) v s
  else s

/-- A channel's words. -/
def Channel.word (x : Channel) (off : Nat) : Nat :=
  match off with
  | 0x00 => x.producer + 2 ^ 9 * b2n x.producerEn + 2 ^ 10 * b2n x.noSwFire
  | 0x04 => 4 * b2n x.locked
  | 0x08 => x.carried
  | 0x0C => x.returned + 2 ^ 8 * x.hopDropped + 2 ^ 16 * x.swRefused + 2 ^ 24 * x.lockViolations
  | _ => 0

/-- A task input's words. -/
def inputWord (i off : Nat) (s : State) : Nat :=
  let x := s.input i
  match off with
  | 0x00 => x.channel + 2 ^ 7 * b2n x.enable + 2 ^ 8 * b2n x.count + 2 ^ 9 * b2n (s.channel x.channel).locked + 2 ^ 16 * x.divide
  | 0x04 => x.coincidence + 2 ^ 16 * x.owed
  | 0x08 => x.events
  | _ => 0

/-- A bridge slot's words. -/
def Bridge.word (x : Bridge) (off : Nat) : Nat :=
  if off = 0x00 then x.mode + 2 ^ 8 * x.channel + 2 ^ 16 * x.peer + 2 ^ 20 * b2n x.peerAny
  else if off = 0x04 then x.bridged
  else 0

/-- A read in the sorting-frame window. -/
def frameRead (off : Nat) (s : State) : Nat :=
  if off < 0x0800 then (s.channel (off / 16)).word (off % 16)
  else if off < 0x1000 then 0
  else if off < 0x2400 then inputWord ((off - 0x1000) / 16) (off % 16) s
  else if 0x3100 ≤ off && off < 0x3180 then (s.bridge ((off - 0x3100) / 8)).word (off % 8)
  else if off = 0x3200 then s.frame.saturated + 2 ^ 16 * s.frame.mergedExcess
  else 0

/-! ### Commands (R367) -/

def channelArgs (p : List Byte) (x : Channel) : Channel :=
  { x with producer := u16 p 2, producerEn := (u8 p 1).testBit 0, noSwFire := (u8 p 1).testBit 1 }

/-- EVENT_CHANNEL_SET, opcode 0x0900. -/
def cmdEventChannelSet : CommandDef := {
  opcode := 0x0900
  lengths := [8]
  check := fun c _ s =>
    let x := s.channel (u8 c.p 0)
    if 127 < u8 c.p 0 || 3 < u8 c.p 1 || 511 < u16 c.p 2 || !zeroAt c.p 4 4 then stOutOfRange
    else if x.locked && (channelArgs c.p x).frozen ≠ x.frozen then stLocked
    else stDone
  commit := fun c s => .reply [] (modChannel (u8 c.p 0) (channelArgs c.p) s) }

def inputArgs (p : List Byte) (x : TaskInput) : TaskInput :=
  { x with channel := u8 p 2, enable := (u8 p 3).testBit 0, count := (u8 p 3).testBit 1, divide := u16 p 4 }

/-- EVENT_INPUT_SET, opcode 0x0901. -/
def cmdEventInputSet : CommandDef := {
  opcode := 0x0901
  lengths := [8]
  check := fun c _ s =>
    let x := s.input (u16 c.p 0)
    if 319 < u16 c.p 0 || 127 < u8 c.p 2 || 3 < u8 c.p 3 || u16 c.p 4 = 0 || !zeroAt c.p 6 2 then stOutOfRange
    else if (s.channel x.channel).locked && (inputArgs c.p x).frozen ≠ x.frozen then stLocked
    else stDone
  commit := fun c s => .reply [] (modInput (u16 c.p 0) (inputArgs c.p) s) }

/-- EVENT_FIRE, opcode 0x0902. -/
def cmdEventFire : CommandDef := {
  opcode := 0x0902
  lengths := [24]
  registered := true
  check := fun c _ s =>
    let m := fld 16 c.p 0
    if m = 0 || !zeroAt c.p 17 7 then stOutOfRange
    else if (setIndices 128 m).any (fun x => (s.channel x).noSwFire) then stLocked
    else stDone
  commit := fun c s =>
    .reply [] ((setIndices 128 (fld 16 c.p 0)).foldl (fun s x => fireChannel x s) (fireSw (u8 c.p 16) s)) }

/-- EVENT_LOCK, opcode 0x0903. -/
def cmdEventLock : CommandDef := {
  opcode := 0x0903
  lengths := [4]
  check := fun c _ _ => if 127 < u8 c.p 0 || u8 c.p 1 ≠ 0 || u16 c.p 2 ≠ 0xA55A then stOutOfRange else stDone
  commit := fun c s => .reply [] (lockChannel (u8 c.p 0) s) }

def bridgeArgs (p : List Byte) (x : Bridge) : Bridge :=
  { x with mode := u8 p 1, channel := u8 p 2, peer := if u8 p 3 = 0xFF then 0 else u8 p 3, peerAny := u8 p 3 = 0xFF }

/-- EVENT_BRIDGE_SET, opcode 0x0904. -/
def cmdEventBridgeSet : CommandDef := {
  opcode := 0x0904
  lengths := [4]
  check := fun c _ s =>
    let b := u8 c.p 0
    let x := s.bridge b
    if 15 < b || 2 < u8 c.p 1 || 127 < u8 c.p 2 || (15 < u8 c.p 3 && u8 c.p 3 ≠ 0xFF) then stOutOfRange
    else if (s.channel x.channel).locked && (bridgeArgs c.p x).frozen ≠ x.frozen then stLocked
    else if u8 c.p 1 ≠ 0 && (List.range 16).any (fun o => o ≠ b && (s.bridge o).mode ≠ 0 && (s.bridge o).channel = u8 c.p 2) then
      stConflict
    else stDone
  commit := fun c s => .reply [] (s.setBridge (u8 c.p 0) (bridgeArgs c.p (s.bridge (u8 c.p 0)))) }

/-- EVENT_STATUS, opcode 0x0905. -/
def cmdEventStatus : CommandDef := {
  opcode := 0x0905
  lengths := [4]
  reads := true
  replyMax := fun _ => 24
  check := fun c _ _ => if 127 < u8 c.p 0 || 1 < u8 c.p 1 || !zeroAt c.p 2 2 then stOutOfRange else stDone
  commit := fun c s =>
    let x := s.channel (u8 c.p 0)
    .reply ([0x00, 0x04, 0x08, 0x0C].flatMap (fun o => le 4 (x.word o)) ++ le 2 s.frame.saturated ++ le 2 s.frame.mergedExcess ++ zeros 4)
      (if u8 c.p 1 = 1 then s.setChannel (u8 c.p 0) { x with
        carried := 0, returned := 0, hopDropped := 0, swRefused := 0, lockViolations := 0 } else s) }

/-- Offsets 8 to 15 of capability 0x000A's body (R367). -/
def capFrame : List Byte := [128, 16] ++ le 2 512 ++ le 2 320 ++ [4, 64]

end Sys2Proof.Machine
end

