-- ==== Sys2Proof/Machine/Teller.lean ====
section
/-!
DEFINITION. Sys2Proof/Machine/Teller.lean: power budget and scheduling (chapter 17), and the crossbar's route changes
(R16-R20): admission, purses, dispatch, tiles and retirement, throttling, reduction, remaps.
-/
namespace Sys2Proof.Machine

def modTeller (f : Teller → Teller) (s : State) : State := { s with teller := f s.teller }

/-! ### Points, need and admission (R373-R378) -/

/-- A DVFS point: capacity in Gops/s, e_op in 0.01 pJ, leakage at 95 C in 0.01 W, voltage in mV (R373). -/
structure DvfsPoint where
  capacity : Nat
  eOp : Nat
  leak : Nat
  mv : Nat
  deriving DecidableEq, Repr

/-- The DVFS points (R373). -/
def dvfsPoints : List DvfsPoint :=
  [⟨480, 125, 42, 600⟩, ⟨768, 146, 54, 650⟩, ⟨960, 170, 67, 700⟩, ⟨1200, 205, 89, 770⟩, ⟨1440, 250, 120, 850⟩]

def dvfs (p : Nat) : DvfsPoint := nth ⟨480, 125, 42, 600⟩ dvfsPoints p

/-- The cells a cluster works with: 15 after its first retirement too, one fewer after each further one (R11, R386). -/
def clusterCells (x : District) (c : Nat) : Nat := min 15 (16 - (x.retired.filter fun i => i / 16 = c).length)

/-- Active cells of a district. -/
def activeCells (x : District) : Nat := sumNat ((List.range 4).map (clusterCells x))

/-- The port a district serves, if any. -/
def servedPort (d : Nat) (s : State) : Option Nat :=
  (List.range 12).find? fun n => s.route n = d && !(s.pmap n).lost && !(s.district d).outOfUse

/-- Operations per input pixel and per owned output pixel, by planes (R375). -/
def planeWork (planes : Nat) : Nat × Nat :=
  match planes with
  | 1 => (20, 210)
  | 4 => (65, 308)
  | _ => (50, 300)

/-- Has a station 4-plane ports (R383)? -/
def fourPlanes (k : Nat) (s : State) : Bool := (s.station k).ports.any fun n => (s.port n).planes = 4

/-- The reductions a station takes under a set of steps: bit 0 step 1, DROP_PLANE3, where it has 4-plane ports; bit 1 step 2, COARSE_PITCH
(R377, R383). -/
def reductionsOf (k steps : Nat) (s : State) : BitVec 2 :=
  (s.decl k).reduce &&& BitVec.ofNat 2 steps &&& (if fourPlanes k s then 0b11 else 0b10)

/-- W_p of a port in a station, in operations per second, with a set of reduction steps applied (R375, R382, R562). -/
def portNeed (n steps : Nat) (s : State) : ℚ :=
  match stationOf n s with
  | none => 0
  | some k =>
    let d := s.decl k
    let red := reductionsOf k steps s
    let q0 := (s.grid k).basePitch
    let q := if red.getLsbD 1 then q0 * d.factor else q0
    let own := nth (0, 0) (ownedRanges k q s) (portIndex k n s)
    let planes := if red.getLsbD 0 && (s.port n).planes = 4 then 3 else (s.port n).planes
    let w := planeWork planes
    let rate : ℚ := (s.port n).lineRate
    let most : ℚ := if d.speedMax = 0 then rate * q0 / q else 16 * (d.speedMax : ℚ) / q
    rate * (s.port n).pixels * w.1 + (own.2 - own.1 : Nat) * min rate most * w.2

/-- Does a point carry a need with some active cells (R374)? -/
def pointPasses (w : ℚ) (cells p : Nat) : Bool := w * 60 * 100 ≤ ((dvfs p).capacity : ℚ) * 80 * cells * 1000000000

/-- The lowest point that carries a need; none when no point does (R374). -/
def lowestPoint (w : ℚ) (cells : Nat) : Option Nat := (List.range 5).find? (pointPasses w cells)

/-- P_d in watts at a point (R376). -/
def districtPower (w : ℚ) (k p : Nat) : ℚ :=
  w * (dvfs p).eOp / 100000000000000 * (max k 1024) / 1024 + ((dvfs p).leak : ℚ) / 100

/-- What admission finds of one district that serves a port in use. -/
structure DistrictNeed where
  district : Nat
  port : Nat
  work : ℚ
  point : Nat
  fits : Bool
  power : ℚ

/-- The needs of every district that serves a port in use (R374-R376, R562). -/
def districtNeeds (steps : Nat) (s : State) : List DistrictNeed :=
  (List.range 16).filterMap fun d => match servedPort d s with
    | some n =>
      if (stationOf n s).isNone then none
      else
        let w := portNeed n steps s
        let p := lowestPoint w (activeCells (s.district d))
        some { district := d, port := n, work := w, point := p.getD 4, fits := p.isSome
               power := districtPower w (s.district d).k (p.getD 4) }
    | none => none

/-- P_hub in watts (R376). -/
def hubPower (s : State) : ℚ := 12 + 12 / 10 * (portsInUse s).length

/-- P_reg in watts (R376). -/
def regPower (ns : List DistrictNeed) (s : State) : ℚ := hubPower s + (ns.map (·.power)).foldl (· + ·) 0

/-- The current of a compute die: its districts' power over their highest voltage (R377). -/
def dieOver (die : Nat) (ns : List DistrictNeed) : Bool :=
  let xs := ns.filter fun x => dieOf x.district = die
  let mv := xs.foldl (fun m x => max m (dvfs x.point).mv) 0
  (64 * mv : ℚ) < 1000 * (xs.map (·.power)).foldl (· + ·) 0

/-- Admission: REASON and FAIL_BLOCK, REASON 0 when it passes (R374, R377). -/
def admission (steps : Nat) (s : State) : Nat × Nat :=
  let ns := districtNeeds steps s
  match ns.find? (fun x => !x.fits) with
  | some x => (1, 0x10 + x.port)
  | none =>
    if (85 * s.teller.powerLimit : ℚ) < 1600 * regPower ns s then (2, 0)
    else if dieOver 0 ns then (3, 0x20)
    else if dieOver 1 ns then (3, 0x26)
    else (0, 0)

/-- The reserves follow the need: R_d and R_hub in tokens per tick (R376). -/
def setReserves (steps : Nat) (s : State) : State :=
  let ns := districtNeeds steps s
  let s := (List.range 16).foldl (fun s d =>
    match ns.find? (fun x => x.district = d) with
    | some x => modDistrict d (fun y => { y with reserve := ⌈10 * x.power⌉.toNat }) s
    | none => modDistrict d (fun y => { y with reserve := 0 }) s) s
  let hub := ⌈10 * hubPower s⌉.toNat
  modTeller (fun x => { x with hubReserve := hub }) (modDistrict 16 (fun y => { y with reserve := hub }) s)

/-- The status with which admission answers a mode change or a command (R377). -/
def admitStatus (steps : Nat) (s : State) : Nat := if (admission steps s).1 = 0 then stDone else stUnsafe

/-- A district's island is wanted: a power-gated one wakes, and is ready with DISTRICT_READY (R15, R28). -/
def wakeDistrict (x : District) : District :=
  { x with gated := false, clockStopped := false, idleFrom := none, waking := x.waking || x.gated }

/-- A district comes to need a point: it rises to it at once, and goes below it no more, this block or the next (R374). -/
def District.need (p : Nat) (y : District) : District :=
  { y with
    stepTo := if y.point < p then some p else y.stepTo.filter (p ≤ ·)
    passFrom := y.passFrom.map (max p) }

/-- The need as it is now: the reserves are set and each district that serves a port in use rises to its point (R374, R376). -/
def takeNeeds (s : State) : State :=
  (districtNeeds s.teller.steps s).foldl (fun s x => modDistrict x.district (fun y => (wakeDistrict y).need x.point) s)
    (setReserves s.teller.steps s)

/-- A configuration goes into force: the result of admission is kept with its needs (R374, R376-R378). -/
def takeAdmission (s : State) : State :=
  takeNeeds (modTeller (fun x => { x with admitted := (admission s.teller.steps s).1 = 0 }) s)

/-! ### Tile queues (R10, R371, R386) -/

/-- A cluster's share of a district's tiles: 1/15 less for a cell it lacks, which its three siblings take evenly (R386). -/
def clusterWeight (x : District) (c : Nat) : Nat :=
  3 * clusterCells x c + sumNat ((List.range 4).map fun e => if e = c then 0 else 15 - clusterCells x e)

/-- A task joins the queue of the cluster that is furthest behind its share, the lowest of equals; the hub has one queue (R386; DESIGN
CHOICE, assumption 93). -/
def feedTask (d : Nat) (q : TileTask) (x : District) : District :=
  let due := fun c : Nat => (((Tab.get 0 x.fed c + 1 : Nat) : ℚ) / (max 1 (clusterWeight x c) : Nat))
  let c := if d = 16 then 0 else (List.range 4).foldl (fun b c => if due c < due b then c else b) 0
  { x with queue := Tab.set [] x.queue c (Tab.get [] x.queue c ++ [q]), fed := Tab.set 0 x.fed c (Tab.get 0 x.fed c + 1) }

/-- Does a district work for a port in use: its own, or any, where it is the hub (R24)? -/
def worksForPort (d : Nat) (s : State) : Bool :=
  if d = 16 then portsInUse s ≠ [] else (servedPort d s).any fun n => (stationOf n s).isSome

/-- A task as it waits: stages 1 to 10 of a port in use are Registered-class work (R24). -/
def taskClass (d : Nat) (q : TileTask) (s : State) : TileTask :=
  if q.stage.val ≤ 10 && worksForPort d s then { q with cls := 0 } else q

/-- What waits at a purse. -/
def waitingTasks (x : District) : List TileTask := (List.range 4).flatMap fun c => Tab.get [] x.queue c

/-! ### The tick: purses, charges, heat (R368-R370, R379, R380) -/

/-- The thermal allowance of a purse in tokens: max(0, A - R), A = floor(10 (95 - GUARD - T) / R_TH) (R369). -/
def thermalAllowance (i : Nat) (s : State) : Nat :=
  let t : Int := if i = 16 then nth 0 s.teller.dies 2 * 2 ^ 16 else (s.district i).temp
  let room : Int := (95 * 16 - (s.teller.guardBand : Int)) * 2 ^ 16 - t
  let a := (room * 10000) / ((max 1 (Config.thermalR i)) * 2 ^ 20 : Nat)
  (a - (s.district i).reserve).toNat

/-- What a purse can hold: a signed 32-bit count of tokens (R368). -/
def purseOf (x : Int) : Int := clampInt (-(2 ^ 31)) (2 ^ 31 - 1) x

/-- The cap of a purse (R368). -/
def purseCap (credit : Nat) : Nat := max 400 (8 * credit)

/-- Shares of what is left of the budget in proportion to the waiting work, all in 1/65536 tokens; a purse takes no more than
its allowance, and what it cannot take is offered once more to the others (R369). -/
def shares (left : Nat) (waiting allow : List Nat) : List Nat :=
  let total := sumNat waiting
  if total = 0 then waiting.map fun _ => 0
  else
    let first := (waiting.zip allow).map fun e => min (left * e.1 / total) (e.2 * 65536)
    let spill := left - sumNat ((waiting.zip first).map (·.2))
    let open_ := (waiting.zip (first.zip allow)).map fun e => if e.2.1 < e.2.2 * 65536 then e.1 else 0
    let again := sumNat open_
    if again = 0 then first
    else (first.zip (open_.zip allow)).map fun e => min (e.1 + spill * e.2.1 / again) (e.2.2 * 65536)

/-- The credits of a tick (R369): reserves first, then shares; `waiting` is the table cost of the non-Registered work that
waits at each purse, classes a throttle level withholds left out (R380). -/
def creditTick (waiting : List Nat) (s : State) : State :=
  let budget := 10 * s.teller.powerLimit * 4096
  let reserved := sumNat ((List.range 17).map fun i => (s.district i).reserve)
  let give := shares (budget - 65536 * reserved) ((List.range 17).map fun i => nth 0 waiting i)
    ((List.range 17).map fun i => thermalAllowance i s)
  (List.range 17).foldl (fun s i => modDistrict i (fun x =>
    if x.gated then { x with purse := 0, credit := 0, charged := 0 }
    else
      let whole := nth 0 give i + x.carry
      let credit := x.reserve + whole / 65536
      { x with
        credit := credit, carry := whole % 65536, charged := 0
        purse := purseOf (min (x.purse + credit) (purseCap credit)) }) s) s

/-- K_d after a tick: towards the ratio of the dynamic energy drawn to that charged; with nothing charged the rule gives no
ratio and the value is free (R370). -/
def updateK (drawn charged i : Nat) (s : State) : State :=
  let old := (s.district i).k
  if charged = 0 then
    if drawn = 0 then s
    else
      let f := s.drawFree 1537
      modDistrict i (fun x => { x with k := 512 + f.1 }) f.2
  else
    let target : Int := (1024 * drawn / charged : Nat)
    modDistrict i (fun x => { x with k := (clampInt 512 2048 (old + (target - old) / 16)).toNat }) s

/-- The leakage of a point at a model temperature in 1/16 degree, in mW: the table's at 95 C, free elsewhere (R373). -/
def leakageAt (point : Nat) (temp : Int) : Nat := if temp = 95 * 16 then (dvfs point).leak * 10 else Config.leakage point temp

/-- The end of a tick for one purse: leakage charged, the difference to the energy drawn settled, a purse below zero
counted (R370, R372). `energy` is E_m in tokens. -/
def settlePurse (energy : List Nat) (s : State) (i : Nat) : State :=
  let x := s.district i
  if x.gated then s
  else
    let drawn := nth 0 energy i
    let leak := if i = 16 then 0 else (leakageAt x.point (x.temp / 2 ^ 16) + 99) / 100
    let s := modDistrict i (fun x => { x with purse := purseOf (x.purse + x.charged - drawn) }) s
    let s := if i = 16 then s else updateK (drawn - leak) x.charged i s
    if (s.district i).purse < 0 then
      let s := modTeller (fun y => { y with shortTicks := sat 32 (y.shortTicks + 1) }) s
      if elapsed 1000000 s.teller.shortAt s.now then raise 502 (modTeller (fun y => { y with shortAt := some s.now }) s) else s
    else s

/-- T_d after a tick, in 2^-20 of a degree; energy in tokens over 100 us is power in units of 0.1 W (R379). -/
def heatDistrict (energy : List Nat) (s : State) (d : Nat) : State :=
  modDistrict d (fun x =>
    let die : Int := nth 0 s.teller.dies (dieOf d) * 2 ^ 16
    let aim : Int := die + (Config.thermalR d * nth 0 energy d * 2 ^ 20 / 10000 : Nat)
    { x with temp := x.temp + (aim - x.temp) * 100000 / (max 1 (Config.thermalTau d) : Nat) }) s

/-- Tj in 1/16 degree: the highest of the die sensors and the model temperatures (R379). -/
def junction (s : State) : Int :=
  let m := s.teller.dies.foldl max (s.teller.dies.headD 0)
  (List.range 16).foldl (fun m d => max m ((s.district d).temp / 2 ^ 16)) m

/-- The threshold of a throttle level in 1/16 degree (R380). -/
def throttleAt (level : Nat) : Int :=
  match level with
  | 0 => -32768
  | 1 => 1520
  | 2 => 1544
  | 3 => 1568
  | _ => 1600

/-- The throttle level changes: event and journal (R380, R390, R466). -/
def setLevel (level : Nat) (s : State) : State :=
  if level = s.teller.level then s
  else
    let s := modTeller (fun x => { x with level := level, coolFrom := none }) s
    raise 500 (journal 0x0A03 0 93 (le 1 level ++ [0#8] ++ les 2 s.teller.tj) s)

/-- The level Tj calls for: level 4 only in INSPECT and INSPECT_REDUCED (R380). -/
def levelFor (tj : Int) (m : Mode) : Nat :=
  if tj < throttleAt 1 then 0 else if tj < throttleAt 2 then 1 else if tj < throttleAt 3 then 2
  else if tj < throttleAt 4 || !(m = .inspect || m = .reduced) then 3 else 4

/-- Tj has reached 110.0 C: the compute dies' clocks stop, each district's once its cells have finished their tiles, CRITICAL_TEMPERATURE is
raised and the package goes to FAULT_HOLD (R27, R77, R94). -/
def criticalHeat (s : State) : State :=
  let s := (List.range 16).foldl (fun s d => modDistrict d (fun x => { x with clockStopped := x.clockStopped || x.running = [] }) s) s
  raise 7 { s with modes := { s.modes with
    critical := true
    faultRequest := if s.mode = .faultHold || s.mode = .sentry then s.modes.faultRequest else some 1 } }

/-- The temperature has been read: Tj, TEMPERATURE_WARN, levels entered, how long it has been cool enough to leave one
(R379, R380, R384, R390). -/
def readHeat (s : State) : State :=
  let tj := junction s
  let s := modTeller (fun x => { x with tj := tj, warmAt := if 93 * 16 ≤ tj then some s.now else x.warmAt }) s
  let s := if 1760 ≤ tj && !s.modes.critical then criticalHeat s else s
  let s := raiseIf (1440 ≤ tj && !s.teller.warned) 503 s
  let s := modTeller (fun x => { x with warned := 1440 ≤ tj || (x.warned && 1408 ≤ tj) }) s
  let top := if s.teller.level = 4 && !(s.mode = .inspect || s.mode = .reduced) then 3 else s.teller.level
  let s := setLevel (max top (levelFor tj s.mode)) s
  modTeller (fun x => { x with
    coolFrom := if 0 < x.level && tj < throttleAt x.level - 32 then some (x.coolFrom.getD s.now) else none }) s

/-- Do Tj and the model temperatures hold their last value, as while a run calibrates the junction sensors (R527)? -/
def sensorsHeld (s : State) : Bool := s.cal.run.any fun r => r.steps.head? = some 2

/-- The table cost of a task in tokens, rounded up: operations x e_op x K_d / 1,024 (R370). -/
def taskCost (ops point k : Nat) : Nat := (ops * (dvfs point).eOp * k + 1024 * 10 ^ 9 - 1) / (1024 * 10 ^ 9)

/-- The table cost of the non-Registered work that waits at a purse, without the classes a throttle level withholds (R369, R380). -/
def waitingCost (i : Nat) (s : State) : Nat :=
  let x := s.district i
  sumNat ((waitingTasks x).map fun q =>
    if q.cls.val = 0 || s.teller.withheld.getLsbD q.cls.val then 0 else taskCost q.ops x.point x.k)

/-- Has a district no work: nothing waits, nothing runs, and no port's need is reserved for (R374)? -/
def districtIdle (x : District) : Bool := waitingTasks x = [] && x.running = [] && x.reserve = 0

/-- TELLER_TICK, 100 us after the last: the tick that ends is settled, the sensors are read, the next tick is credited (R368-R372, R379,
R380). energy: E_m of each purse in tokens; dies: the three junction sensors in 1/16 degree. -/
def tellerTick (energy : List Nat) (dies : Int × Int × Int) (s : State) : State :=
  if !elapsed 100000 s.teller.tickAt s.now then s else
  let s := modTeller (fun x => { x with tickAt := some s.now }) s
  let s := (List.range 17).foldl (settlePurse energy) s
  let s := if sensorsHeld s then s
    else readHeat ((List.range 16).foldl (heatDistrict energy) (modTeller (fun x => { x with dies := [dies.1, dies.2.1, dies.2.2] }) s))
  let s := if s.teller.level = 0 then s
    else modTeller (fun x => { x with
      ticks := (x.ticks + 1) % 10, throttledMs := if x.ticks = 9 then sat 32 (x.throttledMs + 1) else x.throttledMs }) s
  let s := (List.range 16).foldl (fun s d => modDistrict d (fun x => { x with
    idleFrom := if districtIdle x then some (x.idleFrom.getD s.now) else none
    clockStopped := (s.modes.critical && x.running = []) || districtIdle x }) s) s
  creditTick ((List.range 17).map fun i => waitingCost i s) s

/-- THROTTLE_EXIT: after 10 ms below the level's threshold less 2 C one level is left (R380). -/
def throttleExit (s : State) : State :=
  match s.teller.coolFrom with
  | some c =>
    if 0 < s.teller.level && c + 10000000 ≤ s.now then
      let s := setLevel (s.teller.level - 1) s
      modTeller (fun x => { x with
        coolFrom := if 0 < x.level && x.tj < throttleAt x.level - 32 then some s.now else none }) s
    else s
  | none => s

/-! ### Dispatch and points (R370, R371, R373, R374) -/

/-- Does a task pass its class's floor (R371)? -/
def passesFloor (cls cost : Nat) (x : District) : Bool :=
  match cls with
  | 0 => true
  | 1 => (x.reserve : Int) ≤ x.purse - cost
  | 2 => (2 * x.reserve : Int) ≤ x.purse - cost
  | _ => (4 * x.reserve : Int) ≤ x.purse - cost

/-- May a cell take a task now: its district is at work and not between points, the cell is not retired and free, and the spare of a cluster,
its cell 15, works only in place of a retired cell (R11, R77, R373; which cell is the spare is a DESIGN CHOICE, assumption 93)? -/
def cellFree (d cell : Nat) (s : State) : Bool :=
  let x := s.district d
  let spare := cell % 16 = 15 && !(x.retired.any fun i => i / 16 = cell / 16 && i ≠ cell)
  !(x.gated || x.waking || x.failed || x.resetting || x.stepTo.isSome)
    && (d = 16 || !(s.mode = .faultHold || s.modes.critical || spare || x.retired.contains cell || (Tab.get {} x.running cell).stage ≠ 0))

/-- The task a free cell takes from a queue: the oldest of the highest class that passes its floor, that no throttle level withholds and no
brown-out pause holds (R91, R371, R380). -/
def nextTask (queue : List TileTask) (x : District) (s : State) : Option TileTask :=
  let may := fun q : TileTask => passesFloor q.cls.val (taskCost q.ops x.point x.k) x
    && (q.cls.val = 0 || !workHeld q.cls.val s)
  (List.range 4).findSome? fun c => queue.find? fun q => q.cls.val = c && may q

/-- The median of a list of times: the middle one, the lower of two. -/
def medianTime (xs : List Nat) : Nat := nth 0 (sortBy id xs) ((xs.length - 1) / 2)

/-- A cluster and a stage, as the running times are kept by. -/
def timeKey (cell stage : Nat) : Nat := cell / 16 * 16 + stage

/-- A cell begins a tile: its deadline follows the cluster's median for the stage as it stands now (R385). -/
def runTile (cell : Nat) (q : TileTask) (now : Nat) (x : District) : RunTile :=
  { stage := q.stage.val + 1, since := now, cls := q.cls.val
    deadline := now + max 2000 (4 * medianTime (Tab.get [] x.times (timeKey cell q.stage.val))) }

/-- CELL_DISPATCH: the tasks that have come for district d (16: the hub) since the last join its clusters' queues, and a gated district wakes
for them (R28, R374); a free cell takes its next task from its cluster's queue, whose cost is charged (R10, R370, R371). -/
def cellDispatch (d cell : Nat) (tasks : List TileTask) (s : State) : State :=
  let s := modDistrict d (fun x =>
    let x := tasks.foldl (fun x q => feedTask d (taskClass d q s) x) x
    if tasks = [] then x else wakeDistrict x) s
  let x := s.district d
  let c := if d = 16 then 0 else cell / 16
  if !cellFree d cell s then s
  else match nextTask (Tab.get [] x.queue c) x s with
    | some q =>
      let cost := taskCost q.ops x.point x.k
      s.setDistrict d { x with
        purse := purseOf (x.purse - cost), charged := x.charged + cost, clockStopped := false, idleFrom := none
        queue := Tab.set [] x.queue c ((Tab.get [] x.queue c).erase q)
        running := if d = 16 then x.running else Tab.set {} x.running cell (runTile cell q s.now x) }
    | none => s

/-- DVFS_STEP_DONE: a step between points completes, at a tile boundary: no cell takes a tile while it is due, and those that run finish first; a
step up waits until the die's rail has settled (R12, R373, R542). -/
def dvfsStepDone (d : Nat) (s : State) : State :=
  let settling := (if dieOf d = 0 then s.modes.vidRaised0 else s.modes.vidRaised1).isSome
  modDistrict d (fun x => match x.stepTo with
    | some p => if x.running ≠ [] || (settling && x.point < p) then x else { x with point := p, stepTo := none }
    | none => x) s

/-- A block of a port has closed: its district steps down to a lower point that has passed for the whole of the block; the deadlines missed in
the block are forgotten (R374, R385). -/
def districtBlock (n : Nat) (s : State) : State :=
  if (s.pmap n).lost then s
  else modDistrict (s.route n) (fun x =>
    let p := (lowestPoint (portNeed n s.teller.steps s) (activeCells x)).getD 5
    let most := (x.passFrom.map (max p)).getD 5
    { x with cellMiss := [], passFrom := some p, stepTo := if most < x.point then some most else x.stepTo }) s

/-- The dynamic cost of a district's cells at full work for 1 ms at a point, in tokens (R374). -/
def fullCost (x : District) (p : Nat) : Nat := taskCost ((dvfs p).capacity * 1000000 * activeCells x / 60) p x.k

/-- POOL_POINT_RESELECT: each millisecond a pool district takes the highest point its credit sustains over the next (R374). -/
def poolPointReselect (d : Nat) (s : State) : State :=
  if d < 12 || (servedPort d s).isSome || !elapsed 1000000 (s.district d).poolAt s.now then s
  else modDistrict d (fun x =>
    let p := ((List.range 5).filter fun p => fullCost x p ≤ 10 * x.credit).foldl max 0
    { x with stepTo := if p = x.point then none else some p, poolAt := some s.now }) s

/-- DISTRICT_POWER_GATE: a district without work for 10 ms is power-gated; its purse reads 0 (R368, R374). -/
def districtPowerGate (d : Nat) (s : State) : State :=
  match (s.district d).idleFrom with
  | some c =>
    if c + 10000000 ≤ s.now && districtIdle (s.district d) then
      modDistrict d (fun x => { x with gated := true, clockStopped := true, purse := 0, carry := 0, running := [] }) s
    else s
  | none => s

/-! ### Route changes (R16-R20, R381, R387) -/

/-- A pool district that stands free (R19, R391). -/
def poolFree (d : Nat) (s : State) : Bool :=
  let x := s.district d
  (List.range 12).all (fun n => (s.pmap n).lost || s.route n ≠ d) && !x.failed && !x.resetting
    && (s.teller.change.all fun c => c.dest ≠ d)

/-- The stand-in for a district: the lowest free pool district of its die, else of the other die (R19). -/
def standIn (d : Nat) (ok : Nat → Bool) (s : State) : Option Nat :=
  let own := if dieOf d = 0 then [12, 13] else [14, 15]
  let other := if dieOf d = 0 then [14, 15] else [12, 13]
  (own ++ other).find? fun e => poolFree e s && ok e

/-- A route change begins: the port's lines wait in its front end (R18). -/
def beginRoute (x : RouteChange) (s : State) : State :=
  let s := modTeller (fun y => { y with
    change := some x, remaps := if x.cause = 0 then y.remaps else sat 32 (y.remaps + 1) }) s
  let s := modDistrict x.dest (fun y => { wakeDistrict y with outOfUse := false }) s
  modPort x.port (fun p => { p with rerouting := true }) s

/-- A port without a stand-in is lost: its neighbours wait for nothing of it, and its lines go; the district it leaves has no Registered work;
event, journal (R20, R218, R369). -/
def losePort (n : Nat) (s : State) : State :=
  let d := s.route n
  let s := if (s.port n).buffered = [] then s else captureAnew n s
  let s := modPort n (fun p => { p with buffered := [] }) (modPmap n (fun m => { m with lost := true }) s)
  let s := match stationOf n s with
    | some k => foldChange k (dropSeams k n s)
    | none => s
  let s := if s.mode.receives then setReserves s.teller.steps s else s
  raise (194 + 4 * d) (journal 0x0A01 (0x10 + n) 93 (le 1 n ++ le 1 d) s)

/-- Does a district stand far enough below another to take a port from it for heat (R381)? -/
def cooler (d e : Nat) (s : State) : Bool := (s.district e).temp + 5 * 2 ^ 20 ≤ (s.district d).temp

/-- The district that may take over from another, for a cause: heat asks for a cooler one (R19, R381). -/
def moveTarget (d cause : Nat) (s : State) : Option Nat := standIn d (fun e => cause ≠ 2 || cooler d e s) s

/-- The teller moves a port away from its district: now, or as soon as the change in progress completes. Without a stand-in a port whose district
has failed is lost; one that was to move for heat stays (R19, R20, R381, R387). -/
def moveAway (n cause : Nat) (s : State) : State :=
  let d := s.route n
  if s.teller.change.isSome then
    if s.teller.moves.any fun y => y.port = n && y.cause = cause then s
    else modTeller (fun y => { y with moves := y.moves ++ [{ port := n, source := d, dest := d, cause := cause }] }) s
  else match moveTarget d cause s with
    | some e => beginRoute { port := n, source := d, dest := e, cause := cause } s
    | none => if cause = 2 then s else losePort n s

/-- A move that has waited starts, or goes on waiting behind another that has started (R387). A command's has its district already. -/
def startMove (s : State) (y : RouteChange) : State :=
  if y.cause ≠ 0 then moveAway y.port y.cause s
  else if s.teller.change.isSome then modTeller (fun z => { z with moves := z.moves ++ [y] }) s
  else beginRoute y s

/-- The need after a port has come to another district: a route that a command has given in INSPECT was admitted with it; a move of the
teller's leaves the result of admission as it was (R19, R377). -/
def takeRoute (cause : Nat) (s : State) : State :=
  match s.mode with
  | .inspect | .reduced => if cause = 0 then takeAdmission s else takeNeeds s
  | .learn | .shadow => takeNeeds s
  | _ => s

/-- ROUTE_CHANGE_DONE: the port's lines go to the new district from here on, which begins with an empty history (R18); it stands in as a port
district, and a port that was lost is lost no more and begins a run of its own (R16, R19, R20); events, journal, the reply of TELLER_REMAP, and the moves that wait, each as
soon as it can (R15, R387). A port whose new district has failed meanwhile moves on (R386). -/
def routeChangeDone (s : State) : State :=
  match s.teller.change with
  | none => s
  | some x =>
    let s := modTeller (fun y => { y with change := none }) (s.setRoute x.port x.dest)
    let s := match (s.pmap x.port).lost, stationOf x.port s with
      | true, some k => startPort k false s x.port
      | _, _ => clearHistory x.port s
    let s := modPmap x.port (fun m => { m with lost := false }) s
    let s := takeRoute x.cause (modPort x.port (fun p => { p with rerouting := false }) s)
    let s := raise (194 + 4 * x.source) s
    let s := if 12 ≤ x.dest then raise (194 + 4 * x.dest) s else s
    let s := journal 0x0A00 (0x10 + x.port) 93 (le 1 x.port ++ le 1 x.source ++ le 1 x.dest ++ le 1 x.cause) s
    let s := drainFront x.port 256 s
    let s := finishOne 0x0A04 (fun _ => x.cause = 0) stDone (le 1 x.dest ++ zeros 3) s
    let s := s.teller.moves.foldl startMove (modTeller (fun z => { z with moves := [] }) s)
    if (s.district x.dest).failed then moveAway x.port 1 s else s

/-- HOT_DISTRICT_CHECK, once per second: at level 3 a port district at least 3.0 C above the mean of its die's other active districts has
its port moved to a free district at least 5.0 C cooler, one move per second (R381); behind another change the move waits (R387). -/
def hotDistrictCheck (s : State) : State :=
  if s.teller.level < 3 || !elapsed 1000000000 s.teller.hotAt s.now then s else
  let s := modTeller (fun x => { x with hotAt := some s.now }) s
  let active := fun d => !(s.district d).gated && !(s.district d).failed
  let hot := (List.range 16).find? fun d =>
    let others := (List.range 16).filter fun e => e ≠ d && dieOf e = dieOf d && active e
    let sum := sumInt (others.map fun e => (s.district e).temp)
    (servedPort d s).isSome && active d && others ≠ []
      && decide (sum + 3 * 2 ^ 20 * others.length ≤ (s.district d).temp * others.length)
      && (moveTarget d 2 s).isSome
  if !elapsed 1000000000 s.teller.movedAt s.now then s
  else match hot.bind fun d => servedPort d s with
    | none => s
    | some n => moveAway n 2 (modTeller (fun x => { x with movedAt := some s.now }) s)

/-! ### Tiles, retirement and district faults (R385, R386, R11, R13, R15) -/

/-- A port loses what its district holds of the run: the resampler's history and queue, the statistics of open blocks, the lines and values
that wait at its seams, its open fragments, and, where it leads its station, the open blobs and the counters of segmentation. Its tables, and the
numbering, are job state, which the district reloads (R13, R88, R294). -/
def losePortRun (n : Nat) (s : State) : State :=
  let s := modRes n (fun r => { r with queue := [], prevSpeed := none }) (clearHistory n s)
  let s := modPort n (fun p => { p with stats := [] }) s
  match stationOf n s with
  | none => s
  | some k =>
    let i := portIndex k n s
    let s := modStation k (fun st => { st with ring := st.ring.filter fun v => !(v.arrived && v.owner = n) }) (setWaiting k i [] s)
    let s := modSeg k (fun g => { g with frags := Tab.set [] g.frags i [] }) s
    if i = 0 then
      modSeg k (fun g => { g with
        peak := 0, records := 0, discarded := 0, growOnly := 0, storms := 0, splits := 0, late := 0, hits := [] }) (discardBlobs k s).2
    else s

/-- A district reset begins: its run state goes, that of the port it serves among it, its clusters restart (R13); counted in DISTRICT_COUNT
(R386). -/
def resetDistrict (d : Nat) (s : State) : State :=
  let s := match servedPort d s with
    | some n => losePortRun n s
    | none => s
  let s := modDistrict d (fun x => { x with
    resetting := true, running := [], times := [], cellMiss := [], purse := 0, carry := 0, charged := 0, credit := 0, misses := 0
    stealing := false, queue := [], fed := [], stepTo := none, point := 0, passFrom := none }) s
  { s with modes := { s.modes with districtCount := sat 16 (s.modes.districtCount + 1) } }

/-- A district has failed its port: the port moves, the district is reset and serves none until a remap names it (R386). -/
def failDistrict (d : Nat) (hw : Bool) (s : State) : State :=
  let served := servedPort d s
  let s := modDistrict d (fun x => { x with failed := hw, outOfUse := x.outOfUse || d < 12 || served.isSome }) (resetDistrict d s)
  match served with
  | some n => moveAway n 1 s
  | none => s

/-- DISTRICT_FAULT: a district reports a hardware fault (R386). -/
def districtFault (d : Nat) (s : State) : State := failDistrict d true s

/-- A cell is retired (R11, R385, R386): the spare takes its place, then its cluster is short and work moves to its
siblings; a further loss has the port moved. Pool districts go on with fewer cells. -/
def retireCell (d cell cause : Nat) (s : State) : State :=
  let x := s.district d
  if x.retired.contains cell then s
  else
    let c := cell / 16
    let gone := fun y : District => fun c : Nat => (y.retired.filter fun i => i / 16 = c).length
    let x := { x with retired := x.retired ++ [cell] }
    let s := s.setDistrict d x
    let s := modTeller (fun y => { y with retirements := sat 32 (y.retirements + 1) }) s
    let s := raise (192 + 4 * d) (journal 0x0A02 (0x20 + d) 93 (le 1 d ++ le 1 c ++ le 1 (cell % 16) ++ le 1 cause) s)
    let short := (List.range 4).filter fun c => 2 ≤ gone x c
    let s := if gone x c = 2 then raise (193 + 4 * d) (modDistrict d (fun y => { y with stealing := true }) s) else s
    let serves := (servedPort d s).isSome
    if serves && (3 ≤ gone x c || 2 ≤ short.length) then failDistrict d false s
    else if serves then
      match servedPort d s with
      | some n =>
        let w := portNeed n s.teller.steps s
        if pointPasses w (activeCells x) x.point then s
        else modDistrict d (District.need ((lowestPoint w (activeCells x)).getD 4)) s
      | none => s
    else s

/-- The time a tile took: a task below Registered has at most 20 us of cell time, and ends there (R371; DEDUCED, assumption 93). -/
def tileTime (run : RunTile) (now : Nat) : Nat := if run.cls = 0 then now - run.since else min 20000 (now - run.since)

/-- TILE_DONE: a cell finishes its tile, in time or after the deadline it was dispatched with; a third miss within a block, or an uncorrectable
store error, retires the cell (R385). -/
def tileDone (d cell : Nat) (storeError : Bool) (s : State) : State :=
  let x := s.district d
  let run := Tab.get {} x.running cell
  if run.stage = 0 then s
  else
    let key := timeKey cell (run.stage - 1)
    let took := tileTime run s.now
    let late := run.deadline < run.since + took
    let misses := Tab.get 0 x.cellMiss cell + b2n late
    let left := Tab.set {} x.running cell {}
    let s := s.setDistrict d { x with
      running := left, clockStopped := x.clockStopped || (s.modes.critical && left = [])
      times := Tab.set [] x.times key ((took :: Tab.get [] x.times key).take 256)
      cellMiss := Tab.set 0 x.cellMiss cell misses
      misses := sat 16 (x.misses + b2n late) }
    if storeError then retireCell d cell 1 s else if 3 ≤ misses then retireCell d cell 0 s else s

/-- DISTRICT_READY: a reset or wake completes; after a district reset the self-test has tried the retired cells again, and after POR every cell,
`bad` being those it finds wanting, and lines that have waited in a front end go on (R11, R13, R15, R379). A RESET that named the district replies. -/
def districtReady (d : Nat) (bad : List Nat) (s : State) : State :=
  let was := (s.district d).resetting
  if !(was || (s.district d).waking || (s.district d).untested) then s
  else
    let s := modDistrict d (fun x => { x with
      resetting := false, waking := false, gated := false
      failed := x.failed && !was
      retired := if x.untested then bad.dedup.filter (· < 64) else if was then x.retired.filter bad.contains else x.retired
      untested := false
      temp := nth 0 s.teller.dies (dieOf d) * 2 ^ 16 }) s
    let s := raise (195 + 4 * d) s
    let s := if was then finishOne 0x0105 (fun x => x.args.block = 0x20 + d) stDone [] s else s
    match servedPort d s with
    | some n => drainFront n 256 s
    | none => s

/-! ### INSPECT_REDUCED (R382-R384) -/

/-- P0' of a grid on another pitch from block b on: where block b - 1 ends under the last one, in 1/65536 counts (R204). -/
def blockOrigin (k b : Nat) (s : State) : Int :=
  let g := s.grid k
  match g.changes.getLast? with
  | some x => x.origin + divHalfUp (((256 * (b - x.block)) * x.pitch * 62500 * 2 ^ 16 : Nat) : Int) (stationPm k s)
  | none => g.origin.getD 0 + divHalfUp (((256 * b - g.lineBase) * g.pitch * 62500 * 2 ^ 16 : Nat) : Int) (stationPm k s)

/-- The first block no port of a station has begun. -/
def nextBlock (k : Nat) (s : State) : Nat :=
  (s.station k).ports.foldl (fun m n => max m (((s.res n).nextLine + 255) / 256)) 0

/-- The pitch of a station under a set of reduction steps (R382, R383). -/
def pitchUnder (k steps : Nat) (s : State) : Nat :=
  let d := s.decl k
  if (reductionsOf k steps s).getLsbD 1 then (s.grid k).basePitch * d.factor else (s.grid k).basePitch

/-- Do all stations in use pass their check at the pitch a set of steps gives them (R220)? -/
def stepsFit (steps : Nat) (s : State) : Bool :=
  (List.range 4).all fun k => (s.station k).ports = [] || (stationCheck k (pitchUnder k steps s) s).1 = 0

/-- A station takes a set of reductions from its next block boundary on; a port that stands there clears its history at once (R203, R204, R383,
R384). -/
def stationReduce (k : Nat) (red : BitVec 2) (s : State) : State :=
  let d := s.decl k
  if d.applied = red && d.due.isNone then s
  else
    let b := nextBlock k s
    let g := s.grid k
    let pitch := if red.getLsbD 1 then g.basePitch * d.factor else g.basePitch
    let s := modDecl k (fun d => { d with due := some (b, red) }) s
    if pitch = (g.changes.getLast?.map (·.pitch)).getD g.pitch || g.origin.isNone then s
    else
      let s := s.setGrid k { g with changes := g.changes ++ [{ block := b, pitch := pitch, origin := blockOrigin k b s }] }
      foldChange k ((s.station k).ports.foldl (fun s n => if (s.res n).nextLine = 256 * b then clearHistory n s else s) s)

/-- A package that goes to STANDBY loses the steps it has applied, run state; a grid on a coarse pitch, job state, reverts at its next block
boundary (R88, R204; DESIGN CHOICE, assumption 111). -/
def dropReductions (s : State) : State := (List.range 4).foldl (fun s k => stationReduce k 0 s) s

/-- Has any station a reduction of a step to take: 1 DROP_PLANE3 with 4-plane ports, 2 COARSE_PITCH (R383)? -/
def stepActs (step : Nat) (s : State) : Bool :=
  (List.range 4).any fun k =>
    let d := s.decl k
    let st := s.station k
    if step = 1 then d.reduce.getLsbD 0 && fourPlanes k s
    else d.reduce.getLsbD 1 && st.ports ≠ []

/-- Every station takes the reductions of a set of steps. -/
def reduceAll (steps : Nat) (s : State) : State :=
  let s := modTeller (fun x => { x with steps := steps, stepAt := none, warmAt := some s.now }) s
  takeAdmission ((List.range 4).foldl (fun s k =>
    if (s.station k).ports = [] then s else stationReduce k (reductionsOf k steps s) s) s)

/-- The steps in force after the next one: the first after the last applied that acts, that every station fits and whose configuration is
admitted; another is skipped (R220, R377, R383). -/
def nextStep (s : State) : Option Nat :=
  ((List.range 2).find? fun i =>
    s.teller.steps < 2 ^ i && stepActs (i + 1) s && stepsFit (s.teller.steps + 2 ^ i) s
      && (admission (s.teller.steps + 2 ^ i) s).1 = 0).map (s.teller.steps + 2 ^ ·)

/-- Have all stations applied what the last step asked of them? -/
def stepsTaken (s : State) : Bool := (List.range 4).all fun k => (s.decl k).due.isNone

/-- REDUCTION_STEP: at level 4 the next step is applied, 100 ms after every station applied the last one (R383). A package
in SHADOW chooses none. -/
def reductionStep (s : State) : State :=
  let ready := stepsTaken s && (s.teller.steps = 0 || elapsed 100000000 s.teller.stepAt s.now)
  if s.teller.level = 4 && throttleAt 4 ≤ s.teller.tj && ready && (s.mode = .inspect || s.mode = .reduced) then
    match nextStep s with
    | some steps => reduceAll steps s
    | none => s
  else s

/-- The steps that remain when the last one applied is undone (R384). -/
def stepBefore (s : State) : Nat := if 2 ≤ s.teller.steps then s.teller.steps - 2 else 0

/-- REDUCTION_REVERT: Tj below 93.0 C for 500 ms since the last step or reversion undoes the last step, if the
configuration without it is admitted (R384). -/
def reductionRevert (s : State) : State :=
  let cool := stepsTaken s && elapsed 500000000 s.teller.warmAt s.now && elapsed 500000000 s.teller.stepAt s.now
    && s.teller.tj < 93 * 16
  if 0 < s.teller.steps && cool && s.mode = .reduced && stepsFit (stepBefore s) s && (admission (stepBefore s) s).1 = 0 then
    reduceAll (stepBefore s) s
  else s

/-- A station has come to a block boundary: reductions due there are in force; REDUCTION_CHANGED (R383, R390). Answers
whether something changed. -/
def takeReduction (k line : Nat) (s : State) : State :=
  match (s.decl k).due with
  | some (b, red) =>
    if 256 * b ≤ line then
      let s := modDecl k (fun d => { d with applied := red, due := none }) s
      let s := if stepsTaken s then modTeller (fun x => { x with stepAt := some s.now }) s else s
      raise 501 s
    else s
  | none => s

/-- Is any reduction in force? -/
def reducedNow (s : State) : Bool := (List.range 4).any fun k => (s.decl k).applied ≠ 0

/-! ### Commands (R391, R559) -/

/-- TELLER_SET, opcode 0x0A00. -/
def cmdTellerSet : CommandDef := {
  opcode := 0x0A00
  modes := [.standby, .configure, .learn, .inspect, .reduced]
  lengths := [8]
  check := fun c _ s =>
    if u16 c.p 0 < 320 || 2000 < u16 c.p 0 || 160 < u16 c.p 2 || !zeroAt c.p 4 4 then stOutOfRange
    else if s.mode = .inspect || s.mode = .reduced then
      admitStatus s.teller.steps (modTeller (fun x => { x with powerLimit := u16 c.p 0 }) s)
    else stDone
  commit := fun c s =>
    let s := modTeller (fun x => { x with powerLimit := u16 c.p 0, guardBand := u16 c.p 2 }) s
    .reply [] (if s.mode = .inspect || s.mode = .reduced then takeAdmission s else s) }

/-- TELLER_STATION_SET, opcode 0x0A01. -/
def cmdTellerStationSet : CommandDef := {
  opcode := 0x0A01
  modes := [.standby, .configure]
  lengths := [8]
  kinds := [0x30]
  multi := [0xFE]
  check := fun c k s =>
    let coarse := (u8 c.p 0).testBit 1
    let f := u8 c.p 1
    if 3 < u8 c.p 0 || !zeroAt c.p 2 2 || (coarse && (f < 2 || 4 < f)) || (!coarse && f ≠ 0) then stOutOfRange
    else if u32 c.p 4 ≠ 0 && (u32 c.p 4 < 1000 || 20000000 < u32 c.p 4) then stOutOfRange
    else if coarse && 3200 < (s.grid k).basePitch * f then stConflict
    else if coarse && (s.station k).ports ≠ [] && (stationCheck k ((s.grid k).basePitch * f) s).1 ≠ 0 then stConflict
    else stDone
  commit := fun c s => .reply [] (c.targets.foldl (fun s k => modDecl k (fun d => { d with
    reduce := BitVec.ofNat 2 (u8 c.p 0), factor := u8 c.p 1, speedMax := u32 c.p 4 }) s) s) }

/-- Watts in 1/16, rounded up (R559). -/
def sixteenths (w : ℚ) : Nat := ⌈16 * w⌉.toNat

/-- TELLER_CHECK, opcode 0x0A02. -/
def cmdTellerCheck : CommandDef := {
  opcode := 0x0A02
  lengths := [0]
  reads := true
  replyMax := fun _ => 80
  commit := fun _ s =>
    let a := admission s.teller.steps s
    let ns := districtNeeds s.teller.steps s
    .reply (le 2 (if a.1 = 0 then stDone else stUnsafe) ++ le 1 a.1 ++ le 1 a.2 ++ le 4 (sixteenths (regPower ns s))
      ++ le 4 (85 * s.teller.powerLimit / 100) ++ zeros 4
      ++ (List.range 16).flatMap fun d => match ns.find? (fun x => x.district = d) with
        | some x => le 1 x.point ++ le 1 (min 255 ⌈x.work / ((dvfs x.point).capacity * 10000000)⌉.toNat)
            ++ le 2 (sixteenths x.power)
        | none => [0xFF#8, 0#8, 0#8, 0#8]) s }

/-- A district's 16 bytes of TELLER_STATUS. -/
def districtStatus (d : Nat) (s : State) : List Byte :=
  let x := s.district d
  let n := servedPort d s
  le 1 x.point ++ le 1 (activeCells x)
    ++ le 1 (b2n n.isSome + 2 * b2n (12 ≤ d && n.isNone && x.running ≠ []) + 4 * b2n x.clockStopped + 8 * b2n x.gated
      + 16 * b2n x.stealing + 32 * b2n x.failed)
    ++ le 1 (n.getD 0xFF) ++ les 4 (if x.gated then 0 else x.purse) ++ les 2 (x.temp / 2 ^ 16) ++ le 2 x.k
    ++ le 2 x.misses ++ le 1 x.retired.length ++ zeros 1

/-- TELLER_STATUS, opcode 0x0A03. -/
def cmdTellerStatus : CommandDef := {
  opcode := 0x0A03
  lengths := [4]
  reads := true
  replyMax := fun _ => 280
  check := fun c _ _ => if 1 < u8 c.p 0 || !zeroAt c.p 1 3 then stOutOfRange else stDone
  commit := fun c s =>
    let x := s.teller
    .reply (le 1 x.level ++ le 1 (stepsApplied s) ++ les 2 x.tj ++ zeros 4
        ++ (List.range 16).flatMap (fun d => districtStatus d s)
        ++ le 4 x.shortTicks ++ le 4 x.remaps ++ le 4 x.retirements ++ le 4 x.throttledMs)
      (if (u8 c.p 0).testBit 0 then modTeller (fun x => { x with
        shortTicks := 0, remaps := 0, retirements := 0, throttledMs := 0 })
        ((List.range 16).foldl (fun s d => modDistrict d (fun y => { y with misses := 0 }) s) s) else s) }

/-- The district a TELLER_REMAP leads to: the one it names, or the choice of R19. -/
def remapTarget (n d : Nat) (s : State) : Option Nat := if d = 0xFF then standIn (s.route n) (fun _ => true) s else some d

/-- The configuration a TELLER_REMAP leads to, as admission judges it: the named district serves the port (R377, R386). -/
def remapped (n d : Nat) (s : State) : State :=
  modDistrict d (fun x => { x with outOfUse := false }) (modPmap n (fun m => { m with lost := false }) (s.setRoute n d))

/-- TELLER_REMAP, opcode 0x0A04: it replies when the route change completes. -/
def cmdTellerRemap : CommandDef := {
  opcode := 0x0A04
  modes := [.configure, .learn, .inspect, .reduced, .shadow]
  lengths := [4]
  replyMax := fun _ => 4
  foresees := fun c s => le 1 ((remapTarget (u8 c.p 0) (u8 c.p 1) s).getD 0) ++ zeros 3
  also := fun c s => [0x10 + u8 c.p 0, 0x20 + (remapTarget (u8 c.p 0) (u8 c.p 1) s).getD 0]
  check := fun c _ s =>
    let n := u8 c.p 0
    if 11 < n || (15 < u8 c.p 1 && u8 c.p 1 ≠ 0xFF) || !zeroAt c.p 2 2 then stOutOfRange
    else if s.teller.change.isSome then stBusy
    else match remapTarget n (u8 c.p 1) s with
      | none => stNoSpace
      | some d =>
        if (servedPort d s).isSome || (s.district d).failed then stConflict
        else if s.mode = .inspect || s.mode = .reduced then admitStatus s.teller.steps (remapped n d s)
        else stDone
  commit := fun c s =>
    let n := u8 c.p 0
    match remapTarget n (u8 c.p 1) s with
    | some d => .later (startMove s { port := n, source := s.route n, dest := d, cause := 0 }) d
    | none => .refuse stNoSpace }

/-- The teller capability's body, ID 0x000B version 1 (R391). -/
def capTeller : List Byte := [16, 5, 4, 5] ++ le 2 10 ++ le 2 100

end Sys2Proof.Machine
end

