-- ==== Sys2Proof/Machine/Pins.lean ====
section
/-!
DEFINITION. Sys2Proof/Machine/Pins.lean: low-speed balls (chapter 26): VID (R541, R542), PERST_N (R547), test access (R550), GPIO
(R551), the auxiliary ADC (R552) and the commands of R553.
-/
namespace Sys2Proof.Machine

def modElec (f : Elec → Elec) (s : State) : State := { s with elec := f s.elec }

/-! ### VID (R541, R542) -/

/-- The VID code of a DVFS point's voltage (R373, R541). -/
def pointVid (p : Nat) : Nat := nth 25 [0, 5, 10, 17, 25] p

/-- The code that the districts of a die need: the highest of the points they hold or step to; power-gated ones need none. -/
def neededVid (c : Nat) (s : State) : Nat :=
  (((List.range 16).filter fun d => dieOf d = c && !(s.district d).gated).map fun d =>
    max (pointVid (s.district d).point) (pointVid ((s.district d).stepTo.getD 0))).foldl max 0

/-- A die's code follows its need; when it has risen, no district of the die steps up for 15 us (R541, R542). -/
def updateVids (s : State) : State :=
  if !s.sys.fwRunning || s.mode = .sentry then s
  else
    let a := neededVid 0 s
    let b := neededVid 1 s
    if a = s.modes.vid0 && b = s.modes.vid1 then s
    else { s with modes := { s.modes with
      vidRaised0 := if s.modes.vid0 < a then some s.now else s.modes.vidRaised0
      vidRaised1 := if s.modes.vid1 < b then some s.now else s.modes.vidRaised1
      vidOld0 := if s.modes.vid0 < a then s.modes.vid0 else s.modes.vidOld0
      vidOld1 := if s.modes.vid1 < b then s.modes.vid1 else s.modes.vidOld1
      vid0 := a
      vid1 := b } }

/-- VID_SETTLED: 15 us after a code of die c has risen (R542). -/
def vidSettled (c : Nat) (s : State) : State :=
  let done := fun (x : Option Nat) => match x with
    | some u => if u + 15000 ≤ s.now then none else x
    | none => none
  if c = 0 then { s with modes := { s.modes with vidRaised0 := done s.modes.vidRaised0 } }
  else { s with modes := { s.modes with vidRaised1 := done s.modes.vidRaised1 } }

/-! ### PERST_N and the PCIe link (R547) -/

/-- PERST_N_CHANGE: while it is low the endpoint is held in reset and the link counts as down. -/
def perstChange (low : Bool) (s : State) : State :=
  let s : State := { s with modes := { s.modes with perst := low } }
  if low then
    let s := linkDown s
    modHost (fun h => { h with configReady := false, msixTable := [] }) s
  else s

/-- HOST_LINK_UP: the link has trained and configuration space is ready. -/
def linkUp (speed width payload : Nat) (s : State) : State :=
  if s.modes.perst || s.mode = .sentry || s.modes.por || s.modes.pinHeld then s
  else modHost (fun h => { h with up := true, configReady := true, speed := speed, width := width, maxPayload := 128 * 2 ^ payload }) s

/-! ### Test access (R550) -/

/-- TEST_ACCESS_INSTRUCTION: every instruction but the four needs the DEBUG grant; refused, the port acts as BYPASS. -/
def testAccess (i : TapInstr) (s : State) : State :=
  let taken := match i with
    | .other _ => if s.sys.grantDebug then i else .bypass
    | _ => i
  let s := modElec (fun e => { e with tap := taken }) s
  if taken = .idcode then send .bus 3 1 (le 4 0x112967AB) s else s

/-! ### GPIO (R551) -/

/-- The level at a GPIO's ball (R553). -/
def Gpio.atBall (x : Gpio) : Bool :=
  match x.kind with
  | 0 => x.ball
  | 1 => x.driven
  | _ => x.driven && x.ball

/-- Are the balls outside the Sentry domain high impedance: in SENTRY and through every package reset (R548)? -/
def State.ballsReleased (s : State) : Bool := s.modes.por || s.modes.pinHeld || s.mode = .sentry || s.modes.groupUp ≠ 0b11

/-- GPIO_EDGE: the level at a ball has changed and has stood for a time; the filter accepts it once it has been held for FILTER_US at
25 MHz (R165, R551). -/
def gpioEdge (g : Nat) (high : Bool) (ns : Nat) (s : State) : State :=
  let x := s.gpio g
  if s.ballsReleased || x.ball = high || ns / 40 * 40 < 1000 * x.filterUs then s
  else
    let s := s.setGpio g { x with ball := high }
    if x.kind ≠ 0 then s
    else
      let s := modElec (fun e => { e with edges := Tab.modify 0 e.edges (g / 8) fun n => (n + 1) % 256 }) s
      if (x.edge.testBit 0 && high) || (x.edge.testBit 1 && !high) then fireChannel x.channel s else s

/-- Task input 200 + g is activated: an output performs its ACTION. -/
def gpioTask (g : Nat) (s : State) : State :=
  let x := s.gpio g
  if x.kind = 0 || s.ballsReleased then s
  else match x.action with
    | 1 => s.setGpio g { x with driven := true }
    | 2 => s.setGpio g { x with driven := false }
    | 3 => s.setGpio g { x with driven := !x.driven }
    | 4 => s.setGpio g { x with driven := !x.level, pulseUntil := some (s.now + x.pulseUs * 1000) }
    | _ => s

/-- GPIO_PULSE_END: a pulse has lasted PULSE_US. -/
def gpioPulseEnd (g : Nat) (s : State) : State :=
  let x := s.gpio g
  match x.pulseUntil with
  | some u => if u ≤ s.now then s.setGpio g { x with driven := x.level, pulseUntil := none } else s
  | none => s

/-! ### Commands (R553) -/

/-- The settings GPIO_SET asks for; its commit ends a pulse and drives an output's idle level. -/
def gpioArgs (p : List Byte) (x : Gpio) : Gpio :=
  { x with
    kind := u8 p 1
    level := u8 p 2 = 1
    action := u8 p 3
    pulseUs := u16 p 4
    filterUs := u16 p 6
    edge := u8 p 8
    channel := u8 p 9
    driven := u8 p 2 = 1
    pulseUntil := none }

/-- The settings that a locked channel freezes. -/
def Gpio.frozen (x : Gpio) : List Nat := [x.kind, b2n x.level, x.action, x.pulseUs, x.filterUs, x.edge, x.channel]

/-- GPIO_SET, opcode 0x0010. -/
def cmdGpioSet : CommandDef := {
  opcode := 0x0010
  lengths := [16]
  check := fun c _ s =>
    let x := s.gpio (u8 c.p 0)
    if 31 < u8 c.p 0 || 2 < u8 c.p 1 || 1 < u8 c.p 2 || 4 < u8 c.p 3 || (if u8 c.p 3 = 4 then u16 c.p 4 = 0 else u16 c.p 4 ≠ 0)
      || 1000 < u16 c.p 6 || 3 < u8 c.p 8 || (u8 c.p 1 ≠ 0 && u8 c.p 8 ≠ 0) || 127 < u8 c.p 9 || !zeroAt c.p 10 6 then stOutOfRange
    else if (s.channel x.channel).locked && (gpioArgs c.p x).frozen ≠ x.frozen then stLocked
    else stDone
  commit := fun c s => .reply [] (modGpio (u8 c.p 0) (gpioArgs c.p) s) }

/-- GPIO_STATUS, opcode 0x0011: reading clears EDGES. -/
def cmdGpioStatus : CommandDef := {
  opcode := 0x0011
  lengths := [0]
  reads := true
  replyMax := fun _ => 16
  commit := fun _ s =>
    .reply (le 4 (maskOf ((List.range 32).filter fun g => (s.gpio g).atBall)) ++ le 4 (maskOf ((List.range 32).filter fun g => (s.gpio g).kind ≠ 0))
        ++ (List.range 4).flatMap (fun i => le 1 (Tab.get 0 s.elec.edges i)) ++ zeros 4)
      (modElec (fun e => { e with edges := [] }) s) }

/-- ADC_READ, opcode 0x0012: the mean codes are what the converter finds at its inputs. -/
def cmdAdcRead : CommandDef := {
  opcode := 0x0012
  lengths := [4]
  reads := true
  replyMax := fun _ => 16
  check := fun c _ _ => if u8 c.p 0 = 0 || u8 c.p 1 ≠ 0 || u16 c.p 2 = 0 || 1024 < u16 c.p 2 then stOutOfRange else stDone
  commit := fun c s =>
    .reply ((List.range 8).flatMap fun i => if (u8 c.p 0).testBit i then le 2 (u16 c.a.seen (2 * i)) else zeros 2) s }

/-- I2C_TRANSFER, opcode 0x0013: how the transfer goes is the peripheral's; nothing of the device's state changes. -/
def cmdI2cTransfer : CommandDef := {
  opcode := 0x0013
  lengths := [40]
  reads := true
  replyMax := fun c => u8 c.p 3
  check := fun c _ _ =>
    if 1 < u8 c.p 0 || u8 c.p 1 < 8 || 0x77 < u8 c.p 1 || 32 < u8 c.p 2 || 32 < u8 c.p 3 || (u8 c.p 2 = 0 && u8 c.p 3 = 0)
      || !zeroAt c.p 4 4 then stOutOfRange
    else stDone
  commit := fun c s =>
    let s := send .bus (u8 c.p 0) (u8 c.p 1) ((c.p.drop 8).take (u8 c.p 2)) s
    match c.a.fails with
    | none => .reply (padTo (u8 c.p 3) c.a.seen) s
    | some 0 => .ended stAbsent [] s
    | some 1 => .ended stTimedOut [] s
    | some _ => .ended stHwFault [] s }

end Sys2Proof.Machine
end

