-- ==== Sys2Proof/Machine/DataMatrix.lean ====
section
/-!
DEFINITION. Sys2Proof/Machine/DataMatrix.lean: the DataMatrix ECC 200 symbols of R343: codewords, pads, Reed-Solomon
codewords over GF(256) and the placement of modules, as ISO/IEC 16022 lays them down (PRESUMED, assumption 71).
-/
namespace Sys2Proof.Machine

/-- Data and error codewords of a square size (R343). -/
def dmCapacity (size : Nat) : Nat × Nat :=
  match size with
  | 10 => (3, 5) | 12 => (5, 7) | 14 => (8, 10) | 16 => (12, 12) | 18 => (18, 14) | 20 => (22, 18) | 22 => (30, 20) | 24 => (36, 24)
  | _ => (0, 0)

/-- n digits of x, most significant first. -/
def decDigits (n x : Nat) : List Nat := (List.range n).map fun i => x / 10 ^ (n - 1 - i) % 10

/-- A codeword for each pair of digits dd: 130 + dd (R343). -/
def digitPairs : List Nat → List Nat
  | a :: b :: rest => (130 + 10 * a + b) :: digitPairs rest
  | _ => []

/-- The pad codeword at position p, counted from one: 129 first, then 129 in the 253-state. -/
def dmPad (first p : Nat) : Nat :=
  if p = first then 129
  else
    let v := 129 + (149 * p % 253 + 1)
    if 254 < v then v - 254 else v

/-- The data codewords of a content, padded to n. -/
def dmData (n : Nat) (cw : List Nat) : List Nat :=
  cw ++ (List.range (n - cw.length)).map fun i => dmPad (cw.length + 1) (cw.length + 1 + i)

/-- Twice x in GF(256) with 0x12D. -/
def gfDouble (x : Nat) : Nat := if 2 * x < 256 then 2 * x else (2 * x) ^^^ 0x12D

/-- x times y in GF(256), over the lowest n bits of y. -/
def gfMulGo : Nat → Nat → Nat → Nat
  | 0, _, _ => 0
  | n + 1, x, y => (if y % 2 = 1 then x else 0) ^^^ gfMulGo n (gfDouble x) (y / 2)

def gfMul (x y : Nat) : Nat := gfMulGo 8 x y

/-- The generator of n error codewords, without its leading one: roots alpha to the powers 1 to n. -/
def rsGenerator : Nat → Nat → List Nat → List Nat
  | 0, _, g => g
  | n + 1, root, g => rsGenerator n (gfDouble root)
      (List.zipWith (· ^^^ ·) (g ++ [0]) ((1 :: g).map (gfMul root)))

/-- The n error codewords of the data codewords. -/
def rsCodewords (n : Nat) (data : List Nat) : List Nat :=
  let g := rsGenerator n 2 []
  data.foldl (fun rem d =>
    let k := d ^^^ rem.headD 0
    List.zipWith (· ^^^ ·) (rem.drop 1 ++ [0]) (g.map (gfMul k))) (List.replicate n 0)

/-- The mapping matrix while modules are placed: its side, the modules placed and the codeword that is next. -/
structure Placing where
  n : Nat
  cells : Array (Option Bool)
  next : Nat

/-- Is a module placed? -/
def Placing.taken (x : Placing) (r c : Nat) : Bool := ((x.cells.getD (r * x.n + c) none)).isSome

/-- A module's place after it has wrapped around the matrix's edges. -/
def dmWrap (n : Nat) (r c : Int) : Nat × Nat :=
  let k : Int := 4 - ((n + 4) % 8 : Nat)
  let p : Int × Int := if r < 0 then (r + n, c + k) else (r, c)
  let q : Int × Int := if p.2 < 0 then (p.1 + k, p.2 + n) else p
  (q.1.toNat, q.2.toNat)

/-- Eight places take the bits of the next codeword, the most significant first. -/
def Placing.place (x : Placing) (cw : List Nat) (places : List (Int × Int)) : Placing :=
  let v := nth 0 cw x.next
  { x with
    cells := ((List.range 8).zip places).foldl (fun (a : Array (Option Bool)) e =>
      let w := dmWrap x.n e.2.1 e.2.2
      a.setIfInBounds (w.1 * x.n + w.2) (some (v.testBit (7 - e.1)))) x.cells
    next := x.next + 1 }

/-- The shape of an ordinary codeword that ends at row r, column c. -/
def dmUtah (r c : Int) : List (Int × Int) :=
  [(r - 2, c - 2), (r - 2, c - 1), (r - 1, c - 2), (r - 1, c - 1), (r - 1, c), (r, c - 2), (r, c - 1), (r, c)]

/-- The four corner shapes. -/
def dmCorner (n : Int) (i : Nat) : List (Int × Int) :=
  match i with
  | 1 => [(n - 1, 0), (n - 1, 1), (n - 1, 2), (0, n - 2), (0, n - 1), (1, n - 1), (2, n - 1), (3, n - 1)]
  | 2 => [(n - 3, 0), (n - 2, 0), (n - 1, 0), (0, n - 4), (0, n - 3), (0, n - 2), (0, n - 1), (1, n - 1)]
  | 3 => [(n - 3, 0), (n - 2, 0), (n - 1, 0), (0, n - 2), (0, n - 1), (1, n - 1), (2, n - 1), (3, n - 1)]
  | _ => [(n - 1, 0), (n - 1, n - 1), (0, n - 3), (0, n - 2), (0, n - 1), (1, n - 3), (1, n - 2), (1, n - 1)]

/-- The sweep up and to the right. -/
def dmUp (cw : List Nat) : Nat → Int → Int → Placing → Int × Int × Placing
  | 0, r, c, x => (r, c, x)
  | fuel + 1, r, c, x =>
    let y := if r < (x.n : Int) && 0 ≤ c && !x.taken r.toNat c.toNat then x.place cw (dmUtah r c) else x
    if 0 ≤ r - 2 && c + 2 < (x.n : Int) then dmUp cw fuel (r - 2) (c + 2) y else (r - 2, c + 2, y)

/-- The sweep down and to the left. -/
def dmDown (cw : List Nat) : Nat → Int → Int → Placing → Int × Int × Placing
  | 0, r, c, x => (r, c, x)
  | fuel + 1, r, c, x =>
    let y := if 0 ≤ r && c < (x.n : Int) && !x.taken r.toNat c.toNat then x.place cw (dmUtah r c) else x
    if r + 2 < (x.n : Int) && 0 ≤ c - 2 then dmDown cw fuel (r + 2) (c - 2) y else (r + 2, c - 2, y)

/-- Corner shapes and sweeps until the matrix is passed. -/
def dmSweep (cw : List Nat) : Nat → Int → Int → Placing → Placing
  | 0, _, _, x => x
  | fuel + 1, r, c, x =>
    let n : Int := x.n
    let x := if r = n && c = 0 then x.place cw (dmCorner n 1) else x
    let x := if r = n - 2 && c = 0 && x.n % 4 ≠ 0 then x.place cw (dmCorner n 2) else x
    let x := if r = n - 2 && c = 0 && x.n % 8 = 4 then x.place cw (dmCorner n 3) else x
    let x := if r = n + 4 && c = 2 && x.n % 8 = 0 then x.place cw (dmCorner n 4) else x
    let u := dmUp cw 32 r c x
    let d := dmDown cw 32 (u.1 + 1) (u.2.1 + 3) u.2.2
    if d.1 + 3 < n || d.2.1 + 1 < n then dmSweep cw fuel (d.1 + 3) (d.2.1 + 1) d.2.2 else d.2.2

/-- The mapping matrix of a symbol's codewords; the fixed pattern fills the last corner when no codeword does. -/
def dmMatrix (n : Nat) (cw : List Nat) : Placing :=
  let x := dmSweep cw 32 4 0 { n := n, cells := Array.replicate (n * n) none, next := 0 }
  if x.taken (n - 1) (n - 1) then x
  else { x with cells := (x.cells.setIfInBounds (n * n - 1) (some true)).setIfInBounds (n * n - n - 2) (some true) }

/-- The rows of a symbol of SIZE modules: a solid left side and bottom, an alternating top and right side, and the mapping
matrix within (R336, R343). -/
def dmSymbol (size : Nat) (content : List Nat) : List (List Bool) :=
  let cap := dmCapacity size
  let data := dmData cap.1 content
  let m := dmMatrix (size - 2) (data ++ rsCodewords cap.2 data)
  (List.range size).map fun r => (List.range size).map fun c =>
    if c = 0 || r = size - 1 then true
    else if r = 0 then c % 2 = 0
    else if c = size - 1 then r % 2 = 1
    else ((m.cells.getD ((r - 1) * (size - 2) + (c - 1)) none)).getD false

end Sys2Proof.Machine
end

