-- ==== Sys2Proof/Machine/Specimens.lean ====
section
/-!
DEFINITION. Sys2Proof/Machine/Specimens.lean: specimens and learning (chapter 10): the period search, stability, collection
and finalisation of a specimen, the golden-free checks, the specimen library and the commands of R250.
-/
namespace Sys2Proof.Machine

/-! ### The period search (R234, R235) -/

/-- C(τ) of a profile, oldest line first, in 1/2^20; none when every band is flat (R234). -/
def lagCorr (prof : List (List Nat)) (w tau : Nat) : Option Int :=
  let col := fun (xs : List (List Nat)) (b : Nat) => xs.map fun l => nth 0 l b
  nccMean ((List.range 8).map fun b => (col (prof.take w) b, col ((prof.drop tau).take w) b))

/-- The accepted lag, with REPEAT_LENGTH in 1/256 line and C(τp) in 1/1,024; none is NO_PERIOD (R235). -/
def findPeriod (set : LearnSet) (pitch : Nat) (prof : List (List Nat)) : Option (Nat × Nat) :=
  let g := searchRange set pitch
  let lags := (List.range (g.2.1 + 1 - g.1)).map (· + g.1)
  let cs := lags.map fun t => (lagCorr prof g.2.2.1 t).getD (-(2 ^ 21))
  let peak := fun i : Nat => nth 0 cs i ≥ (if i = 0 then nth 0 cs 0 else nth 0 cs (i - 1))
    && (i + 1 ≥ cs.length || nth 0 cs i ≥ nth 0 cs (i + 1))
  let peaks := (List.range cs.length).filter peak
  let best := peaks.foldl (fun m i => max m (nth 0 cs i)) (-(2 ^ 21))
  if best < (set.minNcc * 1024 : Nat) then none
  else match peaks.find? fun i => 9 * best ≤ 10 * nth 0 cs i with
    | none => none
    | some i =>
      let c := nth 0 cs i
      let d := if i = 0 || cs.length ≤ i + 1 then 0 else vertex256 (nth 0 cs (i - 1)) c (nth 0 cs (i + 1))
      let len := (256 * (g.1 + i : Int) + d).toNat
      if 400000 < (len + 128) / 256 then none else some (len, (divHalfUp c 1024).toNat)

/-! ### An attempt's beginning and end (R232, R233, R244) -/

/-- A fresh attempt: the period search with an empty profile (R234, R244). -/
def beginAttempt (l : Learn) : Learn :=
  { l with
    state := .period, profile := [], anchorDue := false, anchor := none, good := true, speeds := none, goods := [], closed := []
    run := 0, lastStretch := none, sinceAnchor := 0, lastGood := none, slots := [], tileConf := [], collected := 0, skipped := 0
    seen := 0, length := 0, ncc := 0, repeatIndex := 0, anchorIndex := 0 }

/-- LEARN's options of a station: it learns, it keeps its specimen, or neither (R233). -/
def learnsHere (l : Learn) : Bool := l.set.options.getLsbD 0
def keepsHere (l : Learn) : Bool := l.set.options.getLsbD 1

/-- Is learning of a station under way? -/
def learning (l : Learn) : Bool :=
  match l.state with
  | .period | .stability | .collecting | .finalising => true
  | _ => false

/-- The stations that exist. -/
def stationsInUse (s : State) : List Nat := (List.range 4).filter fun k => (s.station k).ports ≠ []

/-- Entry into LEARN (R232, R233): learning stations release their specimens and begin; others keep or stay idle. -/
def enterLearn (s : State) : State :=
  (stationsInUse s).foldl (fun s k =>
    let l := s.learn k
    if learnsHere l then
      let s := s.setLearn k { beginAttempt l with
        loaded := none, next := none, attempt := 1, result := 0, check := {}, unstable := 0
        released := l.released || l.loaded.isSome }
      regIdle k s
    else if keepsHere l then s.setLearn k { l with state := .keeping, check := {} }
    else s.setLearn k { l with state := .idle, check := {} }) s

/-- The DRAM in use once LEARN is entered: learning stations release their specimens and reserve their profile buffers (R232, R245). -/
def learnEntryBytes (s : State) : Nat :=
  dramUse ((stationsInUse s).foldl (fun s k =>
    modLearn k (fun l => if learnsHere l then { l with loaded := none, next := none, state := .period } else l) s) s)

/-- May LEARN be entered (R233, R245, R247)? -/
def learnEntryStatus (s : State) : Nat :=
  let ks := stationsInUse s
  if ks.any (fun k => learnsHere (s.learn k) && (s.learn k).storing.isSome) then stBusy
  else if !ks.any (fun k => learnsHere (s.learn k)) then stConflict
  else if ks.any (fun k => keepsHere (s.learn k) && (s.learn k).loaded.isNone) then stConflict
  else if Config.dramCapacity < learnEntryBytes s then stNoSpace
  else stDone

/-- Every station still learning is abandoned and left without a specimen (R244). -/
def abandonLearning (s : State) : State :=
  (List.range 4).foldl (fun s k =>
    if learning (s.learn k) then
      regIdle k (modLearn k (fun l => { beginAttempt l with state := .failed, result := 6, loaded := none }) s)
    else s) s

/-- An attempt fails: another follows, or learning ends for the whole package (R244). -/
def failAttempt (k result : Nat) (s : State) : State :=
  let l := s.learn k
  if l.attempt < l.set.maxAttempts && result ≠ 5 then
    raise 324 (regIdle k (s.setLearn k { beginAttempt l with attempt := l.attempt + 1, result := result }))
  else
    let s := s.setLearn k { beginAttempt l with state := .failed, result := result, seen := l.seen, skipped := l.skipped, collected := l.collected }
    let s := abandonLearning (regIdle k s)
    let s := raise 323 s
    { s with modes := { s.modes with wanted := some (.configure, 2) } }

/-! ### Anchor and repeats (R236-R239) -/

/-- The first line after the end of repeat r, counted from the anchor's first line (R236). -/
def repeatEnd (l : Learn) (r : Nat) : Nat := l.anchorFirst + (2 * ((r + 1) * l.length) + 256) / 512

/-- The anchor as a specimen: its repeat's lines; a VOID pixel takes class 15. -/
def anchorSpecimen (mono : Bool) (len pitch width : Nat) (lines : List LabLine) : Specimen :=
  let n := (len + 128) / 256
  { mono := mono, width := width, lines := n, pitch := pitch, length := len
    rows := (List.range n).map fun y =>
      (List.range width).map fun x => match nth none (nth {} lines (min y (lines.length - 1))).px x with
        | some p => (p.1, p.2.1, p.2.2, 0)
        | none => (0, 128, 128, 15) }

/-- A closed repeat becomes the anchor (R236, R238): the tracker goes on against it from its first line. `after` is how many
repeats have been judged since. -/
def setAnchor (k after : Nat) (c : ClosedRepeat) (s : State) : State :=
  let l := s.learn k
  let first := ((c.lines.head?).map (·.line)).getD l.anchorFirst
  let st := s.station k
  let queued := l.closed.length
  let s := s.setLearn k { l with
    anchor := some (anchorSpecimen st.mono l.length (s.grid k).pitch st.width c.lines)
    anchorFirst := first, repeatIndex := after + 1 + l.goods.length, anchorIndex := after + 1 + queued
    sinceAnchor := after, lastGood := none, lastStretch := some 0 }
  modReg k (fun r => { r with
    state := .tracking, coast := 0, window := []
    phase := 256 * (first : Int) + (after + 1 + queued) * l.length, prev := none, old := none, cur := [], curC := [], rowsDone := 0
    confident := 0, searched := true, stretch := 0, lateral := 0 }) (prepareReference k s)

/-- Does a repeat that has closed count as stable (R237)? -/
def stableRepeat (l : Learn) (good : Bool) (c : ClosedRepeat) : Bool :=
  good && c.confident ≠ [] && l.set.stablePct * c.confident.length ≤ 100 * (c.confident.filter id).length && (match l.lastStretch with
    | some p => (c.stretch - p).natAbs ≤ l.set.stretchTol
    | none => true)

/-! ### Accumulation (R240) -/

/-- The live pixel that a closed repeat's field puts at an anchor pixel: the nearest line and column (DESIGN CHOICE). -/
def warpedPixel (w h : Nat) (c : ClosedRepeat) (x y : Nat) : Pix8 :=
  let d := if c.field = [] then (0, 0) else fieldAt w h c.field (16 * x : Nat) (16 * y : Nat)
  let col := divHalfUp (16 * (x : Int) - d.1 - c.lateral) 16
  let target := 16 * (y : Int) - d.2
  let best := c.lines.foldl (fun (m : Option LabLine) l => match m with
    | none => some l
    | some b => if (l.y16 - target).natAbs < (b.y16 - target).natAbs then some l else some b) none
  match best with
  | some l => if col < 0 || 16 < (l.y16 - target).natAbs then none else nth none l.px col.toNat
  | none => none

/-- The median component of up to three samples: the middle one, the lower of two. -/
def medianOf (f : Nat × Nat × Nat → Nat) (ps : List (Nat × Nat × Nat)) : Nat := lowerMedian (ps.map f)

/-- The seed of a slot: per component the median of the samples that are not VOID (R240). -/
def seedOf (raw : List Pix8) : Pix8 :=
  let ps := raw.filterMap id
  if ps = [] then none else some (medianOf (·.1) ps, medianOf (·.2.1) ps, medianOf (·.2.2) ps)

/-- One sample is accumulated or rejected (R240). -/
def accumulate (rejectDe : Nat) (x : Slot) (p : Pix8) : Slot :=
  match x.seed, p with
  | some q, some v =>
    if 64 * dist8 v q ≤ rejectDe * rejectDe then
      { x with count := x.count + 1, sumL := x.sumL + v.1, sumA := x.sumA + v.2.1, sumB := x.sumB + v.2.2
               sumSq := x.sumSq + v.1 ^ 2 + 4 * v.2.1 ^ 2 + 4 * v.2.2 ^ 2 }
    else x
  | _, _ => x

/-- A collected repeat's sample reaches a slot: held raw the first three times, then accumulated (R240). -/
def takeSample (rejectDe collected : Nat) (x : Slot) (p : Pix8) : Slot :=
  if collected < 2 then { x with raw := x.raw ++ [p] }
  else if collected = 2 then
    let raw := x.raw ++ [p]
    raw.foldl (accumulate rejectDe) { x with raw := [], seed := seedOf raw }
  else accumulate rejectDe x p

/-- A stable repeat is collected (R240, R242). -/
def collectRepeat (c : ClosedRepeat) (l : Learn) : Learn :=
  match l.anchor with
  | none => l
  | some sp =>
    let old := if l.slots = [] then List.replicate sp.lines (List.replicate sp.width {}) else l.slots
    let conf := if l.tileConf = [] then List.replicate (sp.tx * sp.ty) 0 else l.tileConf
    { l with
      slots := old.zipIdx.map fun row => row.1.zipIdx.map fun e =>
        takeSample l.set.rejectDe l.collected e.1 (warpedPixel sp.tx sp.ty c e.2 row.2)
      tileConf := conf.zipIdx.map fun e => e.1 + b2n (nth false c.confident e.2)
      collected := l.collected + 1 }

/-- One repeat is judged (R236-R239): good says whether it was collectable, speeds its range. -/
def judgeRepeat (k : Nat) (good : Bool) (speeds : Option (Nat × Nat)) (c : ClosedRepeat) (s : State) : State :=
  let l := s.learn k
  let l := { l with seen := sat 16 (l.seen + 1), pct := c.pct, stretch := c.stretch }
  match l.anchor with
  | none =>
    let s := s.setLearn k l
    let s := if good then setAnchor k 0 c s else s
    if l.set.maxRepeats ≤ l.seen then failAttempt k 3 s else s
  | some _ =>
    let stable := stableRepeat l good c
    let run := if stable then l.run + 1 else 0
    let begins := l.state = .stability && l.set.stableRun ≤ run
    let collect := stable && (begins || l.state = .collecting)
    let l := { l with run := run, lastStretch := some c.stretch, sinceAnchor := l.sinceAnchor + 1 }
    let l := if l.state = .collecting && !stable then { l with skipped := sat 16 (l.skipped + 1) } else l
    let l := if begins then { l with state := .collecting } else l
    let l := if collect then collectRepeat c l else l
    let l := if collect then
        { l with speedMin := match speeds with
                   | some v => if l.collected ≤ 1 then v.1 else min l.speedMin v.1
                   | none => l.speedMin
                 speedMax := match speeds with
                   | some v => if l.collected ≤ 1 then v.2 else max l.speedMax v.2
                   | none => l.speedMax }
      else l
    let l := { l with lastGood := if good then some (0, c) else l.lastGood.map fun g => (g.1 + 1, g.2) }
    let s := raiseIf begins 321 (s.setLearn k l)
    if l.collected = l.set.k && collect then modLearn k (fun l => { l with state := .finalising }) s
    else if l.set.maxRepeats ≤ l.seen then failAttempt k 3 s
    else if l.state = .stability && 4 ≤ l.sinceAnchor then
      match l.lastGood with
      | some g => setAnchor k g.1 g.2 s
      | none => modLearn k (fun l => { l with sinceAnchor := 0 }) s
    else s

/-- Repeats that both the line count and the tracker have closed are judged, oldest first. -/
def judgeRepeats (k : Nat) : Nat → State → State
  | 0, s => s
  | n + 1, s =>
    let l := s.learn k
    match l.goods, l.closed with
    | g :: gs, c :: cs =>
      if l.state = .stability || l.state = .collecting then
        judgeRepeats k n (judgeRepeat k g.1 g.2 c (s.setLearn k { l with goods := gs, closed := cs }))
      else s.setLearn k { l with goods := [], closed := [] }
    | _, _ => s

/-! ### A line in LEARN (R234, R236) -/

/-- The search has its profile: the period is accepted, or the attempt fails (R235, R245). -/
def searchPeriod (k : Nat) (s : State) : State :=
  let l := s.learn k
  match findPeriod l.set (s.grid k).pitch l.profile.reverse with
  | none => failAttempt k 2 s
  | some (len, ncc) =>
    let s := s.setLearn k { l with state := .stability, length := len, ncc := ncc, profile := [], anchorDue := true }
    let s := raise 320 s
    if dramFits 0 s then s else failAttempt k 5 s

/-- The line that begins the anchor: the tracker runs from it on (R236). -/
def beginAnchor (k m : Nat) (s : State) : State :=
  let s := modLearn k (fun l => { l with anchorDue := false, anchorFirst := m, repeatIndex := 0, anchorIndex := 0, good := true, speeds := none }) s
  modReg k (fun r => { r with
    state := .tracking, phase := 256 * (m : Int), stretch := 0, lateral := 0, begun := true, repeatNo := 0, searched := false
    live := [], cur := [], curC := [], rowsDone := 0, confident := 0, sumDP := 0, first := m, prev := none, old := none }) s

/-- Does a line keep its repeat collectable (R236)? -/
def lineCollectable (k : Nat) (x : StLine) (s : State) : Bool :=
  !x.head.flags.getLsbD 0 && !x.head.flags.getLsbD 4 && !x.head.flags.getLsbD 5 && !x.seam.getLsbD 2
    && (s.learn k).set.minSpeed ≤ x.head.speed && !s.teller.withheld.getLsbD 1 && [12, 13, 14, 15].any (fun d => poolFree d s)

/-- Before stage 7: the line begins the anchor if one is due. -/
def learnBefore (k : Nat) (x : StLine) (s : State) : State :=
  if s.mode = .learn && (s.learn k).anchorDue then beginAnchor k x.head.line s else s

/-- A repeat that ends while the tracker seeks its place closes without a confident tile (R237, R253). -/
def closeUnplaced (k : Nat) (s : State) : State :=
  let r := s.reg k
  let s := modLearn k (fun l => { l with
    anchorIndex := l.anchorIndex + 1
    closed := l.closed ++ [{ stretch := r.stretch, lateral := r.lateral, lines := r.live.reverse }] }) s
  modReg k (fun r => { r with live := [] }) s

/-- After stage 8: the profile, the repeat's collectability, and what has closed. -/
def learnAfter (k : Nat) (x : StLine) (px : List Pix8) (s : State) : State :=
  let l := s.learn k
  if s.mode ≠ .learn then s
  else match l.state with
    | .period =>
      let l := { l with profile := if x.head.flags.getLsbD 0 then [] else liveProfile px :: l.profile }
      let s := s.setLearn k l
      let need := (searchRange l.set (s.grid k).pitch).2.2.2
      if need ≤ l.profile.length && 0 < need then searchPeriod k s else s
    | .stability | .collecting =>
      let good := l.good && lineCollectable k x s
      let v := x.head.speed
      let speeds := match l.speeds with
        | some (a, b) => some (min a v, max b v)
        | none => some (v, v)
      let ends := repeatEnd l l.repeatIndex ≤ x.head.line + 1
      let s := if ends && (s.reg k).state = .acquire then closeUnplaced k s else s
      let l := s.learn k
      let s := s.setLearn k { l with
        good := if ends then true else good, speeds := if ends then none else speeds
        repeatIndex := if ends then l.repeatIndex + 1 else l.repeatIndex
        goods := if ends then l.goods ++ [(good, speeds)] else l.goods }
      judgeRepeats k 8 s
    | _ => s

/-! ### Finalisation (R241-R243) -/

/-- The mean of a finished slot, or its seed (R241). -/
def slotMean (k : Nat) (x : Slot) : Nat × Nat × Nat :=
  if 2 * x.count < k || x.count = 0 then x.seed.getD (0, 0, 0)
  else ((x.sumL + x.count / 2) / x.count, (x.sumA + x.count / 2) / x.count, (x.sumB + x.count / 2) / x.count)

/-- σ16 of a slot: round (8 √v / n), by the root of (16 √v)² (R241). -/
def slotSpread (x : Slot) : Nat :=
  let v := x.count * x.sumSq - x.sumL ^ 2 - 4 * x.sumA ^ 2 - 4 * x.sumB ^ 2
  (bigSqrt (256 * v) + x.count) / (2 * max x.count 1)

/-- g16 of a pixel: the largest difference to its eight neighbours (R241). -/
def gradient16 (means : List (List (Nat × Nat × Nat))) (x y : Nat) : Nat :=
  let own := nth (0, 0, 0) (nth [] means y) x
  ((List.range 3).flatMap fun j => (List.range 3).filterMap fun i =>
    if (i = 1 && j = 1) || x + i = 0 || y + j = 0 then none
    else ((means[y + j - 1]?).bind fun r => r[x + i - 1]?).map fun p => spread16 own p).foldl max 0

/-- The tolerance class of a pixel (R241). -/
def slotClass (set : LearnSet) (k : Nat) (means : List (List (Nat × Nat × Nat))) (x y : Nat) (sl : Slot) : Nat :=
  if 2 * sl.count < k || sl.count = 0 then 15
  else
    let score := (set.spreadMult * slotSpread sl + 8) / 16 + (set.gradWeight * gradient16 means x y + 128) / 256
    (set.edges.filter (· ≤ score)).length

/-- Is tile i unstable (R242)? -/
def tileUnstable (l : Learn) (i : Nat) : Bool := 100 * nth 0 l.tileConf i < l.set.tileMinPct * l.collected

/-- The finished specimen (R231, R241, R242). -/
def finishSpecimen (l : Learn) (sp : Specimen) (unstable now : Nat) : Specimen :=
  let means := l.slots.map fun row => row.map (slotMean l.set.k)
  { sp with
    kUsed := l.set.k, unstable := unstable, jobId := 0, learned := now, speedMin := l.speedMin, speedMax := l.speedMax
    rows := l.slots.zipIdx.map fun row => row.1.zipIdx.map fun e =>
      let m := nth (0, 0, 0) (nth [] means row.2) e.2
      let tile := row.2 / 64 * sp.tx + e.2 / 64
      (m.1, m.2.1, m.2.2, if tileUnstable l tile then 15 else slotClass l.set l.set.k means e.2 row.2 e.1) }

/-- LEARN_FINALISE_DONE: the specimen is built, or the attempt fails with UNSTABLE_TILES (R241-R243). -/
def finaliseDone (k : Nat) (s : State) : State :=
  let l := s.learn k
  match l.state, l.anchor with
  | .finalising, some sp =>
    let tiles := sp.tx * sp.ty
    let bad := ((List.range tiles).filter (tileUnstable l)).length
    if l.set.unstableMaxPct * tiles < 100 * bad then failAttempt k 4 (s.setLearn k { l with unstable := bad })
    else
      let new := finishSpecimen l sp bad s.chainTime
      raise 322 (s.setLearn k { l with state := .done, result := 1, unstable := bad, next := some new, slots := [], closed := [], goods := [] })
  | _, _ => s

/-- At a block boundary a finished specimen is loaded, and compare waits for a tile row to begin (R267); when every learning station has its own, AUTO_INSPECT takes the
package to INSPECT (R243). -/
def loadLearned (k : Nat) (s : State) : State :=
  match (s.learn k).next with
  | none => s
  | some sp =>
    let s := prepareReference k (modLearn k (fun l => { l with loaded := some sp, next := none, anchor := none }) s)
    let s := modReg k (fun r => { r with rowWait := true }) s
    let done := (stationsInUse s).all fun j => !learnsHere (s.learn j) || ((s.learn j).state = .done && (s.learn j).next.isNone)
    if s.mode = .learn && s.modes.autoInspect && done then { s with modes := { s.modes with wanted := some (.inspect, 2) } } else s

/-! ### Golden-free checks (R246, R285) -/

/-- Reference white of working RGB (R221). -/
def referenceWhite : Nat := 49152

/-- New golden-free settings are in force from the next block on (R250). -/
def takeGolden (k : Nat) (s : State) : State :=
  modLearn k (fun l => match l.newGolden with
    | some g => { l with golden := g, newGolden := none }
    | none => l) s

/-- The block of a line in progress: its first line, in this run (R285). -/
def blockBegins (k : Nat) (mark : LineMark) (s : State) : State :=
  if mark.line % 256 = 0 || (s.station k).nextLine.isNone then modLearn k (fun l => { l with check := { l.check with block := mark } }) s else s

/-- One line joins the golden-free sums of the block (R246). -/
def goldenAdd (x : StLine) (mark : LineMark) (px8 : List Pix8) (g : Golden) : Golden :=
  let old := if g.cols = [] then px8.map fun _ => {} else g.cols
  { g with
    lines := g.lines + 1, first := if g.lines = 0 then mark else g.first
    cols := (old.zip px8).map fun e => match e.2 with
      | some v => { e.1 with n := e.1.n + 1, sums := (e.1.sums.1 + v.1, e.1.sums.2.1 + v.2.1, e.1.sums.2.2 + v.2.2) }
      | none => e.1
    voids := x.pieces.foldl (fun t p => (setIndices 4 p.voids).foldl (fun t q => Tab.modify 0 t (4 * p.port + q) (· + 1)) t) g.voids
    planeSums := x.pieces.foldl (fun t p => p.px.foldl (fun t v =>
      if v.1 = void then t
      else [v.1, v.2.1, v.2.2].zipIdx.foldl (fun t c => Tab.modify (0, 0) t (4 * p.port + c.2) fun y => (y.1 + 1, y.2 + c.1)) t) t) g.planeSums }

/-- A column's block mean, scaled by 16. -/
def goldenMean (c : GoldenCol) : Option (Nat × Nat × Nat) :=
  if c.n = 0 then none
  else
    let f := fun v : Nat => (32 * v + c.n) / (2 * c.n)
    some (f c.sums.1, f c.sums.2.1, f c.sums.2.2)

/-- A column's block-mean difference from the median of the 8 columns on each side, in 1/16 ΔE, and its L part in 1/16 (R246). -/
def goldenDiff (means : List (Option (Nat × Nat × Nat))) (x : Nat) : Option (Nat × Int) :=
  let around := ((List.range 8).map fun (i : Nat) => (x : Int) - 8 + i) ++ ((List.range 8).map fun (i : Nat) => (x : Int) + 1 + i)
  let ps := around.filterMap fun c => if c < 0 then none else nth none means c.toNat
  match nth none means x with
  | none => none
  | some v =>
    if ps = [] then none
    else
      let med := (medianOf (·.1) ps, medianOf (·.2.1) ps, medianOf (·.2.2) ps)
      some ((isqrt (dist8 v med) + 1) / 2, divHalfUp ((v.1 : Int) - med.1) 2)

/-- The golden-free streak check at a block's end (R246): columns that stood apart in this block, runs not too wide; a
run held over STREAK_LENGTH_MM is a finding. -/
def goldenStreaks (k : Nat) (mark : LineMark) (s : State) : State :=
  let m := mark.line
  let l := s.learn k
  let g := l.check
  let set := l.golden
  let means := g.cols.map goldenMean
  let diffs := (List.range means.length).map (goldenDiff means)
  let apart := diffs.map fun d => d.any fun v => set.streakDe < v.1
  let ok := fun i : Nat => (runsOf apart).any fun r => r.1 ≤ i && i ≤ r.2 && r.2 + 1 - r.1 ≤ set.streakMaxCols
  let held := g.cols.zipIdx.map fun e =>
    if ok e.2 then
      { e.1 with n := 0, sums := (0, 0, 0), held := e.1.held + g.lines, web := e.1.web + g.lines * linePitch k m s
                 since := if e.1.held = 0 then g.first else e.1.since }
    else {}
  let found := runsOf (held.map fun c => set.streakLengthMm * 16000 ≤ c.web)
  let ranges := ownedRanges k (linePitch k m s) s
  let finding := fun r : Nat × Nat =>
    let ds := (List.range (r.2 + 1 - r.1)).filterMap fun i => nth none diffs (r.1 + i)
    let diff := sumNat (ds.map (·.1)) / max ds.length 1
    let dl := divHalfUp (sumInt (ds.map (·.2))) (max ds.length 1)
    let c := ((held.drop r.1).take (r.2 + 1 - r.1)).foldl (fun a b => if b.held < a.held then b else a) (nth {} held r.1)
    let mask := portsOf ranges r.1 r.2
    (2, streakFeatures 2 c.since.line (m + 1 - c.since.line) r.1 r.2 (min 4095 diff) (min 255 ((64 * diff + set.streakDe / 2) / max set.streakDe 1))
      dl (dl < 0) (seamFlags k mask s), c.since, mark)
  let kept := held.zipIdx.map fun e => if found.any (fun r => r.1 ≤ e.2 && e.2 ≤ r.2) then {} else e.1
  let s := modLearn k (fun l => { l with check := { l.check with cols := kept } }) s
  if set.enable.getLsbD 0 then modSeg k (fun g => { g with findings := g.findings ++ found.map finding }) s else s

/-- The missing-plane check at a block's end: one finding per port, plane and block (R246, R285). -/
def goldenPlanes (k : Nat) (mark : LineMark) (s : State) : State :=
  let m := mark.line
  let l := s.learn k
  let g := l.check
  let ports := (s.station k).ports
  let ranges := ownedRanges k (linePitch k m s) s
  let below := fun (i c : Nat) => let y := Tab.get (0, 0) g.planeSums (4 * i + c); 0 < y.1 && 64 * y.2 < referenceWhite * y.1
  let above := fun (i c : Nat) => let y := Tab.get (0, 0) g.planeSums (4 * i + c); 0 < y.1 && referenceWhite * y.1 < 8 * y.2
  let missing := fun (i p : Nat) => g.lines < 2 * Tab.get 0 g.voids (4 * i + p)
    || (p < 3 && below i p && (List.range 3).any fun c => c ≠ p && above i c)
  let found := ports.zipIdx.flatMap fun e =>
    let planes := if planeDropped e.1 s then 3 else (s.port e.1).planes
    ((List.range planes).filter fun p => missing e.2 p).map fun p =>
      let own := nth (0, 0) ranges e.2
      let cols := own.2 - own.1
      let len := m + 1 - g.block.line
      (4, le 8 g.block.line ++ le 4 len ++ le 2 own.1 ++ le 2 (own.2 - 1) ++ le 4 (cols * len) ++ le 4 (cols * len) ++ zeros 8
        ++ le 2 4095 ++ le 2 4095 ++ le 1 255 ++ zeros 1 ++ le 2 (min 4095 (16 * len / max cols 1)) ++ zeros 6
        ++ le 1 4 ++ le 1 p ++ zeros 2 ++ le 2 (seamFlags k (2 ^ e.2) s) ++ zeros 12, g.block, mark)
  if l.golden.enable.getLsbD 2 then modSeg k (fun g => { g with findings := g.findings ++ found }) s else s

/-- The golden-free checks of a line on which they run; `last` says it ends its block (R246). Blank areas are the compare
words of R265. -/
def goldenLine (k : Nat) (x : StLine) (mark : LineMark) (px8 : List Pix8) (last : Bool) (s : State) : State :=
  let s := modLearn k (fun l => { l with check := goldenAdd x mark px8 l.check }) s
  if last then
    let s := goldenPlanes k mark (goldenStreaks k mark s)
    modLearn k (fun l => { l with check := { l.check with lines := 0, voids := [], planeSums := [] } }) s
  else s

/-- On lines without the checks their sums restart. -/
def goldenSkip (k : Nat) (s : State) : State :=
  modLearn k (fun l => { l with check := { l.check with cols := [], lines := 0, voids := [], planeSums := [] } }) s

/-- Do the golden-free checks run on a line: in LEARN on every station, else where compare is suspended? -/
def goldenRuns (suspended : Bool) (s : State) : Bool := s.mode = .learn || suspended

/-! ### The specimen library (R247, R248) -/

/-- The header of a specimen, with its CRC field (R231). -/
def specimenHeader (sp : Specimen) (crc : Nat) : List Byte :=
  le 2 1 ++ le 1 (b2n sp.mono) ++ le 1 sp.kUsed ++ le 4 sp.width ++ le 4 sp.lines ++ le 2 sp.pitch ++ zeros 2 ++ le 4 sp.length
    ++ le 4 sp.unstable ++ le 8 sp.jobId ++ le 8 sp.learned ++ le 4 sp.speedMin ++ le 4 sp.speedMax ++ zeros 12 ++ le 4 crc

/-- Tile (tx, ty): three planes, line by line, and the classes, two to a byte; lines beyond REPEAT_LINES are padding (R231). -/
def specimenTile (sp : Specimen) (tx ty : Nat) : List Byte :=
  let px := (List.range 64).flatMap fun y => (List.range 64).map fun x =>
    if 64 * ty + y < sp.lines then nth (0, 0, 0, 15) (nth [] sp.rows (64 * ty + y)) (64 * tx + x) else (0, 0, 0, 15)
  px.flatMap (fun p => le 1 p.1) ++ px.flatMap (fun p => le 1 p.2.1) ++ px.flatMap (fun p => le 1 p.2.2.1)
    ++ (chunksOf 2 px).flatMap fun e => le 1 ((nth (0, 0, 0, 15) e 0).2.2.2 % 16 + 16 * ((nth (0, 0, 0, 15) e 1).2.2.2 % 16))

/-- A tile row of a specimen. -/
def specimenRow (sp : Specimen) (ty : Nat) : List Byte := (List.range sp.tx).flatMap fun tx => specimenTile sp tx ty

/-- The image of a specimen, its CRC field as given (R231). -/
def imageWith (sp : Specimen) (crc : Nat) : List Byte := specimenHeader sp crc ++ (List.range sp.ty).flatMap (specimenRow sp)

/-- The CRC of a specimen's image, over header and tiles. -/
def imageCrc (sp : Specimen) : Nat := (crc32c (imageWith sp 0)).toNat

/-- The image of a specimen, as it lies in DRAM. -/
def specimenImage (sp : Specimen) : List Byte := imageWith sp (imageCrc sp)

/-- A tile row as the library keeps it: one zlib stream, at a level the rules leave to the device (R247). -/
def storedRow (sp : Specimen) (ty : Nat) : List Byte :=
  zlibStream (Config.libraryLevel.val + 1) (specimenRow sp ty)

/-- The bytes the library keeps of a specimen: its header and a stream for each tile row (R247). -/
def storedImage (sp : Specimen) : List Byte :=
  specimenHeader sp (imageCrc sp) ++ (List.range sp.ty).flatMap (storedRow sp)

/-- SPECIMEN_STORE_DONE: the specimen has been wholly written by the engine its store has got, and is visible; the loaded one takes the JOB_ID
(R247); or DRAM could not give it whole, and nothing is stored (R407). It pauses as R91 says. -/
def storeDone (k fill : Nat) (s : State) : State :=
  match (s.learn k).storing, findStarted 0x0603 (fun x => x.args.block = 0x30 + k) s with
  | some job, some _ =>
    if !compHolds k s || s.modes.pause then s else
    let s := modLearn k (fun l => { l with storing := none }) s
    match s.vault.waiting.find? fun o => o.kind = .specimen && o.key = job && o.station = k with
    | none => finishOne 0x0603 (fun x => x.args.block = 0x30 + k) stHwFault [] (compRelease 1 k none s)
    | some o =>
      let s := modVault (fun v => { v with waiting := v.waiting.erase o }) s
      let spoiled := o.spec.any fun sp => sp.rows.any fun row => row.any fun x => 15 < x.2.2.2
      if spoiled then finishOne 0x0603 (fun x => x.args.block = 0x30 + k) stHwFault [] (compRelease 1 k none s) else
      let s := vaultCommit { o with station := 0 } fill s
      let s := compRelease 1 k (some ((o.spec.map fun sp => (specimenImage sp).length).getD 0, o.stored)) s
      let s := modLearn k (fun l => { l with loaded := l.loaded.map fun sp => { sp with jobId := job } }) s
      finishOne 0x0603 (fun x => x.args.block = 0x30 + k) stDone [] (raise 325 s)
  | _, _ => s

/-- SPECIMEN_RECALL_DONE: the stored image is read by the engine its recall has got and checked, and replaces the loaded specimen; or
HW_FAULT (R248). A recall that a resume image asked for has no command (R80). -/
def recallDone (k : Nat) (crcOk : Bool) (s : State) : State :=
  match (s.learn k).recalling with
  | none => s
  | some job =>
    if !compHolds (k + 4) s || s.modes.pause || !s.vault.mounted then s else
    let s := modLearn k (fun l => { l with recalling := none }) s
    let ends := fun (st : Nat) (s : State) => finishOne 0x0604 (fun x => x.args.block = 0x30 + k) st [] s
    match vaultFind .specimen job s with
    | none => ends stAbsent (compRelease 1 (k + 4) none s)
    | some o =>
      match o.spec with
      | none => ends stHwFault (compRelease 1 (k + 4) none s)
      | some sp =>
        if o.lost || !crcOk then ends stHwFault (compRelease 1 (k + 4) none (vaultRead o s))
        else
          let s := compRelease 1 (k + 4) (some (o.stored, (specimenImage sp).length)) (vaultRead o s)
          let s := regIdle k (modLearn k (fun l => { l with loaded := some { sp with jobId := job }, released := l.released || l.loaded.isSome }) s)
          let s := prepareReference k s
          ends stDone (raise 326 s)

/-! ### Commands (R250) -/

/-- The settings a LEARN_SET names. -/
def learnArgs (p : List Byte) : LearnSet :=
  { options := BitVec.ofNat 8 (u8 p 0), k := u8 p 1, stableRun := u8 p 2, maxAttempts := u8 p 3, nominal := u32 p 4
    repeatMin := u32 p 8, repeatMax := u32 p 12, maxRepeats := u16 p 16, stablePct := u8 p 18, unstableMaxPct := u8 p 19
    tileMinPct := u8 p 20, stretchTol := u16 p 22, rejectDe := u16 p 24, spreadMult := u8 p 26, gradWeight := u8 p 27
    minSpeed := u32 p 28, edges := (List.range 14).map fun i => u16 p (32 + 2 * i), minNcc := u16 p 60 }

/-- Are the settings in range (R250)? -/
def LearnSet.ok (x : LearnSet) : Bool :=
  let refine := x.options.getLsbD 2
  let between := fun (lo v hi : Nat) => lo ≤ v && v ≤ hi
  x.options.toNat < 8 && !(x.options.getLsbD 0 && x.options.getLsbD 1) && between 4 x.k 64 && between 1 x.stableRun 8
    && between 1 x.maxAttempts 4 && (if refine then between 5000 x.nominal 2000000 else x.nominal = 0)
    && between 5000 x.repeatMin 2000000 && between x.repeatMin x.repeatMax 2000000 && between x.k x.maxRepeats 1024
    && between 30 x.stablePct 100 && x.unstableMaxPct ≤ 50 && between 25 x.tileMinPct 100 && between 100 x.stretchTol 20000
    && between 16 x.rejectDe 1024 && between 16 x.spreadMult 160 && x.minSpeed ≤ 20000000 && between 512 x.minNcc 1023
    && x.edges.all (fun e => 1 ≤ e && e ≤ 4095) && (x.edges.zip (x.edges.drop 1)).all fun e => e.1 < e.2

/-- LEARN_SET, opcode 0x0600: it also returns the tracker to IDLE (R253). -/
def cmdLearnSet : CommandDef := {
  opcode := 0x0600
  modes := [.standby, .configure]
  lengths := [64]
  kinds := [0x30]
  multi := [0xFE]
  check := fun c _ _ => if (learnArgs c.p).ok && u8 c.p 21 = 0 && u16 c.p 62 = 0 then stDone else stOutOfRange
  commit := fun c s => .reply [] (c.targets.foldl (fun s k =>
    regIdle k (modLearn k (fun l => { l with set := learnArgs c.p }) s)) s) }

/-- GOLDEN_FREE_SET, opcode 0x0601: in force from the next block. -/
def cmdGoldenFreeSet : CommandDef := {
  opcode := 0x0601
  modes := [.standby, .configure, .inspect, .reduced]
  lengths := [16]
  kinds := [0x30]
  multi := [0xFE]
  check := fun c _ _ =>
    let p := c.p
    if 7 < u8 p 0 || u8 p 1 ≠ 0 || u16 p 2 < 8 || 1024 < u16 p 2 || u8 p 4 < 1 || 64 < u8 p 4 || u8 p 5 ≠ 0 then stOutOfRange
    else if u16 p 6 < 10 || 10000 < u16 p 6 || u16 p 8 < 16 || 1024 < u16 p 8 || u8 p 10 < 50 || 100 < u8 p 10 || !zeroAt p 11 5 then
      stOutOfRange
    else stDone
  commit := fun c s => .reply [] (c.targets.foldl (fun s k =>
    let p := c.p
    let g : GoldenSet := { enable := BitVec.ofNat 3 (u8 p 0), streakDe := u16 p 2, streakMaxCols := u8 p 4
                           streakLengthMm := u16 p 6, blankDe := u16 p 8, blankShare := u8 p 10 }
    if s.mode.inspects then modLearn k (fun l => { l with newGolden := some g }) s
    else modLearn k (fun l => { l with golden := g, newGolden := none }) s) s) }

/-- STATE's code (R250). -/
def LearnState.code : LearnState → Nat
  | .idle => 0 | .period => 1 | .stability => 2 | .collecting => 3 | .finalising => 4 | .done => 5 | .failed => 6 | .keeping => 7

/-- LEARN_STATUS, opcode 0x0602. -/
def cmdLearnStatus : CommandDef := {
  opcode := 0x0602
  lengths := [0]
  kinds := [0x30]
  reads := true
  replyMax := fun _ => 40
  commit := fun c s =>
    let l := s.learn c.target
    let shown := l.next.or l.loaded
    let running := l.state = .stability || l.state = .collecting || l.state = .finalising
    let lines := if running then (l.length + 128) / 256 else (shown.map (·.lines)).getD 0
    let width := if running then (s.station c.target).width else (shown.map (·.width)).getD 0
    .reply (le 1 l.state.code ++ le 1 l.result ++ le 1 l.attempt ++ le 1 l.collected ++ le 2 l.seen ++ le 2 l.skipped
      ++ le 4 (if running then l.length else (shown.map (·.length)).getD l.length) ++ le 2 l.ncc ++ le 1 l.pct ++ zeros 1
      ++ les 4 l.stretch ++ le 4 ((shown.map (·.unstable)).getD l.unstable) ++ le 4 (width / 64 * ((lines + 63) / 64))
      ++ le 8 ((l.loaded.map (·.jobId)).getD 0) ++ zeros 4) s }

/-- SPECIMEN_STORE, opcode 0x0603: the reply follows SPECIMEN_STORE_DONE. It only reads its station's specimen (R247). -/
def cmdSpecimenStore : CommandDef := {
  opcode := 0x0603
  modes := [.standby, .configure, .learn, .inspect, .reduced, .drain]
  lengths := [8]
  kinds := [0x30]
  check := fun c k s =>
    let l := s.learn k
    if u64 c.p 0 = 0 then stOutOfRange
    else if l.storing.isSome then stBusy
    else match l.loaded with
      | none => stConflict
      | some sp => vaultWriteStatus .specimen (storedImage sp).length s
  reads := true
  reserves := fun _ k s => match (s.learn k).loaded with
    | some sp => (0, VKind.specimen.area, 4096 * objectSectors (storedImage sp).length)
    | none => (0, 0, 0)
  commit := fun c s =>
    let k := c.target
    match (s.learn k).loaded with
    | none => .refuse stConflict
    | some sp =>
      let sp := { sp with jobId := u64 c.p 0 }
      let s := modLearn k (fun l => { l with storing := some (u64 c.p 0) }) s
      .later (vaultQueue { kind := .specimen, key := u64 c.p 0, spec := some sp, station := k, stored := (storedImage sp).length } s) 0 }

/-- SPECIMEN_RECALL, opcode 0x0604: the reply follows SPECIMEN_RECALL_DONE. -/
def cmdSpecimenRecall : CommandDef := {
  opcode := 0x0604
  modes := [.standby, .configure]
  lengths := [8]
  kinds := [0x30]
  check := fun c k s =>
    let l := s.learn k
    if u64 c.p 0 = 0 then stOutOfRange
    else if l.storing.isSome || l.recalling.isSome then stBusy
    else if vaultUser stDone s ≠ stDone then vaultUser stDone s
    else match vaultFind .specimen (u64 c.p 0) s with
      | none => stAbsent
      | some o => match o.spec with
        | none => stAbsent
        | some sp =>
          if sp.width ≠ (s.station k).width || sp.pitch ≠ (s.grid k).pitch || sp.mono ≠ (s.station k).mono then stConflict
          else if !dramFits 0 (modLearn k (fun l => { l with recalling := some (u64 c.p 0) }) s) then stNoSpace
          else stDone
  reserves := fun c k s => (dramUse (modLearn k (fun l => { l with recalling := some (u64 c.p 0) }) s) - dramUse s, 0, 0)
  commit := fun c s => .later (modLearn c.target (fun l => { l with recalling := some (u64 c.p 0) }) s) 0 }

/-- SPECIMEN_DELETE, opcode 0x0605: a loaded copy stays, without its JOB_ID. -/
def cmdSpecimenDelete : CommandDef := {
  opcode := 0x0605
  modes := [.configure, .maintain]
  lengths := [8]
  check := fun c _ s =>
    if u64 c.p 0 = 0 then stOutOfRange
    else if vaultUser stDone s ≠ stDone then vaultUser stDone s
    else if (vaultFind .specimen (u64 c.p 0) s).isNone then stAbsent
    else stDone
  commit := fun c s =>
    let s := vaultDelete (fun o => o.kind = .specimen && o.key = u64 c.p 0) s
    .reply [] ((List.range 4).foldl (fun s k => modLearn k (fun l => { l with
      loaded := l.loaded.map fun sp => if sp.jobId = u64 c.p 0 then { sp with jobId := 0 } else sp }) s) s) }

/-- The library in JOB_ID order. -/
def library (s : State) : List VObj := sortBy (·.key) (s.vault.objects.filter fun o => o.kind = .specimen)

/-- SPECIMEN_LIST, opcode 0x0606. -/
def cmdSpecimenList : CommandDef := {
  opcode := 0x0606
  modes := [.standby, .configure, .calibrate, .learn, .inspect, .reduced, .shadow, .drain, .maintain, .faultHold]
  lengths := [4]
  reads := true
  replyMax := fun c => 32 * u16 c.p 2
  check := fun c _ s => if u16 c.p 2 < 1 || 256 < u16 c.p 2 then stOutOfRange else vaultUser stDone s
  commit := fun c s =>
    .reply ((((library s).drop (u16 c.p 0)).take (u16 c.p 2)).flatMap fun o =>
      let sp := o.spec.getD {}
      le 8 o.key ++ le 4 sp.width ++ le 4 sp.lines ++ le 2 sp.pitch ++ le 1 sp.kUsed ++ le 1 (b2n sp.mono) ++ le 4 o.stored
        ++ le 8 sp.learned) s }

/-- The first eight bytes of capability 0x0007's body (R250). -/
def capLearn (s : State) : List Byte := [4, 64] ++ le 4 400000 ++ le 2 (sat 16 (library s).length)

end Sys2Proof.Machine
end

