-- ==== Sys2Proof/Machine/Segment.lean ====
section
/-!
DEFINITION. Sys2Proof/Machine/Segment.lean: segmentation and classification (chapter 12): runs and their connection,
open blobs and fragments, storm records, features, classification, and the commands of R296.
-/
namespace Sys2Proof.Machine

/-- A record as segmentation hands it to the ledger: its feature block, its first and last line. -/
structure SegRec where
  features : List Byte
  first : LineMark
  last : LineMark
  deriving DecidableEq, Repr

/-! ### Sums and features (R286-R288) -/

/-- The sums of one grow pixel, on absolute columns and lines. -/
def cellSums (line : Nat) (susp : Bool) (c : Cell) : Sums :=
  { n := 1, seeds := b2n c.seed, sx := c.col, sy := line, sxx := (c.col : Int) ^ 2, syy := (line : Int) ^ 2
    sxy := (c.col : Int) * line, de := c.de, dl := c.dl, da := c.da, db := c.db, deMax := c.de
    peakLine := line, peakCol := c.col, sevMax := c.sev, colFirst := c.col, colLast := c.col, suspended := b2n susp }

/-- Two sets of sums joined; the peak is the first pixel that holds the largest ΔE16 (R287). -/
def Sums.join (a b : Sums) : Sums :=
  if a.n = 0 then b
  else if b.n = 0 then a
  else
    let bWins := a.deMax < b.deMax || (a.deMax = b.deMax &&
      (b.peakLine < a.peakLine || (b.peakLine = a.peakLine && b.peakCol < a.peakCol)))
    { n := a.n + b.n, seeds := a.seeds + b.seeds, sx := a.sx + b.sx, sy := a.sy + b.sy, sxx := a.sxx + b.sxx
      syy := a.syy + b.syy, sxy := a.sxy + b.sxy, de := a.de + b.de, dl := a.dl + b.dl, da := a.da + b.da, db := a.db + b.db
      deMax := max a.deMax b.deMax, peakLine := if bWins then b.peakLine else a.peakLine
      peakCol := if bWins then b.peakCol else a.peakCol, sevMax := max a.sevMax b.sevMax
      colFirst := min a.colFirst b.colFirst, colLast := max a.colLast b.colLast, suspended := a.suspended + b.suspended }

/-- ELONGATION in 1/16 from the sums based at COL_FIRST and FIRST_LINE (R287). -/
def elongation (n : Nat) (sx sy sxx syy sxy : Int) : Nat :=
  let mxx := n * sxx - sx * sx
  let myy := n * syy - sy * sy
  let mxy := n * sxy - sx * sy
  let t := mxx + myy
  let r : Int := (bigSqrt ((mxx - myy) ^ 2 + 4 * mxy ^ 2).toNat : Nat)
  let a := 6 * (t + r) + (n : Int) ^ 2
  let b := 6 * (t - r) + (n : Int) ^ 2
  min 4095 (bigSqrt (256 * a / max b 1).toNat)

/-- One pair of SIGNATURE's bits (R288). -/
def signPair (sigMin : Nat) (d : Int) : Nat := if (sigMin : Int) ≤ d then 1 else if d ≤ -(sigMin : Int) then 2 else 0

/-- The feature block of a blob or a storm record, CLASS and what follows still zero (R286-R289). -/
def featureBlock (mono : Bool) (sigMin : Nat) (first len : Nat) (x : Sums) (origin ports flags stormRuns : Nat) : List Byte :=
  let n := max x.n 1
  let c0 : Int := x.colFirst
  let l0 : Int := first
  let sx := x.sx - n * c0
  let sy := x.sy - n * l0
  let sxx := x.sxx - 2 * c0 * x.sx + n * c0 ^ 2
  let syy := x.syy - 2 * l0 * x.sy + n * l0 ^ 2
  let sxy := x.sxy - c0 * x.sy - l0 * x.sx + n * c0 * l0
  let mean := fun v : Int => (v + (n / 2 : Nat)) / (n : Int)
  let dl := mean x.dl
  let da := mean x.da
  let db := mean x.db
  let sig := signPair sigMin dl + (if mono then 64 else 4 * signPair sigMin da + 16 * signPair sigMin db)
  le 8 first ++ le 4 len ++ le 2 x.colFirst ++ le 2 x.colLast ++ le 4 x.n ++ le 4 x.seeds
    ++ les 4 (16 * c0 + (16 * sx + (n / 2 : Nat)) / (n : Int)) ++ les 4 ((16 * sy + (n / 2 : Nat)) / (n : Int))
    ++ le 2 x.deMax ++ les 2 (mean x.de) ++ le 1 x.sevMax ++ le 1 sig ++ le 2 (elongation n sx sy sxx syy sxy)
    ++ les 2 dl ++ les 2 da ++ les 2 db ++ le 1 origin ++ zeros 1 ++ le 1 ports ++ zeros 1 ++ le 2 flags
    ++ le 2 x.peakCol ++ le 2 (x.peakLine - first) ++ zeros 4 ++ le 4 stormRuns

/-! ### Classification (R290, R291) -/

/-- Rule r of a table. -/
def ruleAt (rules : List Byte) (r : Nat) : List Byte := (rules.drop (48 * r)).take 48

/-- Does every condition of a rule hold for a record (R290, R291)? -/
def ruleMatches (q f : List Byte) : Bool :=
  let width := u16 f 14 + 1 - u16 f 12
  (u8 q 0).testBit 0 && (u8 q 3).testBit (u8 f 46) && u32 q 4 ≤ u32 f 16 && u32 f 16 ≤ u32 q 8
    && u16 q 12 ≤ u16 f 32 && u16 q 14 ≤ u16 f 34 && u16 q 16 ≤ u16 f 38 && u16 f 38 ≤ u16 q 18
    && u16 q 20 ≤ width && (u16 q 22 = 0xFFFF || width ≤ u16 q 22) && u32 q 24 ≤ u32 f 8 && u32 f 8 ≤ u32 q 28
    && u8 q 32 ≤ u8 f 36 && u8 f 37 &&& u8 q 33 = u8 q 34 && u8 f 50 &&& u8 q 35 = u8 q 36

/-- A record is classified: CLASS, SEVERITY and RULE are filled in, or it is discarded; counters follow (R291, R296). -/
def classify (k : Nat) (x : SegRec) (s : State) : Option SegRec × State :=
  let g := s.seg k
  let fill := fun (cls sev rule : Nat) =>
    { x with features := x.features.take 56 ++ le 1 cls ++ le 1 sev ++ le 1 rule ++ zeros 1 ++ x.features.drop 60 }
  match (List.range 64).find? (fun r => g.rules ≠ [] && ruleMatches (ruleAt g.rules r) x.features) with
  | none => (some (fill g.set.defaultClass (u8 x.features 36) 0xFF), s.setSeg k { g with records := sat 64 (g.records + 1) })
  | some r =>
    let q := ruleAt g.rules r
    let g := { g with hits := Tab.modify 0 g.hits r fun n => sat 32 (n + 1) }
    if (u8 q 0).testBit 2 then (none, s.setSeg k { g with discarded := sat 32 (g.discarded + 1) })
    else
      let sev := if (u8 q 0).testBit 1 then max (u8 q 2) (u8 x.features 36) else u8 q 2
      (some (fill (u8 q 1) sev r), s.setSeg k { g with records := sat 64 (g.records + 1) })

/-! ### Runs and connection (R277) -/

/-- Are two runs (line, first, last) connected? -/
def runsConnect (set : SegSet) (a b : Nat × Nat × Nat) : Bool :=
  let gap : Int := (max a.2.1 b.2.1 : Nat) - (min a.2.2 b.2.2 : Nat) - 1
  let lines := absDiff a.1 b.1
  gap ≤ (set.mergeCols : Int) && lines ≤ set.mergeGap + 1

/-- The runs of a district on a line: first, last and its pixels, in column order. -/
def districtRuns (cells : List Cell) (own : Nat × Nat) : List (Nat × Nat × List Cell) :=
  ((cells.filter fun c => own.1 ≤ c.col && c.col < own.2).foldl (fun (acc : List (Nat × Nat × List Cell)) c =>
    match acc with
    | (a, b, cs) :: rest => if b + 1 = c.col then (a, c.col, cs ++ [c]) :: rest else (c.col, c.col, [c]) :: acc
    | [] => [(c.col, c.col, [c])]) []).reverse

/-- A run reaches its district's fragments: it extends or merges those it connects to, opens one, or finds none and no room
(R278, R283). -/
def fragmentTake (set : SegSet) (frags : List (List (Nat × Nat × Nat))) (run : Nat × Nat × Nat) :
    Bool × List (List (Nat × Nat × Nat)) :=
  let hit := frags.filter fun f => f.any (runsConnect set run)
  if hit = [] then (if 4096 ≤ frags.length then (false, frags) else (true, frags ++ [[run]]))
  else (true, (frags.filter fun f => !f.any (runsConnect set run)) ++ [hit.flatten ++ [run]])

/-! ### Flags (R278, R279, R289) -/

/-- The SEG_FLAGS a line gives its records: UNSETTLED, PORT_LOST. -/
def lineFlags (m : LineMark) : Nat := 32 * b2n (m.flags.getLsbD 0) + 512 * b2n (m.seam.getLsbD 2)

/-- Does a run lie within MERGE_COLS + 1 columns of a district's columns? -/
def nearRange (set : SegSet) (own : Nat × Nat) (run : Nat × Nat × Nat) : Bool :=
  own.1 ≤ run.2.2 + set.mergeCols + 1 && run.2.1 ≤ own.2 + set.mergeCols

/-- Is a run one that R279's first two cases mark: near a district missing within MERGE_GAP + 1 lines, or in the columns of one
that has been missing? -/
def partialRun (g : Seg) (ranges : List (Nat × Nat)) (run : Nat × Nat × Nat) : Bool :=
  g.gaps.any (fun e => absDiff e.1 run.1 ≤ g.set.mergeGap + 1 && nearRange g.set (nth (0, 0) ranges e.2) run)
    || ranges.zipIdx.any fun e =>
      let from_ := Tab.get 0 g.missingFrom e.2
      0 < from_ && from_ ≤ run.1 + 1 && e.1.1 ≤ run.2.2 && run.2.1 < e.1.2

/-! ### Blobs (R278-R284) -/

/-- Two open blobs become one. -/
def Blob.merge (a b : Blob) : Blob :=
  { runs := a.runs ++ b.runs, first := if b.first.line < a.first.line then b.first else a.first
    last := if a.last.line < b.last.line then b.last else a.last
    sums := a.sums.join b.sums, flags := a.flags ||| b.flags, ports := a.ports ||| b.ports }

/-- A run as a blob of its own on a line. -/
def runBlob (m : LineMark) (i : Nat) (run : Nat × Nat × List Cell) (flags : Nat) : Blob :=
  { runs := [(m.line, run.1, run.2.1)], first := m, last := m
    sums := run.2.2.foldl (fun x c => x.join (cellSums m.line (!m.regFlags.getLsbD 0) c)) {}
    flags := BitVec.ofNat 16 (lineFlags m + flags), ports := BitVec.ofNat 6 (2 ^ i) }

/-- A run goes to the storm record of its block; the first storm pixel raises STORM (R283, R284). A block whose record a forced closure has
closed gets no other: its later storm runs are in none (R284, R295; DEDUCED, assumption 98). -/
def stormTake (k : Nat) (b : Blob) (s : State) : State :=
  let g := s.seg k
  let block := b.first.line / 256
  match g.storm with
  | none =>
    if g.stormBlock = some block then s
    else raise 336 (s.setSeg k { g with storm := some { b with runs := [] }, stormRuns := 1, stormBlock := some block })
  | some x => s.setSeg k { g with storm := some { Blob.merge x b with runs := [] }, stormRuns := sat 32 (g.stormRuns + 1) }

/-- A run of district i on line m is labelled (R277, R279, R282, R283): it extends the open blobs it connects to, opens one, or finds no room and
goes to the storm record. The lines it bridges lie in the record too (R289). -/
def takeRun (k : Nat) (m : LineMark) (ranges : List (Nat × Nat)) (i : Nat) (run : Nat × Nat × List Cell) (s : State) : State :=
  let g := s.seg k
  let r := (m.line, run.1, run.2.1)
  let f := fragmentTake g.set (Tab.get [] g.frags i) r
  let continued := if g.split.any (runsConnect g.set r) then 8 else 0
  let b := runBlob m i run ((if partialRun g ranges r then 16 else 0) + continued)
  let between := fun y : Blob => (g.lineFlags.filter fun e => y.last.line < e.1).foldl (fun a e => a ||| e.2) 0
  let hit := g.blobs.filter fun y => y.runs.any (runsConnect g.set r)
  if hit = [] && (!f.1 || 4096 ≤ g.blobs.length) then stormTake k b s
  else
    let b := hit.foldl (fun b y => { b with flags := b.flags ||| BitVec.ofNat 16 (between y) }) b
    let blobs := (g.blobs.filter fun y => !y.runs.any (runsConnect g.set r)) ++ [hit.foldl Blob.merge b]
    s.setSeg k { g with frags := Tab.set [] g.frags i f.2, blobs := blobs, peak := max g.peak blobs.length }

/-- The record of a closed blob with its final flags; none, and counted, when it has too few seed pixels (R280, R282, R289). -/
def closeBlob (k : Nat) (extra : Nat) (b : Blob) (s : State) : List SegRec × State :=
  let g := s.seg k
  let flags := b.flags.toNat ||| extra ||| seamFlags k b.ports.toNat s ||| (if 0 < b.sums.suspended then 64 else 0)
  if b.sums.seeds < g.set.minSeed && extra &&& 4 = 0 then ([], s.setSeg k { g with growOnly := sat 32 (g.growOnly + 1) })
  else
    let origin := if b.sums.suspended = b.sums.n then 1 else 0
    ([{ features := featureBlock (s.station k).mono g.set.sigMin b.first.line (b.last.line + 1 - b.first.line) b.sums origin
          b.ports.toNat flags 0
        first := b.first, last := b.last }], s)

/-- Closes blobs one after the other. -/
def closeAll (k extra : Nat) (bs : List Blob) (s : State) : List SegRec × State :=
  bs.foldl (fun acc b =>
    let r := closeBlob k extra b acc.2
    (acc.1 ++ r.1, r.2)) ([], s)

/-- The storm record of the block closes, if there is one: ORIGIN 5 (R284). -/
def closeStorm (k extra : Nat) (line : LineMark) (s : State) : List SegRec × State :=
  let g := s.seg k
  match g.storm with
  | none => ([], s)
  | some b =>
    let first := g.blockMark.line
    let flags := b.flags.toNat ||| g.blockFlags ||| extra ||| 256 ||| seamFlags k b.ports.toNat s ||| (if 0 < b.sums.suspended then 64 else 0)
    let rec_ : SegRec := {
      features := featureBlock (s.station k).mono g.set.sigMin first (line.line + 1 - first) b.sums 5 b.ports.toNat flags g.stormRuns
      first := g.blockMark, last := line }
    ([rec_], s.setSeg k { g with storm := none, stormRuns := 0, storms := sat 32 (g.storms + 1) })

/-- Records in the order of R292: ascending COL_FIRST, then FIRST_LINE. -/
def recordOrder (rs : List SegRec) : List SegRec := sortBy (fun r => u16 r.features 12 * 2 ^ 64 + u64 r.features 0) rs

/-- Records are classified in order; those kept go on. -/
def classifyAll (k : Nat) (rs : List SegRec) (s : State) : List SegRec × State :=
  rs.foldl (fun acc r =>
    let c := classify k r acc.2
    (match c.1 with
      | some x => acc.1 ++ [x]
      | none => acc.1, c.2)) ([], s)

/-- The findings that wait, by origin (R285, R292). -/
def takeFindings (k : Nat) (s : State) : List SegRec × State :=
  let fs := (s.seg k).findings
  (((sortBy (·.1) fs).map fun f => { features := f.2.1, first := f.2.2.1, last := f.2.2.2 }), modSeg k (fun g => { g with findings := [] }) s)

/-- Every open blob of a station closes at once, at a line, flagged CUT (R281). -/
def cutBlobs (k : Nat) (s : State) : List SegRec × State :=
  let bs := (s.seg k).blobs
  closeAll k 128 bs (modSeg k (fun g => { g with blobs := [], split := [], frags := [] }) s)

/-- Line m is of another block than the one new rules were given in, or begins a block: they are in force (R296). -/
def takeRules (k m : Nat) (s : State) : State :=
  modSeg k (fun g => match g.newRules with
    | some (some b, _) => if m / 256 ≠ b then g.putRules else g
    | some (none, bs) => if m % 256 = 0 then g.putRules else { g with newRules := some (some (m / 256), bs) }
    | none => g) s

/-- Districts gone without on a line: blobs near them are marked, and the gap is remembered (R279). -/
def markMissing (k : Nat) (x : SegLine) (s : State) : State :=
  modSeg k (fun g =>
    let m := x.mark.line
    let g := { g with
      gaps := (g.gaps.filter fun e => m ≤ e.1 + g.set.mergeGap + 1) ++ x.missing.map fun i => (m, i)
      missingFrom := x.missing.foldl (fun t i => Tab.modify 0 t i fun v => if v = 0 then m + 1 else v) g.missingFrom }
    if x.missing = [] then g
    else { g with blobs := g.blobs.map fun b =>
      { b with flags := if b.runs.any (partialRun g x.ranges) then b.flags ||| 16 else b.flags } }) s

/-- A labelled line joins its block: the block's first line and what its lines give a storm record (R284, R289; DEDUCED, assumption 98: the
block's lines begin with the first that is labelled). -/
def enterBlock (k : Nat) (x : LineMark) (s : State) : State :=
  modSeg k (fun g =>
    let same := g.labelled.any fun m => m / 256 = x.line / 256
    { g with lastMark := x, blockMark := if same then g.blockMark else x, blockFlags := lineFlags x ||| if same then g.blockFlags else 0 }) s

/-- A line of a station is labelled: the records that close on it, in order (R277-R284, R292). `cut` says that a pitch
change or a cut closes every blob with it (R281). -/
def labelLine (k : Nat) (x : SegLine) (cut : Bool) (s : State) : List SegRec × State :=
  let m := x.mark.line
  let s := enterBlock k x.mark (markMissing k x (takeRules k m s))
  let s := x.ranges.zipIdx.foldl (fun s e =>
    if x.missing.contains e.2 then s
    else
      let rs := districtRuns x.cells e.1
      let s := (rs.take 8192).foldl (fun s r => takeRun k x.mark x.ranges e.2 r s) s
      (rs.drop 8192).foldl (fun s r => stormTake k (runBlob x.mark e.2 r 0) s) s) s
  let g := s.seg k
  let long := fun b : Blob => g.set.maxLines ≤ b.last.line + 1 - b.first.line
  let done := fun b : Blob => b.last.line + g.set.mergeGap + 1 ≤ m
  let splits := g.blobs.filter long
  let keep := fun r : Nat × Nat × Nat => m ≤ r.1 + g.set.mergeGap
  let s := s.setSeg k { g with
    lineFlags := (m, lineFlags x.mark) :: g.lineFlags.filter fun e => m ≤ e.1 + g.set.mergeGap
    blobs := (g.blobs.filter fun b => !long b && !done b).map fun b => { b with runs := b.runs.filter fun r => m ≤ r.1 + g.set.mergeGap + 1 }
    split := (g.split ++ splits.flatMap (·.runs)).filter keep
    frags := g.frags.filterMap fun e =>
      let fs := (e.2.map fun f => f.filter keep).filter (· ≠ [])
      if fs = [] then none else some (e.1, fs)
    splits := sat 32 (g.splits + splits.length), labelled := some m }
  let s := splits.foldl (fun s _ => raise 337 s) s
  let c1 := closeAll k 0 (g.blobs.filter fun b => !long b && done b) s
  let c2 := closeAll k 4 splits c1.2
  let c3 := if cut then cutBlobs k c2.2 else ([], c2.2)
  let f := takeFindings k c3.2
  let c4 := if cut || m % 256 = 255 then closeStorm k (if cut then 128 else 0) x.mark f.2 else ([], f.2)
  let r := classifyAll k (recordOrder (c1.1 ++ c2.1 ++ c3.1) ++ f.1 ++ c4.1) c4.2
  (r.1, if x.mark.flags.getLsbD 5 then modSeg k Seg.putRules r.2 else r.2)

/-- Does labelling a line close every blob: it carries BLOCK_CUT, or the next line lies on another pitch (R281)? -/
def lineCuts (k : Nat) (x : SegLine) (s : State) : Bool :=
  x.mark.flags.getLsbD 5 || (x.mark.line % 256 = 255 && linePitch k x.mark.line s ≠ linePitch k (x.mark.line + 1) s)

/-- A line that stage 8 has passed joins those to be labelled; the other districts' summaries are awaited (R279). -/
def segAppend (k : Nat) (x : SegLine) (s : State) : State := modSeg k (fun g => { g with pending := g.pending ++ [x] }) s

/-- The next line to label, if it is due: all summaries are in, or stage 8 has passed the sixteenth line after it (R279). A cut that completes
the block has the summaries of the lines it issued, those on their way among them (R74; DEDUCED, assumption 91). -/
def segNext (k : Nat) (flush : Bool) (s : State) : Option (SegLine × State) :=
  let g := s.seg k
  match g.pending with
  | [] => none
  | x :: rest =>
    let newest := max (g.pending.getLastD x).mark.line ((leadLine k s).getD 0)
    if x.awaited = [] then some (x, s.setSeg k { g with pending := rest })
    else if x.mark.line + 16 ≤ newest then
      some ({ x with missing := x.missing ++ x.awaited, awaited := [] }, s.setSeg k { g with pending := rest })
    else if flush then
      some ({ x with awaited := [] }, s.setSeg k { g with pending := rest, atCut := g.atCut ++ x.awaited.map (x.mark.line, ·) })
    else none

/-- FRAGMENT_SUMMARY_ARRIVE: a district's summary of a line reaches the lead; late, when the line has gone on without it, it is discarded and
counted (R279). -/
def summaryIn (k i line : Nat) (s : State) : State :=
  let g := s.seg k
  if g.pending.any (fun x => x.mark.line = line && x.awaited.contains i) then
    s.setSeg k { g with pending := g.pending.map fun x =>
      if x.mark.line = line then { x with awaited := x.awaited.filter (· ≠ i) } else x }
  else if g.atCut.contains (line, i) then s.setSeg k { g with atCut := g.atCut.filter (· ≠ (line, i)) }
  else if g.pending.any (fun x => x.mark.line = line && x.missing.contains i) || g.labelled.any (fun m => line ≤ m) then
    raise 338 (s.setSeg k { g with late := sat 32 (g.late + 1) })
  else s


/-! ### Commands (R296) -/

/-- SEG_SET, opcode 0x0700. -/
def cmdSegSet : CommandDef := {
  opcode := 0x0700
  modes := [.standby, .configure]
  lengths := [16]
  kinds := [0x30]
  multi := [0xFE]
  check := fun c _ _ =>
    let p := c.p
    if 15 < u8 p 0 || 63 < u8 p 1 || u16 p 2 = 0 || u32 p 4 < 256 || 65536 < u32 p 4 || u16 p 8 = 0 || 4095 < u16 p 8 then stOutOfRange
    else if 31 < u8 p 10 || !zeroAt p 11 5 then stOutOfRange
    else stDone
  commit := fun c s => .reply [] (c.targets.foldl (fun s k =>
    let p := c.p
    modSeg k (fun g => { g with set := {
      mergeGap := u8 p 0, mergeCols := u8 p 1, minSeed := u16 p 2, maxLines := u32 p 4, sigMin := u16 p 8, defaultClass := u8 p 10 } }) s) s) }

/-- Is a rule one R290 allows? -/
def ruleOk (q : List Byte) : Bool :=
  u8 q 0 < 8 && u8 q 1 ≤ 31 && u8 q 3 < 64 && (!(u8 q 0).testBit 0 || u8 q 3 ≠ 0) && u32 q 4 ≤ u32 q 8 && u16 q 16 ≤ u16 q 18
    && u16 q 20 ≤ u16 q 22 && u32 q 24 ≤ u32 q 28 && u8 q 34 &&& u8 q 33 = u8 q 34 && u8 q 36 &&& u8 q 35 = u8 q 36 && zeroAt q 37 11

/-- SEG_RULES, opcode 0x0701: the whole table, for records that close after the next block boundary: the end of the block that the newest labelled
line lies in. -/
def cmdSegRules : CommandDef := {
  opcode := 0x0701
  modes := [.standby, .configure, .learn, .inspect, .reduced]
  lengths := [3072]
  kinds := [0x30]
  multi := [0xFE]
  check := fun c _ _ => if (List.range 64).all (fun r => ruleOk (ruleAt c.p r)) then stDone else stOutOfRange
  commit := fun c s => .reply [] (c.targets.foldl (fun s k =>
    if s.mode.inspects then modSeg k (fun g => { g with newRules := some (g.labelled.map (· / 256), c.p) }) s
    else modSeg k (fun g => { g with rules := c.p, newRules := none }) s) s) }

/-- SEG_RULES_READ, opcode 0x0702: the table in force. -/
def cmdSegRulesRead : CommandDef := {
  opcode := 0x0702
  lengths := [0]
  kinds := [0x30]
  reads := true
  replyMax := fun _ => 3072
  commit := fun c s => .reply (padTo 3072 (s.seg c.target).rules) s }

/-- SEG_STATUS, opcode 0x0703. -/
def cmdSegStatus : CommandDef := {
  opcode := 0x0703
  lengths := [4]
  kinds := [0x30]
  reads := true
  replyMax := fun _ => 296
  check := fun c _ _ => if 1 < u8 c.p 0 || !zeroAt c.p 1 3 then stOutOfRange else stDone
  commit := fun c s =>
    let g := s.seg c.target
    .reply (le 2 g.blobs.length ++ le 2 g.peak ++ zeros 4 ++ le 8 g.records ++ le 4 g.discarded ++ le 4 g.growOnly ++ le 4 g.storms
        ++ le 4 g.splits ++ le 4 g.late ++ zeros 4 ++ (List.range 64).flatMap fun r => le 4 (Tab.get 0 g.hits r))
      (if u8 c.p 0 = 1 then s.setSeg c.target { g with
        peak := g.blobs.length, records := 0, discarded := 0, growOnly := 0, storms := 0, splits := 0, late := 0, hits := [] } else s) }

/-- The first eight bytes of capability 0x0008's body (R296). -/
def capSegment : List Byte := le 2 4096 ++ [64, 32, 15, 63, 0, 0]

end Sys2Proof.Machine
end

