-- ==== Sys2Proof/Machine/Ledger.lean ====
section
/-!
DEFINITION. Sys2Proof/Machine/Ledger.lean: the defect ledger (chapter 13): defect IDs and records (R297-R302), the crop
ring and crops (R303-R306), destinations (R307, R308, R458, R493), output rules and gates (R309-R312), and the commands of R315.
-/
namespace Sys2Proof.Machine

def modLedger (f : Ledger → Ledger) (s : State) : State := { s with ledger := f s.ledger }

/-! ### Process outputs (R70, R309, R311) -/

/-- The outputs the rules and OUTPUT_FORCE assert: bit o for output o. -/
def assertedOutputs (s : State) : BitVec 5 :=
  (List.range 16).foldl (fun acc r =>
    let x := s.outRule r
    if x.flags.getLsbD 0 && !x.flags.getLsbD 1 && (s.ruleGates r).opened ≠ [] && x.output < 5 then acc ||| BitVec.ofNat 5 (2 ^ x.output)
    else acc) (s.ledger.latched ||| s.ledger.forced)

/-- The process outputs follow the rules in the modes that drive them; WEB_HOLD and WEB_REVERSE stay (R70). -/
def showOutputs (s : State) : State :=
  if s.mode.drives then
    let a := assertedOutputs s
    let low : BitVec 7 := (if a.getLsbD 4 then 1 else 0) ||| ((a &&& 0b01111).setWidth 7 <<< 1)
    { s with modes := { s.modes with outputs := (s.modes.outputs &&& 0b1100000) ||| low } }
  else s

/-! ### Gates (R310-R312) -/

/-- Do two gates overlap or touch? -/
def gatesTouch (a b : Gate) : Bool := posDiff a.opens b.closes ≤ 1 && posDiff b.opens a.closes ≤ 1

/-- The union of two gates. -/
def Gate.join (a b : Gate) : Gate :=
  { opens := if posDiff b.opens a.opens < 0 then b.opens else a.opens
    closes := if 0 < posDiff b.closes a.closes then b.closes else a.closes }

/-- A gate joins every pending gate it meets, and the union those it meets then; `fuel` bounds the rounds. -/
def absorbGates : Nat → Gate → List Gate → Gate × List Gate
  | 0, g, gs => (g, gs)
  | fuel + 1, g, gs =>
    match gs.find? (gatesTouch g) with
    | some x => absorbGates fuel (g.join x) (gs.erase x)
    | none => (g, gs)

/-- The distance between two gates that do not meet. -/
def gateDistance (a b : Gate) : Int := max (posDiff b.opens a.closes) (posDiff a.opens b.closes)

/-- Pending gates in the order of their open positions, around a reference position. -/
def sortGates (gs : List Gate) : List Gate :=
  match gs with
  | [] => []
  | g :: _ => (gs.foldl (fun (acc : List Gate) x =>
      (acc.filter fun y => posDiff y.opens g.opens ≤ posDiff x.opens g.opens) ++ x
        :: acc.filter fun y => posDiff x.opens g.opens < posDiff y.opens g.opens) [])

/-- A new gate joins a rule's gates: merged with the open gate or pending ones it meets; a 33rd with its nearest (R310). Says
whether the 33rd gate caused a merge. -/
def addGate (g : Gate) (x : RuleGates) : Bool × RuleGates :=
  let full := 32 ≤ x.waiting.length
  let r := absorbGates 33 g x.waiting
  if x.opened.any (fun o => gatesTouch r.1 o.gate) then
    (full, { x with
      waiting := r.2
      opened := x.opened.map fun o => if gatesTouch r.1 o.gate then { o with gate := o.gate.join r.1 } else o })
  else if r.2.length < 32 then (full, { x with waiting := sortGates (r.1 :: r.2) })
  else
    match r.2.foldl (fun (b : Option Gate) y => match b with
        | none => some y
        | some z => if gateDistance r.1 y < gateDistance r.1 z then some y else some z) none with
    | some y => (true, { x with waiting := sortGates (r.1.join y :: r.2.erase y) })
    | none => (full, x)

/-- The rule that claims a compare unit. -/
def ruleOfUnit (c : Nat) (s : State) : Option Nat :=
  (List.range 16).find? fun r => (s.outRule r).flags.getLsbD 0 && (s.outRule r).unit = c

/-- A claimed unit has fired: its rule's first pending gate opens (R311). -/
def gateFired (c : Nat) (pm : Postmark) (s : State) : State :=
  match ruleOfUnit c s with
  | none => s
  | some r =>
    match (s.ruleGates r).waiting with
    | [] => s
    | g :: rest =>
      let x := s.outRule r
      let s := s.setRuleGates r { waiting := rest, opened := (s.ruleGates r).opened ++ [{ gate := g, firedAt := s.now }] }
      let s := raise 345 s
      let s := if pm.flags.getLsbD 2 then raise 346 (modStLedger x.station (fun l => { l with late := sat 32 (l.late + 1) }) s) else s
      let latches := x.flags.getLsbD 1 && x.output < 5
      let s := if latches then modLedger (fun l => { l with latched := l.latched ||| BitVec.ofNat 5 (2 ^ x.output) }) s else s
      showOutputs (raiseIf (latches && x.output = 4) 347 s)

/-- The compare units that fired in this step act on the gates that hang on them. -/
def takeFirings (s : State) : State :=
  let fs := s.pos.firings
  fs.foldl (fun s f => gateFired f.1 f.2 s) { s with pos := { s.pos with firings := [] } }

/-- The unit of a rule holds the open positions of the rule's pending gates, in order (R310). -/
def rearm (r : Nat) (s : State) : State :=
  let c := (s.outRule r).unit
  let s := modCompare c (fun u => { u with
    queue := [], encoder := (s.grid (s.outRule r).station).encoder, reverse := false, catchUp := true }) s
  (s.ruleGates r).waiting.foldl (fun s g => ledgerArm c g.opens s) s

/-- The gate of an entry under a rule (R310). -/
def entryGate (x : OutRule) (first last : Int) (s : State) : Gate :=
  let g := s.grid x.station
  let den : Int := (32 * max (s.encoder g.encoder).pitchPm 1 : Nat)
  let up := ((x.offset + x.trail : Nat) * 32 + (g.pitch : Int)) * 1000000
  { opens := pos48 (first + (((x.offset : Int) - x.lead) * 32 - g.pitch) * 1000000 / den)
    closes := pos48 (last - (-up) / den) }

/-- Does an entry match a rule (R309)? -/
def ruleTakes (x : OutRule) (k : Nat) (f : List Byte) (s : State) : Bool :=
  x.flags.getLsbD 0 && x.station = k && x.classMask.testBit (u8 f 56) && x.originMask.testBit (u8 f 46) && x.sevMin ≤ u8 f 57
    && (x.flags.getLsbD 2 || s.mode ≠ .learn)

/-- What arming an entry's gates came to. -/
structure Armed where
  gates : Nat := 0
  late : Bool := false
  merged : Bool := false
  deriving DecidableEq, Repr

/-- One rule arms a gate for an entry that matches it. -/
def armRule (k r : Nat) (f : List Byte) (first last : Int) (acc : Armed × State) : Armed × State :=
  let s := acc.2
  let x := s.outRule r
  if ruleTakes x k f s then
    let a := addGate (entryGate x first last s) (s.ruleGates r)
    let s := takeFirings (s.setRuleGates r a.2)
    let s := rearm r s
    let late := s.pos.firings ≠ []
    let s := modStLedger k (fun l => { l with
      armed := sat 32 (l.armed + 1), merged := if a.1 then sat 32 (l.merged + 1) else l.merged }) (takeFirings s)
    ({ gates := acc.1.gates + 2 ^ r, late := acc.1.late || late, merged := acc.1.merged || a.1 }, s)
  else acc

/-- Gates are armed for an entry under every rule it matches, in a mode that drives the outputs (R307, R309, R310). -/
def armGates (k : Nat) (f : List Byte) (first last : Int) (s : State) : Armed × State :=
  if s.mode.drives then (List.range 16).foldl (fun acc r => armRule k r f first last acc) ({}, s) else ({}, s)

/-- GATE_CLOSE: gates release their output once H has passed close and MIN_PULSE_US is over (R311). -/
def gateClose (r : Nat) (s : State) : State :=
  let x := s.outRule r
  let h := (s.encoder (s.compare x.unit).encoder).hw
  showOutputs (modRuleGates r (fun g => { g with
    opened := g.opened.filter fun o => posDiff h o.gate.closes ≤ 0 || s.now < o.firedAt + 1000 * x.minPulse }) s)

/-- Entry into a mode whose outputs are in a safe state: pending gates are discarded and counted, the rest ends (R72, R312). -/
def discardGates (s : State) : State :=
  let s := (List.range 16).foldl (fun s r =>
    let x := s.outRule r
    let n := (s.ruleGates r).waiting.length
    let s := if n = 0 then s else modStLedger x.station (fun l => { l with discarded := sat 32 (l.discarded + n) }) s
    let s := if x.flags.getLsbD 0 then modCompare x.unit (fun u => { u with queue := [] }) s else s
    s.setRuleGates r {}) s
  modLedger (fun l => { l with latched := 0, forced := 0 }) s

/-! ### The crop ring and crops (R303-R306) -/

/-- The bytes a pixel takes in the crop ring; VOID as R222 codes it (R303). -/
def ringPixel (p : Pix8) : Nat × Nat × Nat := p.getD (255, 128, 128)

/-- Where the slot of a line begins in the DRAM (R303). -/
def ringSlot (n line : Nat) : Nat := Config.ringBase n + line % 4096 * 52064

/-- A line goes into a port's ring of 4,096, its slot's used bytes to the DRAM (R303, R409). -/
def ringWrite (n : Nat) (x : RingLine) (s : State) : State :=
  let s := modLedger (fun l => { l with rings := Tab.set [] l.rings n ((x :: Tab.get [] l.rings n).take 4096) }) s
  let a := ringSlot n x.head.line
  let w := x.px.length
  [(0, 64 + w), (16704, w), (33344, w), (49984, (w + 7) / 8)].foldl (fun s e => askDram true (a + e.1) e.2 0 s) s

/-- The oldest line that all rings hold which a crop window from column c0 on reads: those of the ports that own some of its columns (R305). -/
def oldestRing (k c0 : Nat) (s : State) : Option Nat :=
  (s.station k).ports.foldl (fun best n =>
    let ring := Tab.get [] s.ledger.rings n
    match ring.head?, ring.getLast? with
    | some a, some b =>
      if a.first < c0 + 64 && c0 < a.first + a.px.length then some (max (best.getD 0) b.head.line) else best
    | _, _ => best) none

/-- A pixel of the rings of a station: L8, a8, b8 and its grow bit, if a ring holds it. -/
def ringAt (k line col : Nat) (s : State) : Option ((Nat × Nat × Nat) × Bool) :=
  (s.station k).ports.findSome? fun n =>
    match (Tab.get [] s.ledger.rings n).find? fun x => x.head.line = line with
    | some x => if x.first ≤ col && col < x.first + x.px.length then
        some (ringPixel (nth none x.px (col - x.first)), nth false x.grow (col - x.first)) else none
    | none => none

/-- A crop: its window and its 64 x 64 pixels, line by line. -/
structure Crop where
  col0 : Nat
  line0 : Nat
  shifted : Bool
  px : List ((Nat × Nat × Nat) × Bool)
  deriving DecidableEq, Repr

/-- The window of a crop (R304, R305): column, line, and whether it was moved. -/
def cropWindow (k : Nat) (f : List Byte) (s : State) : Option (Nat × Nat × Bool) :=
  let c0 := clampNat 0 (widthAt k (linePitch k (u64 f 0) s) s - 64) (u16 f 52 - 32)
  match oldestRing k c0 s, (s.seg k).labelled with
  | some old, some new =>
    let want : Int := (u64 f 0 : Int) + u16 f 54 - 32
    let l1 := max want old
    let l2 := min l1 ((new : Int) - 63)
    some (c0, (max l2 0).toNat, l2 ≠ want)
  | _, _ => none

/-- A crop's window is read from the rings, by a reader (R304, R407). -/
def cropReads (reader k c0 l0 : Nat) (s : State) : State :=
  (List.range 64).foldl (fun s i => (s.station k).ports.foldl (fun s n =>
    match (Tab.get [] s.ledger.rings n).find? fun x => x.head.line = l0 + i with
    | some x =>
      let lo := max c0 x.first
      let w := min (c0 + 64) (x.first + x.px.length) - lo
      let a := ringSlot n (l0 + i)
      let o := lo - x.first
      if w = 0 then s
      else [(64 + o, w), (16704 + o, w), (33344 + o, w), (49984 + o / 8, (o % 8 + w + 7) / 8)].foldl
        (fun s e => askDram false (a + e.1) e.2 reader s) s
    | none => s) s) s

/-- The pixels of a crop window; what no ring holds is a free value. -/
def cropPixels (k c0 l0 : Nat) (s : State) : List ((Nat × Nat × Nat) × Bool) × State :=
  let px := (List.range 4096).map fun i => ringAt k (l0 + i / 64) (c0 + i % 64) s
  if px.all (·.isSome) then (px.filterMap id, s)
  else
    let r := s.drawBytes 16384
    (px.zipIdx.map (fun e => e.1.getD (((nth 0 r.1 (4 * e.2)).toNat, (nth 0 r.1 (4 * e.2 + 1)).toNat, (nth 0 r.1 (4 * e.2 + 2)).toNat),
      (nth 0 r.1 (4 * e.2 + 3)).getLsbD 0)), r.2)

/-- The crop of an entry of ORIGIN 0 or 1 (R304). -/
def captureCrop (k : Nat) (f : List Byte) (s : State) : Option Crop × State :=
  if 1 < u8 f 46 then (none, s)
  else match cropWindow k f s with
    | none => (none, s)
    | some w =>
      let r := cropPixels k w.1 w.2.1 (cropReads 1 k w.1 w.2.1 s)
      (some { col0 := w.1, line0 := w.2.1, shifted := w.2.2, px := r.1 }, r.2)

/-- The bytes of a crop as its mailbox takes it (R306). -/
def cropBytes (id k : Nat) (c : Crop) : List Byte :=
  le 8 id ++ le 1 k ++ le 1 (b2n c.shifted) ++ zeros 2 ++ le 4 c.col0 ++ le 8 c.line0 ++ zeros 40
    ++ c.px.flatMap (fun p => le 1 p.1.1) ++ c.px.flatMap (fun p => le 1 p.1.2.1) ++ c.px.flatMap (fun p => le 1 p.1.2.2)
    ++ (List.range 512).flatMap fun i => le 1 (maskOf ((List.range 8).filter fun b => ((c.px.getD (8 * i + b) ((0, 0, 0), false)).2)))

/-- The entry of a crop mailbox that the next crop will take, if it is free and fit for a crop (R306, R417, R418). -/
def cropSlot (m : Nat) (s : State) : Option Nat :=
  let b := s.box m
  let ahead := (s.ledger.crops.filter fun c => c.1 = m).length
  let i := wrap 32 (b.consumer + ahead)
  let e := Mem.readN s.hostMem (b.entryAt i) 16
  if m ≠ 0xFFFF && b.enable && b.kind = 2 && ahead < b.held && u64 e 0 % 64 = 0 && 12864 ≤ u32 e 8 && u32 e 8 ≤ 2 ^ 31 && u32 e 12 = 0 then
    some i else none

/-- CROP_DELIVER: the oldest captured crop reaches its mailbox. -/
def cropDeliver (s : State) : State :=
  match s.ledger.crops with
  | [] => s
  | c :: rest => (pushBuffer c.1 c.2.1 c.2.2 (modLedger (fun l => { l with crops := rest }) s)).2

/-! ### Destinations (R307, R308) -/

/-- Records of a station that wait in backlogs. -/
def backlogOf (k : Nat) (s : State) : Nat :=
  sat 16 (sumNat (s.ledger.backlogs.map fun e => (e.2.filter fun x => x.1 = k).length))

/-- A record found a queue full: counted against its station; the event at most once per millisecond (R307, R314). -/
def backlogFull (k : Nat) (s : State) : State :=
  let shows := elapsed 1000000 s.ledger.overflowAt s.now
  let s := modStLedger k (fun l => { l with overflow := sat 32 (l.overflow + 1) }) s
  if shows then raise 349 (modLedger (fun l => { l with overflowAt := some s.now }) s) else s

/-- A record for a ledger mailbox: written, or into its backlog, or lost there (R307, R416). -/
def toMailbox (m k : Nat) (rec : List Byte) (s : State) : State :=
  let q := Tab.get [] s.ledger.backlogs m
  if q = [] && roomFor m 128 s then (pushRecord m rec s).2
  else if q.length < 1024 then
    let s := countDropped m s
    let s := modLedger (fun l => { l with backlogs := Tab.set [] l.backlogs m (q ++ [(k, rec)]) }) s
    raise 348 (modStLedger k (fun l => { l with backlogPeak := max l.backlogPeak (backlogOf k s) }) s)
  else backlogFull k (countDropped m s)

/-- A record with flags added to its LEDGER_FLAGS. -/
def addFlags (v : Nat) (rec : List Byte) : List Byte := rec.take 12 ++ le 4 (u32 rec 12 ||| v) ++ rec.drop 16

/-- The head's forwarding queue goes to the chain ledger mailbox as room frees up (R308). -/
def drainForward : Nat → State → State
  | 0, s => s
  | fuel + 1, s =>
    match s.ledger.forward with
    | [] => s
    | rec :: rest =>
      if s.ledger.chainBox ≠ 0xFFFF && roomFor s.ledger.chainBox 128 s && !workHeld 2 s then
        drainForward fuel (modLedger (fun l => { l with forward := rest }) (pushRecord s.ledger.chainBox rec s).2)
      else s

/-- A record reaches the chain ledger mailbox's queue at the head; half full, it raises CHAIN_BACKLOG (R308, R314). -/
def headRecord (k : Option Nat) (rec : List Byte) (s : State) : State :=
  if s.ledger.chainBox = 0xFFFF then s
  else if 4096 ≤ s.ledger.forward.length then
    match k with
    | some k => backlogFull k s
    | none => s
  else
    let s := drainForward 4096 (modLedger (fun l => { l with forward := l.forward ++ [rec] }) s)
    if 2048 ≤ s.ledger.forward.length && elapsed 1000000 s.ledger.chainBacklogAt s.now then
      raise 351 (modLedger (fun l => { l with chainBacklogAt := some s.now }) s)
    else s

/-- Records leave the outbound queue while the upstream link carries frames and takes more (R488, R493, R497). -/
def drainOutbound : Nat → State → State
  | 0, s => s
  | fuel + 1, s =>
    match s.chain.outbound with
    | [] => s
    | rec :: rest =>
      if s.chain.upLink.carries && s.chain.upLink.unacked.length < 32 && !workHeld 2 s then
        drainOutbound fuel (sendFrame .up 0x20 rec.1 0 rec.2 { s with chain := { s.chain with outbound := rest } })
      else s

/-- A record joins the outbound queue of a package that is not the head, or is lost (R493). -/
def queueOutbound (source : Nat) (rec : List Byte) (s : State) : State :=
  if 4096 ≤ s.chain.outbound.length then
    let shows := elapsed 1000000 s.chain.forwardLostAt s.now
    let s := { s with chain := { s.chain with
      forwardLost := sat 32 (s.chain.forwardLost + 1), forwardLostAt := if shows then some s.now else s.chain.forwardLostAt } }
    raiseIf shows 471 s
  else drainOutbound 4096 { s with chain := { s.chain with outbound := s.chain.outbound ++ [(source, rec)] } }

/-- A record goes up the chain (R308, R493). -/
def forwardRecord (k : Nat) (rec : List Byte) (s : State) : State :=
  if s.chain.isHead then headRecord (some k) rec s else queueOutbound s.chain.postcode rec s

/-- BACKLOG_DELIVER: a backlogged record is delivered as its mailbox has room; the head's queue for its chain mailbox (R307, R308). -/
def backlogDeliver (m : Nat) (s : State) : State :=
  match Tab.get [] s.ledger.backlogs m with
  | (_, rec) :: rest =>
    if roomFor m 128 s then
      modLedger (fun l => { l with backlogs := Tab.set [] l.backlogs m rest }) (pushRecord m (addFlags 128 rec) s).2
    else s
  | [] => if m = s.ledger.chainBox then drainForward 1 s else s

/-- S0's forerunner ports: its ports in cross-web order while it has 1 to 4, none otherwise (R63). -/
def frPorts (s : State) : List Nat :=
  let ps := (s.station 0).ports
  if ps.length ≤ 4 then ps else []

/-- The first port of an entry of S0, which is its forerunner port: of PORT_MASK, or for a finding, which has none, of its columns (R63). -/
def frFirstPort (f : List Byte) (s : State) : Nat :=
  let mask := if u8 f 48 = 0 then portsOf (ownedRanges 0 (linePitch 0 (u64 f 0) s) s) (u16 f 12) (u16 f 14) else u8 f 48
  (setIndices 6 mask).headD 0

/-- The forerunner defect record of an entry (R63). -/
def frRecord (first : Nat) (rec : List Byte) : List Byte :=
  let f := rec.drop 48
  let seg := u16 f 50
  rec.take 8 ++ rec.drop 16 |>.take 24 |>.append (le 1 (u8 f 56) ++ le 1 (u8 f 57) ++ le 1 first
    ++ le 1 (b2n (seg.testBit 0) + 2 * b2n (seg.testBit 8) + 4 * b2n (seg.testBit 5))
    ++ le 2 (u16 f 12) ++ le 2 (u16 f 14) ++ le 2 0 ++ le 2 (min (u32 f 8 - 1) 32767) ++ le 4 (u32 f 16) ++ le 2 (4 * u16 f 32) ++ zeros 22)

/-- An entry of S0 goes into the forerunner queue (R63). -/
def toForerunner (rec : List Byte) (s : State) : State :=
  if frPorts s = [] then s
  else if s.sys.frQueue.length < 4096 then { s with sys := { s.sys with frQueue := s.sys.frQueue ++ [frRecord (frFirstPort (rec.drop 48) s) rec] } }
  else { s with sys := { s.sys with frOverflow := sat 32 (s.sys.frOverflow + 1) } }

/-! ### The day book (R453, R458) -/

/-- Is a job of the day book being written: records of it wait, or a station at work writes it (R458)? -/
def jobWriting (job : Nat) (s : State) : Bool :=
  s.vault.waiting.any (fun o => o.kind = .dayRecord && o.key = job)
    || (List.range 4).any fun k => stationWorks k s && (s.stLedger k).set.options.getLsbD 1 && (s.stLedger k).set.jobId = job

/-- The committed records of a job, in LEDGER_SEQ order. -/
def jobRecords (job : Nat) (s : State) : List VObj :=
  sortBy (·.seq) (s.vault.objects.filter fun o => o.kind = .dayRecord && o.key = job)

/-- The job that DAYBOOK_FULL lets go first, if any. -/
def discardable (s : State) : Option DayJob :=
  s.vault.jobs.find? fun j => !j.isProtected && !jobWriting j.job s &&
    (s.vault.dayFull = 2 || (s.vault.dayFull = 1 && (jobRecords j.job s).length ≤ j.cursor))

/-- A job is discarded whole. -/
def discardJob (j : DayJob) (s : State) : State :=
  raise 437 (vaultDelete (fun o => o.kind = .dayRecord && o.key = j.job) (modVault (fun v => { v with jobs := v.jobs.erase j }) s))

/-- Room is made for a record as DAYBOOK_FULL says. -/
def makeDayRoom (bytes : Nat) : Nat → State → State
  | 0, s => s
  | fuel + 1, s =>
    if vaultRoom .dayRecord bytes s = stNoSpace && s.vault.formatted && s.vault.mounted then
      match discardable s with
      | some j => makeDayRoom bytes fuel (discardJob j s)
      | none => s
    else s

/-- A record joins the day book under a job, or is lost and counted (R453, R458). -/
def toDayBook (job seq : Nat) (bytes : List Byte) (s : State) : State :=
  let lost := fun s : State => modVault (fun v => { v with dayLost := sat 32 (v.dayLost + 1) }) s
  if spareBelow 3 s then lost s
  else
    let stored := (dayImage bytes).length
    let s := makeDayRoom stored (s.vault.jobs.length + 1) s
    if vaultRoom .dayRecord stored s = stNoSpace then lost s
    else
      let s := if s.vault.jobs.any (fun j => j.job = job) then s else modVault (fun v => { v with jobs := v.jobs ++ [{ job := job }] }) s
      vaultQueue { kind := .dayRecord, key := job, seq := seq, bytes := bytes, stored := stored } s

/-! ### Records (R297-R302) -/

/-- What a record is to its destinations. -/
inductive RecKind where
  | entry | amendment | pseudo
  deriving DecidableEq, Repr

/-- Does a record reach ledger mailbox j of its station (R307)? -/
def boxTakes (x : LedgerSet) (kind : RecKind) (cls j : Nat) : Bool :=
  nth 0xFFFF x.boxes j ≠ 0xFFFF &&
    match kind with
    | .pseudo => x.options.getLsbD (3 + j)
    | _ => (nth 0 x.masks j).testBit cls

/-- A record goes to its ledger mailboxes: destination 2 of R307. -/
def toBoxes (k : Nat) (kind : RecKind) (cls : Nat) (rec : List Byte) (s : State) : State :=
  let x := (s.stLedger k).set
  (List.range 4).foldl (fun s j => if boxTakes x kind cls j then toMailbox (nth 0xFFFF x.boxes j) k rec s else s) s

/-- A record goes up the chain, to the forerunner queue and to the day book: destinations 5 to 7 of R307. -/
def toArchive (k : Nat) (kind : RecKind) (rec crop : List Byte) (s : State) : State :=
  let x := (s.stLedger k).set
  let s := if x.options.getLsbD 0 then forwardRecord k rec s else s
  let s := if k = 0 && kind = .entry then toForerunner rec s else s
  if x.options.getLsbD 1 then toDayBook x.jobId (u64 rec 40) (rec ++ if x.options.getLsbD 2 then crop else []) s else s

/-- A record that neither marks nor second look take goes to its destinations. In SHADOW no record reaches a destination (R307). -/
def deliverRecord (k : Nat) (kind : RecKind) (cls : Nat) (rec : List Byte) (s : State) : State :=
  if s.mode = .shadow then s else toArchive k kind rec [] (toBoxes k kind cls rec s)

/-- An amendment goes to its destinations, behind the entry that is on its way to them (R302). -/
def deliverAmendment (k cls : Nat) (rec : List Byte) (s : State) : State :=
  match s.ledger.held with
  | some xs => modLedger (fun l => { l with held := some (xs ++ [(k, cls, rec)]) }) s
  | none => deliverRecord k .amendment cls rec s

/-- An entry and its crop go to their destinations in R307's order; `takes` is what the franking unit and second look, 3 and 4, do with it.
Amendments that these issue follow the entry to each destination (R302). -/
def deliverEntry (k : Nat) (rec crop : List Byte) (takes : State → State) (s : State) : State :=
  if s.mode = .shadow then s
  else
    let s := takes (modLedger (fun l => { l with held := some [] }) (toBoxes k .entry (u8 rec 104) rec s))
    let xs := s.ledger.held.getD []
    let s := toArchive k .entry rec crop (modLedger (fun l => { l with held := none }) s)
    xs.foldl (fun s e => deliverRecord e.1 .amendment e.2.1 e.2.2 s) s

/-- The next LEDGER_SEQ, which counts every record (R302). -/
def takeSeq (s : State) : Nat × State := (s.ledger.seq, modLedger (fun l => { l with seq := wrap 64 (l.seq + 1) }) s)

/-- A new defect ID of a station (R297). -/
def takeId (k : Nat) (s : State) : Nat × State :=
  let n := (s.stLedger k).serial
  (s.idPostcode * 2 ^ 60 + k * 2 ^ 56 + n, modStLedger k (fun l => { l with serial := wrap 56 (n + 1) }) s)

/-- The header of R299, bytes 0-47. -/
def recordHeader (id type_ k verdict flags : Nat) (pm : Postmark) (rep phase seq : Nat) : List Byte :=
  le 8 id ++ le 1 type_ ++ le 1 k ++ le 1 verdict ++ zeros 1 ++ le 4 flags ++ pm.toBytes ++ le 4 rep ++ le 4 phase ++ le 8 seq

/-- A record is held for the twin's digests, for the block its closing line lies in and the one before (R307, R515). -/
def holdRecord (k : Nat) (h : Held) (s : State) : State :=
  modStLedger k (fun l => { l with held := (l.held.filter fun x => h.block ≤ x.block + 1) ++ [h] }) s

/-- The block in which a record that is handed over now closes: that of the newest labelled line. -/
def closingBlock (k : Nat) (s : State) : Nat := ((s.seg k).labelled.getD 0) / 256

/-- An amendment of an entry is issued (R300, R302): its header, the verdict, the flags it adds and bytes 48-127. -/
def amend (k : Nat) (header : List Byte) (verdict flags cls : Nat) (body : List Byte) (s : State) : State :=
  let r := takeSeq s
  let rec_ := header.take 8 ++ le 1 2 ++ le 1 k ++ le 1 verdict ++ zeros 1 ++ le 4 (u32 header 12 ||| flags)
    ++ (header.drop 16).take 24 ++ le 8 r.1 ++ padTo 80 body
  let s := modStLedger k (fun l => { l with amendments := sat 32 (l.amendments + 1) }) r.2
  deliverAmendment k cls rec_ s

/-- A verdict's class and severity also hold for the entry's planned marks, whose amendments are still to come (R300). -/
def reclassMarks (id cls sev : Nat) (s : State) : State :=
  (List.range 2).foldl (fun s h => modHead h (fun x => { x with
    queue := x.queue.map fun m => if ofLe (m.header.take 8) = id then { m with cls := cls, sev := sev } else m }) s) s

/-- An UNREGISTERED pseudo-record is issued (R301). -/
def issuePseudo (k : Nat) (p : Pseudo) (s : State) : State :=
  let a := takeId k s
  let r := takeSeq a.2
  let flags := 16 + (if s.mode = .learn then 64 else 0)
  let rec_ := recordHeader a.1 3 k 0 flags p.mark p.rep 0 r.1 ++ le 8 p.first ++ les 8 p.last ++ le 1 p.pct ++ le 1 p.cause ++ zeros 62
  let mark : LineMark := { line := p.first, postmark := p.mark, rep := p.rep }
  let s := holdRecord k { bytes := rec_, first := mark, last := mark, block := closingBlock k r.2 } r.2
  if s.mode = .shadow then s
  else deliverRecord k .pseudo 0 rec_ (modStLedger k (fun l => { l with pseudo := sat 32 (l.pseudo + 1) }) s)

/-- The pseudo-records that registration has left are issued. -/
def issuePseudos (k : Nat) (s : State) : State :=
  match (s.reg k).pseudos with
  | [] => s
  | ps => ps.foldl (fun s p => issuePseudo k p s) (modReg k (fun r => { r with pseudos := [] }) s)

/-- Do the planes, pixels, depth and declared line rate of a port lie within R130 at the rate its lane now has? -/
def withinRatings (n : Nat) (s : State) : Bool :=
  let p := s.port n
  p.planes * blocksPerPlane p.pixels p.depth * p.lineRate ≤ lineBudget (s.lane (4 * n)).rate

/-- The lines of a station that carry UNDERSAMPLED: those that have passed stage 8, and those issued that wait for seams, for a district or as
late parts (R313). -/
def underLines (k : Nat) (s : State) : List Nat :=
  let st := s.station k
  let heads := (st.ports.flatMap fun n => (Tab.get [] st.waiting n).map (·.head)) ++ st.lines.map (·.head) ++ st.late.map (·.head)
  (s.stLedger k).under ++ (heads.filter fun h => h.flags.getLsbD 1).map (·.line)

/-- Do the five conditions of R389 hold, and does none of the lines last to last + 48 issued carry UNDERSAMPLED (R313)? -/
def guaranteed (k last : Nat) (s : State) : Bool :=
  s.teller.admitted && s.teller.level = 0
    && (List.range 12).all (fun n => withinRatings n s && !(s.pmap n).lost)
    && (portsInUse s).all (fun n => !(s.port n).rateExceeded)
    && s.dramHolds && !s.twin.reissuing
    && !((underLines k s).any fun m => last ≤ m && m ≤ last + 48)

/-- The entry of a record of segmentation, with its ID and LEDGER_SEQ: the crop is captured, the gates armed, the flags set (R299,
R304, R307, R313). Its bytes and its crop. -/
def buildEntry (k : Nat) (x : SegRec) (id seq extra : Nat) (s : State) : List Byte × Option Crop × State :=
  let f := x.features
  let shadow := s.mode = .shadow
  let set := (s.stLedger k).set
  let c : Option Crop × State := if shadow then (none, s) else captureCrop k f s
  let slot := if c.1.isSome then cropSlot set.cropBox c.2 else none
  let s := match c.1 with
    | some crop =>
      let b := c.2.box set.cropBox
      if set.cropBox = 0xFFFF then c.2
      else if slot.isSome || (b.enable && b.kind = 2 && (c.2.ledger.crops.filter fun y => y.1 = set.cropBox).length < b.held) then
        modLedger (fun l => { l with crops := l.crops ++ [(set.cropBox, id, cropBytes id k crop)] }) c.2
      else countDropped set.cropBox c.2
    | none => c.2
  let g := armGates k f x.first.postmark.pos x.last.postmark.pos s
  let second := set.secondLook.testBit (u8 f 56)
  let outside := !guaranteed k x.last.line g.2
  let flags := b2n second + extra + 4 * b2n g.1.late + 8 * b2n g.1.merged + 16 * b2n slot.isNone
    + 32 * b2n (c.1.any (·.shifted)) + 64 * b2n (s.mode = .learn) + 256 * b2n outside
  let shows := outside && !shadow && elapsed 1000000 g.2.ledger.outsideAt g.2.now
  let s := modLedger (fun l => { l with outsideAt := if shows then some g.2.now else l.outsideAt }) g.2
  let s := if shadow then s else modStLedger k (fun l => { l with
    entries := sat 64 (l.entries + 1), cropsNone := if slot.isNone then sat 32 (l.cropsNone + 1) else l.cropsNone
    outside := if outside then sat 32 (l.outside + 1) else l.outside }) s
  let s := raiseIf shows 350 (raiseIf (!shadow) 344 s)
  let rec_ := recordHeader id 1 k (b2n second) flags x.first.postmark x.first.rep x.first.pos seq ++ padTo 64 f
    ++ le 4 (slot.getD 0xFFFFFFFF) ++ le 2 g.1.gates ++ zeros 2 ++ le 8 s.chainTime
  (rec_, c.1, s)

/-- A new entry, which is also held for the twin (R307). -/
def formEntry (k : Nat) (x : SegRec) (s : State) : List Byte × Option Crop × State :=
  let a := takeId k s
  let q := takeSeq a.2
  let e := buildEntry k x a.1 q.1 0 q.2
  (e.1, e.2.1, holdRecord k { bytes := e.1, first := x.first, last := x.last, block := closingBlock k e.2.2 } e.2.2)

/-- A station's serial counter as it enters a mode that inspects (R298). -/
def enterSerial (k : Nat) (s : State) : State :=
  modStLedger k (fun l => { l with serial := wrap 56 (max l.serial (s.chainTime / 1000)) }) s

/-! ### Commands (R315) -/

/-- May a mailbox field hold a number? -/
def ledgerBoxOk (m : Nat) : Bool := m = 0xFFFF || (32 ≤ m && m ≤ 8191)

/-- LEDGER_SET, opcode 0x0710. -/
def cmdLedgerSet : CommandDef := {
  opcode := 0x0710
  modes := [.standby, .configure]
  lengths := [48]
  kinds := [0x30]
  multi := [0xFE]
  check := fun c _ _ =>
    if (List.range 4).all (fun j => ledgerBoxOk (u16 c.p (8 + 2 * j))) && ledgerBoxOk (u16 c.p 36) && u8 c.p 38 < 128 && zeroAt c.p 39 9 then
      stDone else stOutOfRange
  commit := fun c s => .reply [] (c.targets.foldl (fun s k => modStLedger k (fun l => { l with set := {
    jobId := u64 c.p 0, boxes := (List.range 4).map fun j => u16 c.p (8 + 2 * j)
    masks := (List.range 4).map fun j => u32 c.p (16 + 4 * j)
    secondLook := u32 c.p 32, cropBox := u16 c.p 36, options := BitVec.ofNat 7 (u8 c.p 38) } }) s) s) }

/-- LEDGER_CHAIN, opcode 0x0711: CONFLICT on a package that is not the head. -/
def cmdLedgerChain : CommandDef := {
  opcode := 0x0711
  modes := [.standby, .configure]
  lengths := [4]
  check := fun c _ s =>
    if !ledgerBoxOk (u16 c.p 0) || !zeroAt c.p 2 2 then stOutOfRange else if s.chain.isHead then stDone else stConflict
  commit := fun c s => .reply [] (modLedger (fun l => { l with chainBox := u16 c.p 0 }) s) }

/-- Rule r of an OUTPUT_RULES. -/
def outRuleArgs (p : List Byte) (r : Nat) : OutRule :=
  let q := (p.drop (32 * r)).take 32
  { flags := BitVec.ofNat 3 (u8 q 0), station := u8 q 1, output := u8 q 2, unit := u8 q 3, classMask := u32 q 4, sevMin := u8 q 8
    originMask := u8 q 9, minPulse := u16 q 10, offset := u32 q 12, lead := u32 q 16, trail := u32 q 20 }

/-- Is rule r of an OUTPUT_RULES in range (R309)? -/
def outRuleOk (p : List Byte) (r : Nat) : Bool :=
  let q := (p.drop (32 * r)).take 32
  u8 q 0 < 8 && u8 q 1 ≤ 3 && u8 q 2 ≤ 5 && u8 q 3 ≤ 15 && u8 q 9 < 64 && u32 q 12 ≤ 100000000 && u32 q 16 ≤ 1000000
    && u32 q 20 ≤ 1000000 && zeroAt q 24 8 && u8 q 9 ≠ 0 && u16 q 10 ≠ 0

/-- The units the enabled rules of an OUTPUT_RULES name. -/
def unitsNamed (p : List Byte) : List Nat :=
  (List.range 16).filterMap fun r => if (outRuleArgs p r).flags.getLsbD 0 then some (outRuleArgs p r).unit else none

/-- OUTPUT_RULES, opcode 0x0712: the units of the old rules are let go, those of the new ones claimed (R184, R309). -/
def cmdOutputRules : CommandDef := {
  opcode := 0x0712
  modes := [.standby, .configure]
  lengths := [512]
  check := fun c _ s =>
    if !(List.range 16).all (outRuleOk c.p) then stOutOfRange
    else if (unitsNamed c.p).eraseDups.length ≠ (unitsNamed c.p).length then stConflict
    else if (unitsNamed c.p).any (fun u => !(s.compare u).claimed && (s.compare u).queue ≠ []) then stConflict
    else stDone
  commit := fun c s =>
    let us := unitsNamed c.p
    let s := (List.range 16).foldl (fun s u =>
      let x := s.compare u
      s.setCompare u { x with claimed := us.contains u, queue := if x.claimed then [] else x.queue }) s
    .reply [] ((List.range 16).foldl (fun s r => (s.setOutRule r (outRuleArgs c.p r)).setRuleGates r {}) s) }

/-- OUTPUT_FORCE, opcode 0x0713: a release also clears the LATCH holds on its output. -/
def cmdOutputForce : CommandDef := {
  opcode := 0x0713
  modes := [.learn, .inspect, .reduced]
  lengths := [4]
  registered := true
  check := fun c _ _ => if 4 < u8 c.p 0 || 1 < u8 c.p 1 || !zeroAt c.p 2 2 then stOutOfRange else stDone
  commit := fun c s =>
    let b := BitVec.ofNat 5 (2 ^ u8 c.p 0)
    .reply [] (showOutputs (modLedger (fun l =>
      if u8 c.p 1 = 1 then { l with forced := l.forced ||| b }
      else { l with forced := l.forced &&& ~~~ b, latched := l.latched &&& ~~~ b }) s)) }

/-- OUTPUTS of LEDGER_STATUS, from the process outputs as they stand. -/
def outputsByte (s : State) : Nat := (s.modes.outputs.toNat / 2) % 16 + 16 * (s.modes.outputs.toNat % 2)

/-- LEDGER_STATUS, opcode 0x0714. -/
def cmdLedgerStatus : CommandDef := {
  opcode := 0x0714
  lengths := [4]
  kinds := [0x30]
  reads := true
  replyMax := fun _ => 64
  check := fun c _ _ => if 1 < u8 c.p 0 || !zeroAt c.p 1 3 then stOutOfRange else stDone
  commit := fun c s =>
    let k := c.target
    let l := s.stLedger k
    .reply (le 8 l.entries ++ le 8 l.serial ++ le 4 l.pseudo ++ le 4 l.amendments ++ le 2 (backlogOf k s) ++ le 2 l.backlogPeak
        ++ le 4 l.overflow ++ le 4 l.armed ++ le 4 l.late ++ le 4 l.merged ++ le 4 l.discarded ++ le 4 l.cropsNone ++ le 4 l.outside
        ++ le 1 (outputsByte s) ++ zeros 7)
      (if u8 c.p 0 = 1 then s.setStLedger k { l with
        entries := 0, pseudo := 0, amendments := 0, backlogPeak := backlogOf k s, overflow := 0, armed := 0, late := 0
        merged := 0, discarded := 0, cropsNone := 0, outside := 0 } else s) }

/-- The records an export reads: of a job, from a LEDGER_SEQ on, at most so many; those lost are gone (R315, R446). -/
def exportRecords (p : List Byte) (s : State) : List VObj :=
  ((jobRecords (u64 p 0) s).filter fun o => !o.lost && u64 p 8 ≤ o.seq).take (u32 p 16)

/-- The export cursor of a job moves past the records delivered. -/
def moveCursor (job : Nat) (xs : List VObj) (s : State) : State :=
  match xs.getLast? with
  | none => s
  | some o =>
    let n := ((jobRecords job s).filter fun x => x.seq ≤ o.seq).length
    modVault (fun v => { v with jobs := v.jobs.map fun j => if j.job = job then { j with cursor := max j.cursor n } else j }) s

/-- One package's part of an export: its status, the records it delivers and its bytes. A part that cannot be read to its end, because the
medium stops answering, delivers nothing and moves no cursor (R57, R459). -/
def exportPart (p : List Byte) (fails : Option Nat) (s : State) : Nat × List Byte × State :=
  if vaultUser stDone s ≠ stDone then (vaultUser stDone s, [], s)
  else if !s.vault.jobs.any (fun j => j.job = u64 p 0) then (stAbsent, [], s)
  else
    let xs := exportRecords p s
    let whole : Bool := match fails with
      | some b => 128 * xs.length ≤ b
      | none => true
    if whole then
      (stDone, le 1 s.chain.postcode ++ zeros 3 ++ le 4 xs.length ++ xs.flatMap fun o => padTo 128 o.bytes,
        if (u8 p 20).testBit 0 then moveCursor (u64 p 0) xs s else s)
    else (stHwFault, [], s)

/-- LEDGER_EXPORT, opcode 0x0715, on one package. -/
def cmdLedgerExport : CommandDef := {
  opcode := 0x0715
  modes := [.standby, .configure, .drain, .maintain]
  lengths := [24]
  replyMax := fun c => 8 + 128 * u32 c.p 16
  check := fun c _ _ => if u32 c.p 16 = 0 || 2 ^ 20 < u32 c.p 16 || 1 < u8 c.p 20 || !zeroAt c.p 21 3 then stOutOfRange else stDone
  commit := fun c s =>
    let r := exportPart c.p c.a.fails s
    if r.1 = stDone then .reply r.2.1 r.2.2 else .refuse r.1 }

/-- Offsets 16 to 23 of capability 0x0008's body (R315). -/
def capLedger : List Byte := [16, 64, 48, 20] ++ le 2 4096 ++ zeros 2

end Sys2Proof.Machine
end

