-- ==== Sys2Proof/Machine/Franking.lean ====
section
/-!
DEFINITION. Sys2Proof/Machine/Franking.lean: the franking unit (chapter 15): planning of marks (R336-R345), firing
(R333-R338, R344), heat, faults and safe states (R335, R346, R347), amendments (R348), rewinds (R349-R351), commands (R353).
-/
namespace Sys2Proof.Machine

def modFrank (f : Frank → Frank) (s : State) : State := { s with frank := f s.frank }

def State.density (s : State) (c : Nat) : Density := Tab.get {} s.frank.density c

/-- COUNT_PITCH_PM of a mark's encoder, never zero. -/
def markPm (m : Mark) (s : State) : Nat := max 1 (s.encoder m.encoder).pitchPm

/-- Micrometres as counts of an encoder, rounded half up. -/
def umCounts (um : Int) (pm : Nat) : Int := divHalfUp (um * 1000000) pm

/-! ### Heads -/

/-- Is head 1 a PAIRED head that prints the marks of head 0 (R339)? -/
def pairedHead (h : Nat) (s : State) : Bool := h = 0 && (s.head 1).set.role = 2

/-- The heads that print the marks of head h. -/
def printers (h : Nat) (s : State) : List Nat := if pairedHead h s then [0, 1] else [h]

/-- The head whose marks head h prints. -/
def leadOf (h : Nat) (s : State) : Nat := if h = 1 && (s.head 1).set.role = 2 then 0 else h

/-- How long a head's longest waveform lasts, in ns: absent pulses keep their gaps (R334). -/
def longestWave (w : List (List Nat)) : Nat := (w.map sumNat).foldl max 0

/-- T_min of a head with a data clock and waveforms, in ns (R334). -/
def minPeriod (clock : Nat) (w : List (List Nat)) : Nat :=
  max 27778 ((320000000 + clock - 1) / max 1 clock + longestWave w + 200)

/-- T_min of the heads that print the marks of head h. -/
def headPeriod (h : Nat) (s : State) : Nat :=
  ((printers h s).map fun i => minPeriod (s.head i).set.clock (s.head i).wave).foldl max 0

/-- Does a hot head, a head fault or the pause of a dip stop the marks of head h (R335, R346, R347)? -/
def headBlocked (h : Nat) (s : State) : Bool :=
  s.modes.pause || (printers h s).any fun i => (s.head i).hot || (s.head i).fault

/-- The mask byte of a nozzle (R344). -/
def Head.maskOf (x : Head) (n : Nat) : Nat := x.mask.getD n 0x06

/-! ### Amendments (R348) -/

/-- How many printed columns a mark has (R336). -/
def Mark.columns (m : Mark) (x : Head) : Nat := m.modules.length * x.set.firings

/-- A mark's amendment: flags added, columns done of all. -/
def markAmend (h : Nat) (m : Mark) (flags : Nat) (s : State) : State :=
  amend m.station m.header (u8 m.header 10) (flags ||| (if m.moved then 2048 else 0)) m.cls
    (le 1 2 ++ le 1 m.cls ++ le 1 m.sev ++ le 1 0 ++ le 4 0 ++ m.firstMark.toBytes ++ les 4 m.offset ++ le 1 m.done
      ++ le 1 (m.columns (s.head h))) s

/-- A mark leaves its head's queue. -/
def dropMark (h : Nat) (m : Mark) (s : State) : State :=
  modHead h (fun x => { x with
    queue := x.queue.erase m, deferred := x.deferred && (x.queue.find? fun y => y.rewind = 0) ≠ some m }) s

/-- A mark is withheld: whole, or its rest after columns have printed (R346, R352). -/
def stopMark (h : Nat) (m : Mark) (s : State) : State :=
  let s := dropMark h m s
  if m.done = 0 then
    raise 369 (markAmend h m 4096 (modHead h (fun x => { x with withheld := sat 32 (x.withheld + 1) }) s))
  else
    raise 371 (markAmend h m 1024 (modHead h (fun x => { x with incomplete := sat 32 (x.incomplete + 1) }) s))

/-- Marks of a head that meet a condition are stopped, in queue order. -/
def stopMarks (h : Nat) (q : Mark → Bool) (s : State) : State :=
  ((s.head h).queue.filter q).foldl (fun s m => stopMark h m s) s

/-- A mark whose columns have all printed. -/
def doneMark (h : Nat) (m : Mark) (s : State) : State :=
  raise 368 (markAmend h m 0 (modHead h (fun x => { x with marksDone := sat 32 (x.marksDone + 1) }) (dropMark h m s)))

/-! ### Firing (R333, R337, R338, R344) -/

/-- X_i: where column i of a mark fires (R337). -/
def columnAt (h : Nat) (m : Mark) (i : Nat) (s : State) : Int :=
  let x := (s.head h).set
  pos48 (m.slot + umCounts ((x.offset : Int) + (x.firings + i) * x.firePitch) (markPm m s))

/-- Is column i of a mark due: the direction flag is FORWARD and the count no longer behind X_i (R338)? -/
def columnDue (h : Nat) (m : Mark) (i : Nat) (s : State) : Bool :=
  let e := s.encoder m.encoder
  !e.reverse && 0 ≤ posDiff e.count (columnAt h m i s)

/-- The first of the heads that prints the dot of a nozzle in a pass: neither for OUT nozzles and passes not set (R344). -/
def printerOf (h n pass : Nat) (s : State) : Option Nat :=
  (printers h s).find? fun i =>
    let b := (s.head i).maskOf n
    !b.testBit 0 && b.testBit (1 + pass)

/-- The nozzles of the dark modules of column i of a mark, module by module (R336). -/
def columnNozzles (h : Nat) (m : Mark) (i : Nat) (s : State) : List (List Nat) :=
  let x := (s.head h).set
  ((List.range m.modules.length).filter fun r => ((nth [] m.modules r).getD (i / x.firings) false)).map fun r =>
    (List.range x.moduleNozzles).map fun n => x.firstNozzle + r * x.moduleNozzles + n

/-- The dots of a column: head, nozzle, drop size; and how many dots are lost (R344, R345). -/
def columnDots (h : Nat) (m : Mark) (i : Nat) (s : State) : List (Nat × Nat × Nat) × Nat :=
  let ms := (columnNozzles h m i s).map fun ns => ns.map fun n => (n, printerOf h n (i % 2) s)
  (ms.flatMap fun ns =>
    let lost := ns.any fun e => e.2.isNone
    ns.filterMap fun e => e.2.map fun d => (d, e.1, if lost then m.edge else m.drop),
   sumNat (ms.map fun ns => (ns.filter fun e => e.2.isNone).length))

/-- D0 to D3 in bits 0 to 3, for each of the 320 data clocks of a column: clock 2k carries bit 0 of the codes of nozzles 4k to
4k + 3, clock 2k + 1 their bit 1 (R333). -/
def columnClocks (d : Nat) (dots : List (Nat × Nat × Nat)) : List Byte :=
  let mine := (dots.filter fun e => e.1 = d).map (·.2)
  (List.range 320).map fun k =>
    BitVec.ofNat 8 (sumNat ((List.range 4).map fun j =>
      let code := ((mine.find? fun e => e.1 = 4 * (k / 2) + j).map (·.2)).getD 0
      b2n (code.testBit (k % 2)) * 2 ^ j))

/-- The pulses of a drop size from the firing instant, each its start and its width in ns: an absent pre-heat keeps its gap (R334). -/
def wavePulses (w : List Nat) : List (Nat × Nat) :=
  let at_ := fun i => sumNat (w.take i)
  ([0, 2, 4].map fun i => (at_ i, nth 0 w i)).filter fun e => e.2 ≠ 0

/-- FRKh_WAVE1 to FRKh_WAVE3 of one firing, all from its instant: for each drop size its number of pulses, then their starts and widths
in units of 10 ns, two bytes each (R334). -/
def waveBytes (w : List (List Nat)) : List Byte :=
  w.flatMap fun x => le 1 (wavePulses x).length ++ (wavePulses x).flatMap fun e => le 2 (e.1 / 10) ++ le 2 (e.2 / 10)

/-- A head's outputs shift the codes of a column and pulse, or stay at high impedance on a twin member without the interlock (R332, R500). -/
def driveHead (d : Nat) (m : Mark) (dots : List (Nat × Nat × Nat)) (s : State) : State :=
  if drivesPins s then send .column d m.done (columnClocks d dots ++ waveBytes (s.head d).wave) s else s

/-- Column i of a mark fires. -/
def fireColumn (h : Nat) (m : Mark) (s : State) : State :=
  let dots := columnDots h m m.done s
  let s := (printers h s).foldl (fun s d =>
    modHead d (fun x => { x with lastFire := some s.now }) (driveHead d m dots.1 s)) s
  let shows := 0 < dots.2 && elapsed 1000000 s.frank.lostAt s.now
  let s := raiseIf shows 382 (modFrank (fun f => { f with lostAt := if shows then some s.now else f.lostAt }) s)
  let pm := postmarkAt m.encoder s.chainTime (s.encoder m.encoder).count 0 s
  let m' : Mark := { m with done := m.done + 1, firstMark := if m.done = 0 then pm else m.firstMark }
  let s := modHead h (fun x => { x with
    queue := x.queue.map fun y => if y = m then m' else y
    used := if m.done = 0 then x.used ++ [m.slot] else x.used
    deferred := false
    dotsLost := sat 32 (x.dotsLost + dots.2) }) s
  if m.columns (s.head h) ≤ m'.done then doneMark h m' s else s

/-- The mark whose columns fire next: the first that waits for no rewind. -/
def nextMark (h : Nat) (s : State) : Option Mark := (s.head h).queue.find? fun m => m.rewind = 0

/-- Has the column after the deferred one fallen due? -/
def furtherDue (h : Nat) (m : Mark) (s : State) : Bool :=
  if m.done + 1 < m.columns (s.head h) then columnDue h m (m.done + 1) s
  else ((s.head h).queue.find? fun y => y.rewind = 0 && y ≠ m).any fun y => columnDue h y 0 s

/-- A further column fell due while one waited for T_min: the rest of the mark is withheld (R338, R352). -/
def fireTooLate (h : Nat) (m : Mark) (s : State) : State :=
  let shows := elapsed 1000000 s.frank.lateAt s.now
  raiseIf shows 379 (stopMark h m (modFrank (fun f => { f with lateAt := if shows then some s.now else f.lateAt }) s))

/-- Has T_min passed since the last firing began? -/
def periodPassed (h : Nat) (s : State) : Bool := elapsed (headPeriod h s) (s.head h).lastFire s.now

/-- Columns of a head that have fallen due fire, are deferred or are withheld, one after another. -/
def fireHead (h : Nat) : Nat → State → State
  | 0, s => s
  | fuel + 1, s =>
    match nextMark h s with
    | none => s
    | some m =>
      if !(s.head h).deferred && !columnDue h m m.done s then s
      else if headBlocked h s then fireHead h fuel (stopMark h m s)
      else if periodPassed h s then fireHead h fuel (fireColumn h m s)
      else if !(s.head h).deferred then
        fireHead h fuel (modHead h (fun x => { x with deferred := true, fireLate := sat 32 (x.fireLate + 1) }) s)
      else if furtherDue h m s then fireHead h fuel (fireTooLate h m s)
      else s

end Sys2Proof.Machine
namespace Sys2Proof
open Machine

/-- Modes in which planned marks print (R347). -/
def Mode.franks (m : Mode) : Bool := m.inspects && m ≠ .shadow || m = .drain

end Sys2Proof
namespace Sys2Proof.Machine

/-- The heads act on the counts as they stand. -/
def fireHeads (s : State) : State :=
  if s.mode.franks then (List.range 2).foldl (fun s h => fireHead h 65536 s) s else s

/-! ### Rewinds (R349-R351) -/

/-- WEB_HOLD and WEB_REVERSE, bits 5 and 6 of the outputs. -/
def driveWeb (hold reverse : Bool) (s : State) : State :=
  let v : BitVec 7 := (if hold then 0b0100000 else 0) ||| (if reverse then 0b1000000 else 0)
  { s with modes := { s.modes with outputs := (s.modes.outputs &&& 0b0011111) ||| v } }

def modRewind (f : Rewind → Rewind) (s : State) : State := modFrank (fun x => { x with rewind := f x.rewind }) s

/-- Every mark in a stage of rewinding passes to another stage. -/
def restageMarks (from_ to_ : Nat) (s : State) : State :=
  (List.range 2).foldl (fun s h => modHead h (fun x => { x with
    queue := x.queue.map fun m => if m.rewind = from_ then { m with rewind := to_ } else m }) s) s

/-- Step 1: WEB_HOLD is asserted (R350). -/
def rewindStart (h : Nat) (s : State) : State :=
  let s := modRewind (fun r => { r with step := 2, head := h, encoder := (s.grid (s.head h).select.station).encoder, since := s.now }) s
  raise 376 (driveWeb true false (modHead h (fun x => { x with rewinds := sat 32 (x.rewinds + 1) }) s))

/-- The head of the first mark that waits for a rewind of its own. -/
def rewindWaiter (s : State) : Option Nat :=
  (List.range 2).find? fun h => (s.head h).queue.any fun m => m.rewind = 2

/-- The web runs forward again: WEB_HOLD is released, and for AUTO_DRAIN the web counts as moving up to now (R350, R76). DEDUCED: the
500 ms of R76 begin anew when a rewind ends, as the web did not count as stopped in it. -/
def webForward (s : State) : State :=
  let s := driveWeb false false s
  { s with modes := { s.modes with drainSince := s.now } }

/-- Marks that waited start their rewind when the present one has ended. -/
def rewindNext (s : State) : State :=
  match rewindWaiter s with
  | some h => rewindStart h (restageMarks 2 1 s)
  | none => s

/-- A rewind fails (R351): WEB_REVERSE at once, WEB_HOLD 20 ms later. -/
def rewindFail (s : State) : State :=
  let h := s.frank.rewind.head
  let s := driveWeb true false s
  let s := modRewind (fun r => { r with step := 0, releaseAt := some (s.now + 20000000) }) s
  let s := modHead h (fun x => { x with rewindsFailed := sat 32 (x.rewindsFailed + 1) }) s
  raise 378 ((List.range 2).foldl (fun s d => stopMarks d (fun m => m.rewind = 1) s) s)

/-- WEB_HOLD is released 20 ms after a failed rewind. -/
def rewindRelease (s : State) : State :=
  match s.frank.rewind.releaseAt with
  | some u => if u ≤ s.now then rewindNext (webForward (modRewind (fun r => { r with releaseAt := none }) s)) else s
  | none => s

/-- Step 5 ends: the web runs forward again and the joined marks print as they come (R350). -/
def rewindDone (s : State) : State :=
  let s := restageMarks 1 0 (modRewind (fun r => { r with step := 0 }) s)
  rewindNext (raise 377 (webForward s))

/-- X_0 of the joined marks, each with its encoder. -/
def joinedMarks (s : State) : List (Int × Mark) :=
  (List.range 2).flatMap fun h => ((s.head h).queue.filter fun m => m.rewind = 1).map fun m => (columnAt h m 0 s, m)

/-- The earliest joined mark. -/
def earliestJoined (s : State) : Option (Int × Mark) :=
  match joinedMarks s with
  | [] => none
  | a :: rest => some (rest.foldl (fun b x => if posDiff x.1 b.1 < 0 then x else b) a)

/-- Step 4: once the count is behind T, WEB_REVERSE is released (R350). -/
def rewindWatch (s : State) : State :=
  let r := s.frank.rewind
  match earliestJoined s with
  | some (_, m) =>
    if r.step = 4 && !s.modes.pause && posDiff (s.encoder m.encoder).count r.target < 0 then
      driveWeb true false (modRewind (fun r => { r with step := 5, since := s.now }) s)
    else s
  | none => if r.step = 4 && !s.modes.pause then driveWeb true false (modRewind (fun r => { r with step := 5, since := s.now }) s) else s

/-- Step 3: the target, and WEB_REVERSE when it is in reach (R350). -/
def rewindAim (s : State) : State :=
  match earliestJoined s with
  | none => rewindDone s
  | some (x0, m) =>
    let pm := markPm m s
    let target := pos48 (x0 - divRound ((s.frank.machine.margin : Int) * 1000000) pm)
    let count := (s.encoder m.encoder).count
    if (s.frank.machine.maxBack : Int) * 1000000 < posDiff count target * pm then rewindFail s
    else rewindWatch (driveWeb true true (modRewind (fun r => { r with step := 4, target := target, since := s.now }) s))

/-- Does the web count as stopped for a rewind: has the magnitude of SPEED stayed below STOP_COUNTS_S for 20 ms (R350)? The channel is
that of the station whose mark began the rewind. -/
def rewindStill (s : State) : Bool :=
  let e := s.encoder s.frank.rewind.encoder
  e.speed.natAbs < s.frank.machine.stopCounts && e.slowFrom + 20000000 ≤ s.now

/-- REWIND_WEB_STOPPED: the web has stopped for step 2 or step 5. -/
def rewindStopped (s : State) : State :=
  if s.modes.pause || !rewindStill s then s
  else if s.frank.rewind.step = 2 then rewindAim s
  else if s.frank.rewind.step = 5 then rewindDone s
  else s

/-- REWIND_TIMEOUT: the limit of the present step has passed. -/
def rewindTimeout (s : State) : State :=
  let r := s.frank.rewind
  let ms := if r.step = 4 then s.frank.machine.reverseTimeout else s.frank.machine.holdTimeout
  if r.step = 0 || s.modes.pause || s.now < r.since + ms * 1000000 then s else rewindFail s

/-- A dip holds the rewind at its step with WEB_REVERSE released (R350). -/
def rewindPause (s : State) : State := if s.frank.rewind.step = 0 then s else driveWeb true false s

/-- After the pause the rewind resumes from step 2. -/
def rewindResume (s : State) : State :=
  if s.frank.rewind.step = 0 then s else modRewind (fun r => { r with step := 2, since := s.now }) s

/-- A late mark in a free slot starts a rewind, joins one before its step 3, or waits for one of its own. -/
def rewindFor (h : Nat) (m : Mark) (s : State) : Mark × State :=
  let r := s.frank.rewind
  if r.step = 2 then ({ m with rewind := 1 }, s)
  else if r.step = 0 && r.releaseAt.isNone then ({ m with rewind := 1 }, rewindStart h s)
  else ({ m with rewind := 2 }, s)

/-! ### Planning (R339-R342) -/

/-- Does a selection pick an entry (R339)? -/
def selects (x : Head) (k : Nat) (f : List Byte) (s : State) : Bool :=
  x.set.role = 1 && x.select.enable && x.select.station = k && x.select.classMask.testBit (u8 f 56)
    && x.select.originMask.testBit (u8 f 46) && x.select.sevMin ≤ u8 f 57 && (s.mode ≠ .learn || x.select.inLearn)

/-- The digits of a symbol's content (R343). -/
def contentCodes (content id : Nat) (position : Int) : List Nat :=
  let digits := decDigits 2 (id / 2 ^ 60) ++ decDigits 1 (id / 2 ^ 56 % 16) ++ decDigits 9 (id % 2 ^ 56 % 10 ^ 9)
  digitPairs (if content = 2 then digits ++ decDigits 8 (ofInt 48 position % 10 ^ 8) else digits)

/-- The modules of a mark. -/
def markModules (x : FrankSelect) (id : Nat) (position : Int) : List (List Bool) :=
  if x.content = 0 then List.replicate x.size (List.replicate x.size true)
  else dmSymbol x.size (contentCodes x.content id position)

/-- A drop size raised by FAST_STEP when the line speed calls for it (R345). -/
def raisedDrop (d : Density) (speed drop : Nat) : Nat :=
  if d.fastSpeed ≠ 0 && d.fastSpeed < speed then min 3 (drop + d.fastStep) else drop

/-- Is a slot free: no queued mark in it and none begun (R340)? -/
def slotFree (x : Head) (slot : Int) : Bool := !x.used.contains slot && x.queue.all fun m => m.slot ≠ slot

/-- Would a mark in a slot be late (R340)? -/
def markLate (h : Nat) (m : Mark) (slot : Int) (s : State) : Bool :=
  let pm := markPm m s
  posDiff (columnAt h { m with slot := slot } 0 s) (s.encoder m.encoder).count * pm
    ≤ ((s.head h).select.lateMargin : Int) * 1000000

/-- A mark joins its head's queue, in the order of slots. -/
def queueMark (h : Nat) (m : Mark) (s : State) : State :=
  modHead h (fun x => { x with
    queue := (x.queue.filter fun y => posDiff y.slot m.slot < 0) ++ m :: x.queue.filter fun y => 0 ≤ posDiff y.slot m.slot }) s

/-- A mark is planned in a slot other than its planned one: MARK_OFFSET, in output lines at the station's present pitch (R340, R352). -/
def moveMark (h : Nat) (m : Mark) (slot : Int) (s : State) : State :=
  let offset := divHalfUp (posDiff slot m.planned * markPm m s * 16) (max 1 (s.grid m.station).pitch * 1000000)
  let s := queueMark h { m with slot := slot, moved := true, offset := offset } s
  raise 370 (modHead h (fun x => { x with marksMoved := sat 32 (x.marksMoved + 1) }) s)

/-- n_s of a head's selection, in counts of a mark's encoder (R337). -/
def slotCounts (x : Head) (pm : Nat) : Int := max 1 (divRound ((x.select.slotUm : Int) * 1000000) pm)

/-- The slot a mark takes: its planned one, or the first of the next 64 that is free and not late (R341). -/
def placeMark (h : Nat) (m : Mark) (s : State) : State :=
  let x := s.head h
  let n := slotCounts x (markPm m s)
  let free := slotFree x m.slot
  let late := markLate h m m.slot s
  if free && !late then queueMark h m s
  else if free && s.frank.machine.rewind then
    let r := rewindFor h m s
    queueMark h r.1 r.2
  else
    match ((List.range 64).map fun (i : Nat) => pos48 (m.slot + (i + 1) * n)).find? fun slot => slotFree x slot && !markLate h m slot s with
    | some slot => moveMark h m slot s
    | none => stopMark h m s

/-- A mark copied from a twin partner goes on: with no column fired it prints whole, so that one which waited for a rewind, or whose X_0 lies
behind the count by now, is placed anew; one with columns fired is withheld for the rest (R517; DEDUCED, assumption 113). -/
def adoptMark (h : Nat) (m : Mark) (s : State) : State :=
  if m.done ≠ 0 then stopMark h m (modHead h (fun x => { x with used := x.used ++ [m.slot] }) s)
  else if m.rewind = 0 && posDiff (s.encoder m.encoder).count (columnAt h m 0 s) < 0 then queueMark h m s
  else placeMark h { m with rewind := 0 } s

/-- A head plans the mark of an entry it selects. -/
def planHead (h k : Nat) (rec_ : List Byte) (s : State) : State :=
  let f := (rec_.drop 48).take 64
  let x := s.head h
  if !selects x k f s then s
  else
    let g := s.grid k
    let pos := (Postmark.ofBytes ((rec_.drop 16).take 16)).pos
    let pm := max 1 (s.encoder g.encoder).pitchPm
    let n := slotCounts x pm
    let p0 := divHalfUp (g.p0.getD 0) 65536
    let slot := pos48 (p0 + posDiff pos p0 / n * n)
    let d := s.density x.set.colour
    let speed := (s.res ((s.station k).ports.headD 0)).lastSpeed
    let m : Mark := {
      station := k
      header := rec_.take 48
      cls := u8 f 56
      sev := u8 f 57
      encoder := g.encoder
      slot := slot
      planned := slot
      modules := markModules x.select (ofLe (rec_.take 8)) pos
      drop := raisedDrop d speed (if x.select.content = 0 then d.flag else d.dot)
      edge := raisedDrop d speed d.edge }
    if 256 ≤ x.queue.length then stopMark h m s else placeMark h m s

/-- Marks are planned for an entry just issued; a package in SHADOW marks nothing (R339, R340). -/
def planMarks (k : Nat) (rec_ : List Byte) (s : State) : State :=
  if s.mode.franks then fireHeads (planHead 1 k rec_ (planHead 0 k rec_ s)) else s

/-! ### Heat, faults, dips and safe states -/

/-- T of the mean of 16 samples, in 1/16 degree: the mean keeps its sixteenths, and the quotient is rounded down (R346). -/
def headTemp (x : HeadSet) (codes : List Nat) : Int :=
  let num : Int := ((sumNat codes : Int) - 16 * x.codeAt25) * 256
  400 + (if x.codesPerDeg < 0 then (-num) / (-x.codesPerDeg) else num / x.codesPerDeg)

/-- A mark that is printing on a head is stopped after its column in progress. -/
def stopPrinting (h : Nat) (s : State) : State := stopMarks (leadOf h s) (fun m => m.done ≠ 0) s

/-- Do the ADC channels hold their last sample, as while a run calibrates them (R527)? -/
def adcHeld (s : State) : Bool := s.cal.run.any fun r => r.steps.head? = some 1

/-- HEAD_TEMP_SAMPLE: the mean of 16 samples, 10 µs apart, makes a head hot or cool (R346). -/
def headSample (h : Nat) (codes : List Nat) (s : State) : State :=
  let x := s.head h
  if adcHeld s || !elapsed 160000 x.tempAt s.now then s else
  let t := headTemp x.set codes
  let s := s.setHead h { x with temp := t, tempAt := some s.now }
  if !x.hot && (x.set.tempLimit : Int) ≤ t then
    stopPrinting h (raise (372 + h) (modHead h (fun y => { y with hot := true }) s))
  else if x.hot && t < (x.set.tempLimit : Int) - x.set.tempHyst then
    raise (374 + h) (modHead h (fun y => { y with hot := false }) s)
  else s

/-- FRKh_FAULT_N is asserted: every mark on the head ends (R335). -/
def headFault (h : Nat) (s : State) : State :=
  if (s.head h).fault then s
  else stopMarks (leadOf h s) (fun _ => true) (raise (380 + h) (modHead h (fun y => { y with fault := true }) s))

/-- FRKh_FAULT_N is released. -/
def headFaultEnds (h : Nat) (s : State) : State := modHead h (fun y => { y with fault := false }) s

/-- FRANK_FIRE_DEFERRED: T_min has passed for the column that waits. -/
def fireDeferred (h : Nat) (s : State) : State :=
  if (s.head h).deferred && s.mode.franks then fireHead h 65536 s else s

/-- A dip begins: the marks that print stop, and a rewind holds (R91, R347, R350). -/
def frankPause (s : State) : State := rewindPause ((List.range 2).foldl (fun s h => stopPrinting h s) s)

/-- Entry into a state whose outputs are safe: a rewind ends and every planned mark is withheld (R347, R351). -/
def frankSafe (s : State) : State :=
  let s := modRewind (fun _ => {}) s
  (List.range 2).foldl (fun s h => stopMarks h (fun _ => true) s) s

/-- DRAIN is entered, whose outputs are in the idle state: a rewind ends, and marks that joined it or wait for one are withheld; the others
still print (R347, R351). -/
def frankDrain (s : State) : State :=
  let s := modRewind (fun _ => {}) s
  (List.range 2).foldl (fun s h => stopMarks h (fun m => m.rewind ≠ 0) s) s

/-! ### Commands (R353) -/

def headSetArgs (p : List Byte) : HeadSet :=
  { role := u8 p 0, colour := u8 p 1, firstNozzle := u16 p 2, moduleNozzles := u8 p 4, firings := u8 p 5, firePitch := u16 p 6
    offset := u32 p 8, tempLimit := u16 p 12, tempHyst := u16 p 14, codeAt25 := u16 p 16, codesPerDeg := s16 p 18, clock := u16 p 20 }

/-- Would columns fall due within T_min at the top speed the station declares, once head h is set (R334, R353)? A pair fires at head 0's pitch
for head 0's station, and takes the larger T_min of the two. -/
def breaksPeriod (h : Nat) (x : HeadSet) (s : State) : Bool :=
  let set := fun i => if i = h then x else (s.head i).set
  let pair := (set 1).role = 2
  let lead := if pair then 0 else h
  let v := (s.decl (s.head lead).select.station).speedMax
  let period := ((if pair then [0, 1] else [h]).map fun i => minPeriod (set i).clock (s.head i).wave).foldl max 0
  (set lead).role ≠ 0 && v ≠ 0 && (set lead).firePitch * 1000000000 < period * v

/-- Would a head's geometry break what its enabled selection was accepted under (R336, R337)? -/
def breaksSelection (h : Nat) (x : HeadSet) (s : State) : Bool :=
  let y := (s.head h).select
  x.role = 1 && y.enable && (640 < x.firstNozzle + y.size * x.moduleNozzles || y.slotUm < (y.size + 2) * x.firings * x.firePitch)

/-- FRANK_HEAD_SET, opcode 0x0800. DEDUCED: R336's and R337's limits bind a head set after its selection too, with OUT_OF_RANGE. -/
def cmdFrankHeadSet : CommandDef := {
  opcode := 0x0800
  modes := [.standby, .configure]
  lengths := [24]
  kinds := [0x50]
  check := fun c h s =>
    let x := headSetArgs c.p
    if 2 < x.role || 3 < x.colour || 639 < x.firstNozzle || x.moduleNozzles < 1 || 8 < x.moduleNozzles || x.firings < 1
      || 4 < x.firings || x.firePitch < 20 || 2000 < x.firePitch || 100000000 < x.offset || 2400 < x.tempLimit || x.tempHyst < 16
      || 320 < x.tempHyst || x.codesPerDeg = 0 || x.clock < 1000 || 50000 < x.clock || !zeroAt c.p 22 2
      || breaksSelection h x s then stOutOfRange
    else if (s.head h).queue ≠ [] then stBusy
    else if (x.role = 2 && h = 0) || breaksPeriod h x s then stConflict
    else stDone
  commit := fun c s => .reply [] (modHead c.target (fun y => { y with set := headSetArgs c.p }) s) }

/-- Drop size i of FRANK_WAVEFORM: PRE1, GAP1, PRE2, GAP2, MAIN. -/
def waveArgs (p : List Byte) (i : Nat) : List Nat := (List.range 5).map fun j => u16 p (10 * i + 2 * j)

def waveOk (w : List Nat) : Bool :=
  w.all (fun x => x % 10 = 0 && x ≤ 5000) && 100 ≤ nth 0 w 4 && sumNat w ≤ 15000

/-- FRANK_WAVEFORM, opcode 0x0801. -/
def cmdFrankWaveform : CommandDef := {
  opcode := 0x0801
  modes := [.standby, .configure]
  lengths := [32]
  kinds := [0x50]
  check := fun c h s =>
    if !(List.range 3).all (fun i => waveOk (waveArgs c.p i)) || !zeroAt c.p 30 2 then stOutOfRange
    else if (s.head h).queue ≠ [] then stBusy
    else stDone
  commit := fun c s => .reply [] (modHead c.target (fun y => { y with wave := (List.range 3).map (waveArgs c.p) }) s) }

def densityArgs (p : List Byte) (i : Nat) : Density :=
  let q := p.drop (16 * i)
  { dot := u8 q 0, edge := u8 q 1, flag := u8 q 2, fastSpeed := u32 q 4, fastStep := u8 q 8 }

def densityOk (p : List Byte) (i : Nat) : Bool :=
  let x := densityArgs p i
  1 ≤ x.dot && x.dot ≤ x.edge && x.edge ≤ 3 && 1 ≤ x.flag && x.flag ≤ 3 && x.fastStep ≤ 2 && zeroAt p (16 * i + 3) 1
    && zeroAt p (16 * i + 9) 7

/-- FRANK_DENSITY, opcode 0x0802. -/
def cmdFrankDensity : CommandDef := {
  opcode := 0x0802
  modes := [.standby, .configure]
  lengths := [64]
  check := fun c _ _ => if (List.range 4).all (densityOk c.p) then stDone else stOutOfRange
  commit := fun c s => .reply [] (modFrank (fun f => { f with
    density := (List.range 4).foldl (fun t i => Tab.set ({} : Density) t i (densityArgs c.p i)) f.density }) s) }

/-- FRANK_MASK, opcode 0x0803. -/
def cmdFrankMask : CommandDef := {
  opcode := 0x0803
  modes := [.standby, .configure, .learn, .inspect, .reduced]
  lengths := [640]
  kinds := [0x50]
  check := fun c _ _ => if c.p.all (fun b => b.toNat < 8) then stDone else stOutOfRange
  commit := fun c s =>
    let m := c.p.map BitVec.toNat
    .reply [] (modHead c.target (fun y => { y with mask := if m.all (· = 0x06) then [] else m }) s) }

def selectArgs (p : List Byte) : FrankSelect :=
  { station := u8 p 0, content := u8 p 1, size := u8 p 2, originMask := u8 p 3, classMask := u32 p 4, sevMin := u8 p 8
    enable := (u8 p 9).testBit 0, inLearn := (u8 p 9).testBit 1, slotUm := u32 p 12, lateMargin := u32 p 16 }

/-- Does a content fit its size (R343)? -/
def contentFits (content size : Nat) : Bool := content = 0 || (content = 1 && 14 ≤ size) || (content = 2 && 16 ≤ size)

/-- FRANK_SELECT, opcode 0x0804. -/
def cmdFrankSelect : CommandDef := {
  opcode := 0x0804
  modes := [.standby, .configure, .learn, .inspect, .reduced]
  lengths := [20]
  kinds := [0x50]
  check := fun c h s =>
    let x := selectArgs c.p
    let y := (s.head h).set
    if 3 < x.station || 2 < x.content || x.size < 10 || 24 < x.size || x.size % 2 = 1 || 63 < x.originMask || 3 < u8 c.p 9
      || !zeroAt c.p 10 2 || 1000000 < x.slotUm || 100000 < x.lateMargin || x.slotUm < (x.size + 2) * y.firings * y.firePitch
      || 640 < y.firstNozzle + x.size * y.moduleNozzles || !contentFits x.content x.size then stOutOfRange
    else if y.role = 2 then stConflict
    else stDone
  commit := fun c s => .reply [] (modHead c.target (fun y => { y with select := selectArgs c.p }) s) }

def machineArgs (p : List Byte) : Machine_ :=
  { rewind := u8 p 0 = 1, stopCounts := u32 p 4, holdTimeout := u16 p 8, reverseTimeout := u16 p 10, margin := u32 p 12
    maxBack := u32 p 16 }

/-- FRANK_MACHINE, opcode 0x0805. -/
def cmdFrankMachine : CommandDef := {
  opcode := 0x0805
  modes := [.standby, .configure]
  lengths := [20]
  check := fun c _ _ =>
    let x := machineArgs c.p
    if 1 < u8 c.p 0 || !zeroAt c.p 1 3 || x.stopCounts < 1 || 1000000 < x.stopCounts || x.holdTimeout < 100 || 60000 < x.holdTimeout
      || x.reverseTimeout < 100 || 60000 < x.reverseTimeout || 10000000 < x.margin || 100000000 < x.maxBack then stOutOfRange
    else stDone
  commit := fun c s => .reply [] (modFrank (fun f => { f with machine := machineArgs c.p }) s) }

/-- Is a mark of a head printing? -/
def headPrinting (h : Nat) (s : State) : Bool := (s.head (leadOf h s)).queue.any fun m => m.done ≠ 0

/-- FRANK_STATUS, opcode 0x0806. -/
def cmdFrankStatus : CommandDef := {
  opcode := 0x0806
  lengths := [4]
  kinds := [0x50]
  reads := true
  replyMax := fun _ => 40
  check := fun c _ _ => if 1 < u8 c.p 0 || !zeroAt c.p 1 3 then stOutOfRange else stDone
  commit := fun c s =>
    let x := s.head c.target
    .reply (le 1 (b2n x.hot + 2 * b2n x.fault + 4 * b2n (s.frank.rewind.step ≠ 0) + 8 * b2n (headPrinting c.target s)) ++ le 1 0
        ++ les 2 x.temp ++ le 2 x.queue.length ++ le 2 0 ++ le 4 x.marksDone ++ le 4 x.incomplete ++ le 4 x.marksMoved
        ++ le 4 x.withheld ++ le 4 x.fireLate ++ le 4 x.dotsLost ++ le 4 x.rewinds ++ le 4 x.rewindsFailed)
      (if u8 c.p 0 = 1 then s.setHead c.target { x with
        marksDone := 0, incomplete := 0, marksMoved := 0, withheld := 0, fireLate := 0, dotsLost := 0, rewinds := 0
        rewindsFailed := 0 } else s) }

/-- Offsets 8 to 23 of capability 0x0009's body (R353). -/
def capFrank : List Byte := [2, 3] ++ le 2 640 ++ le 4 36000 ++ [10, 24] ++ le 2 256 ++ zeros 4

end Sys2Proof.Machine
end

