-- ==== Sys2Proof/Machine/SecondLook.lean ====
section
/-!
DEFINITION. Sys2Proof/Machine/SecondLook.lean: second look (chapter 14): network images and what they compute (R318-R321),
jobs and their inputs (R316, R317), verdicts (R322-R325), the queue and its deadlines (R324, R326, R328), the commands of R331.
-/
namespace Sys2Proof.Machine

def modLook (f : Look → Look) (s : State) : State := { s with look := f s.look }

/-! ### Network images (R318, R319, R321) -/

/-- LAYERS, OUTPUTS, NETWORK_ID of an image. -/
def netLayers (img : List Byte) : Nat := u8 img 2
def netOutputs (img : List Byte) : Nat := u8 img 3
def netId (img : List Byte) : Nat := u32 img 4

/-- Layer i of an image. -/
def netLayer (img : List Byte) (i : Nat) : NetLayer :=
  let q := (img.drop (64 + 32 * i)).take 32
  { kind := u8 q 0, relu := (u8 q 1).testBit 0, stride2 := (u8 q 1).testBit 1, inC := u16 q 2, outC := u16 q 4, inH := u8 q 6
    inW := u8 q 7, outH := u8 q 8, outW := u8 q 9, weightAt := u32 q 12, weightBytes := u32 q 16, paramAt := u32 q 20 }

/-- The layers of an image. -/
def imageLayers (img : List Byte) : List NetLayer := (List.range (netLayers img)).map (netLayer img)

/-- Has a layer weights and parameters (R319)? -/
def NetLayer.weighs (l : NetLayer) : Bool := l.kind = 1 || l.kind = 2 || l.kind = 3 || l.kind = 7

/-- One side of a layer's output (R319). -/
def NetLayer.side (l : NetLayer) (n : Nat) : Nat :=
  if l.kind = 1 || l.kind = 3 then (if l.stride2 then (n + 1) / 2 else n)
  else if l.kind = 4 || l.kind = 5 then n / 2
  else if l.kind = 6 || l.kind = 7 then 1
  else n

/-- The weight bytes a layer has (R319). -/
def NetLayer.weights (l : NetLayer) : Nat :=
  match l.kind with
  | 1 => l.outC * l.inC * 9
  | 2 => l.outC * l.inC
  | 3 => l.inC * 9
  | 7 => l.outC * l.inC * l.inH * l.inW
  | _ => 0

/-- Is a layer entry in range, with the shape its type gives (R318, R319)? -/
def layerOk (img : List Byte) (i : Nat) : Bool :=
  let q := (img.drop (64 + 32 * i)).take 32
  let l := netLayer img i
  1 ≤ l.kind && l.kind ≤ 8 && u8 q 1 < 4 && (!l.relu || l.weighs) && (!l.stride2 || l.kind = 1 || l.kind = 3)
    && 1 ≤ l.inC && l.inC ≤ 256 && 1 ≤ l.outC && l.outC ≤ 256 && 1 ≤ l.inH && l.inH ≤ 64 && 1 ≤ l.inW && l.inW ≤ 64
    && (l.kind = 1 || l.kind = 2 || l.kind = 7 || l.outC = l.inC) && l.outH = l.side l.inH && l.outW = l.side l.inW
    && zeroAt q 10 2 && zeroAt q 24 8 && l.weightBytes = l.weights && (l.weighs || (l.weightAt = 0 && l.paramAt = 0))
    && (!l.weighs || (List.range l.outC).all fun o =>
      u8 img (l.paramAt + 8 * o + 6) ≤ 47 && u8 img (l.paramAt + 8 * o + 7) = 0)

/-- The weight and parameter regions of an image: start, length. -/
def netRegions (img : List Byte) : List (Nat × Nat) :=
  (imageLayers img).flatMap fun l => if l.weighs then [(l.weightAt, l.weightBytes), (l.paramAt, 8 * l.outC)] else []

/-- Does no region overlap another? -/
def regionsApart : List (Nat × Nat) → Bool
  | [] => true
  | a :: rest => rest.all (fun b => a.1 + a.2 ≤ b.1 || b.1 + b.2 ≤ a.1) && regionsApart rest

/-- Is an output's map byte in range (R318)? -/
def mapOk (img : List Byte) (o : Nat) : Bool :=
  if o < netOutputs img then u8 img (16 + o) < 96 else u8 img (16 + o) = 0

/-- The CRC of an image, its own field taken as zero (R318). -/
def netCrc (img : List Byte) : Nat := (crc32c (img.take 60 ++ zeros 4 ++ img.drop 64)).toNat

/-- Is an image accepted (R321)? -/
def imageOk (img : List Byte) : Bool :=
  let ls := imageLayers img
  u16 img 0 = 1 && 1 ≤ netLayers img && netLayers img ≤ 64 && 1 ≤ netOutputs img && netOutputs img ≤ 32 && netId img ≠ 0
    && u32 img 8 = img.length && img.length ≤ 4327488 && 64 + 32 * netLayers img ≤ img.length && zeroAt img 12 4 && zeroAt img 48 12
    && (List.range 32).all (mapOk img) && u32 img 60 = netCrc img && (List.range (netLayers img)).all (layerOk img)
    && (ls.head?.any fun l => l.inC = 6 && l.inH = 64 && l.inW = 64)
    && (ls.zip (ls.drop 1)).all (fun e => e.2.inC = e.1.outC && e.2.inH = e.1.outH && e.2.inW = e.1.outW)
    && (ls.getLast?.any fun l => l.kind = 7 && l.outC = netOutputs img)
    && ls.all (fun l => l.outC * l.outH * l.outW ≤ 1048576) && sumNat (ls.map (·.weights)) ≤ 4194304
    && (netRegions img).all (fun r => r.1 + r.2 ≤ img.length) && regionsApart (netRegions img)

/-- COST: multiply-accumulates, and the input values that pooling reads (R321). -/
def netCost (img : List Byte) : Nat :=
  sumNat ((imageLayers img).map fun l =>
    match l.kind with
    | 1 => l.outC * l.inC * 9 * l.outH * l.outW
    | 2 => l.outC * l.inC * l.outH * l.outW
    | 3 => l.inC * 9 * l.outH * l.outW
    | 7 => l.outC * l.inC * l.inH * l.inW
    | 4 | 5 => 4 * l.inC * l.outH * l.outW
    | 6 => l.inC * l.inH * l.inW
    | _ => 0)

/-! ### What a network computes (R320) -/

/-- A value of a layer's input at channel c, line y, column x; padding is zero. -/
def netIn (l : NetLayer) (v : Array Int) (c : Nat) (y x : Int) : Int :=
  if 0 ≤ y && y < (l.inH : Int) && 0 ≤ x && x < (l.inW : Int) then v.getD ((c * l.inH + y.toNat) * l.inW + x.toNat) 0 else 0

/-- An int8 of an image. -/
def netWeight (img : Array Byte) (at_ : Nat) : Int := (img.getD at_ 0).toInt

/-- The bias, the multiplier and the shift of an output channel, applied and clamped (R320). -/
def netScale (img : List Byte) (l : NetLayer) (o : Nat) (acc : Int) : Int :=
  let q := (img.drop (l.paramAt + 8 * o)).take 8
  let m : Int := u16 q 4
  let sh := u8 q 6
  let r := ((acc + s32 q 0) * m + (if sh = 0 then 0 else 2 ^ (sh - 1))) / 2 ^ sh
  clampInt (if l.relu then 0 else -128) 127 r

/-- The sum of a 3 × 3 window of channel c with weights from an offset on. -/
def netWindow (img : Array Byte) (l : NetLayer) (v : Array Int) (at_ c y x : Nat) : Int :=
  let st : Int := if l.stride2 then 2 else 1
  sumInt ((List.range 9).map fun j =>
    netWeight img (at_ + j) * netIn l v c (y * st + (j / 3 : Nat) - 1) (x * st + (j % 3 : Nat) - 1))

/-- Output channel o, line y, column x of a layer. -/
def netOut (raw : List Byte) (img : Array Byte) (l : NetLayer) (v : Array Int) (o y x : Nat) : Int :=
  let quad := [netIn l v o (2 * y) (2 * x), netIn l v o (2 * y) (2 * x + 1), netIn l v o (2 * y + 1) (2 * x), netIn l v o (2 * y + 1) (2 * x + 1)]
  match l.kind with
  | 1 => netScale raw l o (sumInt ((List.range l.inC).map fun c => netWindow img l v (l.weightAt + (o * l.inC + c) * 9) c y x))
  | 2 => netScale raw l o (sumInt ((List.range l.inC).map fun c => netWeight img (l.weightAt + o * l.inC + c) * netIn l v c y x))
  | 3 => netScale raw l o (netWindow img l v (l.weightAt + o * 9) o y x)
  | 4 => quad.foldl max (-128)
  | 5 => (sumInt quad + 2) / 4
  | 6 => divHalfUp (sumInt ((List.range (l.inH * l.inW)).map fun i => v.getD (o * l.inH * l.inW + i) 0)) (l.inH * l.inW)
  | 7 => netScale raw l o (sumInt ((List.range (l.inC * l.inH * l.inW)).map fun i =>
      netWeight img (l.weightAt + o * l.inC * l.inH * l.inW + i) * v.getD i 0))
  | _ => max 0 (netIn l v o y x)

/-- A layer's whole output, channel by channel, line by line. -/
def runLayer (raw : List Byte) (img : Array Byte) (v : Array Int) (l : NetLayer) : Array Int :=
  ((List.range (l.outC * l.outH * l.outW)).map fun i =>
    netOut raw img l v (i / (l.outH * l.outW)) (i / l.outW % l.outH) (i % l.outW)).toArray

/-- The outputs of a network for an input (R320). -/
def runNetwork (img : List Byte) (input : List Int) : List Int :=
  ((imageLayers img).foldl (runLayer img img.toArray) input.toArray).toList

/-- The winning output and its value: the largest, the lowest index on a tie (R322). -/
def winner (outs : List Int) : Nat × Int :=
  outs.zipIdx.foldl (fun b e => if b.2 < e.1 then (e.2, e.1) else b) (0, outs.headD (-128))

/-! ### Verdicts (R322-R325) -/

/-- The network image of a station, if one is loaded. -/
def lookImage (k : Nat) (s : State) : List Byte := (s.stLook k).image

/-- MIN_SCORE of a class. -/
def minScore (k cls : Nat) (s : State) : Nat := nth 0 (s.stLook k).set.minScore cls

/-- A verdict's amendment is issued and counted (R323). -/
def issueVerdict (j : LookJob) (verdict cls sev score netid flags : Nat) (s : State) : State :=
  let s := modLook (fun l => { l with
    confirmed := if verdict = 2 then sat 32 (l.confirmed + 1) else l.confirmed
    withdrawn := if verdict = 3 then sat 32 (l.withdrawn + 1) else l.withdrawn
    reclassed := if verdict = 4 then sat 32 (l.reclassed + 1) else l.reclassed }) s
  reclassMarks (ofLe (j.header.take 8)) cls sev (amend j.station j.header verdict flags j.cls (le 1 1 ++ le 1 cls ++ le 1 sev ++ le 1 score ++ le 4 netid) s)

/-- The default verdict of a job's class, for a cause of R325; the image's ID is that of the image in force (R323, R325). -/
def defaultVerdict (j : LookJob) (cause score : Nat) (s : State) : State :=
  let out := (s.stLook j.station).set.withdraw.testBit j.cls
  let img := lookImage j.station s
  let s := modLook (fun l => { l with causes := Tab.modify 0 l.causes cause fun n => sat 32 (n + 1) }) s
  let s := if elapsed 1000000 s.look.defaultAt s.now then raise 353 (modLook (fun l => { l with defaultAt := some s.now }) s) else s
  issueVerdict j (if out then 3 else 2) j.cls (if out then 0 else j.sev) score (if img = [] then 0 else netId img) 512 s

/-- The verdict of a job from its network's outputs (R322). -/
def networkVerdict (j : LookJob) (img : List Byte) (outs : List Int) (s : State) : State :=
  let w := winner outs
  let score := (w.2 + 128).toNat
  let m := u8 img (16 + w.1)
  let cls := m % 32
  if score < minScore j.station j.cls s then defaultVerdict j 4 score s
  else
    let v := if m / 32 % 4 = 1 then (3, j.cls, 0) else if m / 32 % 4 = 2 && cls ≠ j.cls then (4, cls, j.sev) else (2, j.cls, j.sev)
    issueVerdict j v.1 v.2.1 v.2.2 score (netId img) 0 (raise 352 s)

/-! ### Jobs (R316, R317, R324) -/

/-- A specimen pixel by bilinear weights, in specimen units (R263, R317). -/
def sampleSpecimen (sp : Specimen) (xs ys : Int) : Nat × Nat × Nat :=
  let fx := xs % 16
  let fy := ys % 16
  let x := xs / 16
  let y := ys / 16
  let mix := fun f : SpecPix → Nat =>
    (((16 - fx) * (16 - fy) * (f (sp.at x y) : Int) + fx * (16 - fy) * f (sp.at (x + 1) y) + (16 - fx) * fy * f (sp.at x (y + 1))
      + fx * fy * f (sp.at (x + 1) (y + 1)) + 128) / 256).toNat
  (mix (·.1), mix (·.2.1), mix (·.2.2.1))

/-- The specimen channels of an ORIGIN 0 job, as they stand at issue (R317). -/
def specimenChannels (k col0 line0 : Nat) (s : State) : List (Nat × Nat × Nat) :=
  match (s.learn k).loaded with
  | none => []
  | some sp =>
    let r := s.reg k
    let q := linePitch k (line0 + 32) s
    let y16 := predictLine r (line0 + 32)
    let x16 : Int := 16 * ((col0 + 32 : Nat) : Int) + r.lateral
    let d := fieldAt sp.tx sp.ty (r.prev.getD []) (sp.toSpec q x16) (sp.toSpec q y16)
    (List.range 4096).map fun i =>
      sampleSpecimen sp (sp.toSpec q (x16 + d.1 + 16 * (((i % 64 : Nat) : Int) - 32)))
        (sp.toSpec q (y16 + d.2 + 16 * (((i / 64 : Nat) : Int) - 32)))

/-- The pool districts that stand in for no port, from 0 for DS12. -/
def freePool (s : State) : List Nat := (List.range 4).filter fun i => poolFree (12 + i) s

/-- Those the teller gives to learning while a station learns: the first two, as many as R243 counts on (R326; DESIGN CHOICE, assumption 99:
the rules do not say which). -/
def learnDistricts (s : State) : List Nat :=
  if s.mode = .learn && (List.range 4).any (fun k => learning (s.learn k)) then (freePool s).take 2 else []

/-- The pool districts that run second look: those that stand in for no port and are not given to learning (R326). -/
def lookDistricts (s : State) : List Nat := (freePool s).filter fun i => !(learnDistricts s).contains i

/-- Jobs wait while no pool district runs second look: SL_NO_DISTRICT, at most once per millisecond (R330). -/
def noDistrict (s : State) : State :=
  if s.look.queue ≠ [] && lookDistricts s = [] && elapsed 1000000 s.look.noDistrictAt s.now then
    raise 356 (modLook (fun l => { l with noDistrictAt := some s.now }) s)
  else s

/-- The queue has changed: its peak, and SL_QUEUE_HIGH as it reaches 1,536 (R330, R331). -/
def queueChanged (s : State) : State :=
  let n := s.look.queue.length
  let s := raiseIf (1536 ≤ n && !s.look.high) 354 s
  noDistrict (modLook (fun l => { l with queuePeak := max l.queuePeak n, high := 1536 ≤ n }) s)

/-- The deadline line of a job, by the MAX_AGE_LINES now in force: SL_SET applies to what is decided after it (R324, R329). -/
def jobDeadline (j : LookJob) (s : State) : Nat := j.line0 + 63 + (s.stLook j.station).set.maxAge

/-- An entry with SECOND_LOOK becomes a job, or takes its default verdict at once (R316, R324, R325). -/
def formJob (k : Nat) (rec : List Byte) (crop : Option Crop) (s : State) : State :=
  let f := rec.drop 48
  let j : LookJob := { station := k, header := rec.take 48, cls := u8 f 56, sev := u8 f 57, origin := u8 f 46, seq := u64 rec 40 }
  match crop with
  | none => defaultVerdict j 2 0 s
  | some c =>
    if lookImage k s = [] then defaultVerdict j 3 0 s
    else if 2048 ≤ s.look.queue.length then defaultVerdict j 1 0 s
    else
      let j := { j with
        line0 := c.line0, col0 := c.col0
        spec := if j.origin = 0 then specimenChannels k c.col0 c.line0 s else [] }
      queueChanged (modLook (fun l => { l with queue := l.queue ++ [j] }) s)

/-- The chain time at which a station reaches a line: the crossing of its centre, carried on from the track as it stands where the web has yet
to come to it; none while the web stands or runs back from it (R324; DEDUCED, assumption 33). -/
def lineReached (k line : Nat) (s : State) : Option Int :=
  let g := s.grid k
  match gridAt k line s with
  | none => none
  | some geo =>
    let x := crossing g.track (stationPm k s) (lineCentre geo (stationPm k s) line)
    if x.extrapolated && x.speed = 0 then none else some x.time

/-- The job of a station whose deadline line comes first, then the lower LEDGER_SEQ (R324). -/
def stationJob (k : Nat) (s : State) : Option LookJob :=
  (s.look.queue.filter fun j => j.station = k && !j.returned).foldl (fun b j => match b with
    | none => some j
    | some x => if j.line0 < x.line0 || (j.line0 = x.line0 && j.seq < x.seq) then some j else some x) none

/-- Does a job's deadline line come before another's in chain time, with ties by the lower LEDGER_SEQ (R324)? -/
def jobBefore (a b : LookJob) (s : State) : Bool :=
  match lineReached a.station (jobDeadline a s) s, lineReached b.station (jobDeadline b s) s with
  | some t, some u => t < u || (t = u && a.seq < b.seq)
  | some _, none => true
  | none, some _ => false
  | none, none => a.seq < b.seq

/-- The job that starts next: those that returned to the head of the queue in their own order, then the earliest deadline (R324, R326). -/
def nextJob (s : State) : Option LookJob :=
  match s.look.queue.find? (·.returned) with
  | some j => some j
  | none => ((List.range 4).filterMap fun k => stationJob k s).foldl (fun b j => match b with
      | none => some j
      | some x => if jobBefore j x s then some j else some x) none

/-- Is cluster c of DS12 + i, numbered 4 i + c, free to run a job (R326)? -/
def clusterFree (x : Nat) (s : State) : Bool := (lookDistricts s).contains (x / 4) && !(s.look.running.any fun e => e.1 = x)

/-- The lower median of the pixels whose grow bit is clear, per component; 128 if there are none (R317). -/
def clearMedian (f : Nat × Nat × Nat → Nat) (px : List ((Nat × Nat × Nat) × Bool)) : Nat :=
  let xs := (px.filter fun p => !p.2).map fun p => f p.1
  if xs = [] then 128 else lowerMedian xs

/-- The six channels of a job's input (R317). -/
def jobInput (j : LookJob) (px : List ((Nat × Nat × Nat) × Bool)) : List Int :=
  let chan := fun f : Nat × Nat × Nat → Nat => px.map fun p => (f p.1 : Int) - 128
  let spec := fun f : Nat × Nat × Nat → Nat =>
    if j.origin = 0 then (List.range 4096).map fun i => (f (nth (128, 128, 128) j.spec i) : Int) - 128
    else List.replicate 4096 ((clearMedian f px : Int) - 128)
  chan (·.1) ++ chan (·.2.1) ++ chan (·.2.2) ++ spec (·.1) ++ spec (·.2.1) ++ spec (·.2.2)

/-- Is a line of a job's crop one that DRAM cannot give (R407)? -/
def cropSpoiled (j : LookJob) (s : State) : Bool :=
  (s.station j.station).ports.any fun n => (Tab.get [] s.ledger.rings n).any fun x =>
    x.spoiled && j.line0 ≤ x.head.line && x.head.line < j.line0 + 64

/-- SL_JOB_START: the job with the earliest deadline copies its channels and starts on the free cluster that the event is of (R324). -/
def jobStart (x : Nat) (s : State) : State :=
  if workHeld 2 s || !clusterFree x s then s
  else match nextJob s with
    | none => s
    | some j =>
      let s := modLook (fun l => { l with queue := l.queue.erase j }) s
      let s := modLook (fun l => { l with high := 1536 ≤ l.queue.length }) s
      let k := j.station
      if lookImage k s = [] then defaultVerdict j 3 0 s
      else if cropSpoiled j s then defaultVerdict j 2 0 s
      else
        let c := cropPixels k j.col0 j.line0 (cropReads 0 k j.col0 j.line0 s)
        let r : RunningJob := { job := j, input := jobInput j c.1, image := lookImage k c.2, startedAt := c.2.now }
        modLook (fun l => { l with running := Tab.put l.running x r }) c.2

/-- SL_JOB_DONE: the job on a cluster completes, and its verdict is issued (R322, R327). -/
def jobDone (x : Nat) (s : State) : State :=
  match s.look.running.find? fun e => e.1 = x with
  | none => s
  | some e =>
    let r := e.2
    let us := sat 32 ((s.now - r.startedAt) / 1000)
    let s := modLook (fun l => { l with
      running := Tab.clear l.running x, jobsDone := sat 64 (l.jobsDone + 1), lastUs := us, maxUs := max l.maxUs us }) s
    networkVerdict r.job r.image (runNetwork r.image r.input) s

/-- Waiting jobs that meet a condition take a default verdict. -/
def dropJobs (q : LookJob → Bool) (cause : Nat) (s : State) : State :=
  let js := s.look.queue.filter q
  if js = [] then s
  else
    let s := modLook (fun l => { l with queue := l.queue.filter fun j => !q j }) s
    let s := modLook (fun l => { l with high := 1536 ≤ l.queue.length }) s
    js.foldl (fun s j => defaultVerdict j cause 0 s) s

/-- A station has issued a line: its jobs with that deadline line or an earlier one that have not started age out (R324). -/
def ageJobs (k line : Nat) (s : State) : State := dropJobs (fun j => j.station = k && jobDeadline j s ≤ line) 0 s

/-- Jobs on a district that has been taken as a stand-in return to the head of the queue; those past their deadline age out (R326). -/
def returnJobs (s : State) : State :=
  let gone := sortBy (fun e => (e.2.startedAt * 2 ^ 64 + e.2.job.line0) * 2 ^ 64 + e.2.job.seq)
    (s.look.running.filter fun e => !(lookDistricts s).contains (e.1 / 4))
  if gone = [] then s
  else
    let back := gone.map fun e => { e.2.job with returned := true }
    let s := queueChanged (modLook (fun l => { l with
      running := l.running.filter fun e => !gone.any fun g => g.1 = e.1
      queue := back ++ l.queue }) s)
    dropJobs (fun j => j.returned && (s.station j.station).nextLine.any fun n => jobDeadline j s < n) 0 s

/-- ORIGIN 0 jobs of a station whose specimen has been released are abandoned, unless they have started (R328). -/
def releaseJobs (s : State) : State :=
  (List.range 4).foldl (fun s k =>
    if (s.learn k).released then dropJobs (fun j => j.origin = 0 && j.station = k) 5 (modLearn k (fun l => { l with released := false }) s)
    else s) s

/-- Every job that has not completed is abandoned (R328). -/
def abandonJobs (s : State) : State :=
  let running := s.look.running.map (·.2.job)
  let s := dropJobs (fun _ => true) 5 s
  running.foldl (fun s j => defaultVerdict j 5 0 s) (modLook (fun l => { l with running := [] }) s)

/-! ### Commands (R331) -/

/-- The modes of SL_NETWORK_LOAD and SL_SET. -/
def lookModes : List Mode := [.standby, .configure, .learn, .inspect, .reduced]

/-- The bytes of every station's image after a load on some stations. -/
def imagesAfter (targets : List Nat) (n : Nat) (s : State) : Nat :=
  sumNat ((List.range 4).map fun k => if targets.contains k then n else (lookImage k s).length)

/-- Do the stations' images fit the DRAM once some of them are replaced (R331)? -/
def networksFit (targets : List Nat) (n : Nat) (s : State) : Bool :=
  dramUse s - imagesAfter [] 0 s + imagesAfter targets n s ≤ Config.dramCapacity

/-- SL_NETWORK_LOAD, opcode 0x0720: the images of all stations together lie in one line store of 8 MiB (R326). -/
def cmdSlNetworkLoad : CommandDef := {
  opcode := 0x0720
  modes := lookModes
  lenOk := fun p => 8 ≤ p.length
  kinds := [0x30]
  multi := [0xFE]
  check := fun c _ s =>
    if c.p.length = 8 then (if zeroAt c.p 0 8 then stDone else stOutOfRange)
    else if !imageOk c.p then stOutOfRange
    else if 8388608 < imagesAfter c.targets c.p.length s || !networksFit c.targets c.p.length s then stNoSpace
    else stDone
  reserves := fun c k s => (c.p.length - (lookImage k s).length, 0, 0)
  commit := fun c s =>
    let s := c.targets.foldl (fun s k => modStLook k (fun l => { l with image := if c.p.length = 8 then [] else c.p }) s) s
    .reply [] (raiseIf (c.p.length ≠ 8) 355 s) }

/-- SL_SET, opcode 0x0721. -/
def cmdSlSet : CommandDef := {
  opcode := 0x0721
  modes := lookModes
  lengths := [40]
  kinds := [0x30]
  multi := [0xFE]
  check := fun c _ _ => if u16 c.p 0 < 64 || 4032 < u16 c.p 0 || !zeroAt c.p 2 2 then stOutOfRange else stDone
  commit := fun c s => .reply [] (c.targets.foldl (fun s k => modStLook k (fun l => { l with set := {
    maxAge := u16 c.p 0, withdraw := u32 c.p 4, minScore := (List.range 32).map fun i => u8 c.p (8 + i) } }) s) s) }

/-- SL_NETWORK_READ, opcode 0x0722. -/
def cmdSlNetworkRead : CommandDef := {
  opcode := 0x0722
  lengths := [0]
  kinds := [0x30]
  reads := true
  replyMax := fun _ => 16
  check := fun _ k s => if lookImage k s = [] then stAbsent else stDone
  commit := fun c s =>
    let img := lookImage c.target s
    .reply (le 4 (netId img) ++ le 4 (sat 32 (netCost img)) ++ le 4 (sumNat ((imageLayers img).map (·.weights)))
      ++ le 1 (netLayers img) ++ le 1 (netOutputs img) ++ zeros 2) s }

/-- SL_STATUS, opcode 0x0723. -/
def cmdSlStatus : CommandDef := {
  opcode := 0x0723
  lengths := [4]
  reads := true
  replyMax := fun _ => 64
  check := fun c _ _ => if 1 < u8 c.p 0 || !zeroAt c.p 1 3 then stOutOfRange else stDone
  commit := fun c s =>
    let l := s.look
    .reply (le 2 l.queue.length ++ le 2 l.queuePeak ++ le 1 (maskOf (lookDistricts s)) ++ zeros 3 ++ le 8 l.jobsDone ++ le 4 l.confirmed
        ++ le 4 l.withdrawn ++ le 4 l.reclassed ++ (List.range 6).flatMap (fun i => le 4 (Tab.get 0 l.causes i)) ++ le 4 l.lastUs
        ++ le 4 l.maxUs ++ zeros 4)
      (if u8 c.p 0 = 1 then { s with look := { l with
        queuePeak := l.queue.length, jobsDone := 0, confirmed := 0, withdrawn := 0, reclassed := 0, causes := [], lastUs := 0
        maxUs := 0 } } else s) }

/-- Offsets 24 to 35 of capability 0x0008's body (R331). -/
def capLook : List Byte := le 4 4194304 ++ [64, 32] ++ le 2 256 ++ le 2 2048 ++ zeros 2

end Sys2Proof.Machine
end

