-- ==== Sys2Proof/Machine/TwinBlock.lean ====
section
/-!
DEFINITION. Sys2Proof/Machine/TwinBlock.lean: twin operation at a station's block boundary (chapter 24): the frames of the twin link
(R506), the state copy and count offsets (R507, R508), block digests and ring digests (R510-R512), and the comparison of blocks (R511).
-/
namespace Sys2Proof.Config

/-- CONFIG_DIGEST of some settings: R506 says what the hash covers, not how it is laid out (a free value, assumption 72). -/
opaque configDigest : Machine.State → BitVec 128

/-- The state bytes of a station's copy: R507 says what they carry, not how it is laid out (a free value, assumption 72). -/
opaque stateBytes : Machine.StationCopy → List Byte

end Sys2Proof.Config
namespace Sys2Proof.Machine

/-! ### Frames of the twin link (R506) -/

/-- Is the twin link's lane group ACTIVE? -/
def twinActive (s : State) : Bool := groupLink 14 s = 1

/-- A frame goes onto the twin link's lanes. -/
def putTwinFrame (frame : List Byte) (s : State) : State :=
  send .twin 0 (u8 frame 0) frame (sendLayer 14 (linkBlocks 0xD0 frame) s)

/-- A control block of the twin link goes out. -/
def putTwinControl (type : Nat) (bytes : List Byte) (s : State) : State :=
  send .twin 0 type bytes (sendLayer 14 [(true, le 1 type ++ padTo 7 bytes)] s)

/-- A twin frame is sent and held, the last 32. -/
def sendTwin (kind : Nat) (payload : List Byte) (s : State) : State :=
  let l := s.twin.link
  if twinActive s && (s.twin.up || kind = 0x01) then
    let f := frameBytes kind s.chain.postcode (l.peer.getD 0xFF) l.txSeq payload
    putTwinFrame f (modTwin (fun t => { t with link := { l with
      txSeq := (l.txSeq + 1) % 256, unacked := (l.unacked ++ [(l.txSeq, f)]).drop (l.unacked.length + 1 - 32) } }) s)
  else s

/-- Is a package a member that runs in a pair: ACTIVE, SYNCING or IN_SYNC? -/
def paired (s : State) : Bool :=
  s.modes.strapTwin && (s.twin.role = .active || s.twin.role = .syncing || s.twin.role = .inSync)

/-- Is a package a standby: SYNCING or IN_SYNC? -/
def standby (s : State) : Bool := s.modes.strapTwin && (s.twin.role = .syncing || s.twin.role = .inSync)

/-- Does the package take state copies at its block boundaries, and take over when the interlock comes free (R507, R514)? -/
def shadows (s : State) : Bool := standby s && s.mode = .shadow

/-- Does twin protection apply on the active: it sends copies and digests (R520)? -/
def protects (s : State) : Bool :=
  s.modes.strapTwin && s.twin.role = .active && (s.mode = .inspect || s.mode = .reduced)

/-- The lowest-numbered station in use. -/
def lowestStation (s : State) : Option Nat := (List.range 4).find? fun k => (s.station k).ports ≠ []

/-! ### Configuration digest (R506) -/

/-- The settings that shape records, marks or gates, in their places of an otherwise fresh state. -/
def shapingState (s : State) : State :=
  { State.reset with
    ports := s.ports.map fun e => (e.1, { ({} : Port) with
      configured := e.2.configured, pixels := e.2.pixels, planes := e.2.planes, depth := e.2.depth, lineRate := e.2.lineRate
      cableDelay := e.2.cableDelay, tempDefault := e.2.tempDefault })
    photos := s.photos.map fun e => (e.1, { ({} : Photo) with
      selMode := e.2.selMode, base := e.2.base, baseSerial := e.2.baseSerial, baseState := e.2.baseState, trim := e.2.trim })
    grids := s.grids.map fun e => (e.1, { ({} : Grid) with
      pitch := e.2.basePitch, preset := e.2.preset, encoder := e.2.encoder, stepPct := e.2.stepPct, fixedOrigin := e.2.fixedOrigin
      originGiven := e.2.originGiven })
    ress := s.ress.map fun e => (e.1, { ({} : PortRes) with offsets := e.2.newOffsets.getD e.2.offsets })
    maps := s.maps.map fun e => (e.1, { e.2 with newColour := none, lost := false })
    stations := s.stations.map fun e => (e.1, { ({} : Station) with ports := e.2.ports, mono := e.2.mono, width := e.2.width, xyz := e.2.xyz })
    regs := s.regs.map fun e => (e.1, { ({} : Reg) with
      set := e.2.newSet.getD e.2.set, thresholds := e.2.newThresholds.getD e.2.thresholds, streakSet := e.2.newStreak.getD e.2.streakSet })
    segs := s.segs.map fun e => (e.1, { ({} : Seg) with set := e.2.set, rules := (e.2.newRules.map (·.2)).getD e.2.rules })
    ledger := { ({} : Ledger) with sts := s.ledger.sts.map fun e => (e.1, { ({} : StLedger) with set := e.2.set }), rules := s.ledger.rules }
    frank := { ({} : Frank) with
      heads := s.frank.heads.map fun e => (e.1, { ({} : Head) with set := e.2.set, wave := e.2.wave, mask := e.2.mask, select := e.2.select })
      density := s.frank.density, machine := s.frank.machine }
    teller := { ({} : Teller) with
      powerLimit := s.teller.powerLimit, guardBand := s.teller.guardBand
      decls := s.teller.decls.map fun e => (e.1, { e.2 with applied := 0, due := none }) }
    learns := s.learns.map fun e => (e.1, { ({} : Learn) with loaded := e.2.loaded, golden := e.2.golden }) }

/-- The package's CONFIG_DIGEST now: R506 gives what it covers, not in which layout, so its value is free. -/
def configDigest (s : State) : Nat := (Config.configDigest (shapingState s)).toNat

/-- Are the two members' configuration digests equal? -/
def digestsEqual (s : State) : Bool := s.twin.helloSeen && s.twin.partnerDigest = configDigest s

/-! ### Block digests (R510) -/

/-- A position in the count space of the active member: the standby takes its offset off (R508, R510). -/
def activeCount (q : Nat) (pos : Int) (s : State) : Int :=
  if standby s then pos48 (pos - (Tab.get none s.twin.offsets q).getD 0) else pos

/-- A record as the digest takes it. -/
def digestRecord (rec : List Byte) (s : State) : List Byte :=
  let source := u16 rec 16 / 4096
  rec.take 12 ++ le 4 (u32 rec 12 &&& 0b1000001) ++ le 2 (source * 4096)
    ++ les 6 (activeCount source (toInt 48 (ofLe ((rec.drop 18).take 6))) s) ++ zeros 8 ++ (rec.drop 32).take 8 ++ zeros 8
    ++ (rec.drop 48).take 64 ++ zeros 6 ++ (rec.drop 118).take 2 ++ zeros 8

/-- The records of a station that closed in a block. -/
def blockRecords (k b : Nat) (s : State) : List Held := (s.stLedger k).held.filter fun h => h.block = b

/-- The digest of a block. -/
def blockDigest (k b : Nat) (s : State) : BlockDigest :=
  let rs := blockRecords k b s
  { block := b, records := rs.length, partialView := rs.any fun h => u8 h.bytes 8 = 1 && (u16 h.bytes 98).testBit 4
    digest := ofLe ((sha384 (rs.flatMap fun h => digestRecord h.bytes s)).take 16) }

/-- A DIGEST frame's payload. -/
def digestBytes (k : Nat) (d : BlockDigest) : List Byte :=
  le 1 k ++ le 1 (b2n d.partialView) ++ zeros 2 ++ le 4 d.block ++ le 4 d.records ++ zeros 4 ++ le 16 d.digest

/-! ### Ring digests (R303, R512) -/

/-- The 32-byte header of an output line (R207). -/
def OutLine.headerBytes (x : OutLine) : List Byte :=
  le 8 x.line ++ x.postmark.toBytes ++ le 4 x.speed ++ le 2 x.inputLines ++ le 2 x.flags.toNat

/-- A line slot of a crop ring (R303). -/
def RingLine.slotBytes (x : RingLine) : List Byte :=
  let plane := fun f : Nat × Nat × Nat → Nat => padTo 16640 (x.px.flatMap fun p => le 1 (f (ringPixel p)))
  x.head.headerBytes ++ le 4 x.seam.toNat ++ le 4 x.rep ++ le 3 x.pos ++ le 1 x.regFlags.toNat ++ zeros 20
    ++ plane (·.1) ++ plane (·.2.1) ++ plane (·.2.2) ++ padTo 2080 (packBits x.grow)

/-- The lines of a block that a port's ring holds, in order. -/
def ringBlock (n b : Nat) (s : State) : List RingLine :=
  ((Tab.get [] s.ledger.rings n).filter fun x => x.head.line / 256 = b).reverse

/-- SHA-384 over the ring slots of a block. -/
def ringDigest (n b : Nat) (s : State) : Nat := ofLe (sha384 ((ringBlock n b s).flatMap RingLine.slotBytes))

/-- A twin member keeps the ring digests of its last 16 blocks of each port. -/
def keepRingDigest (n b : Nat) (s : State) : State :=
  if s.modes.strapTwin then
    let d := (b, ringDigest n b s)
    let ds := (d :: (Tab.get [] s.twin.ringDigests n).filter fun e => e.1 ≠ b).take 16
    modTwin (fun t => { t with ringDigests := Tab.set [] t.ringDigests n ds }) s
  else s

/-! ### Count offsets (R508) -/

/-- A station's offset sample from the postmark of its track's newest latch on the active. -/
def offsetSample (k : Nat) (pm : Postmark) (s : State) : Option Int :=
  match trackPosition (s.grid k).track (trackPeriod k s) (pm.time : Int) with
  | some (p16, _, _) => some (posDiff (divHalfUp p16 65536) pm.pos)
  | none => none

/-- The role goes back to SYNCING: state copies count afresh (R505). -/
def loseSync (s : State) : State :=
  if s.twin.role = .inSync then setRole .syncing 4 (modTwin (fun t => { t with copied := [] }) s) else s

/-- What a standby holds of its partner's blocks, offsets and digests starts anew, as its role or its partner's changes (R508). -/
def freshStandby (s : State) : State :=
  modTwin (fun t => { t with
    handover := none, copies := [], parts := [], copied := [], offsets := [], samples := [], runs := []
    ownDigests := [], theirDigests := [], cleanRun := 0 }) s

/-- A sample of encoder q's offset: the median of the first 16 is in force; one that strays returns the role to SYNCING. -/
def takeOffset (q : Nat) (d : Int) (s : State) : State :=
  match Tab.get none s.twin.offsets q with
  | none =>
    let xs := d :: Tab.get [] s.twin.samples q
    if xs.length < 16 then modTwin (fun t => { t with samples := Tab.set [] t.samples q xs }) s
    else
      let mid := nth 0 (sortBy (fun x : Int => (x + 2 ^ 48).toNat) xs) 7
      modTwin (fun t => { t with samples := Tab.set [] t.samples q [], offsets := Tab.set none t.offsets q (some mid) }) s
  | some x =>
    if (s.encoder q).backlash + 1 < (d - x).natAbs then
      let s := modTwin (fun t => { t with offsets := Tab.set none t.offsets q none, copied := [] }) s
      if s.twin.role = .inSync then setRole .syncing 4 s else s
    else s

/-- The samples a station's state copy brings. -/
def takeOffsetsOf (k : Nat) (c : StationCopy) (s : State) : State :=
  c.tracks.foldl (fun s e =>
    if e.1 = (s.grid k).encoder then
      match offsetSample k e.2 s with
      | some d => takeOffset e.1 d s
      | none => s
    else s) s

/-! ### The state copy on the standby (R507) -/

/-- A 48-byte entry header with its POSITION in the standby's count space (R300, R508). -/
def shiftHeader (d : Int) (h : List Byte) : List Byte :=
  h.take 18 ++ les 6 (pos48 (toInt 48 (fld 6 h 18) + d)) ++ h.drop 24

/-- A postmark in the standby's count space. -/
def Postmark.shift (d : Int) (m : Postmark) : Postmark := { m with pos := pos48 (m.pos + d) }

/-- A line's mark in the standby's count space. -/
def LineMark.shift (d : Int) (m : LineMark) : LineMark := { m with postmark := m.postmark.shift d }

/-- A blob in the standby's count space. -/
def Blob.shift (d : Int) (b : Blob) : Blob := { b with first := b.first.shift d, last := b.last.shift d }

/-- The grid of a station is set from its copy; a station that has no copy of this run yet starts its lines on it (R508). -/
def applyGrid (k : Nat) (d : Int) (c : StationCopy) (s : State) : State :=
  let s := modGrid k (fun g => { g with
    origin := some (c.origin + d * 2 ^ 16), provisional := none, pitch := c.pitch, lineBase := c.lineBase, oldPitch := 0, changes := []
    p0 := some (c.p0 + d * 2 ^ 16) })
    (modTwin (fun t => { t with grids := t.grids ||| (1#4 <<< k) }) s)
  if Tab.get 0 s.twin.copied k ≠ 0 then s
  else
    let s := (discardBlobs k (clearStation k (startRun k true s))).2
    (s.station k).ports.foldl (fun s n => modRes n (fun r => { r with nextLine := c.nextLine, issuedTo := c.nextLine }) s) s

/-- The open-blob state of a station at a block's start is kept for a replay, that of the last four blocks (R512). -/
def keepStart (k b : Nat) (s : State) : State :=
  let start : BlockStart := { block := b, blobs := (s.seg k).blobs, split := (s.seg k).split }
  modTwin (fun t => { t with starts := Tab.set [] t.starts k ((start :: (Tab.get [] t.starts k).filter fun x => x.block ≠ b).take 4) }) s

/-- A standby applies and reverts reduction steps with its partner, and its needs follow (R384, R390, R507). -/
def copyReductions (k : Nat) (c : StationCopy) (s : State) : State :=
  if (s.decl k).applied = c.applied then s
  else
    let s := modDecl k (fun x => { x with applied := c.applied }) s
    raise 501 (takeNeeds (modTeller (fun x => { x with steps := stepsApplied s }) s))

/-- A station takes a copied state at the boundary of block b: positions are moved by the count offset first. -/
def applyCopy (k b : Nat) (c : StationCopy) (s : State) : State :=
  match Tab.get none s.twin.offsets (s.grid k).encoder with
  | none => s
  | some d =>
    let s := applyGrid k d c s
    let s := modReg k (fun r => { r with
      state := c.tracker, phase := c.phase, stretch := c.stretch, lateral := c.lateral, repeatNo := c.repeatNo, coast := c.coast
      begun := c.tracker ≠ .idle, cur := c.cur, curC := c.curC, rowsDone := c.rowsDone, prev := c.prev, old := c.old
      streakRing := c.streakRing, streakSums := ringTotal c.streakRing, streakNow := c.streakNow, streaks := c.streaks }) s
    let s := modSeg k (fun g => { g with
      blobs := c.blobs.map (Blob.shift d), split := c.split, frags := c.frags, storm := c.storm.map (Blob.shift d), stormRuns := c.stormRuns
      labelled := some (256 * b + 255) }) s
    let s := copyReductions k c (modStLedger k (fun l => { l with serial := c.serial }) s)
    keepStart k (b + 1) (modTwin (fun t => { t with copied := Tab.set 0 t.copied k (b + 1) }) s)

/-- Do the conditions of IN_SYNC hold (R505)? Equal digests also say that the partner's specimens are loaded. -/
def syncReached (s : State) : Bool :=
  s.twin.role = .syncing && s.mode = .shadow && s.twin.up && digestsEqual s && s.twin.images = []
    && (stationsInUse s).all fun k => Tab.get 0 s.twin.copied k ≠ 0 && (Tab.get none s.twin.offsets (s.grid k).encoder).isSome

/-- The role becomes IN_SYNC as soon as its conditions hold. -/
def reachSync (s : State) : State := if syncReached s then setRole .inSync 4 s else s

/-- Is a station's labelling at the end of block b, with no line beyond it? -/
def atBoundary (k b : Nat) (s : State) : Bool := (s.seg k).labelled = some (256 * b + 255) && (s.seg k).pending = []

/-- A whole copy is applied: at once on a station that has none yet, at the boundary of its block on one that has. -/
def tryCopy (k : Nat) (s : State) : State :=
  let e := Tab.get (0, {}) s.twin.copies k
  let done := Tab.get 0 s.twin.copied k
  if !shadows s || e.1 ≤ done then s
  else if done = 0 || atBoundary k (e.1 - 1) s then reachSync (applyCopy k (e.1 - 1) e.2 s)
  else s

/-- Does line m of a station wait for the copy of the block before it (R507)? -/
def waitsForCopy (k m : Nat) (s : State) : Bool :=
  let done := Tab.get 0 s.twin.copied k
  shadows s && s.twin.up && m % 256 = 0 && 0 < done && done < m / 256

/-- A copy has not come within a block: the role goes back to SYNCING and the station goes on by itself (R505). -/
def lateCopy (k : Nat) (s : State) : State := modTwin (fun t => { t with copied := Tab.set 0 t.copied k 0 }) (loseSync s)

/-! ### Comparing blocks (R511, R512, R519) -/

/-- The blocks of a station compared with a digest: the one of a block, if it is there. -/
def digestOf (t : Tab (List BlockDigest)) (k b : Nat) : Option BlockDigest := (Tab.get [] t k).find? fun d => d.block = b

/-- Are digests compared: both members are in sync (R505, R511)? -/
def compares (s : State) : Bool := standby s && s.twin.role = .inSync || s.twin.role = .active && s.twin.partnerRole = .inSync

/-- A disputed block is replayed. -/
def startReplay (k b : Nat) (s : State) : State :=
  let s := raise 484 s
  modTwin (fun t => { t with
    replays := sat 32 (t.replays + 1)
    replay := t.replay ++ [{ station := k, block := b, since := s.now, issued := blockRecords k b s
                             start := ((Tab.get [] t.starts k).find? fun x => x.block = b).getD {} }] }) s

/-- The active hands over at the start of the block after the next one (R519). -/
def sendHandover (cause : Nat) (s : State) : State :=
  match lowestStation s with
  | none => s
  | some k =>
    let b := ((s.station k).nextLine.getD 0) / 256 + 2
    sendTwin 0x05 (le 1 k ++ zeros 3 ++ le 4 b) (modTwin (fun t => { t with handover := some (k, b), handoverBy := cause }) s)

/-- A block whose two digests are known matches, mismatches or is timing-affected. -/
def compareBlock (k b : Nat) (s : State) : State :=
  match digestOf s.twin.ownDigests k b, digestOf s.twin.theirDigests k b with
  | some x, some y =>
    let lowest := lowestStation s = some k
    let s := modTwin (fun t => { t with
      ownDigests := Tab.set [] t.ownDigests k ((Tab.get [] t.ownDigests k).filter fun d => d.block ≠ b)
      theirDigests := Tab.set [] t.theirDigests k ((Tab.get [] t.theirDigests k).filter fun d => d.block ≠ b) }) s
    if !compares s then s
    else if x.digest = y.digest then
      let s := modTwin (fun t => { t with
        runs := Tab.set 0 t.runs k 0, cleanRun := if lowest then sat 32 (t.cleanRun + 1) else t.cleanRun }) s
      let revert := lowest && s.twin.role = .active && s.twin.secondary && s.twin.handover.isNone && s.twin.revertBlocks ≠ 0
        && s.twin.revertBlocks ≤ s.twin.cleanRun
      if revert then sendHandover 2 s else s
    else if x.partialView || y.partialView then
      modTwin (fun t => { t with runs := Tab.set 0 t.runs k 0, cleanRun := if lowest then 0 else t.cleanRun }) s
    else
      let n := Tab.get 0 s.twin.runs k + 1
      let s := modTwin (fun t => { t with
        runs := Tab.set 0 t.runs k n, mismatches := sat 32 (t.mismatches + 1), cleanRun := if lowest then 0 else t.cleanRun }) s
      if 2 ≤ n then startReplay k b s else s
  | _, _ => s

/-- A digest joins a station's, the last four. -/
def addDigest (k : Nat) (d : BlockDigest) (t : Tab (List BlockDigest)) : Tab (List BlockDigest) :=
  Tab.set [] t k ((d :: (Tab.get [] t k).filter fun x => x.block ≠ d.block).take 4)

/-! ### A station's block closes (R507, R510, R519) -/

/-- The postmark of the newest latch of a station's track (R175, R178, R508). -/
def trackMark (k : Nat) (s : State) : List (Nat × Postmark) :=
  let g := s.grid k
  (g.track.take 1).map fun p => (g.encoder, { time := p.time, pos := p.pos, source := g.encoder, flags := p.flags })

/-- The state of a station at a block boundary, as the active sends it (R507). -/
def stationCopy (k : Nat) (s : State) : StationCopy :=
  let r := s.reg k
  let x := s.seg k
  let g := s.grid k
  { tracker := r.state, phase := r.phase, stretch := r.stretch, lateral := r.lateral, repeatNo := r.repeatNo, coast := r.coast
    cur := r.cur, curC := r.curC, rowsDone := r.rowsDone, prev := r.prev, old := r.old
    streakRing := r.streakRing, streakNow := r.streakNow, streaks := r.streaks
    blobs := x.blobs, split := x.split, frags := x.frags, storm := x.storm, stormRuns := x.stormRuns, serial := (s.stLedger k).serial
    gates := (List.range 16).filterMap fun i => if (s.outRule i).station = k then some (i, (s.ruleGates i).waiting) else none
    latched := s.ledger.latched
    marks := (List.range 2).flatMap fun h => ((s.head h).queue.filter fun m => m.station = k).map fun m => (h, m)
    jobs := (s.look.running.map (·.2.job) ++ s.look.queue).filter fun j => j.station = k
    applied := (s.decl k).applied, nextSeq := s.journal.nextSeq, tracks := trackMark k s
    origin := g.origin.getD 0, p0 := g.p0.getD 0, pitch := g.pitch, lineBase := g.lineBase, nextLine := (s.station k).nextLine.getD 0 }

/-- STATE frames of a block: the parts of the state bytes, each as long as a frame can carry (R486, R506, R507). -/
def sendState (k b : Nat) (s : State) : State :=
  let parts := chunksOf 131056 (Config.stateBytes (stationCopy k s))
  let parts := if parts = [] then [[]] else parts
  parts.zipIdx.foldl (fun s e =>
    sendTwin 0x02 (le 1 k ++ zeros 3 ++ le 4 b ++ le 2 e.2 ++ le 2 parts.length ++ zeros 4 ++ e.1) s) s

/-- A station's block has closed on a twin member. -/
def closeTwinBlock (k b : Nat) (s : State) : State :=
  if !(protects s || shadows s) then s
  else
    let d := blockDigest k b s
    let s := sendTwin 0x03 (digestBytes k d) (modTwin (fun t => { t with ownDigests := addDigest k d t.ownDigests }) s)
    let s := keepStart k (b + 1) s
    compareBlock k b (if protects s then sendState k b s else tryCopy k s)

/-- The block that a HANDOVER names begins on its station (R514, R519). -/
def meetHandover (k m : Nat) (s : State) : State :=
  match s.twin.handover with
  | some (j, b) =>
    if j = k && m % 256 = 0 && b ≤ m / 256 && paired s then modTwin (fun t => { t with handoverNow := true }) s else s
  | none => s

end Sys2Proof.Machine
end

