-- ==== Sys2Proof/Machine/Pipeline.lean ====
section
/-!
DEFINITION. Sys2Proof/Machine/Pipeline.lean: a station's line on its way through stages 5 to 11 (R13, R14): outlets,
the checks and the compare, the crop ring, labelling and the entries that come of it, and the end of a run (R74, R206).
-/
namespace Sys2Proof.Machine

/-! ### From a record to its destinations -/

/-- The bytes of a crop as the day book takes it with its entry. -/
def entryCrop (k : Nat) (rec_ : List Byte) (c : Option Crop) : List Byte := (c.map (cropBytes (u64 rec_ 0) k)).getD []

/-- An entry and its crop reach ledger mailboxes, the franking unit, second look and the rest of R307's destinations (R307, R316, R339). -/
def routeEntry (k : Nat) (e : List Byte × Option Crop × State) : State :=
  deliverEntry k e.1 (entryCrop k e.1 e.2.1) (fun s =>
    let s := planMarks k e.1 s
    if (u32 e.1 12).testBit 0 then formJob k e.1 e.2.1 s else s) e.2.2

/-- A record of segmentation becomes a ledger entry, with its marks and its second-look job (R299, R307, R316, R339). -/
def issueRecord (k : Nat) (s : State) (x : SegRec) : State := routeEntry k (formEntry k x s)

/-- Lines whose summaries are all in, or that wait no longer, are labelled (R279). -/
def labelLoop (k : Nat) (flush : Bool) : Nat → State → State
  | 0, s => s
  | fuel + 1, s =>
    match segNext k flush s with
    | some (x, s) =>
      let m := x.mark.line
      let r := labelLine k x (lineCuts k x s) s
      let s := r.1.foldl (issueRecord k) r.2
      labelLoop k flush fuel (if m % 256 = 255 || x.mark.flags.getLsbD 5 then closeTwinBlock k (m / 256) s else s)
    | none => s

/-! ### A whole line of a station -/

/-- The grow pixels of a line as segmentation takes them (R275). -/
def lineCells (pix : List CmpPix) : List Cell :=
  pix.zipIdx.filterMap fun e =>
    if e.1.grow && !e.1.exempt then
      some { col := e.2, de := e.1.de, dl := e.1.dl, da := e.1.da, db := e.1.db, sev := e.1.sev, seed := e.1.seed }
    else none

/-- The line goes into the crop rings of the ports that have it, each with its own header and seam word (R303). -/
def writeRings (k : Nat) (x : StLine) (r : Stage8) (px8 : List Pix8) (s : State) : State :=
  let ranges := ownedRanges k (linePitch k x.head.line s) s
  x.pieces.foldl (fun s p =>
    let own := nth (0, 0) ranges p.port
    let n := nth 0 (s.station k).ports p.port
    let cut := fun {α : Type} (xs : List α) => (xs.drop own.1).take (own.2 - own.1)
    let slot : RingLine := {
      head := p.head, seam := p.seam ||| (x.seam &&& 4), rep := r.rep, pos := r.pos, regFlags := r.flags, first := own.1
      px := cut px8, grow := cut (r.pix.map fun c => c.grow && !c.exempt) }
    let s := ringWrite n slot s
    if p.head.line % 256 = 255 || p.head.flags.getLsbD 5 then keepRingDigest n (x.head.line / 256) s else s) s

/-- The line as the lead district will label it: a district other than the lead owes its summary (R279). -/
def segLine (k : Nat) (x : StLine) (r : Stage8) (s : State) : SegLine :=
  let ports := (s.station k).ports
  { mark := r.mark x
    cells := lineCells r.pix
    ranges := ownedRanges k (linePitch k x.head.line s) s
    awaited := (List.range ports.length).filter fun i => 0 < i && !x.missing.contains i && !(s.pmap (nth 0 ports i)).lost
    missing := x.missing }

/-- A line in a mode that inspects: stages 7 to 10 (R13). -/
def inspectLine (k : Nat) (x : StLine) (px : List Rgb) (s : State) : State :=
  let m := x.head.line
  let first := m % 256 = 0
  let last := m % 256 = 255 || x.head.flags.getLsbD 5
  let s := if first then loadLearned k (takeGolden k s) else s
  let old := linePitch k (m - 1) s
  let s := if first && 0 < m && linePitch k m s ≠ old then regPitch k m old (linePitch k m s) s else s
  let s := learnBefore k x s
  let st := s.station k
  let labs := px.map (toLab st.mono st.xyz)
  let px8 := labs.map toPix8
  let s := if x.missing = [] then s else modSeg k (fun g => { g with gone := ((m, s.reg k) :: g.gone).take 64 }) s
  let r := stage8 k x labs px8 s
  let s := blockBegins k (r.1.mark x) r.2
  let r := (r.1, s)
  let s := if goldenRuns (r.1.flags.getLsbD 1) r.2 then goldenLine k x (r.1.mark x) px8 last r.2 else goldenSkip k r.2
  let s := writeRings k x r.1 px8 (learnAfter k x px8 s)
  let s := if x.head.flags.getLsbD 1 then modStLedger k (fun l => { l with under := (m :: l.under).take 64 }) s else s
  labelLoop k false 64 (segAppend k (segLine k x r.1 s) s)

/-- A part of a line that the station has gone on without goes through its own district's stages, with the tracker as the line had it, and into
its port's crop ring; its summary finds the line gone (R14, R279, R303; DEDUCED, assumption 91). -/
def latePiece (k : Nat) (s : State) (p : Piece) : State :=
  match (s.seg k).gone.find? fun e => e.1 = p.head.line with
  | none => s
  | some e =>
    let x : StLine := { head := p.head, seam := if (s.station k).ports.any fun n => (s.pmap n).lost then 4 else 0, pieces := [p] }
    let st := s.station k
    let labs := (wholeLine k x s).map (toLab st.mono st.xyz)
    let px8 := labs.map toPix8
    writeRings k x (stage8 k x labs px8 (s.setReg k e.2)).1 px8 s

/-- The parts of lines that have come late go their way. -/
def lateParts (k : Nat) (s : State) : State :=
  (s.station k).late.foldl (latePiece k) (modStation k (fun st => { st with late := [] }) s)

/-- A whole line of a station: reductions due at its block, the outlets, and, in a mode that inspects, the later stages (R13, R70). -/
def stationLine (k : Nat) (x : StLine) (s : State) : State :=
  let m := x.head.line
  let s := meetHandover k m (if m % 256 = 0 then takeReduction k m s else s)
  let px := wholeLine k x s
  let s := modStation k (fun st => { st with nextLine := some (m + 1) }) (outletsLine k x px s)
  ageJobs k m (if s.mode.inspects then inspectLine k x px s else s)

/-- The lines of a station that no district waits for any longer go on (R14). On a standby a block's first line waits for the copy of
the block before, for a block at most (R505, R507). -/
def pumpStation (k : Nat) (flush : Bool) : Nat → State → State
  | 0, s => s
  | fuel + 1, s =>
    let s := lateParts k s
    let st := s.station k
    if !flush && st.nextLine.any (fun m => waitsForCopy k m s) then
      if 256 ≤ st.lines.length then pumpStation k flush fuel (lateCopy k s) else s
    else match takeLine k flush s with
    | some (x, s) => pumpStation k flush fuel (stationLine k x s)
    | none => s

/-- FRAGMENT_SUMMARY_ARRIVE: a summary reaches the lead, and the lines that waited for it are labelled (R279). -/
def summaryArrive (k i line : Nat) (s : State) : State := pumpStation k false 64 (labelLoop k false 64 (summaryIn k i line s))

/-! ### A port's output line -/

/-- A port's output line passes stage 4, and the lines that are then whole go on. -/
def portLine (n k : Nat) (out : OutLine) (s : State) : State :=
  let s := stitchLine k n out s
  let s := if out.line % 256 = 255 || out.flags.getLsbD 5 then districtBlock n s else s
  pumpStation k false 64 s

/-- OUTPUT_LINE_ISSUE: the next output line of a port, if it is due (R205). -/
def outputLine (n : Nat) (s : State) : State :=
  match stationOf n s with
  | none => s
  | some k =>
    if !s.mode.receives || (s.pmap n).lost then s
    else match issueLine n k false s with
      | some (out, s) => portLine n k out s
      | none => s

/-- SEAM_VALUES_ARRIVE: a neighbour's overlap columns reach a port's district (R217). -/
def seamArrive (n : Nat) (fromLeft : Bool) (line : Nat) (s : State) : State :=
  let s := seamDeliver n fromLeft line s
  match stationOf n s with
  | some k => pumpStation k false 64 s
  | none => s

/-! ### The end of a run (R74, R206, R281) -/

/-- Every line of a port whose own box is complete is issued; the last one closes its block (R206). -/
def cutPort (n k : Nat) : Nat → State → State
  | 0, s => s
  | fuel + 1, s =>
    match issueLine n k true s with
    | some (out, s) => cutPort n k fuel (portLine n k out s)
    | none => s

/-- What is open on a station closes at its last line: blobs, the storm record and findings that wait (R74, R281, R284). -/
def cutRecords (k : Nat) (s : State) : State :=
  let g := s.seg k
  let b := cutBlobs k s
  let f := takeFindings k b.2
  let st := closeStorm k 128 g.lastMark f.2
  let r := classifyAll k (recordOrder b.1 ++ f.1 ++ st.1) st.2
  r.1.foldl (issueRecord k) r.2

/-- The block in progress is completed on every port of a station, and all that hangs on it (R74). -/
def cutStation (k : Nat) (s : State) : State :=
  let ports := (s.station k).ports
  let s := ports.foldl (fun s n => cutPort n k (completeTo (s.res n) + 1 - (s.res n).nextLine) s) s
  let s := (List.range ports.length).foldl (fun s i => endWaits k i (fun _ => true) s) s
  let s := labelLoop k true 4096 (pumpStation k true 4096 s)
  let s := cutRecords k s
  let s := (List.range 8).foldl (fun s i =>
    if (s.outlet i).set.enable && (s.outlet i).set.station = k then endFrame i true s else s) s
  ports.foldl (fun s n => closeCut n s) s

/-- R74: the device completes the block in progress on every port and issues the entries of its open blobs. -/
def completeBlocks (s : State) : State := (List.range 4).foldl (fun s k => cutStation k s) s

/-- The districts stop at once: open blobs are discarded; how many they were (R74). -/
def discardRun (s : State) : Nat × State :=
  (List.range 4).foldl (fun acc k =>
    let d := discardBlobs k acc.2
    (acc.1 + d.1, clearStation k d.2)) (0, s)

end Sys2Proof.Machine
end

