-- ==== Sys2Proof/Machine/Retention.lean ====
section
/-!
DEFINITION. Sys2Proof/Machine/Retention.lean: what survives which event (R88, R89): the loss of run state, the loss of job state,
and what each reset and SENTRY keep.
-/
namespace Sys2Proof.Machine

/-! ### What a loss of run state leaves of each unit (R88) -/

/-- The configuration of a channel of the sorting frame: its counters, the count of its fresh events, held parts and recent ripples are run state
(R361, R363). -/
def Channel.job (c : Channel) : Channel :=
  { producer := c.producer, producerEn := c.producerEn, noSwFire := c.noSwFire, locked := c.locked }

def TaskInput.job (i : TaskInput) : TaskInput := { i with coincidence := 0, owed := 0, events := 0, acc := 0, cause := none }

def Frame.loseRun (f : Frame) : Frame :=
  { f with
    channels := Tab.remap (fun _ => {}) Channel.job f.channels
    inputs := Tab.remap (fun _ => {}) TaskInput.job f.inputs
    bridges := Tab.remap (fun _ => {}) (fun b => { b with bridged := 0 }) f.bridges
    saturated := 0, mergedExcess := 0 }

def Lane.job (x : Lane) : Lane :=
  { x with syncErr := 0, blockErr := 0, filler := 0, chkErrors := 0, chkBits := 0 }

/-- A port's configuration, and the messages on their way to its camera (R143). -/
def Port.job (p : Port) : Port :=
  { configured := p.configured, pixels := p.pixels, planes := p.planes, depth := p.depth, lineRate := p.lineRate
    cableDelay := p.cableDelay, tempDefault := p.tempDefault, statsMailbox := p.statsMailbox, exposure := p.exposure, gain := p.gain
    seq := p.seq, outstanding := p.outstanding, queue := p.queue, epoch := p.epoch, prevEpoch := p.epoch }

/-- The sets in use and those committed (R154), which no block of the run that has ended holds back any more (R155). -/
def Photo.job (p : Photo) : Photo :=
  { selMode := p.selMode, base := p.base, baseSerial := p.baseSerial, baseState := p.baseState, trim := p.trim
    newBase := p.newBase.map fun x => { x with block := none }, newTrim := p.newTrim.map fun x => { x with block := none }
    loading := p.loading }

def Latch.job (l : Latch) : Latch := { encoder := l.encoder, mode := l.mode, eventEn := l.eventEn, period := l.period }

/-- Arms are lost, the unit's configuration is kept (R184). -/
def Compare.job (c : Compare) : Compare :=
  { encoder := c.encoder, reverse := c.reverse, catchUp := c.catchUp, claimed := c.claimed }

def Grid.job (g : Grid) : Grid := { g with track := [], provisional := none }

def PortRes.job (r : PortRes) : PortRes := { offsets := r.newOffsets.getD r.offsets, nextLine := r.nextLine, issuedTo := r.issuedTo }

def PortMap.job (m : PortMap) : PortMap :=
  { m with matrix := (m.newColour.map (·.2.1)).getD m.matrix, offs := (m.newColour.map (·.2.2)).getD m.offs, newColour := none }

def Station.job (x : Station) : Station := { ports := x.ports, mono := x.mono, width := x.width, xyz := x.xyz }

def Outlet.job (o : Outlet) : Outlet := { set := o.newSet.getD o.set, table := o.newTable.getD o.table, pitch := if o.newSet.isSome then none else o.pitch }

def Learn.job (l : Learn) : Learn :=
  { l with golden := l.newGolden.getD l.golden, newGolden := none, check := {}, profile := [], anchorDue := false, anchor := none
           goods := [], closed := [], lastGood := none, slots := [], tileConf := [] }

def Reg.job (r : Reg) : Reg :=
  { textures := r.textures, bandProfile := r.bandProfile
    set := r.newSet.getD r.set, thresholds := r.newThresholds.getD r.thresholds, streakSet := r.newStreak.getD r.streakSet }

def Seg.job (g : Seg) : Seg := { set := g.set, rules := (g.newRules.map (·.2)).getD g.rules }

def StLedger.job (l : StLedger) : StLedger := { set := l.set }

def Ledger.loseRun (l : Ledger) : Ledger :=
  { seq := l.seq, sts := Tab.remap (fun _ => {}) StLedger.job l.sts, chainBox := l.chainBox, rules := l.rules }

def Head.job (h : Head) : Head :=
  { set := h.set, wave := h.wave, mask := h.mask, select := h.select, temp := h.temp, hot := h.hot, fault := h.fault }

/-- A district of a package whose districts are off: its purse and work are gone; its K_d, its retired cells and its point are kept (R370). -/
def District.job (x : District) : District :=
  { point := x.point, gated := true, failed := x.failed, resetting := x.resetting, outOfUse := x.outOfUse, retired := x.retired, temp := x.temp
    k := x.k, untested := x.untested }

/-- Retired cells stay retired until a district reset or POR (R11). -/
def District.retiredOnly (x : District) : District := { retired := x.retired, untested := x.untested }

/-- The districts with their purses and work gone; entry 16, the hub blocks', is not gated (R368, R371). -/
def Teller.offDistricts (x : Teller) : Tab District :=
  let ds := Tab.remap (fun _ => {}) District.job x.districts
  Tab.set {} ds 16 { Tab.get {} ds 16 with gated := false }

def Teller.loseRun (x : Teller) : Teller :=
  { x with
    districts := x.offDistricts
    decls := Tab.remap (fun _ => {}) (fun d => { d with applied := 0, due := none }) x.decls
    admitted := false, hubReserve := 0, shortAt := none, steps := 0, stepAt := none
    shortTicks := 0, remaps := 0, retirements := 0, throttledMs := 0, sliceAt := none }

def DramCh.loseRun (c : DramCh) : DramCh :=
  { c with
    owedPeak := 0, corrected := 0, uncorrectable := 0, slices := 0, driftMax := 0, log := [], limitAt := none, subs := [], neighbours := 0
    readBytes := 0, writeBytes := 0 }

def Engine.fresh (e : Engine) : Engine := { job := e.job }

/-- Mailboxes 32 and up and the statistics of HOST_LINK_STATUS return to their reset values; mailboxes 0 to 31 are kept. So do the Courier's registers, but for the STOPPED that the entry
itself leaves (R425; DEDUCED, assumption 37). -/
def HostLink.loseRun (h : HostLink) : HostLink :=
  { h with
    boxes := h.boxes.filter fun e => e.1 < 32
    couriers := Tab.remap (fun _ => {}) (fun x => { stopped := x.stopped }) h.couriers, courierRr := []
    correctable := 0, uncorrectable := 0, linkDowns := 0, flrs := 0, repliesDiscarded := 0 }

/-- Run state is lost, job state is kept (R88, the column STANDBY entry). -/
def loseRun (s : State) : State :=
  { s with
    sys := { s.sys with staged := [], frQueue := [], frOverflow := 0 }
    frame := s.frame.loseRun
    host := s.host.loseRun
    lanes := { s.lanes with lanes := Tab.remap laneReset Lane.job s.lanes.lanes }
    ports := Tab.remap (fun _ => {}) Port.job s.ports
    photos := Tab.remap (fun _ => {}) Photo.job s.photos
    pos := { s.pos with
      latches := Tab.remap (fun _ => {}) Latch.job s.pos.latches
      compares := Tab.remap (fun _ => {}) Compare.job s.pos.compares
      firings := [] }
    grids := Tab.remap (fun _ => {}) Grid.job s.grids
    ress := Tab.remap (fun _ => {}) PortRes.job s.ress
    maps := Tab.remap (fun _ => {}) PortMap.job s.maps
    stations := Tab.remap (fun _ => {}) Station.job s.stations
    outlets := Tab.remap (fun _ => {}) Outlet.job s.outlets
    learns := Tab.remap (fun _ => {}) Learn.job s.learns
    regs := Tab.remap (fun _ => {}) Reg.job s.regs
    segs := Tab.remap (fun _ => {}) Seg.job s.segs
    ledger := s.ledger.loseRun
    look := { sts := s.look.sts }
    frank := { heads := Tab.remap (fun _ => {}) Head.job s.frank.heads, density := s.frank.density, machine := s.frank.machine }
    teller := s.teller.loseRun
    dram := { s.dram with chs := Tab.remap (fun _ => {}) DramCh.loseRun s.dram.chs, correctedAt := none, busyUntil := 0, demand := [] }
    comp := { s.comp with engines := Tab.remap (fun _ => {}) Engine.fresh s.comp.engines }
    chain := { s.chain with frameErrors := 0, forwardLost := 0 }
    twin := { s.twin with
      cleanRun := 0, mismatches := 0, replays := 0, disagreements := 0, switchovers := 0, reissued := 0, reissuing := false
      copies := [], parts := [], copied := [], offsets := [], samples := [], ownDigests := [], theirDigests := [], runs := []
      ringDigests := [], starts := [], replay := [], theirResults := [], handover := none, handoverNow := false, images := [] } }

/-! ### Locked channels and what they freeze (R364, R89) -/

/-- The frame after a loss of job state: locked channels, the inputs that point at one, frozen bridges. -/
def Frame.lockedOnly (f : Frame) : Frame :=
  let held := fun c => (Tab.get {} f.channels c).locked
  { channels := (Tab.remap (fun _ => {}) (fun c => if c.locked then c.job else {}) f.channels)
    inputs := (Tab.remap (fun _ => {}) (fun i =>
      if held i.channel then { channel := i.channel, enable := i.enable, count := i.count, divide := i.divide } else {}) f.inputs)
    bridges := (Tab.remap (fun _ => {}) (fun b => if held b.channel then { b with bridged := 0 } else {}) f.bridges)
    clock := f.clock }

/-- GPIO settings a locked channel freezes; the level at each ball is the board's (R551). -/
def Gpio.kept (f : Frame) (g : Gpio) : Gpio :=
  if (Tab.get {} f.channels g.channel).locked then { g with pulseUntil := none, driven := g.level } else { ball := g.ball }

def Elec.lockedOnly (f : Frame) (e : Elec) : Elec :=
  { gpios := (Tab.remap (fun _ => {}) (fun g => if (Tab.get {} f.channels g.channel).locked then Gpio.kept f g else { ball := g.ball }) e.gpios)
    tap := e.tap }

/-- GPIO inputs keep what the board drives; everything else of them is at reset. -/
def Elec.ballsOnly (e : Elec) : Elec :=
  { gpios := (Tab.remap (fun _ => {}) (fun g => { ball := g.ball }) e.gpios) }

/-! ### What resets and SENTRY keep -/

/-- The vault as the package leaves it behind: the medium's contents and the persistent counters and settings; what waited for a
program is lost with the run (R448, R457). -/
def Vault.offline (replay : Bool) (v : Vault) : Vault := { v with mounted := false, replaying := replay, waiting := [], fwWrite := none }

/-- The encoder channels run on in the Sentry domain: counters, direction logic, index check, fault counters and settings (R88, R163,
R173). -/
def countersOnly (s : State) : Position := { encoders := s.pos.encoders }

/-- What the DRAM interface keeps with its training results (R88, R411): settings and results; in SENTRY self-refresh too (R70, R83). -/
def trainingOnly (sleeps : Bool) (d : Dram) : Dram :=
  { set := d.set
    chs := Tab.remap (fun _ => {})
      (fun c => { trained := c.trained, failed := c.failed, lfsr := c.lfsr, selfRefresh := sleeps && c.selfRefresh }) d.chs }

/-- What no reset touches: what lies outside the package, the medium of the vault, the model's own books. -/
def outside (replay : Bool) (s : State) : State :=
  { State.reset with
    sys := { State.reset.sys with free := s.sys.free }
    modes := { State.reset.modes with perst := s.modes.perst }
    vault := { s.vault.offline replay with resume := none }
    twin := { State.reset.twin with senseHeld := s.twin.senseHeld }
    elec := s.elec.ballsOnly
    hostMem := s.hostMem
    now := s.now
    sent := s.sent
    pending := s.pending }

/-- What every reset but POR keeps: the Sentry domain's counters, safe states, straps, monitors, the time it keeps, and which cells are
retired (R11). A brown-out pause and the dips it has recorded are the monitors' (R91; DESIGN CHOICE, assumption 78). -/
def keepSentry (s t : State) : State :=
  { t with
    sys := { t.sys with sentryBase := s.sys.sentryBase }
    modes := { t.modes with
      idleSafe := s.modes.idleSafe, faultSafe := s.modes.faultSafe, outputs := s.modes.idleSafe.setWidth 7
      pinCount := s.modes.pinCount, chainCount := s.modes.chainCount, softCount := s.modes.softCount
      districtCount := s.modes.districtCount, warnCount := s.modes.warnCount
      rails := s.modes.rails, pause := s.modes.pause, pauseFrom := s.modes.pauseFrom, dips := s.modes.dips, por := false, pinHeld := s.modes.pinHeld, rail1En := s.modes.rail1En, rail2En := s.modes.rail2En
      groupUp := s.modes.groupUp, groupAt := s.modes.groupAt, rail1Off := s.modes.rail1Off, discharged := s.modes.discharged, powerTries := s.modes.powerTries, powerAt := s.modes.powerAt
      strapHead := s.modes.strapHead, strapTwin := s.modes.strapTwin, strapTest := s.modes.strapTest
      wakeSources := s.modes.wakeSources }
    pos := countersOnly s
    chain := { t.chain with offset := s.chain.offset }
    teller := { t.teller with districts := Tab.remap (fun _ => {}) District.retiredOnly s.teller.districts }
    twin := { t.twin with before := s.twin.role } }

/-- What a chain and a soft reset, and SENTRY, also keep: locked channels, the journal, the training results and calibration codes. -/
def keepLocked (sleeps : Bool) (s t : State) : State :=
  { t with
    frame := s.frame.lockedOnly
    elec := s.elec.lockedOnly s.frame
    journal := s.journal
    dram := trainingOnly sleeps s.dram
    cal := { s.cal with run := none } }

/-- The postcode, with the place on the chain that came with it. -/
def keepPostcode (s t : State) : State :=
  { t with chain := { t.chain with
      postcode := s.chain.postcode, size := s.chain.size, isHead := s.chain.isHead, synced := s.chain.isHead, headSerial := s.chain.headSerial } }

/-! ### Job state through SENTRY (R80, R88) -/

/-- The resume image's part of the state: the job without the specimens, which the library holds. -/
def savedJob (s : State) : State :=
  let s := loseRun s
  { s with learns := Tab.remap (fun _ => {}) (fun l => { l with loaded := none, next := none, state := .idle }) s.learns }

/-- The package in SENTRY: what R88 keeps, with the job state when a resume image was saved; a twin member's sensor transmitters are dark, since
it does not hold the interlock (R96). -/
def asleep (saved : Bool) (s : State) : State :=
  let t := keepPostcode s (keepLocked true s (keepSentry s (outside false s)))
  let t : State := { t with
    sys := { t.sys with grantDebug := s.sys.grantDebug, grantBase := s.sys.grantBase, service := s.sys.service, fwVersion := s.sys.fwVersion }
    vault := { t.vault with resume := s.vault.resume } }
  let dark := fun t : State => if s.modes.strapTwin then darkenSensors true t else t
  if saved then
    let j := savedJob s
    dark { t with
      frame := j.frame, elec := { j.elec with gpios := j.elec.gpios }, lanes := { j.lanes with
        up := 0, downCauses := [], lit := 0, rests := false, lanes := Tab.remap laneReset (fun x => { x with listenOnly := false }) j.lanes.lanes }
      ports := j.ports, photos := j.photos
      pos := { j.pos with encoders := s.pos.encoders }
      grids := j.grids, ress := j.ress, maps := j.maps, stations := j.stations, outlets := j.outlets, learns := j.learns
      regs := j.regs, segs := j.segs
      ledger := { j.ledger with seq := 0 }
      look := j.look, frank := j.frank, teller := j.teller
      twin := { State.reset.twin with
        senseHeld := s.twin.senseHeld, before := s.twin.role
        enable := j.twin.enable, secondary := j.twin.secondary, revertBlocks := j.twin.revertBlocks, partnerSerial := j.twin.partnerSerial }
      host := { t.host with userBase := s.host.userBase, userBytes := s.host.userBytes } }
  else dark t

end Sys2Proof.Machine
end

