-- ==== Sys2Proof/Machine/Modes.lean ====
section
/-!
DEFINITION. Sys2Proof/Machine/Modes.lean: the modes (chapter 03): safe states (R70-R72), transitions (R73-R77), AUTO_DRAIN (R76),
and SET_MODE, SET_SAFE_STATE, FORCE_SAFE and GET_RESET_CAUSE (R78).
-/
namespace Sys2Proof
open Machine

/-- The safe state of the process outputs in a mode: the idle state, or the fault state (true); none where the rules or
nothing drives them (R70). -/
def Mode.safe : Mode → Option Bool
  | .learn | .inspect | .reduced | .shadow => none
  | .faultHold => some true
  | _ => some false

/-- The modes whose entry withholds every planned mark (R347). -/
def Mode.stopsMarks : Mode → Bool
  | .standby | .configure | .calibrate | .maintain | .faultHold => true
  | _ => false

/-- The modes that leave the DRAM in self-refresh as STANDBY does (R70). -/
def Mode.dramRests : Mode → Bool
  | .sentry | .standby | .enumerate | .faultHold => true
  | _ => false

end Sys2Proof
namespace Sys2Proof.Machine

/-! ### Safe states (R70-R72) -/

/-- The process outputs change together to a safe state; gates and holds end (R72, R312). -/
def driveSafe (fault : Bool) (s : State) : State :=
  modModes (fun m => { m with outputs := (if fault then m.faultSafe else m.idleSafe).setWidth 7 }) (discardGates s)

/-- The outputs as a mode is entered (R70, R72): a safe state; or what the rules ask for, from a safe state or from SHADOW. -/
def enterOutputs (old new : Mode) (s : State) : State :=
  match new.safe with
  | some fault => driveSafe fault s
  | none =>
    if new.drives then showOutputs (if old.drives then s else modModes (fun m => { m with outputs := 0 }) s) else s

/-! ### Lanes and DRAM -/

/-- A port's lane group has left or entered ACTIVE or LISTEN since it was last looked at (R106, R142). -/
def syncGroup (g : Nat) (up down : State → State) (s : State) : State :=
  let now := groupLink g s ≠ 0
  if now = s.lanes.up.getLsbD g then s
  else
    let s : State := { s with lanes := { s.lanes with up := s.lanes.up ^^^ (1#15 <<< g) } }
    if now then up s
    else
      let ls := lanesOf g
      let causes := Tab.get 0 s.lanes.downCauses g
      down (journal 0x0200 (if g < 12 then 0x10 + g else 0) (4 + ls.headD 0)
        (le 1 (ls.headD 0) ++ le 1 (2 ^ ls.length - 1) ++ le 2 causes)
        { s with lanes := { s.lanes with downCauses := Tab.set 0 s.lanes.downCauses g 0 } })

/-- A sensor port's group has entered ACTIVE, or left it, since it was last looked at: by bring-up, or lit out of LISTEN (R105, R136). To pass
between ACTIVE and LISTEN raises neither PORT_UP nor PORT_DOWN (DESIGN CHOICE, assumption 110). -/
def syncLit (n : Nat) (s : State) : State :=
  let now := groupLink n s = 1
  if now = s.lanes.lit.getLsbD n then s
  else
    let s : State := { s with lanes := { s.lanes with lit := s.lanes.lit ^^^ (1#12 <<< n) } }
    if now then portLit n s else if groupLink n s = 2 then portDark n s else s

def syncPorts (s : State) : State :=
  (List.range 12).foldl (fun s n => syncLit n (syncGroup n (portUp n) (portDown n) s)) s

/-- The sensor lane groups sit in IDLE, as in STANDBY: every lane that is enabled (R108). -/
def sensorsIdle (s : State) : State := syncPorts ((List.range 12).foldl (fun s g => seatGroup g (idleGroup g s)) s)

/-- The sensor lane groups go OFF as the mode that owns them ends: one that receives pixels is left for one that does not, STANDBY apart
(R105; DEDUCED, assumption 83). -/
def sensorsOff (s : State) : State := syncPorts ((List.range 12).foldl (fun s g => groupOff g s) s)

/-- Is nothing in flight on the chain: no command relayed, staged or committed, no frame without its acknowledgement? -/
def chainQuiet (s : State) : Bool :=
  s.sys.staged.isEmpty && s.sys.chainCmds.isEmpty && !s.sys.started.any (·.relayed) && s.chain.exporting.isNone
    && [ChainPort.up, .down].all fun p => !(s.link p).carries || (s.link p).unacked.isEmpty

/-- The chain and twin lanes have still to go to IDLE, and nothing keeps them. -/
def linksRest (s : State) : Bool := s.lanes.rests && s.mode = .standby && chainQuiet s

/-- In STANDBY the chain and twin lanes go to IDLE, and the package lights its downstream lanes, on the resume path: that signal brings up the
next package's upstream lanes, by their DETECT_WAKE (R105, R108, R496; assumption 83). -/
def restLinks (s : State) : State :=
  if linksRest s then
    wakeGroup 13 ((List.range' 12 3).foldl (fun s g => idleGroup g s) { s with lanes := { s.lanes with rests := false } })
  else s

/-- STANDBY is left: the chain lanes, and a twin member's link, wake from IDLE (R105). -/
def wakeLinks (s : State) : State :=
  let s := wakeGroup 13 (wakeGroup 12 { s with lanes := { s.lanes with rests := false } })
  if s.modes.strapTwin then wakeGroup 14 s else s

/-- The sensor lane groups wake as a mode that receives pixels is entered (R105). -/
def sensorsWake (s : State) : State := (List.range 12).foldl (fun s g => wakeGroup g s) s

/-- The districts that serve ports in use come out of their power gates (R28). -/
def wakeDistricts (s : State) : State :=
  (portsInUse s).foldl (fun s n => modDistrict (s.route n) wakeDistrict s) s

/-! ### What a transition does on leaving (R74) -/

/-- Learned specimens that wait for a block boundary are loaded (R243). -/
def loadAllLearned (s : State) : State := (List.range 4).foldl (fun s k => loadLearned k s) s

/-- A calibration run ends without a commit when its mode is left (R530, R532). -/
def endRunFor (new : Mode) (s : State) : State :=
  match s.cal.run with
  | some r => if s.mode = .calibrate || !(new = .configure || new = .learn) then endRun r stAborted s else s
  | none => s

/-- What is under way in the old mode is brought to its end (R74, R244, R253, R281, R328, R347, R440). The blobs that a stop discards. -/
def leaveMode (new : Mode) (s : State) : Nat × State :=
  let old := s.mode
  let s := if old.drives && !(new = .inspect || new = .reduced || new = .faultHold) then completeBlocks s else s
  let s := if new.receives then s else (List.range 4).foldl (fun s k => stopOutlets k s) s
  let s := if old = .learn && new ≠ .faultHold then loadAllLearned s else s
  let d := if new = .faultHold || (old = .shadow && !new.inspects) then discardRun s else (0, s)
  let s := if old = .learn then abandonLearning d.2 else d.2
  let s := if new.stopsMarks then frankSafe s else if new = .drain then frankDrain s else s
  let s := if new = .shadow then modRewind (fun _ => {}) s else s
  let s := if new = .standby || new = .shadow || new = .faultHold then abandonJobs s else s
  let s := if new = .standby || new = .faultHold then compAbort s else s
  let s := if new = .learn || new.inspects then s else (List.range 4).foldl (fun s k => regIdle k s) s
  (d.1, endRunFor new s)

/-! ### What a transition does on entering -/

/-- Registration, labelling and the lines between the stages start anew for every station (R253, R281). -/
def freshStations (reg : Nat → State → State) (s : State) : State :=
  (List.range 4).foldl (fun s k => reg k (discardBlobs k (clearStation k s)).2) s

/-- The history of every port is cleared as a mode is entered (R203). -/
def clearPorts (s : State) : State := (List.range 12).foldl (fun s n => clearHistory n s) s

/-- The serial counters as LEARN, INSPECT, INSPECT_REDUCED or SHADOW is entered (R298). -/
def enterSerials (s : State) : State := (List.range 4).foldl (fun s k => enterSerial k s) s

/-- Entry into INSPECT from LEARN: what has been learned is loaded, trackers that run carry over (R253). -/
def carryStations (s : State) : State :=
  (List.range 4).foldl (fun s k => if (s.reg k).state = .idle then regEnter k s else s) s

/-- The web is watched for a stop under AUTO_DRAIN from now on (R76). -/
def watchWeb (s : State) : State :=
  modModes (fun m => { m with
    drainMarks := (stationsInUse s).map fun k => ((s.grid k).encoder, (s.encoder (s.grid k).encoder).hw)
    drainSince := s.now }) s

/-- The stages as a mode that receives pixels is entered; in SHADOW a grid is one the active member has copied, or the one of the run that goes
on (R189, R203, R233, R253, R298, R378, R561). -/
def enterStages (old new : Mode) (s : State) : State :=
  match new with
  | .configure | .calibrate => enterProvisional s
  | .learn => takeAdmission (enterSerials (enterLearn (freshStations regIdle (enterGrids s))))
  | .inspect | .reduced =>
    if old = .learn then takeAdmission (enterSerials (carryStations (clearPorts s)))
    else if old.inspects then enterSerials (clearPorts (if old = .shadow then ownGrids s else s))
    else takeAdmission (enterSerials (freshStations regEnter (enterGrids s)))
  | .shadow =>
    let s := modTwin (fun t => { t with grids := if old.inspects then BitVec.allOnes 4 else 0 }) s
    takeAdmission (enterSerials (if old.inspects then clearPorts s else freshStations regEnter (clearPorts s)))
  | _ => s

/-- STANDBY is entered: districts and lanes off, DRAM in self-refresh, channels of the Courier and mailboxes 32 and up
stopped, run state lost (R70, R88, R108, R400, R425). The chain and twin lanes follow when nothing is in flight (`restLinks`); the package that
has taken its postcode goes on with its token at once, and keeps them up (R484; assumption 83). -/
def enterStandby (old : Mode) (s : State) : State :=
  let s := stopBoxes (fun m _ => 32 ≤ m) (stopCouriers s)
  let s := loseRun (dropReductions (sensorsIdle s))
  let s : State := { s with lanes := { s.lanes with rests := old ≠ .enumerate } }
  dramSleep ((List.range 16).foldl (fun s d => modDistrict d (fun x => { x with gated := true, clockStopped := true }) s) s)

/-! ### A transition (R73, R94, R466) -/

/-- The transition in progress is ended by another change of the mode: it replies ABORTED, and what it had staged is gone (R57, R75). -/
def abortTransition (s : State) : State :=
  match s.modes.trans.bind (·.cmd) with
  | some x => finishStarted x stAborted [] (modModes (fun m => { m with trans := none }) s)
  | none => modModes (fun m => { m with trans := none }) s

/-- The mode changes to another one, with all that R74 and the chapters ask for, and is recorded and raised. CAUSE: 0 command,
1 teller, 2 learning, 3 twin, 4 fault, 5 drain. -/
def changeMode (new : Mode) (cause : Nat) (s : State) : Nat × State :=
  let old := s.mode
  let l := leaveMode new (abortTransition s)
  let s := modModes (fun m => { m with mode := new, wanted := none, critical := m.critical && new = .faultHold }) l.2
  let s := enterOutputs old new s
  let s := if old.dramRests && !new.dramRests then dramWake s else s
  let s := if new = .standby then enterStandby old s else if old = .standby then wakeLinks s else s
  let s := if new.receives && !old.receives then wakeDistricts (sensorsWake s) else s
  let s := if old.receives && !new.receives && new ≠ .standby then sensorsOff s else s
  let s := if new.receives then enterStages old new s else dropTracks s
  let s := if new.drives then watchWeb s else s
  (l.1, raise 0 (journal 0x0100 0 94 (le 1 old.code ++ le 1 new.code ++ le 1 cause) s))

/-- The mode changes by the package's own doing or a command's (R73). -/
def goMode (new : Mode) (cause : Nat) (s : State) : State := (changeMode new cause s).2

/-! ### FAULT_HOLD (R75, R77, R504) -/

/-- The transition that FORCE_SAFE or a fault interrupts replies ABORTED: the one in progress, or the SET_MODE that the calibration step holds
(R75). -/
def interruptTransition (s : State) : State :=
  if s.modes.trans.isSome then abortTransition s
  else match s.modes.waitingModes with
  | [] => s
  | x :: rest => finishStarted x stAborted [] (modModes (fun m => { m with waitingModes := rest }) s)

/-- FAULT_HOLD is entered for a REASON: 0 FORCE_SAFE, 1 critical temperature, 2 chain link, 3 twin. -/
def enterFault (reason : Nat) (s : State) : State :=
  if !s.sys.fwRunning || s.mode = .sentry || s.mode = .faultHold then s
  else
    let s := interruptTransition s
    let s := if s.modes.strapTwin && s.twin.partnerRole = .inSync then releaseInterlock s else s
    let r := changeMode .faultHold 4 s
    raise 1 (journal 0x0101 0 94 (le 1 reason ++ zeros 3 ++ le 4 r.1) r.2)

/-- A fault that a command or an event has asked for takes effect. -/
def takeFault (s : State) : State :=
  match s.modes.faultRequest with
  | none => s
  | some reason =>
    let t := modModes (fun m => { m with faultRequest := none, faultTask := false }) s
    if s.modes.faultTask then causedBy 240 (enterFault reason) t else enterFault reason t

/-! ### May a mode be entered (R73)? -/

/-- The targets that SET_MODE may reach from a mode. -/
def modeAllowed (old new : Mode) : Bool :=
  match old with
  | .standby => new = .configure || new = .maintain || new = .inspect
  | .configure => new = .standby || new = .calibrate || new = .maintain || new = .learn || new = .inspect
  | .calibrate => new = .configure
  | .maintain => new = .standby || new = .configure
  | .learn => new = .inspect || new = .configure || new = .drain
  | .inspect | .reduced => new = .learn || new = .configure || new = .drain
  | .drain => new = .learn || new = .inspect
  | .shadow => new = .configure
  | .faultHold => new = .standby || new = .configure
  | .sentry | .enumerate => false

/-- Has every learning station learned (R73, R243)? -/
def learnSucceeded (s : State) : Bool := (stationsInUse s).all fun k => !learnsHere (s.learn k) || (s.learn k).state = .done

/-- Does a station lack its ports or a track unit; pitch and encoder are set from the loss of job state on (R73, R178, R209, R219)? -/
def stationUnset (k : Nat) (s : State) : Bool :=
  (stationCheck k (s.grid k).pitch s).1 ≠ 0 || (trackUnit k s).isNone
    || (s.station k).ports.any fun n => !(s.port n).configured

/-- The conditions of a transition into LEARN or INSPECT (R73, R178, R219, R233, R245, R377). -/
def inspectStatus (new : Mode) (s : State) : Nat :=
  if (stationsInUse s).any (fun k => stationUnset k s) then stConflict
  else if new = .learn then
    learnEntryStatus s
  else if (stationsInUse s).any (fun k => (s.learn k).loaded.isNone && (s.learn k).next.isNone) then stConflict
  else if !dramFits 0 s then stNoSpace
  else admitStatus s.teller.steps s

/-- The status with which a SET_MODE to another mode is answered (R73, R403). In MAINTAIN what waits for a vault program is the vault
maintenance or the firmware write in progress (DEDUCED, assumption 79). -/
def modeStatus (new : Mode) (s : State) : Nat :=
  if !modeAllowed s.mode new then stWrongMode
  else if s.mode = .maintain && (s.vault.fwWrite.isSome || s.vault.waiting ≠ []) then stBusy
  else if s.mode = .learn && new = .inspect && !learnSucceeded s then stWrongMode
  else if s.mode = .faultHold && s.teller.dies.any (fun t => 1520 ≤ t) then stUnsafe
  else if !new.dramRests && new ≠ .maintain && failedChannels s ≠ 0 then stHwFault
  else if new = .learn || new = .inspect then inspectStatus new s
  else stDone

/-! ### Transitions the package makes by itself -/

/-- A transition that learning, the teller, the twin or a calibration run asks for is made, if its conditions hold; where a
condition of INSPECT fails the package stays in LEARN (R73). -/
def takeWanted (s : State) : State :=
  match s.modes.wanted with
  | none => s
  | some (new, cause) =>
    let s := modModes (fun m => { m with wanted := none }) s
    if s.mode = new || s.mode = .faultHold then s
    else if s.mode = .learn && new = .inspect && inspectStatus .inspect s ≠ stDone then s
    else goMode new cause s

/-- The mode follows the reductions in force: INSPECT_REDUCED with one, INSPECT with none (R383, R384). -/
def followReductions (s : State) : State :=
  if s.mode = .inspect && reducedNow s then goMode .reduced 1 s
  else if s.mode = .reduced && !reducedNow s then goMode .inspect 1 s
  else s

/-- The web has moved: under AUTO_DRAIN an advance by more than the backlash band beyond the mark starts the 500 ms again (R76). -/
def watchAdvance (s : State) : State :=
  if s.modes.autoDrain && s.mode.drives
      && s.modes.drainMarks.any (fun e => ((s.encoder e.1).backlash : Int) < posDiff (s.encoder e.1).hw e.2) then watchWeb s
  else s

/-- AUTO_DRAIN_STOP_DETECT: no station's encoder has advanced beyond its backlash for 500 ms (R76), and no rewind runs (R350). -/
def autoDrainStop (s : State) : State :=
  if s.modes.autoDrain && s.mode.drives && s.modes.waitingModes = [] && s.modes.drainSince + 500000000 ≤ s.now
      && s.frank.rewind.step = 0 && s.frank.rewind.releaseAt.isNone then
    goMode .drain 5 (modModes (fun m => { m with autoDrain := false }) s)
  else s

/-- Is drain work left: what waits for a vault program, or a compression job that runs (R70)? -/
def drainWork (s : State) : Bool := s.vault.waiting ≠ [] || enginesRun s

/-- DRAIN_COMPLETE: the drain work has finished (R73, R76). -/
def drainComplete (s : State) : State :=
  if s.mode = .drain && !drainWork s && s.modes.trans.isNone then goMode (if s.modes.drainToConfigure then .configure else .standby) 5 s else s

/-! ### SET_MODE (R78) -/

/-- The mode a code names. -/
def modeOf (x : Nat) : Option Mode :=
  [Mode.sentry, .standby, .enumerate, .configure, .calibrate, .learn, .inspect, .reduced, .shadow, .drain, .maintain, .faultHold].find?
    fun m => m.code = x

/-- The targets SET_MODE takes. -/
def setModeTargets : List Nat := [2, 4, 5, 6, 7, 10, 11]

/-- Are the options of SET_MODE ones its target takes? -/
def modeOptionsOk (t o : Nat) : Bool :=
  o < 8 && (!o.testBit 0 || t = 6) && (!o.testBit 1 || t = 6 || t = 7) && (!o.testBit 2 || t = 10 || o.testBit 1)

/-- The options in force after a transition to a target. -/
def takeOptions (t o : Nat) (s : State) : State :=
  modModes (fun m => { m with
    autoInspect := o.testBit 0
    autoDrain := o.testBit 1
    drainToConfigure := if t = 10 || o.testBit 1 then o.testBit 2 else m.drainToConfigure }) s

/-- The transition a SET_MODE asks for, and its reply: PREVIOUS and NOW. -/
def runSetMode (p : List Byte) (s : State) : List Byte × State :=
  let old := s.mode
  match modeOf (u8 p 0) with
  | none => ([], s)
  | some new =>
    let s := if new = old then s else goMode new 0 (takeOptions (u8 p 0) (u8 p 1) s)
    (le 1 old.code ++ le 1 s.mode.code ++ zeros 2, s)

/-- Are the parameters of SET_MODE in their ranges? -/
def setModeRange (p : List Byte) : Bool :=
  setModeTargets.contains (u8 p 0) && modeOptionsOk (u8 p 0) (u8 p 1) && u16 p 2 = 0

/-- The status of SET_MODE with its parameters. -/
def setModeStatus (p : List Byte) (s : State) : Nat :=
  if !setModeRange p then stOutOfRange
  else match modeOf (u8 p 0) with
    | none => stOutOfRange
    | some new => if new = s.mode then stDone else modeStatus new s

/-- A SET_MODE or an ENTER_SENTRY waits for the transition in progress (R75). -/
def waitForMode (c : Call) (s : State) : State :=
  modModes (fun m => { m with waitingModes := m.waitingModes ++ [{ op := c.op, args := c.a }] }) s

/-- Does a transition take time: into LEARN or INSPECT from a mode whose districts, DRAM and lanes have to wake (R82), or into STANDBY while a
compression job runs, which completes and commits (R83, R440)? -/
def slowMode (s : State) (new : Mode) : Bool :=
  ((new = .learn || new = .inspect) && (s.mode = .standby || s.mode = .configure || s.mode = .drain))
    || (new = .standby && s.mode ≠ .standby && enginesRun s)

/-- A transition that takes time starts. One into LEARN or INSPECT is in progress until the firmware's next round or for the 2 ms of R82 (DESIGN
CHOICE, assumption 108), one into STANDBY until no engine runs. -/
def beginTransition (x : Started) (p : List Byte) (s : State) : State :=
  modModes (fun m => { m with trans := some { target := (modeOf (u8 p 0)).getD s.mode, options := u8 p 1, cmd := some x, since := s.now } }) s

/-- May the transition in progress complete? -/
def transitionReady (s : State) : Bool := s.modes.trans.any fun x => x.target ≠ .standby || !enginesRun s

/-- The transition in progress completes, if what it was checked against still holds, and its command replies (R75, R78). -/
def endTransition (s : State) : State :=
  match s.modes.trans with
  | none => s
  | some x =>
    let s := modModes (fun m => { m with trans := none }) s
    let p := le 1 x.target.code ++ le 1 x.options ++ zeros 2
    let st := setModeStatus p s
    let r := if st = stDone then runSetMode p s else ([], s)
    match x.cmd with
    | some y => finishStarted y st r.1 r.2
    | none => r.2

/-- The 2 ms of R82 have passed, or the last job before STANDBY has ended. -/
def transitionEnds (s : State) : Bool :=
  transitionReady s && s.modes.trans.any fun x => x.target = .standby || x.since + 2000000 ≤ s.now

def transitionDue (s : State) : State := if transitionEnds s then endTransition s else s

/-- Must a SET_MODE or an ENTER_SENTRY wait: behind another, behind the transition in progress (R75)? -/
def modeHeld (s : State) : Bool := s.modes.waitingModes ≠ [] || s.modes.trans.isSome || s.modes.wanted = some (.sentry, 0)

/-- SET_MODE, opcode 0x0100. Behind a transition in progress it waits and is judged when that has ended; a SET_MODE out of CALIBRATE that
its checks let pass waits for the calibration step (R73, R75). -/
def cmdSetMode : CommandDef := {
  opcode := 0x0100
  lengths := [4]
  replyMax := fun _ => 4
  foresees := fun c s => le 1 s.mode.code ++ le 1 (u8 c.p 0) ++ zeros 2
  check := fun c _ s => if !modeHeld s then setModeStatus c.p s else if setModeRange c.p then stDone else stOutOfRange
  reserves := fun c _ s => (if u8 c.p 0 = Mode.learn.code then learnEntryBytes s - dramUse s else 0, 0, 0)
  commit := fun c s =>
    if modeHeld s || (s.mode = .calibrate && s.cal.run.isSome && u8 c.p 0 ≠ s.mode.code) then .later (waitForMode c s) 0
    else if (modeOf (u8 c.p 0)).any (slowMode s) then .later (beginTransition { op := c.op, args := c.a } c.p s) 0
    else
      let r := runSetMode c.p s
      .reply r.1 r.2 }

/-! ### The other commands of the chapter that need no reset (R71, R77-R79) -/

/-- SET_SAFE_STATE, opcode 0x0104. -/
def cmdSetSafeState : CommandDef := {
  opcode := 0x0104
  modes := [.standby, .configure, .maintain]
  lengths := [4]
  check := fun c _ _ => if 63 < u8 c.p 0 || 63 < u8 c.p 1 || u16 c.p 2 ≠ 0 then stOutOfRange else stDone
  commit := fun c s =>
    let s := modModes (fun m => { m with idleSafe := BitVec.ofNat 6 (u8 c.p 0), faultSafe := BitVec.ofNat 6 (u8 c.p 1) }) s
    .reply [] (modModes (fun m => { m with outputs := m.idleSafe.setWidth 7 }) s) }

/-- FORCE_SAFE, opcode 0x0106; in FAULT_HOLD it has no effect. -/
def cmdForceSafe : CommandDef := {
  opcode := 0x0106
  lengths := [0]
  registered := true
  commit := fun _ s => .reply [] (enterFault 0 s) }

/-- GET_RESET_CAUSE, opcode 0x0103. -/
def cmdGetResetCause : CommandDef := {
  opcode := 0x0103
  modes := everyMode
  lengths := [0]
  sentry := true
  reads := true
  replyMax := fun _ => 16
  commit := fun _ s =>
    let m := s.modes
    .reply (le 2 m.lastReset ++ le 1 m.resetRail ++ le 1 m.wakeSources.toNat ++ le 2 m.pinCount ++ le 2 m.chainCount ++ le 2 m.softCount
      ++ le 2 m.districtCount ++ le 2 m.warnCount ++ zeros 2) s }

/-- The modes capability's body, ID 0x0002 version 1 (R78). -/
def capModes (s : State) : List Byte :=
  [12, 5, 0x1F, 0] ++ le 2 120 ++ le 2 2000 ++ le 1 (b2n (s.vault.formatted && !spareBelow 1 s)) ++ zeros 3

end Sys2Proof.Machine
end

