-- ==== Sys2Proof/Machine/Power.lean ====
section
/-!
DEFINITION. Sys2Proof/Machine/Power.lean: SENTRY and the wake (R79-R83), resets (R84-R87), the boot (R67, R81), supply monitors
(R90-R93) and the power-up of the switched rails (R537-R545), with ENTER_SENTRY, WAKE and RESET (R78).
-/
namespace Sys2Proof.Machine

/-! ### Switched rails (R536-R540) -/

/-- The switched group of a rail; none for group S (R536). -/
def railGroup (r : Nat) : Option Nat :=
  if r = 5 || r = 7 then some 1 else if r = 3 || r = 6 || r = 8 then none else some 0

/-- Does the Sentry domain want the switched rails: out of SENTRY, or on its way out, and not in a hold? -/
def wantsPower (s : State) : Bool :=
  !s.modes.por && !s.modes.pinHeld && !s.modes.strapTest && !s.modes.retryWait && (s.mode ≠ .sentry || s.modes.waking)

/-- Is it RAIL1_EN's turn: never while the group's rails stand above 10 % (R538, R540)? -/
def rail1Due (s : State) : Bool := wantsPower s && !s.modes.rail1En && s.modes.rail1Off.isNone && s.modes.discharged.getLsbD 0

/-- Is it RAIL2_EN's turn, 0.5 ms after group 1 is up (R538, R540)? -/
def rail2Due (s : State) : Bool :=
  wantsPower s && s.modes.rail1En && s.modes.rail1Off.isNone && s.modes.groupUp.getLsbD 0 && s.modes.groupAt + 500000 ≤ s.now
    && !s.modes.rail2En && s.modes.discharged.getLsbD 1

/-- Is RAIL1_EN to fall, 1 ms after RAIL2_EN (R539, R540)? -/
def rail1Falls (s : State) : Bool := s.modes.rail1Off.any fun u => u + 1000000 ≤ s.now

/-- Asserts the enables whose turn it is: group 1 at VID code 15, then group 2 (R538). -/
def tryPower (s : State) : State :=
  let s := if rail1Due s then
      modModes (fun m => { m with
        rail1En := true, powerAt := s.now, discharged := m.discharged &&& 0b10
        vid0 := 15, vid1 := 15, vidOld0 := 15, vidOld1 := 15 }) s
    else s
  if rail2Due s then modModes (fun m => { m with rail2En := true, discharged := m.discharged &&& 0b01 }) s else s

/-- The enables are released: RAIL2_EN now, RAIL1_EN 1 ms later (R539, R540). -/
def releaseRails (s : State) : State :=
  modModes (fun m => { m with
    rail2En := false, groupUp := 0, rail1Off := if m.rail1En then some s.now else none
    discharged := m.discharged &&& ~~~ ((if m.rail1En then 0b01 else 0) ||| (if m.rail2En then 0b10 else 0)) }) s

/-- The enables as time goes on: RAIL1_EN released 1 ms after RAIL2_EN, either asserted in its turn (R538-R540). -/
def railTurn (s : State) : State :=
  tryPower (if rail1Falls s then modModes (fun m => { m with rail1En := false, rail1Off := none }) s else s)

/-- The hub PLLs lock; at the first time since POR the timestamp counter starts and the head's chain time with it (R491). -/
def pllLock (s : State) : State :=
  let s := if s.modes.clockRan then s else { s with chain := { s.chain with offset := -(s.now : Int) } }
  modModes (fun m => { m with clockRan := true, powerTries := 0 }) s

/-- RAIL_GROUP_UP: PG is high and every rail of group g stands above 89.5 % (R538). -/
def railGroupUp (g : Nat) (s : State) : State :=
  let s := railTurn s
  let en := if g = 0 then s.modes.rail1En else s.modes.rail2En
  if !en || s.modes.groupUp.getLsbD g then s
  else
    let s := modModes (fun m => { m with groupUp := m.groupUp ||| (1#2 <<< g), groupAt := if g = 0 then s.now else m.groupAt }) s
    tryPower (if s.modes.groupUp = 0b11 then pllLock s else s)

/-- RAIL_DISCHARGED: the rails of group g have fallen below 10 % (R540). -/
def railDischarged (g : Nat) (s : State) : State :=
  let s := railTurn s
  if (if g = 0 then s.modes.rail1En else s.modes.rail2En) then s
  else tryPower (modModes (fun m => { m with discharged := m.discharged ||| (1#2 <<< g) }) s)

/-! ### Resets (R84-R89) -/

/-- The kinds of package reset (R84). -/
inductive ResetKind where
  | por | pin | chain | soft
  deriving DecidableEq, Repr

/-- A kind's code (R84). -/
def ResetKind.code : ResetKind → Nat
  | .por => 1 | .pin => 2 | .chain => 3 | .soft => 4

/-- A package reset: what each kind keeps (R88), LAST_RESET, RAIL and the counts (R78, R84); the outputs are in the idle state, a
twin member's drivers are off and its interlock is released (R87, R500, R502). -/
def packageReset (k : ResetKind) (cause rail : Nat) (s : State) : State :=
  let t := outside (k = .por || k = .pin) s
  let t := if k = .por then t else keepSentry s t
  let t := if k = .chain || k = .soft then keepLocked false s t else t
  let t := if k = .soft then keepPostcode s t else t
  let t := modModes (fun m => { m with
    lastReset := k.code + 256 * cause
    resetRail := rail
    clockRan := if k = .por then false else s.modes.clockRan
    pinCount := if k = .pin then sat 16 (m.pinCount + 1) else m.pinCount
    chainCount := if k = .chain then sat 16 (m.chainCount + 1) else m.chainCount
    softCount := if k = .soft then sat 16 (m.softCount + 1) else m.softCount }) t
  let t := if t.modes.strapTwin then darkenSensors true t else t
  if k = .por then t else tryPower t

/-- A soft reset that a step has brought about acts once the step has settled. -/
def takeReset (s : State) : State :=
  match s.modes.resetNow with
  | some cause => packageReset .soft cause 0xFF (modVault (fun v => { v with sinceCheckpoint := 0 }) s)
  | none => s

/-- SOFT_RESET_BEGIN: 20 us after the reply; FW_ACTIVATED comes just before the reset of an activation (R78, R460, R461). -/
def softResetBegin (s : State) : State :=
  match s.modes.softPending with
  | some cause =>
    if s.now < s.modes.softAt + 20000 then s
    else
      let s := modModes (fun m => { m with softPending := none, resetNow := some cause }) s
      if cause = 2 then raise 439 (journal 0x0E01 0 121 (le 1 (s.vault.activating.getD 0)) s) else s
  | none => s

/-! ### Supply monitors (R90-R93) -/

def State.rail (s : State) (r : Nat) : Rail := Tab.get {} s.modes.rails r

def State.setRail (r : Nat) (x : Rail) (s : State) : State :=
  modModes (fun m => { m with rails := Tab.set {} m.rails r x }) s

/-- The voltage in mV that a rail's levels are taken from: its nominal, or a cell rail's target, and the lower of the old and the new target
until a step up has settled (R90, R536, R541). -/
def railNominal (r : Nat) (m : Modes) : Nat :=
  match r with
  | 0 => 600 + 10 * (if m.vidRaised0.isSome then min m.vidOld0 m.vid0 else m.vid0)
  | 1 => 600 + 10 * (if m.vidRaised1.isSome then min m.vidOld1 m.vid1 else m.vid1)
  | 2 => 750 | 3 => 800 | 4 => 900 | 5 => 1200 | 6 => 1100 | 7 => 1800 | _ => 3300

/-- Does a reading of a rail lie below so many tenths of a percent of its voltage? -/
def railUnder (r mv permille : Nat) (s : State) : Bool := 1000 * mv < permille * railNominal r s.modes

/-- Is a rail watched: not in POR but for VDD_SENTRY, in SENTRY that one alone, and a switched rail only while its group is enabled (R93, R537)? -/
def railWatched (r : Nat) (s : State) : Bool :=
  r = 3 || (!s.modes.por && s.mode ≠ .sentry
    && match railGroup r with
       | some g => if g = 0 then s.modes.rail1En else s.modes.rail2En
       | none => true)

/-- POR_RELEASE: group S is up and the crystal has run for 8 ms; the straps are sampled (R537, R546). -/
def porRelease (head twin test : Bool) (s : State) : State :=
  if !s.modes.por then s
  else
    let s := modModes (fun m => { m with
      por := false, strapHead := head, strapTwin := twin, strapTest := test, outputs := m.idleSafe.setWidth 7 }) s
    let s : State := { s with sys := { s.sys with sentryBase := s.now } }
    tryPower (if twin then darkenSensors true s else s)

/-- RESET_N_ASSERTED: low for 25 samples; the reset lasts while it stays low (R545). -/
def resetAsserted (s : State) : State :=
  if s.modes.por || s.modes.pinHeld then s
  else packageReset .pin 0 0xFF (modModes (fun m => { m with pinHeld := true }) s)

/-- PIN_RESET_RELEASE: 20 us after RESET_N went high, or the rail that caused it is back; the straps are sampled (R545, R546). -/
def pinRelease (head twin test : Bool) (s : State) : State :=
  if !s.modes.pinHeld || s.modes.rails.any (fun e => e.2.inReset) then s
  else
    let s := modModes (fun m => { m with pinHeld := false, strapHead := head, strapTwin := twin, strapTest := test }) s
    tryPower (darkenSensors twin s)

/-- RAIL_BELOW_RESET: a reading below 88 % for 500 ns: VDD_SENTRY causes a POR, any other rail a pin reset, which lasts until the rail stands
above 89.5 % again (R84, R85, R90, R93, R537). -/
def railBelowReset (r mv ns : Nat) (s : State) : State :=
  if !railWatched r s || ns < 500 || !railUnder r mv 880 s then s
  else if r = 3 then packageReset .por 1 3 s
  else
    let s := modModes (fun m => { m with
      pinHeld := true
      groupUp := match railGroup r with
        | some g => m.groupUp &&& ~~~ (1#2 <<< g)
        | none => m.groupUp }) (s.setRail r { s.rail r with inReset := true })
    packageReset .pin 1 r s

/-- RAIL_GROUP_TIMEOUT: a group is not up by its limit: a pin reset with cause 0x01 whose RAIL is the group's lowest rail; the
enables are released, and after the third failure the package stays in SENTRY (R539). -/
def railTimeout (g : Nat) (s : State) : State :=
  let en := if g = 0 then s.modes.rail1En else s.modes.rail2En
  if !en || s.modes.groupUp.getLsbD g || s.now < s.modes.powerAt + (if g = 0 then 7000000 else 15000000) then s
  else
    let n := s.modes.powerTries + 1
    let s := modModes (fun m => { m with powerTries := if 3 ≤ n then 0 else n, retryWait := n < 3 }) s
    let s := packageReset .pin 1 (if g = 0 then 0 else 5) s
    modModes (fun m => { m with mode := if 3 ≤ n then .sentry else m.mode, retryWait := n < 3, retryAt := s.now }) (releaseRails s)

/-- RAIL_RETRY: 100 ms after a failed attempt (R539). -/
def railRetry (s : State) : State :=
  if s.modes.retryWait && s.modes.retryAt + 100000000 ≤ s.now then tryPower (modModes (fun m => { m with retryWait := false }) s) else s

/-! ### SENTRY (R79-R83) -/

/-- Is SENTRY to be entered now: it has been asked for, and no engine runs a job (R440)? -/
def sentryDue (s : State) : Bool := s.modes.wanted = some (.sentry, 0) && !enginesRun s

/-- SENTRY is entered: checkpoint, journal spilled, lanes and jobs off, what R88 keeps kept, the rails released (R83, R440, R448). -/
def enterSentry (s : State) : State :=
  if sentryDue s then
    let m := s.modes
    let s := spillAll (modVault (fun v => { v with sinceCheckpoint := 0 }) (stopCouriers (compAbort s)))
    let t := asleep m.saveJob s
    releaseRails (modModes (fun x => { x with
      mode := .sentry, rails := x.rails.filter (fun e => e.1 = 3)
      pauseFrom := if m.pause && m.pauseFrom.isNone && !(s.rail 3).below then some s.now else m.pauseFrom
      wakeMask := m.wakeMask, wakeEncoder := m.wakeEncoder, wakeCounts := m.wakeCounts, alarmTicks := m.alarmTicks, sentryAt := s.now
      wakeEntry := (s.encoder m.wakeEncoder).count, wakeSources := 0, saveJob := m.saveJob, clockRan := m.clockRan
      lastReset := m.lastReset, resetRail := m.resetRail, vid0 := m.vid0, vid1 := m.vid1, vidOld0 := m.vid0, vidOld1 := m.vid1
      softPending := m.softPending, softAt := m.softAt }) t)
  else s

/-- A wake source fires in SENTRY: it is noted, and the power-up begins (R79, R81, R540). -/
def wake (source : Nat) (s : State) : State :=
  if s.mode = .sentry then
    tryPower (modModes (fun m => { m with wakeSources := m.wakeSources ||| BitVec.ofNat 5 (2 ^ source), waking := true }) s)
  else s

/-- WAKE_N_ASSERTED, CHAIN_WAKE_DETECT and ALARM_WAKE wake the package when WAKE_MASK enables them (R79, R496, R545). -/
def wakeIf (source : Nat) (s : State) : State := if s.modes.wakeMask.getLsbD source then wake source s else s

/-- ALARM_WAKE: ALARM_TICKS of 32.768 kHz after SENTRY was entered (R79). -/
def alarmWake (s : State) : State :=
  if s.modes.alarmTicks * 10 ^ 9 ≤ (s.now - s.modes.sentryAt) * 32768 then wakeIf 3 s else s

/-- The chosen encoder has moved by MOTION_COUNTS and beyond its backlash, in either direction (R79). -/
def motionWake (s : State) : State :=
  if s.mode = .sentry && s.modes.wakeMask.getLsbD 2 then
    let e := s.encoder s.modes.wakeEncoder
    let d := (posDiff e.count s.modes.wakeEntry).natAbs
    if s.modes.wakeCounts ≤ d && e.backlash < d then wake 2 s else s
  else s

/-- A counter has moved: due columns fire, compare firings act, a rewind goes on, AUTO_DRAIN and the motion wake watch. -/
def moved (s : State) : State := motionWake (watchAdvance (rewindWatch (fireHeads (takeFirings s))))

/-- The resume image of R80: the loaded specimens' stations and job IDs. -/
def resumeImage (s : State) : List (Nat × Nat) :=
  (List.range 4).filterMap fun k => (s.learn k).loaded.map fun sp => (k, sp.jobId)

/-- Is every loaded specimen stored in the specimen library (R78)? -/
def specimensStored (s : State) : Bool :=
  (resumeImage s).all fun e => e.2 ≠ 0 && (vaultFind .specimen e.2 s).isSome

/-- The status of ENTER_SENTRY with its parameters, once no transition is in progress (R78). -/
def enterSentryStatus (p : List Byte) (s : State) : Nat :=
  if s.mode ≠ .standby then stWrongMode
  else if u16 p 0 = 1 && !specimensStored s then stConflict
  else if u16 p 0 = 1 && (!s.vault.formatted || spareBelow 1 s) then stNoSpace
  else stDone

/-- The entry into SENTRY that ENTER_SENTRY asks for; it follows when the step settles (R78, R80). -/
def runEnterSentry (p : List Byte) (s : State) : State :=
  let save := u16 p 0 = 1
  let s := modVault (fun v => { v with resume := if save then some (resumeImage s) else none }) s
  modModes (fun m => { m with
    saveJob := save, wakeMask := BitVec.ofNat 4 (u16 p 2), wakeEncoder := u8 p 4, wakeCounts := u32 p 8, alarmTicks := u32 p 12
    wanted := some (.sentry, 0) }) s

/-- ENTER_SENTRY, opcode 0x0101: it waits while a transition is in progress; its reply is written before any clock stops (R75, R78, R83). -/
def cmdEnterSentry : CommandDef := {
  opcode := 0x0101
  lengths := [16]
  check := fun c _ s =>
    if 1 < u16 c.p 0 || 15 < u16 c.p 2 || 5 < u8 c.p 4 || !zeroAt c.p 5 3
      || ((u16 c.p 2).testBit 2 && (u32 c.p 8 = 0 || 0x7FFFFFFF < u32 c.p 8)) || ((u16 c.p 2).testBit 3 && u32 c.p 12 = 0) then stOutOfRange
    else if modeHeld s then stDone
    else enterSentryStatus c.p s
  commit := fun c s =>
    if modeHeld s then .later (waitForMode c s) 0
    else .reply [] (runEnterSentry c.p s) }

/-- A SET_MODE or an ENTER_SENTRY that waited starts once nothing holds it, is checked then, and replies (R51, R73, R75). -/
def runWaitingMode (s : State) : State :=
  match s.modes.waitingModes with
  | [] => s
  | x :: rest =>
    if (s.mode = .calibrate && s.cal.run.isSome) || s.modes.trans.isSome || s.modes.wanted = some (.sentry, 0) then s
    else
      let s := modModes (fun m => { m with waitingModes := rest }) s
      let p := x.args.params
      if x.op = 0x0101 then
        let st := enterSentryStatus p s
        finishStarted x st [] (if st = stDone then runEnterSentry p s else s)
      else
        let st := setModeStatus p s
        if st = stDone && (modeOf (u8 p 0)).any (slowMode s) then beginTransition x p s
        else if st = stDone then
          let r := runSetMode p s
          finishStarted x stDone r.1 r.2
        else finishStarted x st [] s

/-- WAKE, opcode 0x0102. -/
def cmdWake : CommandDef := {
  opcode := 0x0102
  modes := everyMode
  lengths := [0]
  sentry := true
  commit := fun _ s => .reply [] (wake 4 s) }

/-! ### The boot (R81, R402, R460) -/

/-- The length of a slot's image: the end of its last part. -/
def FwSlot.length (x : FwSlot) : Nat := (x.done.map fun e => e.1 + e.2).foldl max 0

/-- The length of the image a slot is authenticated as: the one it was last activated with, or all of it. -/
def FwSlot.imageLength (x : FwSlot) : Nat := if x.signed = 0 then x.length else x.signed

/-- Does a slot hold an image that authenticates (R460)? -/
def slotBoots (i : Nat) (s : State) : Bool :=
  !(s.fwSlot i).lost && 0 < (s.fwSlot i).length && Config.imageAuthentic (Mem.readN (s.fwSlot i).image 0 (s.fwSlot i).imageLength)

/-- The slot whose image boots: the NOR's, or, where that fails, the slot being activated, or the other one (R460). -/
def bootSlot (norGood : Bool) (s : State) : Option Nat :=
  let a := s.vault.activating.getD 0
  if norGood then some s.vault.norSlot else [a, 1 - a].find? fun i => slotBoots i s

/-- Events of flags that SENTRY set are raised once, with WOKEN (R186). -/
def raiseMissed (s : State) : State :=
  (List.range 6).foldl (fun s q =>
    (s.encoder q).missed.foldl (fun s src => raise src s) (modEncoder q (fun e => { e with missed := [] }) s)) s

/-- The specimens of a resume image are recalled; the image is used once (R80). -/
def recallSaved (s : State) : State :=
  ((s.vault.resume.getD []).filter fun e => e.2 ≠ 0).foldl (fun s e =>
    modLearn e.1 (fun l => { l with recalling := some e.2 }) s) (modVault (fun v => { v with resume := none }) s)

/-- A role that the reset ended is recorded with cause 5 (R505). -/
def recordEndedRole (s : State) : State :=
  if s.twin.before = .off then s
  else raise 480 (journal 0x1100 0 127 (le 1 s.twin.before.code ++ le 1 0 ++ le 1 5) (modTwin (fun t => { t with before := .off }) s))

/-- The lanes of a link are enabled, and brought up from OFF or IDLE (R96, R484, R496). -/
def lightGroup (g : Nat) (s : State) : State :=
  wakeGroup g ((lanesOf g).foldl (fun s l => modLane l (fun x => { x with enable := true }) s) s)

/-- The lanes of a link are enabled and sit in IDLE, where a partner's signal wakes them (R108). -/
def seatLink (g : Nat) (s : State) : State :=
  seatGroup g ((lanesOf g).foldl (fun s l => modLane l (fun x => { x with enable := true }) s) s)

/-- The chain lanes, and a twin member's link, as STANDBY or ENUMERATE is reached. In ENUMERATE the chain lanes are lit; in STANDBY lanes sit in
IDLE, and the package lights its own downstream ones (R70, R108, R496). -/
def lightLinks (s : State) : State :=
  let s := lightGroup 13 (seatLink 13 (if s.mode = .enumerate then lightGroup 12 s else seatLink 12 s))
  if s.modes.strapTwin then seatLink 14 s else s

/-- Firmware takes over after a package reset: ENUMERATE without a postcode, a strapped head taking postcode 0 at once, else
STANDBY (R73, R94, R483, R484). -/
def bootReset (s : State) : State :=
  let k := s.modes.lastReset % 256
  let s := if k ≤ 2 then journal 0x0001 0 0 (le 2 s.modes.lastReset ++ le 1 s.modes.resetRail) s
    else journal 0x0102 0 0 (le 2 s.modes.lastReset ++ le 1 s.modes.resetRail) s
  let s := if s.chain.postcode = 0xFF then
      if s.modes.strapHead then
        modModes (fun m => { m with mode := .standby })
          { s with chain := { s.chain with
            postcode := 0, isHead := true, synced := true, size := 1, headSerial := some Config.serial.toNat, enumerating := true, since := s.now } }
      else modModes (fun m => { m with mode := .enumerate }) { s with chain := { s.chain with enumerating := true, since := s.now } }
    else modModes (fun m => { m with mode := .standby }) s
  raise 2 (recordEndedRole s)

/-- STANDBY is reached from SENTRY: the journal comes back, the enabled lanes sit in IDLE, WAKE and MODE_CHANGED are recorded, WOKEN raised (R81,
R94, R108, R465). -/
def bootWake (s : State) : State :=
  let s := restoreJournal (modModes (fun m => { m with mode := .standby, waking := false }) s)
  let s := (List.range 12).foldl (fun s g => seatGroup g s) s
  let s := journal 0x0100 0 94 (le 1 1 ++ le 1 2 ++ le 1 0) (journal 0x0105 0 0 (le 1 s.modes.wakeSources.toNat) s)
  raiseMissed (raise 0 (raise 3 (recordEndedRole (recallSaved s))))

/-- BOOT_COMPLETE: the firmware has been authenticated and runs. `trainedMask` has the DRAM channels whose full training, after POR
and pin reset, has passed (R81, R402, R403). -/
def bootComplete (norGood : Bool) (version trainedMask : Nat) (s : State) : State :=
  let m := s.modes
  if s.sys.fwRunning || m.por || m.pinHeld || m.strapTest || m.groupUp ≠ 0b11 || (m.mode = .sentry && !m.waking) then s
  else match bootSlot norGood s with
  | none => s
  | some slot =>
    let s := modVault (fun v => { v with norSlot := slot }) s
    let s : State := { s with sys := { s.sys with fwRunning := true, fwVersion := version % 2 ^ 24 + 2 ^ 24 * slot } }
    let full := m.mode ≠ .sentry && m.lastReset % 256 ≤ 2
    let s := if full then (List.range Config.dramChannels).foldl (fun s c => trained c (trainedMask.testBit c) s) s else s
    restartSpeeds (lightLinks (if m.mode = .sentry then bootWake (dramSleep s) else bootReset (seedNeighbours (dramSleep s))))

/-! ### The watchdog (R86) -/

/-- WATCHDOG_WARN: 500 ms without service. -/
def watchdogWarn (s : State) : State :=
  if s.sys.fwRunning then raise 6 (journal 0x0104 0 0 [] (modModes (fun m => { m with watchdogWarned := true }) s)) else s

/-- WATCHDOG_EXPIRY: at 1 s the fault state, and a soft reset with cause 0x01. -/
def watchdogExpiry (s : State) : State :=
  if s.sys.fwRunning then
    packageReset .soft 1 0xFF (modModes (fun m => { m with outputs := m.faultSafe.setWidth 7 }) s)
  else s

/-! ### The pause after a dip (R91) -/

/-- RAIL_BELOW_WARNING: a reading below 93 % for 100 ns (R90, R91). In SENTRY the bit, the count and the pause follow, and no event is raised:
the sorting frame is off (DEDUCED, assumption 78). -/
def railWarn (r mv ns : Nat) (s : State) : State :=
  if !railWatched r s || ns < 100 || !railUnder r mv 930 s then s
  else
    let x := s.rail r
    if x.below then s.setRail r { x with lowest := min x.lowest mv }
    else
      let s := s.setRail r { x with below := true, since := s.now, lowest := mv, warn := true }
      let s := modModes (fun m => { m with warnCount := sat 16 (m.warnCount + 1), pause := true, pauseFrom := none }) s
      if s.mode = .sentry then s else raise 4 (frankPause s)

/-- RAIL_RECOVERED: a rail has risen to a reading. Above 89.5 % it holds no reset any longer; above 94.5 % its warning clears, and the lowest
reading of the dip comes with it (R90, R91). In SENTRY only VDD_SENTRY is watched (R93). -/
def railRecovered (r mv lowest : Nat) (s : State) : State :=
  if s.mode = .sentry && r ≠ 3 then s
  else
    let x := s.rail r
    let x := { x with inReset := x.inReset && 1000 * mv ≤ 895 * railNominal r s.modes }
    if x.below && 945 * railNominal r s.modes < 1000 * mv then
      let s := s.setRail r { inReset := x.inReset }
      modModes (fun m => { m with
        dips := m.dips ++ [(r, min x.lowest lowest, s.now - x.since)]
        pauseFrom := if m.rails.any (fun e => e.2.below) then none else some s.now }) s
    else s.setRail r x

/-- BROWNOUT_PAUSE_END: 5 ms after the last rail recovered; one entry per rail and dip (R91). -/
def pauseEnd (s : State) : State :=
  match s.modes.pauseFrom with
  | some t =>
    if s.modes.pause && t + 5000000 ≤ s.now && !s.modes.rails.any (fun e => e.2.below) then
      let s := s.modes.dips.foldl (fun s e =>
        journal 0x0103 0 0 (le 1 e.1 ++ zeros 1 ++ le 2 (sat 16 e.2.1) ++ le 4 (sat 32 (e.2.2 / 1000))) s) s
      raise 5 (rewindResume (modModes (fun m => { m with pause := false, pauseFrom := none, dips := [] }) s))
    else s
  | none => s

/-! ### RESET (R78) -/

/-- Does a district serve a port of a station at work (R78)? -/
def districtInUse (d : Nat) (s : State) : Bool :=
  s.mode.inspects && (List.range 12).any fun n => s.route n = d && portInUse n s

/-- RESET, opcode 0x0105. -/
def cmdReset : CommandDef := {
  opcode := 0x0105
  lengths := [4]
  kinds := [0x00, 0x20]
  check := fun c d s =>
    if u16 c.p 0 ≠ 0xA55A || u16 c.p 2 ≠ 0 then stOutOfRange
    else if c.a.block ≠ 0 && districtInUse d s then stConflict
    else stDone
  commit := fun c s =>
    if c.a.block = 0 then .reply [] (modModes (fun m => { m with softPending := some 0, softAt := s.now }) s)
    else .later (resetDistrict c.target s) 0 }

end Sys2Proof.Machine
end

