-- ==== Sys2Proof/Machine/Chain.lean ====
section
/-!
DEFINITION. Sys2Proof/Machine/Chain.lean: the Akeus Chain (chapter 23): links and HELLO (R482-R485), enumeration (R484), the receiver
of frames (R486-R488), time (R489-R491), replies, records and events on their way (R492-R494), reset and wake (R495, R496), faults
(R497) and the commands of R499.
-/
namespace Sys2Proof.Machine

def modChain (f : Chain → Chain) (s : State) : State := { s with chain := f s.chain }

def modLink (p : ChainPort) (f : Link → Link) (s : State) : State := s.setLink p (f (s.link p))


/-- Is a chain link ACTIVE? -/
def chainActive (p : ChainPort) (s : State) : Bool := groupLink (portGroup p) s = 1

/-- The link layer of a chain port runs: firmware is up and the group ACTIVE. -/
def chainRuns (p : ChainPort) (s : State) : Bool := s.sys.fwRunning && chainActive p s

/-- CHAIN_MISMATCH (R483-R485). -/
def chainMismatch (s : State) : State := raise 469 (modChain (fun c => { c with mismatch := true }) s)

/-! ### The receiver (R487, R488) -/

/-- A frame or a block is discarded and counted; FRAME_ERROR at most once per millisecond. -/
def frameError (s : State) : State :=
  let shows := elapsed 1000000 s.chain.frameErrorAt s.now
  raiseIf shows 470 (modChain (fun c => { c with
    frameErrors := sat 32 (c.frameErrors + 1), frameErrorAt := if shows then some s.now else c.frameErrorAt }) s)

/-- ACK with the last good LINK_SEQ. -/
def sendAck (p : ChainPort) (s : State) : State :=
  putControl p 0xC8 false (le 1 (((s.link p).rxSeq + 255) % 256)) (modLink p (fun l => { l with rxSinceAck := 0, ackAt := s.now }) s)

/-- A frame has been taken: the numbering goes on, and every sixteenth frame is acknowledged at once. -/
def tookFrame (p : ChainPort) (s : State) : State :=
  let s := modLink p (fun l => { l with rxSeq := (l.rxSeq + 1) % 256, rxSinceAck := l.rxSinceAck + 1 }) s
  if 16 ≤ (s.link p).rxSinceAck then sendAck p s else s

/-- Does a frame's CRC match its bytes 1-7 and payload? -/
def frameGood (f : ChainFrame) (kind : Nat) (payload : List Byte) : Bool :=
  f.crc = crc32c (frameBody kind f.source f.dest (f.linkSeq % 256) payload)

/-- A received frame of a kind and payload is checked: taken, or discarded with a NAK that names the LINK_SEQ expected. A link that does not
carry frames takes only enumeration and HELLO (R485, R488). -/
def receiveFrame (f : ChainFrame) (kind : Nat) (payload : List Byte) (act : State → State) (s : State) : State :=
  if !s.sys.fwRunning || (opensLink kind && !chainActive f.port s) then s
  else if !((s.link f.port).carries || opensLink kind) then frameError s
  else if frameGood f kind payload && f.linkSeq % 256 = (s.link f.port).rxSeq then act (tookFrame f.port s)
  else frameError (putControl f.port 0xC7 false (le 1 (s.link f.port).rxSeq) s)

/-- CHAIN_ACK_TIMER: 10 us after the last ACK, when frames have come in since. -/
def ackTimer (p : ChainPort) (s : State) : State :=
  if chainRuns p s && 0 < (s.link p).rxSinceAck && (s.link p).ackAt + 10000 ≤ s.now then sendAck p s else s

/-- CHAIN_ACK: the frames up to SEQ are freed. -/
def chainAck (p : ChainPort) (seq : Nat) (s : State) : State :=
  let l := s.link p
  if l.unacked.any (fun e => e.1 = seq) then
    let s := s.setLink p { l with unacked := (l.unacked.dropWhile fun e => e.1 ≠ seq).drop 1 }
    if p = .up then drainOutbound 4096 s else s
  else s

/-- CHAIN_NAK: the frames from SEQ on are sent again in order; a frame no longer held restarts the lane group. -/
def chainNak (p : ChainPort) (seq : Nat) (s : State) : State :=
  let l := s.link p
  if l.unacked.any (fun e => e.1 = seq) then
    (l.unacked.dropWhile fun e => e.1 ≠ seq).foldl (fun s e => putFrame p e.2 s) s
  else if seq = l.txSeq then s
  else (lanesOf (portGroup p)).foldl (fun s k => laneRestart k s) s

/-! ### Links and HELLO (R483, R485, R497) -/

/-- The payload of HELLO and of ENUM_TOKEN: a postcode and the head's serial. -/
def serialBody (x headSerial : Nat) : List Byte := le 1 x ++ zeros 7 ++ le 8 headSerial

/-- HELLO: the postcode and the head's serial. -/
def sendHello (p : ChainPort) (s : State) : State :=
  sendFrame p 0x03 s.chain.postcode 0xFF (serialBody s.chain.postcode (s.chain.headSerial.getD 0)) s

/-- ENUM_TOKEN for the next package below. -/
def sendToken (next : Nat) (s : State) : State :=
  sendFrame .down 0x01 s.chain.postcode 0xFF (serialBody next (s.chain.headSerial.getD 0)) s

/-- A chain link reaches ACTIVE. -/
def chainUp (p : ChainPort) (s : State) : State :=
  if !s.sys.fwRunning then s
  else if s.modes.strapHead && p = .up then chainMismatch s
  else
    let s := sendHello p (modLink p (fun l => { wasUp := l.wasUp }) s)
    if p = .down && s.chain.enumerating && s.chain.postcode ≠ 0xFF then sendToken (s.chain.postcode + 1) s else s

/-- A commit that not every package has acknowledged is cut off: HW_FAULT, with the packages that hold the new state (R56). -/
def loseCommit (c : ChainCmd) (s : State) : State :=
  let done := packageMask (s.chain.postcode :: c.acked)
  endChainCmd stHwFault done ((2 ^ s.chain.size - 1) - done) c s

/-- Commands in flight beyond a link that has gone: relayed ones time out, a chain-wide one that has been committed ends with
HW_FAULT, an export with what it has (R55, R56, R497). -/
def loseInFlight (p : ChainPort) (s : State) : State :=
  let gone := s.sys.started.filter fun x => x.relayed && (if s.chain.isHead then p = .down else p = .up)
  let s := gone.foldl (fun s x => finishStarted x stTimedOut [] s) s
  if !(s.chain.isHead && p = .down) then s
  else
    let s := if s.chain.exporting.isSome then exportStep stTimedOut 0 [] s else s
    (s.sys.chainCmds.filter (·.committed)).foldl (fun s c => loseCommit c s) s

/-- A chain link leaves ACTIVE: raised and recorded; the downstream end discards a staged change and enters FAULT_HOLD (R56, R497). -/
def chainDown (p : ChainPort) (s : State) : State :=
  let s := modLink p (fun l => { wasUp := l.wasUp || l.carries }) s
  let s := raise 465 (journal 0x1000 0 (125 + p.number) (le 1 p.number) s)
  let s := loseInFlight p s
  if p = .up && !s.sys.staged.isEmpty && !s.chain.isHead then
    modModes (fun m => { m with faultRequest := some 2, faultTask := false }) (s.sys.staged.foldl (fun s x => discardStaged x s) s)
  else s

/-- May the link carry frames, by the HELLO of its other end (R485)? -/
def helloFits (p : ChainPort) (postcode headSerial : Nat) (s : State) : Bool :=
  let own := s.chain.postcode
  let same := s.chain.headSerial = some headSerial
  match p with
  | .up => (own ≠ 0xFF && own = postcode + 1 && same) || (own = 0xFF && s.chain.enumerating)
  | .down => (own ≠ 0xFF && postcode = own + 1 && same) || (postcode = 0xFF && s.chain.enumerating)

/-- CHAIN_HELLO: the link carries frames, or both ends report a mismatch; CHAIN_LINK_UP when it had gone (R485, R497). -/
def chainHello (f : ChainFrame) (postcode headSerial : Nat) (s : State) : State :=
  let p := f.port
  receiveFrame f 0x03 (serialBody postcode headSerial) (fun s =>
    if s.modes.strapHead && p = .up then chainMismatch s
    else if helloFits p postcode headSerial s then
      let back := (s.link p).wasUp && !(s.link p).carries
      let s := modLink p (fun l => { l with carries := true, peer := some postcode, wasUp := true }) s
      let s := raiseIf back 466 s
      if p = .up then drainOutbound 4096 s else s
    else chainMismatch (modLink p (fun l => { l with carries := false }) s)) s

/-! ### Enumeration (R484) -/

/-- The head learns that enumeration is complete; every package takes CHAIN_SIZE from the ENUM_DONE it passes on. -/
def enumFinished (count : Nat) (s : State) : State :=
  let s := modChain (fun c => { c with size := count, enumerating := false }) s
  if s.chain.isHead then finishOne 0x1001 (fun x => !x.relayed) stDone (le 1 count ++ zeros 3) (raise 464 s) else s

/-- The payload of ENUM_DONE. -/
def doneBody (count : Nat) (tooLong : Bool) : List Byte := le 1 count ++ le 1 (b2n tooLong) ++ zeros 6

/-- ENUM_DONE on its way to the head (R484). -/
def sendEnumDone (count : Nat) (tooLong : Bool) (s : State) : State :=
  sendFrame .up 0x02 s.chain.postcode 0 (doneBody count tooLong) s

/-- A postcode has been taken: STANDBY, and the token for the next package if its link is up (R73, R484). -/
def tookPostcode (s : State) : State :=
  let s := modChain (fun c => { c with since := s.now }) s
  let s := if s.mode = .enumerate then goMode .standby 0 s else s
  if chainActive .down s then sendToken (s.chain.postcode + 1) s else s

/-- HEAD_DETECT_TIMER: no signal on the upstream port for 20 ms after reset (R483). -/
def headDetect (s : State) : State :=
  let quiet := (lanesOf 12).all fun l => (s.lane l).state = .off || (s.lane l).state = .detect
  if s.sys.fwRunning && s.mode = .enumerate && s.chain.postcode = 0xFF && quiet && s.chain.since + 20000000 ≤ s.now then
    tookPostcode (modChain (fun c => { c with
      postcode := 0, isHead := true, synced := true, size := 1, headSerial := some Config.serial.toNat, enumerating := true }) s)
  else s

/-- ENUM_TOKEN from upstream. -/
def enumToken (f : ChainFrame) (body : List Byte) (s : State) : State :=
  receiveFrame f 0x01 body (fun s =>
    let next := u8 body 0
    let headSerial := u64 body 8
    if f.port = .down || s.chain.isHead then frameError s
    else if next ≤ 15 then
      tookPostcode (modLink .up (fun l => { l with carries := true, peer := some (next - 1), wasUp := true })
        (modChain (fun c => { c with postcode := next, headSerial := some headSerial, enumerating := true, mismatch := false }) s))
    else sendEnumDone 16 true (chainMismatch (modChain (fun c => { c with postcode := 0xFF }) s))) s

/-- ENUM_LAST_TIMER: the downstream link is not ACTIVE within 20 ms of taking the postcode; the package is the last. -/
def enumLast (s : State) : State :=
  if s.sys.fwRunning && s.chain.enumerating && s.chain.postcode ≠ 0xFF && !chainActive .down s && s.chain.since + 20000000 ≤ s.now then
    let n := s.chain.postcode + 1
    if s.chain.isHead then enumFinished n s else sendEnumDone n false (enumFinished n s)
  else s

/-- ENUM_DONE from downstream: the package below has taken the next postcode from the same head, so that the link to it carries frames (R485),
unless the chain was too long there. -/
def enumDone (f : ChainFrame) (body : List Byte) (s : State) : State :=
  receiveFrame f 0x02 body (fun s =>
    let count := u8 body 0
    let tooLong := (u8 body 1).testBit 0
    if f.port = .up then frameError s
    else
      let next := s.chain.postcode + 1
      let s := if next < min count 16 then modLink .down (fun l => { l with carries := true, peer := some next, wasUp := true }) s else s
      let s := enumFinished count s
      if s.chain.isHead then s else sendEnumDone count tooLong s) s

/-! ### Time (R489-R491) -/

/-- PROBE_TIMER: each millisecond the upstream end of a link sends PROBE and SYNC. -/
def probeTimer (s : State) : State :=
  if !chainRuns .down s || !elapsed 1000000 s.chain.probeAt s.now then s
  else
    let t := s.chainTime
    let s := putControl .down 0xC4 true (le 1 s.chain.probeSeq ++ le 6 t)
      (modChain (fun c => { c with probeSeq := (c.probeSeq + 1) % 256, probeT1 := t % 2 ^ 48, probeAt := some s.now }) s)
    if s.chain.delays = [] then s else putControl .down 0xC6 true (le 7 t) s

/-- PROBE: the downstream end answers, naming how long the answer took. -/
def probe (seq residence : Nat) (s : State) : State :=
  if chainRuns .up s then putControl .up 0xC5 true (le 1 seq ++ le 4 residence ++ zeros 2) s else s

/-- PROBE_REPLY: one value of the link delay, and the median of the last eight. -/
def probeReply (seq residence : Nat) (s : State) : State :=
  if !chainRuns .down s || (seq + 1) % 256 ≠ s.chain.probeSeq then s
  else
    let round : Nat := (s.chainTime + 2 ^ 48 - s.chain.probeT1) % 2 ^ 48
    let d := (divHalfUp ((round : Int) - (residence : Int)) 2).toNat
    modChain (fun c => { c with delays := (d :: c.delays).take 8, delay := sat 32 (lowerMedian ((d :: c.delays).take 8)) }) s

/-- Synchronised or not; each change is raised. -/
def setSynced (on : Bool) (s : State) : State :=
  if s.chain.synced = on then s else raise (if on then 467 else 468) (modChain (fun c => { c with synced := on }) s)

/-- Is the timestamp oscillator being calibrated, so that the counter runs at its last rate (R527)? -/
def oscillatorHeld (s : State) : Bool := s.cal.run.any fun r => r.steps.head? = some 3

/-- SYNC at the downstream end, with the link delay in force: the counter steps or slews (R490), but for a slew that would change the rate while the
oscillator is calibrated (R527). -/
def sync (value d : Nat) (s : State) : State :=
  if !chainRuns .up s || s.chain.isHead then s
  else
    let t := s.chainTime
    let due : Nat := t / 2 ^ 56 * 2 ^ 56 + value % 2 ^ 56 + d
    let e := toInt 64 (ofInt 64 ((t : Int) - due))
    let s := modChain (fun c => { c with timeError := e, lastErrors := (e :: c.lastErrors).take 3, lastSync := some s.now }) s
    let s := if 1000 < e.natAbs then modChain (fun c => { c with offset := c.offset - e, slewLeft := 0 }) s
      else if oscillatorHeld s then s
      else modChain (fun c => { c with slewLeft := -e, slewFrom := s.now }) s
    setSynced (s.chain.lastErrors.length = 3 && s.chain.lastErrors.all fun x => x.natAbs ≤ 2) s

/-- TIME_UNSYNCED: no SYNC for 10 ms. -/
def timeUnsynced (s : State) : State :=
  if s.chain.synced && !s.chain.isHead && elapsed 10000000 s.chain.lastSync s.now then setSynced false s else s

/-! ### Replies on their way (R492) -/

/-- A reply comes back to the source its command came from: numbered there, written there (R45, R46). -/
def deliverReply (x : Started) (reply : List Byte) (s : State) : State :=
  let a := x.args
  let k := a.src.index
  let seq := Tab.get 0 s.sys.seqs k
  let h := reply.take 12 ++ le 4 seq
  let data := reply.drop 16
  let s : State := { s with sys := { s.sys with
    seqs := Tab.set 0 s.sys.seqs k (wrap 32 (seq + 1)), started := s.sys.started.erase x } }
  match a.src with
  | .mailbox m =>
    pushReply (16 + m) (h ++ data.take 48)
      (if 48 < data.length && data.length ≤ a.replySize then s.writeHost a.replyAddr data else s)
  | .service => { s with sys := { s.sys with service := { s.sys.service with busy := false, ready := true, reply := h ++ data } } }
  | .chain o r => routeFrame 0x11 s.chain.postcode o (originBytes o r ++ reply) s

/-- A REPLY frame: up to the head, and from there down to its origin, where it is delivered (R45, R492). -/
def replyFrame (f : ChainFrame) (origin ref : Nat) (reply : List Byte) (s : State) : State :=
  receiveFrame f 0x11 (originBytes origin ref ++ reply) (fun s =>
    let waits := s.sys.started.find? fun x => x.relayed && x.args.tag = u16 reply 0 && originOf x.args s = (origin, ref)
    if f.port = .down && !s.chain.isHead then sendFrame .up 0x11 f.source f.dest (originBytes origin ref ++ reply) s
    else if origin = s.chain.postcode && ref = exportRef then exportStep (u16 reply 2) (u32 reply 20) (reply.drop 16) s
    else match waits with
      | some x => deliverReply x reply s
      | none => if origin = s.chain.postcode then s else sendFrame .down 0x11 f.source f.dest (originBytes origin ref ++ reply) s) s

/-! ### Records and events on their way (R493, R494) -/

/-- A LEDGER frame: on towards the head, which delivers it (R308, R493). -/
def ledgerFrame (f : ChainFrame) (record : List Byte) (s : State) : State :=
  receiveFrame f 0x20 record (fun s => if s.chain.isHead then headRecord none record s else queueOutbound f.source record s) s

/-- An EVENT frame: relayed away from the link it came by, and taken by a RECEIVE slot (R365, R494). -/
def eventFrame (f : ChainFrame) (slot mult hops : Nat) (s : State) : State :=
  let body := le 1 slot ++ le 1 mult ++ le 1 hops ++ zeros 5
  receiveFrame f 0x30 body (fun s =>
    bridgeArrive slot f.source mult hops (sendFrame f.port.other 0x30 f.source 0xFF body s)) s

/-! ### Chain reset (R495) -/

def resetBlock : List Byte := le 2 0xA55A ++ zeros 5

/-- CHAIN_RESET_BLOCK: from upstream it is relayed and acts; from downstream it is ignored. -/
def chainReset (p : ChainPort) (s : State) : State :=
  if p = .down || !s.sys.fwRunning then s
  else packageReset .chain 0 0xFF (if chainActive .down s then putControl .down 0xC9 true resetBlock s else s)

/-- HEAD_CHAIN_RESET: the head's own, 20 us after its reply. -/
def headChainReset (s : State) : State :=
  match s.chain.resetAt with
  | some u => if u + 20000 ≤ s.now then packageReset .chain 0 0xFF s else s
  | none => s

/-! ### Commands (R499) -/

/-- Refused on a package that is not the head. -/
def headOnly (s : State) : Nat := if s.chain.isHead then stDone else stConflict

/-- CHAIN_STATUS, opcode 0x1000. -/
def cmdChainStatus : CommandDef := {
  opcode := 0x1000
  lengths := [4]
  reads := true
  replyMax := fun _ => 24
  check := fun c _ _ => if 1 < u8 c.p 0 || !zeroAt c.p 1 3 then stOutOfRange else stDone
  commit := fun c s =>
    let x := s.chain
    let st := b2n x.isHead + 2 * b2n (chainActive .up s) + 4 * b2n (chainActive .down s) + 8 * b2n x.synced + 16 * b2n x.mismatch
    .reply (le 1 x.postcode ++ le 1 x.size ++ le 1 st ++ zeros 1 ++ le 4 x.delay ++ les 4 x.timeError ++ le 4 x.frameErrors
        ++ le 4 x.forwardLost ++ le 4 x.outbound.length)
      (if u8 c.p 0 = 1 then modChain (fun y => { y with frameErrors := 0, forwardLost := 0 }) s else s) }

/-- CHAIN_ENUMERATE, opcode 0x1001: the reply comes with CHAIN_SIZE. The modes of the other packages come with the command, as
the head finds them. -/
def cmdChainEnumerate : CommandDef := {
  opcode := 0x1001
  modes := [.standby, .configure]
  lengths := [4]
  replyMax := fun _ => 4
  check := fun c _ s =>
    if u16 c.p 0 ≠ 0xA55A || u16 c.p 2 ≠ 0 then stOutOfRange
    else if headOnly s ≠ stDone then stConflict
    else if c.a.seen.any (fun m => !(m = 2 || m = 3 || m = 4)) then stConflict
    else if s.chain.enumerating then stBusy
    else stDone
  commit := fun _ s =>
    let s := modChain (fun c => { c with postcode := 0, size := 1, enumerating := true, mismatch := false, since := s.now }) s
    .later (if chainActive .down s then sendToken 1 (sendHello .down s) else s) 0 }

/-- CHAIN_TIME_SET, opcode 0x1002. -/
def cmdChainTimeSet : CommandDef := {
  opcode := 0x1002
  modes := [.standby, .configure, .maintain]
  lengths := [8]
  check := fun _ _ s => headOnly s
  commit := fun c s => .reply [] (modChain (fun x => { x with offset := (u64 c.p 0 : Int) - (s.now : Int), slewLeft := 0 }) s) }

/-- CHAIN_RESET, opcode 0x1003. -/
def cmdChainReset : CommandDef := {
  opcode := 0x1003
  lengths := [4]
  check := fun c _ s => if u16 c.p 0 ≠ 0xA55A || u16 c.p 2 ≠ 0 then stOutOfRange else headOnly s
  commit := fun _ s =>
    let s := if chainActive .down s then putControl .down 0xC9 true resetBlock s else s
    .reply [] (modChain (fun c => { c with resetAt := some s.now }) s) }

/-- CHAIN_WAKE, opcode 0x1004. -/
def cmdChainWake : CommandDef := {
  opcode := 0x1004
  modes := [.standby, .configure]
  lengths := [0]
  check := fun _ _ s => headOnly s
  commit := fun _ s => .reply [] (lightGroup 13 s) }

/-- The chain capability's body, ID 0x0011 version 1 (R499). -/
def capChain : List Byte := [16, 16] ++ le 2 2 ++ zeros 4

end Sys2Proof.Machine
end

