-- ==== Sys2Proof/Machine/Twin.lean ====
section
/-!
DEFINITION. Sys2Proof/Machine/Twin.lean: twin operation (chapter 24): taking the interlock (R503), the twin link (R506), the frames a
member receives, replay and verdict (R512, R513), taking over (R514-R518), reversion (R519), specimens (R520) and the commands of R522.
-/
namespace Sys2Proof.Machine

/-! ### Roles on the link -/

/-- The role a code names. -/
def roleOf (c : Nat) : TwinRole :=
  match c with
  | 1 => .active | 2 => .syncing | 3 => .inSync | 4 => .failed | _ => .off

/-- PAIR_POSTCODE as a package sends it: the postcode of the member whose ROLE_PREF is PRIMARY (R509). -/
def pairCode (s : State) : Nat := if s.twin.secondary then s.twin.link.peer.getD 0xFF else s.chain.postcode

/-- The payload of a twin HELLO. -/
def twinHelloBody (serial role pairPostcode digest resv : Nat) : List Byte :=
  le 8 serial ++ le 1 role ++ le 1 pairPostcode ++ le 6 resv ++ le 16 digest

/-- HELLO on the twin link (R506). -/
def sendTwinHello (s : State) : State :=
  let d := configDigest s
  sendTwin 0x01 (twinHelloBody Config.serial.toNat s.twin.role.code (pairCode s) d 0)
    (modTwin (fun t => { t with helloDigest := d }) s)

/-! ### Taking the interlock (R503, R505, R514) -/

/-- A member means to take the interlock, for kind 0 (TWIN_SET), 1 (free TWIN_SENSE), 2 (failed partner) or 3 (HANDOVER). -/
def beginTake (kind : Nat) (s : State) : State :=
  modTwin (fun t => { t with wants := true, takeover := kind, stage := if t.backoff.isSome then 0 else 1, reissuing := 0 < kind }) s

/-- A take that is no longer asked for ends. -/
def cancelTake (s : State) : State := modTwin (fun t => { t with wants := false, takeover := 0, stage := 0, reissuing := false }) s

/-- The commands that waited for the partner to take over are answered (R522). -/
def answerHandover (s : State) : State := finishOne 0x1102 (fun _ => true) stDone [] s

/-- TWIN_SENSE comes to read free: a standby in SHADOW takes over (R514). -/
def senseFree (s : State) : State :=
  if !s.twin.senseHeld then s
  else
    let s := modTwin (fun t => { t with senseHeld := false, stageAt := s.now }) s
    if shadows s && s.twin.takeover = 0 then beginTake 1 s else s

/-- TWIN_SENSE comes to read held: contention while the package holds, an end to a take that only followed a free reading (R503). -/
def senseHeldNow (s : State) : State :=
  let s := answerHandover (modTwin (fun t => { t with senseHeld := true }) s)
  if !s.modes.strapTwin then s
  else if s.twin.holding && s.twin.releaseDue.isNone then
    if s.twin.secondary then
      let s := if s.twin.driving then undrive (modTwin (fun t => { t with releaseDue := some s.now }) s)
        else modTwin (fun t => { t with holding := false }) s
      modTwin (fun t => { t with wants := true, stage := 0, backoff := some s.now }) s
    else
      let s := if s.twin.driving then undrive s else s
      modTwin (fun t => { t with wants := true, stage := 3 }) s
  else if s.twin.stage = 1 && s.twin.takeover = 1 then cancelTake s
  else s

/-- CONTENTION_BACKOFF: 1 ms later a secondary may try again. -/
def backoffEnd (s : State) : State :=
  if s.twin.backoff.any (fun a => a + 1000000 ≤ s.now) then
    modTwin (fun t => { t with backoff := none, stage := if t.wants then 1 else 0 }) s
  else s

/-! ### Taking over (R514-R518) -/

/-- A planned mark in the count space of this package. -/
def Mark.shift (d : Int) (m : Mark) : Mark :=
  { m with
    header := shiftHeader d m.header, slot := pos48 (m.slot + d), planned := pos48 (m.planned + d), firstMark := m.firstMark.shift d }

/-- Copied gates, LATCH holds, marks and second-look jobs of a station become the new active's own (R517). -/
def adoptCopy (k : Nat) (s : State) : State :=
  let c := (Tab.get (0, {}) s.twin.copies k).2
  let d := (Tab.get none s.twin.offsets (s.grid k).encoder).getD 0
  let s := c.gates.foldl (fun s e =>
    if (s.outRule e.1).station = k then
      let gs := e.2.map fun g : Gate => { g with opens := pos48 (g.opens + d), closes := pos48 (g.closes + d) }
      takeFirings (rearm e.1 (modRuleGates e.1 (fun x => { x with waiting := gs }) s))
    else s) s
  let s := showOutputs (modLedger (fun l => { l with latched := l.latched ||| c.latched }) s)
  let s := c.marks.foldl (fun s e => adoptMark e.1 (e.2.shift d) s) s
  c.jobs.foldl (fun s j =>
    if 2048 ≤ s.look.queue.length then defaultVerdict { j with header := shiftHeader d j.header } 1 0 s
    else
      let j := { j with
        header := shiftHeader d j.header, returned := false, spec := if j.origin = 0 then specimenChannels k j.col0 j.line0 s else [] }
      queueChanged (modLook (fun l => { l with queue := l.queue ++ [j] }) s)) s

/-- A record of the last two blocks is issued again with TWIN_REISSUE; what the copy already holds of it is not begun twice (R515,
R517). -/
def reissueRecord (k : Nat) (s : State) (h : Held) : State :=
  let c := (Tab.get (0, {}) s.twin.copies k).2
  let b := h.bytes
  let s := modTwin (fun t => { t with reissued := sat 32 (t.reissued + 1) }) s
  if u8 b 8 = 3 then
    deliverRecord k .pseudo 0 (addFlags 2 b) (modStLedger k (fun l => { l with pseudo := sat 32 (l.pseudo + 1) }) s)
  else
    let e := buildEntry k { features := (b.drop 48).take 64, first := h.first, last := h.last } (u64 b 0) (u64 b 40) 2 s
    let rec_ := e.1
    let same := fun header : List Byte => header.take 8 = b.take 8
    deliverEntry k rec_ (entryCrop k rec_ e.2.1) (fun s =>
      let s := if c.marks.any (fun m => same m.2.header) then s else planMarks k rec_ s
      if (u32 rec_ 12).testBit 0 && !c.jobs.any (fun j => same j.header) then formJob k rec_ e.2.1 s else s) e.2.2

/-- The records of a station that close in the block in progress and the one before are issued again (R515). -/
def reissueStation (k : Nat) (s : State) : State :=
  let now : Nat := ((s.seg k).labelled.map (· + 1)).getD 0 / 256
  ((s.stLedger k).held.filter fun h => now ≤ h.block + 1).foldl (reissueRecord k) s

/-- The package has the interlock and is the new active (R514-R518, R519). -/
def takeOver (s : State) : State :=
  let kind := s.twin.takeover
  let back := s.twin.handover.isSome && !s.twin.secondary
  let s := setRole .active (if kind = 3 then 2 else 1) (modTwin (fun t => { t with switchovers := sat 32 (t.switchovers + 1) }) s)
  let s := raise 487 (goMode (if reducedNow s then .reduced else .inspect) 3 s)
  let s := (stationsInUse s).foldl (fun s k => reissueStation k (adoptCopy k s)) s
  raiseIf back 488 (modTwin (fun t => { t with takeover := 0, reissuing := false }) (freshStandby s))

/-- Drivers are enabled and sensor transmitters lit: the take is complete. -/
def taken (s : State) : State :=
  let s := showOutputs (darkenSensors false (modTwin (fun t => { t with driving := true, stage := 0, wants := false }) s))
  if s.twin.takeover ≠ 0 then takeOver s
  else if s.twin.role = .off && s.twin.enable then setRole .active 0 s
  else s

/-- Does the role allow the take in progress (R503, R505)? -/
def takeAllowed (s : State) : Bool :=
  s.twin.wants && (if s.twin.takeover = 0 then s.twin.enable && (s.twin.role = .off || s.twin.role = .active) else shadows s)

/-- INTERLOCK_TAKE_TIMER: after 5 us of free readings TWIN_HOLD is asserted; after 2 us more the drivers are enabled (R503). -/
def takeTimer (s : State) : State :=
  let t := s.twin
  if !s.modes.strapTwin || t.senseHeld || t.stage = 0 then s
  else if !takeAllowed s then cancelTake s
  else if t.stage = 1 then
    if t.stageAt + 5000 ≤ s.now && t.releaseDue.isNone then
      modTwin (fun t => { t with holding := true, stage := 2, stageAt := s.now }) s
    else s
  else if t.stageAt + 2000 ≤ s.now then taken s
  else s

/-! ### Handing over (R519) -/

/-- What the partner has taken on is dropped here. -/
def dropCopied (s : State) : State :=
  let s := (List.range 16).foldl (fun s r =>
    let x := s.outRule r
    let s := if x.flags.getLsbD 0 then modCompare x.unit (fun u => { u with queue := [] }) s else s
    s.setRuleGates r {}) s
  (List.range 2).foldl (fun s h => modHead h (fun x => { x with queue := [], deferred := false }) s)
    ((modLedger (fun l => { l with latched := 0, forced := 0 }) s))

/-- The block that a HANDOVER names has begun: the active releases and becomes SYNCING, the standby takes over. -/
def takeHandover (s : State) : State :=
  if !s.twin.handoverNow then s
  else
    let by_ := s.twin.handoverBy
    let s := modTwin (fun t => { t with handoverNow := false }) s
    if s.twin.role = .active then
      let s := setRole .syncing by_ (releaseInterlock s)
      freshStandby (dropCopied (goMode .shadow 3 s))
    else if shadows s then beginTake 3 s
    else s

/-! ### Replay and verdict (R512, R513) -/

/-- A line of the crop rings as labelling takes it: its grow mask only. -/
def ringSegLine (k m : Nat) (s : State) : SegLine :=
  let rows := (s.station k).ports.filterMap fun n => (Tab.get [] s.ledger.rings n).find? fun x => x.head.line = m
  let cells := rows.flatMap fun x => x.grow.zipIdx.filterMap fun e =>
    if e.1 then some ({ col := x.first + e.2, seed := true } : Cell) else none
  { mark := { line := m }, cells := cells, ranges := ownedRanges k (linePitch k m s) s }

/-- The records that relabelling the grow masks of a block gives: FIRST_LINE, LENGTH, COL_FIRST, COL_LAST and AREA of each. -/
def relabelled (r : Replay) (s : State) : List (List Byte) :=
  let k := r.station
  let g := s.seg k
  let scratch := s.setSeg k { set := { g.set with minSeed := 1 }, blobs := r.start.blobs, split := r.start.split }
  ((List.range 256).foldl (fun (acc : List (List Byte) × State) i =>
    let x := labelLine k (ringSegLine k (256 * r.block + i) s) false acc.2
    (acc.1 ++ x.1.map fun q => q.features.take 20, x.2)) ([], scratch)).1

/-- Is a record one that the replay compares: ORIGIN 0 or 1, wholly within the block? -/
def replayed (b : Nat) (h : Held) : Bool :=
  let f := h.bytes.drop 48
  u8 h.bytes 8 = 1 && u8 f 46 ≤ 1 && 256 * b ≤ u64 f 0 && u64 f 0 + u32 f 8 ≤ 256 * b + 256

/-- RESULT of a replay: 1 when a ring digest fails, 2 when the relabelled records differ, else 0. A port that wrote no slot of the block
(a lost one) has no ring digest to fail. -/
def replayResult (r : Replay) (s : State) : Nat :=
  let ringsOk := (s.station r.station).ports.all fun n =>
    match (Tab.get [] s.twin.ringDigests n).find? fun e => e.1 = r.block with
    | some e => e.2 = ringDigest n r.block s
    | none => ringBlock n r.block s = []
  if !ringsOk then 1
  else
    let fs := relabelled r s
    if (r.issued.filter (replayed r.block)).all fun h => fs.contains ((h.bytes.drop 48).take 20) then 0 else 2

/-- A block's replay has its verdict. -/
def endReplay (k b : Nat) (s : State) : State :=
  modTwin (fun t => { t with
    replay := t.replay.filter fun r => !(r.station = k && r.block = b)
    theirResults := t.theirResults.filter (fun e => !(e.1 = k && e.2.1 = b)), runs := Tab.set 0 t.runs k 0 }) s

/-- The verdict is undecided: the active goes on, and the mismatch count starts again. -/
def undecided (k b : Nat) (s : State) : State :=
  raise 485 (modTwin (fun t => { t with disagreements := sat 32 (t.disagreements + 1) }) (endReplay k b s))

/-- The verdict of two results. A member that is no longer ACTIVE or IN_SYNC cannot take role FAILED, and goes on (R505; DEDUCED, assumption 59). -/
def verdict (k b own theirs : Nat) (s : State) : State :=
  if (own = 0) = (theirs = 0) then undecided k b s
  else
    let s := endReplay k b s
    if own ≠ 0 then
      if s.twin.role = .active || s.twin.role = .inSync then
        modModes (fun m => { m with faultRequest := some 3, faultTask := false }) (setRole .failed 3 (cancelTake s))
      else s
    else
      let s := raise 486 s
      if shadows s then beginTake 2 s else s

/-- Both results of a block may be in. -/
def tryVerdict (k b : Nat) (s : State) : State :=
  match s.twin.replay.find? fun r => r.station = k && r.block = b, s.twin.theirResults.find? fun e => e.1 = k && e.2.1 = b with
  | some r, some e => match r.own with
    | some own => verdict k b own e.2.2 s
    | none => s
  | _, _ => s

/-- The payload of REPLAY_RESULT. -/
def replayBody (k result block : Nat) : List Byte := le 1 k ++ le 1 result ++ zeros 2 ++ le 4 block

/-- REPLAY_DONE: the oldest replay that runs ends, and the member reports its RESULT. -/
def twinReplayDone (s : State) : State :=
  match s.twin.replay.find? (·.own.isNone) with
  | none => s
  | some r =>
    let x := replayResult r s
    let s := modTwin (fun t => { t with replay := t.replay.map fun y => if y = r then { y with own := some x } else y }) s
    tryVerdict r.station r.block (sendTwin 0x04 (replayBody r.station x r.block) s)

/-- REPLAY_RESULT_TIMEOUT: 3 ms without the partner's result. -/
def replayTimeout (s : State) : State :=
  (s.twin.replay.filter fun r => r.since + 3000000 ≤ s.now).foldl (fun s r => undecided r.station r.block s) s

/-- The partner's result of a block, the last sixteen of them. -/
def takeResult (k block result : Nat) (s : State) : State :=
  tryVerdict k block (modTwin (fun t => { t with
    theirResults := ((k, block, result) :: t.theirResults.filter fun e => !(e.1 = k && e.2.1 = block)).take 16 }) s)

/-! ### The twin link (R506) -/

/-- A member whose twin link can carry blocks: firmware is up and the group ACTIVE. -/
def twinRuns (s : State) : Bool := s.sys.fwRunning && s.modes.strapTwin && twinActive s

/-- Does a twin frame's CRC match its bytes 1-7 and payload (R486, R506)? -/
def twinFrameGood (f : TwinFrame) (kind : Nat) (payload : List Byte) : Bool :=
  f.crc = crc32c (frameBody kind f.source f.dest (f.linkSeq % 256) payload)

/-- A frame of a kind and payload is checked as R488 says, with the twin's own block types; each good one is acknowledged. HELLO alone passes
before the link is up. -/
def receiveTwin (f : TwinFrame) (kind : Nat) (payload : List Byte) (act : State → State) (s : State) : State :=
  let l := s.twin.link
  if !twinRuns s then s
  else if !(s.twin.up || kind = 0x01) then frameError s
  else if twinFrameGood f kind payload && f.linkSeq % 256 = l.rxSeq then
    act (putTwinControl 0xD8 (le 1 l.rxSeq) (modTwin (fun t => { t with link := { l with rxSeq := (l.rxSeq + 1) % 256 } }) s))
  else frameError (putTwinControl 0xD7 (le 1 l.rxSeq) s)

/-- ACK on the twin link: the frames up to SEQ are freed (R488, R506). -/
def twinAck (seq : Nat) (s : State) : State :=
  let l := s.twin.link
  if l.unacked.any (fun e => e.1 = seq) then
    modTwin (fun t => { t with link := { l with unacked := (l.unacked.dropWhile fun e => e.1 ≠ seq).drop 1 } }) s
  else s

/-- NAK on the twin link: the frames from SEQ on are sent again in order; a frame no longer held restarts the lane group (R488, R506). -/
def twinNak (seq : Nat) (s : State) : State :=
  let l := s.twin.link
  if l.unacked.any (fun e => e.1 = seq) then
    (l.unacked.dropWhile fun e => e.1 ≠ seq).foldl (fun s e => putTwinFrame e.2 s) s
  else if seq = l.txSeq then s
  else (lanesOf 14).foldl (fun s k => laneRestart k s) s

/-- CHAIN_ACK: an ACK on a chain link, or on the twin link where no chain port is named. -/
def linkAck (port : Option ChainPort) (seq : Nat) (s : State) : State :=
  match port with
  | some p => chainAck p seq s
  | none => twinAck seq s

/-- CHAIN_NAK: a NAK on a chain link, or on the twin link where no chain port is named. -/
def linkNak (port : Option ChainPort) (seq : Nat) (s : State) : State :=
  match port with
  | some p => chainNak p seq s
  | none => twinNak seq s

/-- A standby whose link has gone plays on by itself: lines that waited for a copy go on. -/
def pumpAll (s : State) : State :=
  if s.mode.inspects then (List.range 4).foldl (fun s k => pumpStation k false 4096 s) s else s

/-- The twin link is lost (R506): IN_SYNC returns to SYNCING (R505). -/
def twinLinkLost (s : State) : State :=
  if s.twin.up then
    pumpAll (loseSync (raise 482 (modTwin (fun t => { t with
      up := false, partnerRole := .off, images := [], sentCrc := [], link := { peer := t.link.peer, wasUp := true } }) s)))
  else s

/-- The twin's lane group reaches and leaves ACTIVE. -/
def twinUp (s : State) : State :=
  if s.sys.fwRunning && s.modes.strapTwin then
    sendTwinHello (modTwin (fun t => { t with link := { peer := t.link.peer, wasUp := t.link.wasUp } }) s)
  else s
def twinDown (s : State) : State := twinLinkLost s

/-- What the partner's role as heard means here. -/
def hearRole (role : Nat) (s : State) : State :=
  let r := roleOf role
  let s := modTwin (fun t => { t with
    partnerRole := r, sentCrc := if r = .syncing || r = .inSync then t.sentCrc else [] }) s
  if r = .active then answerHandover s else s

/-- HEARTBEAT; after a loss it brings the link back with a HELLO. -/
def heartbeat (role counter : Nat) (s : State) : State :=
  if !twinRuns s then s
  else
    let s := hearRole role (modTwin (fun t => { t with lastBeat := some s.now, theirBeats := wrap 16 counter }) s)
    if s.twin.up then s else sendTwinHello s

/-- HEARTBEAT_SEND, every 10 us. -/
def heartbeatSend (s : State) : State :=
  if twinRuns s && elapsed 10000 s.twin.beatAt s.now then
    putTwinControl 0xD1 (le 1 s.twin.role.code ++ le 2 s.twin.beats)
      (modTwin (fun t => { t with beats := wrap 16 (t.beats + 1), beatAt := some s.now }) s)
  else s

/-- HEARTBEAT_LOSS: none for 30 us. -/
def heartbeatLoss (s : State) : State := if elapsed 30000 s.twin.lastBeat s.now then twinLinkLost s else s

/-- TWIN_HELLO: the link carries frames from now on. -/
def twinHello (f : TwinFrame) (serial role pairPostcode digest resv : Nat) (s : State) : State :=
  receiveTwin f 0x01 (twinHelloBody serial role pairPostcode digest resv) (fun s =>
    let back := !s.twin.up && s.twin.link.wasUp
    let first := !s.twin.up
    let s := modTwin (fun t => { t with
      up := true, helloSeen := true, heldSerial := serial, pairPostcode := pairPostcode, partnerDigest := digest, lastBeat := some s.now
      link := { t.link with peer := some f.source, wasUp := true, carries := true } }) s
    hearRole role (raiseIf back 483 (if first then sendTwinHello s else s))) s

/-! ### Frames a member receives (R507, R510, R513, R519, R520) -/

/-- STATE_FRAME: parts are counted; the last brings the copy they spell, which gives offset samples and is applied in its turn. -/
def stateFrame (f : TwinFrame) (k block part parts : Nat) (bytes : List Byte) (copy : StationCopy) (s : State) : State :=
  receiveTwin f 0x02 (le 1 k ++ zeros 3 ++ le 4 block ++ le 2 part ++ le 2 parts ++ zeros 4 ++ bytes) (fun s =>
    if !shadows s then s
    else
      let p := Tab.get (0, 0) s.twin.parts k
      let n := if p.1 = block + 1 then p.2 else 0
      if part ≠ n then s
      else
        let s := modTwin (fun t => { t with parts := Tab.set (0, 0) t.parts k (block + 1, n + 1) }) s
        if n + 1 < parts then s
        else
          let s := takeOffsetsOf k copy (modTwin (fun t => { t with copies := Tab.set (0, {}) t.copies k (block + 1, copy) }) s)
          pumpStation k false 4096 (tryCopy k s)) s

/-- DIGEST_FRAME. -/
def digestFrame (f : TwinFrame) (k : Nat) (d : BlockDigest) (s : State) : State :=
  receiveTwin f 0x03 (digestBytes k d) (fun s =>
    if paired s then compareBlock k d.block (modTwin (fun t => { t with theirDigests := addDigest k d t.theirDigests }) s) else s) s

/-- REPLAY_RESULT_FRAME. -/
def replayResultFrame (f : TwinFrame) (k result block : Nat) (s : State) : State :=
  receiveTwin f 0x04 (replayBody k result block) (takeResult k block result) s

/-- HANDOVER_FRAME: the standby takes over at the start of the block. -/
def handoverFrame (f : TwinFrame) (k block : Nat) (s : State) : State :=
  receiveTwin f 0x05 (le 1 k ++ zeros 3 ++ le 4 block) (fun s =>
    if !shadows s then s
    else
      let begun := (s.station k).nextLine.any fun m => 256 * block < m
      modTwin (fun t => { t with handover := some (k, block), handoverBy := 2, handoverNow := t.handoverNow || begun }) s) s

/-! ### Specimens (R231, R520) -/

/-- The bytes an image takes by its header. -/
def imageLength (b : List Byte) : Nat := specimenBytes (u32 b 4) (u32 b 8)

/-- The specimen an image holds, if its CRC passes (R231). -/
def readImage (b : List Byte) : Option Specimen :=
  if b.length ≠ imageLength b || (crc32c (b.take 60 ++ zeros 4 ++ b.drop 64)).toNat ≠ u32 b 60 then none
  else
    let a := b.toArray
    let w := u32 b 4
    let n := u32 b 8
    let pixel := fun y x : Nat =>
      let t := 64 + (y / 64 * (w / 64) + x / 64) * 14336
      let i := y % 64 * 64 + x % 64
      let c := (a.getD (t + 12288 + i / 2) 0).toNat
      ((a.getD (t + i) 0).toNat, (a.getD (t + 4096 + i) 0).toNat, (a.getD (t + 8192 + i) 0).toNat, if i % 2 = 0 then c % 16 else c / 16)
    some { mono := (u8 b 2).testBit 0, kUsed := u8 b 3, width := w, lines := n, pitch := u16 b 12, length := u32 b 16
           unstable := u32 b 20, jobId := u64 b 24, learned := u64 b 32, speedMin := u32 b 40, speedMax := u32 b 44
           rows := (List.range n).map fun y => (List.range w).map (pixel y) }

/-- SPECIMEN_FRAME: a part of an image; the specimen is loaded when the image is whole and its CRC passes. -/
def specimenFrame (f : TwinFrame) (k offset : Nat) (image : List Byte) (s : State) : State :=
  receiveTwin f 0x06 (le 1 k ++ zeros 7 ++ le 8 offset ++ image) (fun s =>
    if !standby s then s
    else
      let parts := (offset, image) :: (Tab.get [] s.twin.images k).filter fun e => e.1 ≠ offset && offset ≠ 0
      let whole := (sortBy (·.1) parts).foldl (fun acc e => if e.1 = acc.length then acc ++ e.2 else acc) []
      if whole.length < 64 || whole.length < imageLength whole then
        modTwin (fun t => { t with images := Tab.set [] t.images k parts }) s
      else
        let s := modTwin (fun t => { t with images := Tab.set [] t.images k [] }) s
        match readImage whole with
        | some sp => regEnter k (modLearn k (fun l => { l with loaded := some sp }) s)
        | none => s) s

/-- The active sends a loaded specimen to a partner that has joined, in parts of 64 KiB (R520). -/
def sendSpecimen (k : Nat) (s : State) : State :=
  match (s.learn k).loaded with
  | none => s
  | some sp =>
    let crc := imageCrc sp + 1
    if Tab.get 0 s.twin.sentCrc k = crc then s
    else (chunksOf 65536 (specimenImage sp)).zipIdx.foldl (fun s e =>
      sendTwin 0x06 (le 1 k ++ zeros 7 ++ le 8 (65536 * e.2) ++ e.1) s) (modTwin (fun t => { t with sentCrc := Tab.set 0 t.sentCrc k crc }) s)

/-! ### Between the steps -/

/-- What follows for a twin member from what a step has changed: its link, its HELLO on a configuration change, its specimens, its
role and the start of a handover (R505, R506, R519, R520). A standby that leaves SHADOW without taking over applies no copy any more, and is
SYNCING (DEDUCED, assumption 59). -/
def settleTwin (s : State) : State :=
  if !s.modes.strapTwin then s
  else
    let s := syncGroup 14 twinUp twinDown s
    let s := if s.sys.fwRunning && s.twin.up && s.twin.helloDigest ≠ configDigest s then sendTwinHello s else s
    let joined := s.twin.partnerRole = .syncing || s.twin.partnerRole = .inSync
    let s := if s.twin.role = .active && s.twin.up && joined && !workHeld 2 s then (stationsInUse s).foldl (fun s k => sendSpecimen k s) s else s
    let s := if s.twin.role = .inSync && (!digestsEqual s || s.mode ≠ .shadow) then loseSync s else reachSync s
    takeHandover s

/-! ### Commands (R522) -/

/-- Would both members hold one ROLE_PREF, by what the partner's HELLO says? -/
def samePref (secondary : Bool) (s : State) : Bool :=
  s.twin.helloSeen && (if secondary then s.twin.pairPostcode = s.chain.postcode else some s.twin.pairPostcode = s.twin.link.peer)

/-- TWIN_SET, opcode 0x1100. -/
def cmdTwinSet : CommandDef := {
  opcode := 0x1100
  modes := [.standby, .configure]
  lengths := [16]
  check := fun c _ s =>
    if 1 < u8 c.p 0 || 1 < u8 c.p 1 || 4096 < u16 c.p 2 || !zeroAt c.p 4 4 then stOutOfRange
    else if !s.modes.strapTwin then stConflict
    else if u8 c.p 0 = 1 && (s.twin.senseHeld || samePref (u8 c.p 1 = 1) s) then stConflict
    else stDone
  commit := fun c s =>
    let on := u8 c.p 0 = 1
    let s := modTwin (fun t => { t with
      enable := on, secondary := u8 c.p 1 = 1, revertBlocks := u16 c.p 2, partnerSerial := u64 c.p 8 }) s
    .reply [] (if !on then setRole .off 0 (releaseInterlock s)
      else if s.twin.role = .off && !s.twin.driving then beginTake 0 s else s) }

/-- TWIN_JOIN, opcode 0x1101: the reply is sent on entry into SHADOW. -/
def cmdTwinJoin : CommandDef := {
  opcode := 0x1101
  modes := [.configure]
  lengths := [0]
  check := fun _ _ s =>
    if !s.modes.strapTwin then stConflict
    else if !s.twin.up || !s.twin.helloSeen || s.twin.heldSerial ≠ s.twin.partnerSerial then stAbsent
    else if s.twin.role ≠ .off || s.twin.partnerRole ≠ .active || !digestsEqual s then stConflict
    else if (stationsInUse s).any (fun k => (stationCheck k (s.grid k).pitch s).1 ≠ 0 || (trackUnit k s).isNone) then stConflict
    else if !dramFits 0 s then stNoSpace
    else stDone
  commit := fun _ s => .reply [] (goMode .shadow 0 (setRole .syncing 0 (freshStandby (cancelTake s)))) }

/-- TWIN_HANDOVER, opcode 0x1102: the reply is sent when the partner takes over. -/
def cmdTwinHandover : CommandDef := {
  opcode := 0x1102
  modes := [.inspect, .reduced]
  lengths := [0]
  check := fun _ _ s =>
    if !s.modes.strapTwin || s.twin.role ≠ .active || !s.twin.up || s.twin.partnerRole ≠ .inSync then stConflict
    else if s.sys.started.any (fun x => x.op = 0x1102) then stBusy
    else stDone
  commit := fun _ s => .later (if s.twin.handover.isSome then s else sendHandover 0 s) 0 }

/-- TWIN_STATUS, opcode 0x1103. -/
def cmdTwinStatus : CommandDef := {
  opcode := 0x1103
  lengths := [4]
  reads := true
  replyMax := fun _ => 28
  check := fun c _ _ => if 1 < u8 c.p 0 || !zeroAt c.p 1 3 then stOutOfRange else stDone
  commit := fun c s =>
    let t := s.twin
    .reply (le 1 t.role.code ++ le 1 t.partnerRole.code
        ++ le 1 (b2n t.holding + 2 * b2n t.senseHeld + 4 * b2n t.up + 8 * b2n (digestsEqual s)) ++ zeros 1
        ++ le 4 t.cleanRun ++ le 4 t.mismatches ++ le 4 t.replays ++ le 4 t.disagreements ++ le 4 t.switchovers ++ le 4 t.reissued)
      (if u8 c.p 0 = 1 then modTwin (fun x => { x with
        cleanRun := 0, mismatches := 0, replays := 0, disagreements := 0, switchovers := 0, reissued := 0 }) s else s) }

/-- The twin capability's body, ID 0x0012 version 1 (R522). -/
def capTwin : List Byte := [16, 2] ++ le 2 50 ++ zeros 4

end Sys2Proof.Machine
end

