-- ==== Sys2Proof/Machine/Basics.lean ====
section
/-!
DEFINITION. Sys2Proof/Machine/Basics.lean: the system commands (R61, R62), the capability list (R68, R69), and the forerunner commands
(R63, R64). The rules name the forerunner commands and what each does, not the layout of their parameters: assumption 73.
-/
namespace Sys2Proof.Machine

def modSys (f : Sys → Sys) (s : State) : State := { s with sys := f s.sys }

/-! ### Identity and health (R61) -/

/-- FW_VERSION as it reads: zero until firmware runs (R66). -/
def fwVersionNow (s : State) : Nat := if s.sys.fwRunning then s.sys.fwVersion else 0

/-- NOP, opcode 0x0000. -/
def cmdNop : CommandDef := {
  opcode := 0x0000
  modes := everyMode
  lengths := [0]
  sentry := true
  reads := true
  commit := fun _ s => .reply [] s }

/-- GET_IDENTITY, opcode 0x0001. -/
def cmdGetIdentity : CommandDef := {
  opcode := 0x0001
  modes := everyMode
  lengths := [0]
  sentry := true
  reads := true
  replyMax := fun _ => 32
  commit := fun _ s =>
    .reply (le 2 0x1D7A ++ le 2 0x1296 ++ le 1 1 ++ le 1 (b2n Config.gradeI) ++ le 1 s.mode.code
      ++ le 1 (b2n s.chain.isHead + 2 * b2n s.modes.strapTwin) ++ le 8 Config.serial.toNat ++ le 4 (fwVersionNow s)
      ++ le 2 (if s.mode = .sentry then 0 else s.chain.size) ++ zeros 10) s }

/-- RAIL_WARN: a bit for each rail below its warning level. -/
def railWarnMask (s : State) : Nat := maskOf ((List.range 16).filter fun r => (Tab.get {} s.modes.rails r).warn)

/-- SENTRY_TIME: 32.768 kHz ticks since the release of POR. -/
def sentryTime (s : State) : Nat := (s.now - s.sys.sentryBase) * 32768 / 10 ^ 9

/-- GET_HEALTH, opcode 0x0003. -/
def cmdGetHealth : CommandDef := {
  opcode := 0x0003
  modes := everyMode
  lengths := [0]
  sentry := true
  reads := true
  replyMax := fun _ => 24
  commit := fun _ s =>
    let asleep := s.mode = .sentry
    .reply (les 2 (if asleep then s.cal.sentryTemp else nth 0 s.teller.dies 2)
      ++ (if asleep then le 2 0x8000 ++ le 2 0x8000 else les 2 (nth 0 s.teller.dies 0) ++ les 2 (nth 0 s.teller.dies 1))
      ++ le 2 (railWarnMask s)
      ++ le 1 (if asleep then 0 else b2n (0 < s.teller.level) + 2 * b2n (s.mode = .reduced))
      ++ le 1 (if asleep then 0 else sat 8 s.sys.waiting.length) ++ le 2 s.modes.lastReset ++ le 8 (sentryTime s) ++ zeros 4) s }

/-! ### CANCEL (R61) -/

/-- Is a command the one a CANCEL names? -/
def cancels (c : Call) (src : Source) (tag : Nat) : Bool :=
  tag = u16 c.p 2 && (if u16 c.p 0 = 0xFFFF then src = c.a.src else src = .mailbox (u16 c.p 0))

/-- CANCEL, opcode 0x0004: a waiting command is taken out and replies ABORTED. -/
def cmdCancel : CommandDef := {
  opcode := 0x0004
  lengths := [4]
  check := fun c _ s =>
    if 15 < u16 c.p 0 && u16 c.p 0 ≠ 0xFFFF then stOutOfRange
    else if s.sys.waiting.any (fun x => cancels c x.args.src x.args.tag) then stDone
    else if s.sys.started.any (fun x => cancels c x.args.src x.args.tag) || cancels c c.a.src c.a.tag
      || s.sys.chainCmds.any (fun x => cancels c x.args.src x.args.tag) then stStale
    else stAbsent
  commit := fun c s =>
    match s.sys.waiting.find? fun x => cancels c x.args.src x.args.tag with
    | some x => .reply [] (refuse x.op stAborted x.args
        (loseChallenge x.op x.args (modSys (fun y => { y with waiting := y.waiting.erase x }) s)))
    | none => .refuse stAbsent }

/-! ### The integrator key (R62) -/

/-- KEY_CHALLENGE, opcode 0x0005: the nonce is fresh; which bytes it has is free. -/
def cmdKeyChallenge : CommandDef := {
  opcode := 0x0005
  lengths := [8]
  replyMax := fun _ => 40
  check := fun c _ _ => if u32 c.p 0 = 0 || 3 < u32 c.p 0 || u32 c.p 4 ≠ 0 then stOutOfRange else stDone
  commit := fun c s =>
    let r := s.drawBytes 32
    .reply (r.1 ++ le 8 Config.serial.toNat) (modSys (fun y => { y with challenge := some (ofLe r.1, u32 c.p 0, s.now) }) r.2) }

/-- Does a KEY_RESPONSE pass against the challenge that is outstanding? SIG_R and SIG_S are multi-byte fields of the packet, least significant
byte first (R5). -/
def keyStatus (p : List Byte) (s : State) : Nat :=
  if Config.keySlots.val = 0 then stDenied
  else match s.sys.challenge with
    | none => stStale
    | some (nonce, scope, since) =>
      if since + 10 ^ 10 < s.now || scope ≠ u32 p 0 then stStale
      else
        let key := (p.drop 8).take 97
        let message := le 32 nonce ++ le 8 Config.serial.toNat ++ le 4 scope
        let known := (List.range Config.keySlots.val).any fun i => ofBe (sha384 key) = (Config.keyHash i).toNat
        if known && ecdsaOk key message ((p.drop 112).take 48).reverse ((p.drop 160).take 48).reverse then stDone else stDenied

/-- The challenge is consumed. -/
def consumeChallenge (s : State) : State := modSys (fun y => { y with challenge := none }) s

/-- KEY_RESPONSE, opcode 0x0006. -/
def cmdKeyResponse : CommandDef := {
  opcode := 0x0006
  lengths := [208]
  check := fun c _ s =>
    if Config.keySlots.val = 0 then stDenied else if !zeroAt c.p 4 4 || !zeroAt c.p 105 7 then stOutOfRange else keyStatus c.p s
  commit := fun c s => .reply [] (modSys (fun y => { y with
    challenge := none
    grantDebug := y.grantDebug || (u32 c.p 0).testBit 0, grantBase := y.grantBase || (u32 c.p 0).testBit 1 }) s)
  onRefusal := fun _ _ s => consumeChallenge s
  onEarlyRefusal := consumeChallenge }

/-- KEY_REVOKE, opcode 0x0007. -/
def cmdKeyRevoke : CommandDef := {
  opcode := 0x0007
  lengths := [0]
  commit := fun _ s => .reply [] (modSys (fun y => { y with grantDebug := false, grantBase := false }) s) }

/-! ### The capability list (R68, R69) -/

/-- PORT_MAP of the forerunner capability (R63). -/
def portMap (s : State) : List Byte :=
  let ps := (s.station 0).ports
  (List.range 4).flatMap fun k => le 1 (if ps.length ≤ 4 then nth 0xFF ps k else 0xFF)

/-- The capabilities, by ID, with their bodies; all of them are listed, every body is of version 1 (assumption 74). -/
def capabilities (s : State) : List (Nat × List Byte) := [
  (0x0001, le 2 16 ++ le 2 256 ++ le 1 Config.keySlots.val ++ le 1 (b2n s.sys.grantDebug + 2 * b2n s.sys.grantBase) ++ zeros 2),
  (0x0002, capModes s),
  (0x0003, [58] ++ le 1 (if Config.eightChannels then 12 else 6) ++ [0x0F, 0x01] ++ le 2 16384 ++ [4, 0x07] ++ le 4 400000 ++ le 2 256 ++ le 2 6656),
  (0x0004, [4, 0] ++ le 2 1024 ++ le 2 (s.vault.objects.filter fun o => o.kind = .baseSet).length ++ zeros 2),
  (0x0005, capPosition),
  (0x0006, capStitch),
  (0x0007, capLearn s ++ [64, 16, 16, 16] ++ le 2 256 ++ le 2 64),
  (0x0008, capSegment ++ capLedger ++ capLook),
  (0x0009, capFrank),
  (0x000A, capFrame),
  (0x000B, capTeller),
  (0x000C, capDram),
  (0x000D, capHost s),
  (0x000E, capCompress),
  (0x000F, capVault s),
  (0x0010, capJournal),
  (0x0011, capChain),
  (0x0012, capTwin),
  (0x0013, capCal),
  (0x0F00, portMap s ++ le 2 3 ++ zeros 2 ++ le 4 s.sys.frOverflow ++ zeros 4)]

/-- The list with each entry's place in BAR0: from 0x100 on, each on the next 8-byte boundary. -/
def placedCapabilities (s : State) : List (Nat × Nat × List Byte) :=
  ((capabilities s).foldl (fun (acc : Nat × List (Nat × Nat × List Byte)) e =>
    let n := 8 + (e.2.length + 3) / 4 * 4
    (acc.1 + (n + 7) / 8 * 8, acc.2 ++ [(acc.1, e.1, padTo (n - 8) e.2)])) (0x100, [])).2

/-- A capability's whole entry (R68). -/
def capabilityEntry (id : Nat) (s : State) : Option (List Byte) :=
  let xs := placedCapabilities s
  match xs.find? fun e => e.2.1 = id with
  | none => none
  | some e =>
    let next := ((xs.find? fun y => e.1 < y.1).map (·.1)).getD 0
    some (le 2 id ++ [1] ++ le 1 ((8 + e.2.2.length) / 4) ++ le 4 next ++ e.2.2)

/-- The bytes of a capability's entry; the entries' sizes are fixed (R42, R68). -/
def capabilityBytes (id : Nat) : Nat :=
  match (capabilities State.reset).find? fun e => e.1 = id with
  | some e => 8 + (e.2.length + 3) / 4 * 4
  | none => 0

/-- READ_CAPABILITY, opcode 0x0002: the largest reply it can produce is the entry it names (R42). -/
def cmdReadCapability : CommandDef := {
  opcode := 0x0002
  lengths := [4]
  reads := true
  replyMax := fun c => capabilityBytes (u16 c.p 0)
  check := fun c _ s =>
    if u16 c.p 2 ≠ 0 || !(u16 c.p 0 = 0x0F00 || (1 ≤ u16 c.p 0 && u16 c.p 0 ≤ 0x13)) then stOutOfRange
    else if (capabilityEntry (u16 c.p 0) s).isNone then stAbsent
    else stDone
  commit := fun c s => .reply ((capabilityEntry (u16 c.p 0) s).getD []) s }

/-! ### The forerunner subset (R63, R64) -/

/-- The modes that accept forerunner commands. -/
def frModes : List Mode := [.configure, .learn, .inspect, .reduced]

/-- Can the subset express what S0 is: one to four ports, none longer than 8,192 pixels? -/
def frFits (s : State) : Bool :=
  let ps := (s.station 0).ports
  ps ≠ [] && ps.length ≤ 4 && ps.all fun n => (s.port n).pixels ≤ 8192

/-- A forerunner command's call of a native one on one target. -/
def nativeCall (d : CommandDef) (c : Call) (target : Nat) (p : List Byte) : Call :=
  { op := d.opcode, a := { c.a with block := (d.kinds.headD 0) + target, plen := p.length, params := p }, p := p, targets := [target] }

/-- The status with which a native command answers such a call. -/
def nativeStatus (d : CommandDef) (c : Call) (s : State) : Nat :=
  if !d.modes.contains s.mode then stWrongMode else d.check c c.target s

/-- The state a native command's call leaves. -/
def nativeState (d : CommandDef) (c : Call) (s : State) : State :=
  match d.commit c s with
  | .reply _ s' => s'
  | .later s' _ => s'
  | .ended _ _ s' => s'
  | .refuse _ => s

/-- FR_IDENTIFY, opcode 0x7F00. R63 gives DEVICE_ID and the sub-version; that they come as two bytes, one byte and one byte of zero is the model's
(DESIGN CHOICE, assumption 73). -/
def cmdFrIdentify : CommandDef := {
  opcode := 0x7F00
  modes := frModes
  lengths := [0]
  reads := true
  replyMax := fun _ => 4
  commit := fun _ s => .reply (le 2 0x0640 ++ le 1 0x96 ++ zeros 1) s }

/-- The port a forerunner port number names. -/
def frPort (c : Call) (s : State) : Nat := nth 0xFF (s.station 0).ports (u8 c.p 0)

/-- FR_SET_PORT, opcode 0x7F01: the forerunner port, three reserved bytes, then PORT_SET's parameters. -/
def cmdFrSetPort : CommandDef := {
  opcode := 0x7F01
  modes := frModes
  lengths := [28]
  also := fun c s => [0x10 + frPort c s]
  check := fun c _ s =>
    if !frFits s then stWrongMode
    else if 3 < u8 c.p 0 || !zeroAt c.p 1 3 || frPort c s = 0xFF || 8192 < u16 c.p 4 then stOutOfRange
    else nativeStatus cmdPortSet (nativeCall cmdPortSet c (frPort c s) (c.p.drop 4)) s
  commit := fun c s => .reply [] (nativeState cmdPortSet (nativeCall cmdPortSet c (frPort c s) (c.p.drop 4)) s) }

/-- RESAMPLE_SET of S0 with another pitch. -/
def frPitchParams (pitch : Nat) (s : State) : List Byte :=
  let g := s.grid 0
  le 2 pitch ++ le 1 g.preset ++ le 1 g.encoder ++ le 1 g.stepPct ++ le 1 (b2n g.fixedOrigin) ++ zeros 2
    ++ les 8 (if g.fixedOrigin then g.originGiven else 0)

/-- FR_SET_PITCH, opcode 0x7F02: the pitch and two reserved bytes. -/
def cmdFrSetPitch : CommandDef := {
  opcode := 0x7F02
  modes := frModes
  lengths := [4]
  also := fun _ _ => [0x30]
  check := fun c _ s =>
    if !frFits s then stWrongMode
    else if u16 c.p 2 ≠ 0 then stOutOfRange
    else nativeStatus cmdResampleSet (nativeCall cmdResampleSet c 0 (frPitchParams (u16 c.p 0) s)) s
  commit := fun c s => .reply [] (nativeState cmdResampleSet (nativeCall cmdResampleSet c 0 (frPitchParams (u16 c.p 0) s)) s) }

/-- Must S0's learning settings change for FR_LEARN: K is 16 and the station learns? -/
def frLearnChanges (s : State) : Bool := (s.learn 0).set.k ≠ 16 || !learnsHere (s.learn 0)

/-- S0's learning settings for FR_LEARN. -/
def frLearnSet (s : State) : State :=
  if frLearnChanges s then
    regIdle 0 (modLearn 0 (fun l => { l with set := { l.set with k := 16, options := (l.set.options ||| 1) &&& ~~~ 2 } }) s)
  else s

/-- The status of a forerunner command that changes the mode; the transition in progress excludes it (DESIGN CHOICE, assumption 108). -/
def frModeStatus (new : Mode) (s : State) : Nat :=
  if !frFits s then stWrongMode else if s.modes.trans.isSome then stBusy else if s.mode = new then stDone else modeStatus new s

/-- FR_LEARN, opcode 0x7F03. -/
def cmdFrLearn : CommandDef := {
  opcode := 0x7F03
  modes := frModes
  lengths := [0]
  also := fun _ _ => [0x30]
  check := fun _ _ s =>
    if frFits s && frLearnChanges s && s.mode ≠ .configure then stWrongMode else frModeStatus .learn (frLearnSet s)
  commit := fun _ s => .reply [] (if s.mode = .learn then s else goMode .learn 0 (takeOptions 6 0 (frLearnSet s))) }

/-- FR_INSPECT, opcode 0x7F04. -/
def cmdFrInspect : CommandDef := {
  opcode := 0x7F04
  modes := frModes
  lengths := [0]
  check := fun _ _ s => if s.mode = .reduced && frFits s then stDone else frModeStatus .inspect s
  commit := fun _ s => .reply [] (if s.mode = .inspect || s.mode = .reduced then s else goMode .inspect 0 (takeOptions 7 0 s)) }

/-- FR_HALT, opcode 0x7F05. -/
def cmdFrHalt : CommandDef := {
  opcode := 0x7F05
  modes := frModes
  lengths := [0]
  check := fun _ _ s => frModeStatus .configure s
  commit := fun _ s => .reply [] (if s.mode = .configure then s else goMode .configure 0 (takeOptions 4 0 s)) }

/-- The thresholds that an FR_SET_THRESHOLD asks for: its class's, with the DL ones left as they are (R274). -/
def frThresholds (c : Call) (s : State) : Thresholds :=
  { nth {} (s.reg 0).wanted (u8 c.p 0) with seedDe := u16 c.p 4, growDe := u16 c.p 6 }

/-- FR_SET_THRESHOLD, opcode 0x7F06: the class, three reserved bytes, SEED_DE and GROW_DE. -/
def cmdFrSetThreshold : CommandDef := {
  opcode := 0x7F06
  modes := frModes
  lengths := [8]
  also := fun _ _ => [0x30]
  check := fun c _ s =>
    if !frFits s then stWrongMode
    else if 15 < u8 c.p 0 || !zeroAt c.p 1 3 || !(frThresholds c s).ok then stOutOfRange
    else stDone
  commit := fun c s => .reply [] (giveThresholds 0 (setNth (s.reg 0).wanted (u8 c.p 0) (frThresholds c s)) s) }

/-- FR_READ_DEFECTS, opcode 0x7F07. -/
def cmdFrReadDefects : CommandDef := {
  opcode := 0x7F07
  modes := frModes
  lengths := [0]
  replyMax := fun _ => 456
  check := fun _ _ s => if frFits s then stDone else stWrongMode
  commit := fun _ s =>
    let xs := s.sys.frQueue.take 7
    .reply (le 8 xs.length ++ xs.flatMap (padTo 64)) (modSys (fun y => { y with frQueue := y.frQueue.drop 7 }) s) }

/-- FR_JOURNAL_POLICY, opcode 0x7F08. -/
def cmdFrJournalPolicy : CommandDef := {
  opcode := 0x7F08
  modes := frModes
  lengths := [0]
  check := fun _ _ s => if frFits s then stDone else stWrongMode
  commit := fun _ s => .reply [] (setPolicy true s) }

end Sys2Proof.Machine
end

