-- ==== Sys2Proof/Machine/DayBook.lean ====
section
/-!
DEFINITION. Sys2Proof/Machine/DayBook.lean: the commands of the day book (R458, R462).
-/
namespace Sys2Proof.Machine

/-- A job's entry in the list: JOB_ID, RECORDS, BYTES, CURSOR, FLAGS (R462). -/
def dayJobEntry (j : DayJob) (s : State) : List Byte :=
  let xs := jobRecords j.job s
  le 8 j.job ++ le 8 xs.length ++ le 8 (sumNat (xs.map (·.stored))) ++ le 4 j.cursor
    ++ le 4 (b2n j.isProtected + 2 * b2n (jobWriting j.job s))

/-- DAYBOOK_JOBS, opcode 0x0E06: the jobs from START on, oldest first. -/
def cmdDaybookJobs : CommandDef := {
  opcode := 0x0E06
  lengths := [4]
  reads := true
  replyMax := fun c => 32 * u16 c.p 2
  check := fun c _ s => if u16 c.p 2 = 0 || 256 < u16 c.p 2 then stOutOfRange else vaultUser stDone s
  commit := fun c s => .reply (((s.vault.jobs.drop (u16 c.p 0)).take (u16 c.p 2)).flatMap fun j => dayJobEntry j s) s }

/-- DAYBOOK_JOB_SET, opcode 0x0E07: unprotects, protects or deletes a job. -/
def cmdDaybookJobSet : CommandDef := {
  opcode := 0x0E07
  modes := [.standby, .configure, .drain, .maintain]
  lengths := [12]
  check := fun c _ s =>
    if 2 < u8 c.p 8 || !zeroAt c.p 9 3 then stOutOfRange
    else if vaultUser stDone s ≠ stDone then vaultUser stDone s
    else if !s.vault.jobs.any (fun j => j.job = u64 c.p 0) then stAbsent
    else if jobWriting (u64 c.p 0) s then stBusy
    else stDone
  commit := fun c s =>
    let job := u64 c.p 0
    if u8 c.p 8 = 2 then
      .reply [] (vaultDelete (fun o => o.kind = .dayRecord && o.key = job)
        (modVault (fun v => { v with jobs := v.jobs.filter fun j => j.job ≠ job }) s))
    else .reply [] (modVault (fun v => { v with
      jobs := v.jobs.map fun j => if j.job = job then { j with isProtected := u8 c.p 8 = 1 } else j }) s) }

end Sys2Proof.Machine
end

