-- ==== Sys2Proof/Machine/CommandTable.lean ====
section
/-!
DEFINITION. Sys2Proof/Machine/CommandTable.lean: every command the package knows, and the search by opcode (R60).
-/
namespace Sys2Proof.Machine

def commandsBasics : List CommandDef := [
  cmdNop, cmdGetIdentity, cmdGetHealth, cmdCancel, cmdKeyChallenge, cmdKeyResponse, cmdKeyRevoke, cmdReadCapability,
  cmdFrIdentify, cmdFrSetPort, cmdFrSetPitch, cmdFrLearn, cmdFrInspect, cmdFrHalt, cmdFrSetThreshold,
  cmdFrReadDefects, cmdFrJournalPolicy]

def commandsModes : List CommandDef := [
  cmdSetMode, cmdSetSafeState, cmdForceSafe, cmdGetResetCause]

def commandsPower : List CommandDef := [
  cmdEnterSentry, cmdWake, cmdReset]

def commandsLanes : List CommandDef := [
  cmdLaneSet, cmdLaneRegRead, cmdLaneRegWrite]

def commandsPorts : List CommandDef := [
  cmdPortSet, cmdPortStatus, cmdCameraSet, cmdCameraMessage, cmdCameraInfo]

def commandsPhoto : List CommandDef := [
  cmdPhotoStoreBase, cmdPhotoSelectBase, cmdPhotoSetTrim, cmdPhotoRead, cmdPhotoStatus, cmdPhotoCapture]

def commandsPosition : List CommandDef := [
  cmdPosEncoderSet, cmdPosSetCount, cmdPosStatus, cmdPosLatchSet, cmdPosCompareArm]

def commandsResample : List CommandDef := [
  cmdResampleSet, cmdResamplePlaneOffset, cmdResampleStatus]

def commandsStitch : List CommandDef := [
  cmdStationSet, cmdStitchMap, cmdColourMatrix, cmdColourXyz, cmdOutletSet, cmdOutletTable, cmdStitchStatus,
  cmdOutletStatus]

def commandsSpecimens : List CommandDef := [
  cmdLearnSet, cmdGoldenFreeSet, cmdLearnStatus, cmdSpecimenStore, cmdSpecimenRecall, cmdSpecimenDelete,
  cmdSpecimenList]

def commandsRegister : List CommandDef := [
  cmdRegSet, cmdCompareThresholds, cmdStreakSet, cmdRegStatus, cmdStreakList, cmdRegFieldRead]

def commandsSegment : List CommandDef := [
  cmdSegSet, cmdSegRules, cmdSegRulesRead, cmdSegStatus]

def commandsLedger : List CommandDef := [
  cmdLedgerSet, cmdLedgerChain, cmdOutputRules, cmdOutputForce, cmdLedgerStatus, cmdLedgerExport]

def commandsSecondLook : List CommandDef := [
  cmdSlNetworkLoad, cmdSlSet, cmdSlNetworkRead, cmdSlStatus]

def commandsFranking : List CommandDef := [
  cmdFrankHeadSet, cmdFrankWaveform, cmdFrankDensity, cmdFrankMask, cmdFrankSelect, cmdFrankMachine, cmdFrankStatus]

def commandsEventFrame : List CommandDef := [
  cmdEventChannelSet, cmdEventInputSet, cmdEventFire, cmdEventLock, cmdEventBridgeSet, cmdEventStatus]

def commandsTeller : List CommandDef := [
  cmdTellerSet, cmdTellerStationSet, cmdTellerCheck, cmdTellerStatus, cmdTellerRemap]

def commandsDram : List CommandDef := [
  cmdDramInfo, cmdDramSet, cmdDramStatus, cmdDramErrorLog, cmdDramTrain, cmdDramRetrain, cmdDramTest]

def commandsHostLink : List CommandDef := [
  cmdMailboxSet, cmdMailboxStatus, cmdCourierSet, cmdHostLinkStatus]

def commandsCompress : List CommandDef := [
  cmdCompJob, cmdCompStatus]

def commandsVault : List CommandDef := [
  cmdVaultInfo, cmdVaultFormat, cmdVaultSet, cmdVaultStatus, cmdVaultFwWrite, cmdVaultFwActivate]

def commandsDayBook : List CommandDef := [
  cmdDaybookJobs, cmdDaybookJobSet]

def commandsJournal : List CommandDef := [
  cmdJournalPolicy, cmdJournalRate, cmdJournalRead, cmdJournalRelease, cmdJournalStatus]

def commandsChain : List CommandDef := [
  cmdChainStatus, cmdChainEnumerate, cmdChainTimeSet, cmdChainReset, cmdChainWake]

def commandsTwin : List CommandDef := [
  cmdTwinSet, cmdTwinJoin, cmdTwinHandover, cmdTwinStatus]

def commandsCalibration : List CommandDef := [
  cmdCalRun, cmdCalOffsetSet, cmdCalStatus]

def commandsPins : List CommandDef := [
  cmdGpioSet, cmdGpioStatus, cmdAdcRead, cmdI2cTransfer]

/-- Every command, chapter by chapter. -/
def commandTable : List CommandDef :=
  commandsBasics ++ commandsModes ++ commandsPower ++ commandsLanes ++ commandsPorts ++ commandsPhoto ++
    commandsPosition ++ commandsResample ++ commandsStitch ++ commandsSpecimens ++ commandsRegister ++
    commandsSegment ++ commandsLedger ++ commandsSecondLook ++ commandsFranking ++ commandsEventFrame ++
    commandsTeller ++ commandsDram ++ commandsHostLink ++ commandsCompress ++ commandsVault ++ commandsDayBook ++
    commandsJournal ++ commandsChain ++ commandsTwin ++ commandsCalibration ++ commandsPins

/-- The command an opcode names; an opcode that no chapter defines names none, and is refused with BAD_OPCODE (R60). -/
def commandOf (op : Nat) : Option CommandDef := commandTable.find? fun d => d.opcode = op

end Sys2Proof.Machine
end

