-- ==== Sys2Proof/Machine/Registers.lean ====
section
/-!
DEFINITION. Sys2Proof/Machine/Registers.lean: BAR0 (R65, R66, R413): where each write goes, and what each word reads.
-/
namespace Sys2Proof.Machine

/-- One 32-bit write at an offset of BAR0; outside the windows, and on read-only fields, it is ignored (R65, R66). -/
def registerWord (fn offset v : Nat) (s : State) : State :=
  if offset = 0x20 then { s with sys := { s.sys with hostScratch := BitVec.ofNat 32 v } }
  else if offset < 0x100000 then s
  else if offset < 0x200000 then
    (if offset % 0x80 = 0 then doorbell fn ((offset - 0x100000) / 0x80) (v % 2 ^ 32) s else s)
  else if offset < 0x280000 then boxWrite fn ((offset - 0x200000) / 0x40) (offset % 0x40) (v % 2 ^ 32) s
  else if offset < 0x1000000 then s
  else if offset < 0x1100000 then frameWrite (offset - 0x1000000) (v % 2 ^ 32) s
  else if offset < 0x1200000 then posWrite (offset - 0x1100000) (v % 2 ^ 32) s
  else if offset < 0x1300000 then journalWrite fn (offset - 0x1200000) (v % 2 ^ 32) s
  else if offset < 0x1301000 then courierWrite fn ((offset - 0x1300000) / 0x40) (offset % 0x40) (v % 2 ^ 32) s
  else s

/-- Is BAR0 reachable: the endpoint out of reset and its link up, with configuration space ready (R66, R547)? -/
def barReachable (s : State) : Bool :=
  s.host.configReady && s.host.up && !s.modes.perst && !s.modes.por && !s.modes.pinHeld && s.mode ≠ .sentry

/-- REGISTER_WRITE: a naturally aligned 32-bit write, or a 64-bit one as two, low word first; any other is ignored (R413). -/
def registerWrite (fn size offset value : Nat) (s : State) : State :=
  if !barReachable s then s
  else if size = 4 && offset % 4 = 0 then registerWord fn offset value s
  else if size = 8 && offset % 8 = 0 then registerWord fn (offset + 4) (value / 2 ^ 32) (registerWord fn offset (value % 2 ^ 32) s)
  else s

/-- The identity registers (R66). -/
def identityWord (offset : Nat) (s : State) : Nat :=
  match offset with
  | 0x00 => 0x1D7A + 2 ^ 16 * 0x1296
  | 0x04 => 1 + 2 ^ 8 * b2n Config.gradeI
  | 0x08 => if s.sys.fwRunning then s.sys.fwVersion else 0
  | 0x10 => Config.serial.toNat % 2 ^ 32
  | 0x14 => Config.serial.toNat / 2 ^ 32
  | 0x18 => if s.sys.fwRunning then
        s.chain.postcode + 2 ^ 8 * s.mode.code + 2 ^ 12 * b2n s.chain.isHead + 2 ^ 13 * b2n s.modes.strapTwin + 2 ^ 14
      else 0xFF + 2 ^ 8 * 2
  | 0x1C => 0x100
  | 0x20 => s.sys.hostScratch.toNat
  | _ => 0

/-- A word of the capability list (R68): little-endian over the entries where they stand. -/
def capabilityWord (offset : Nat) (s : State) : Nat :=
  match (placedCapabilities s).find? fun e => e.1 ≤ offset && offset < e.1 + 8 + e.2.2.length with
  | some e => u32 ((capabilityEntry e.2.1 s).getD []) (offset - e.1)
  | none => 0

/-- What an aligned 32-bit read of BAR0 answers, and the state after: the reads of some words capture others (R65, R185, R478). Before
firmware runs every window but the identity registers reads as at reset. No row of the table reads; this is what reads see. -/
def registerRead (fn offset : Nat) (s : State) : Nat × State :=
  if !barReachable s || offset % 4 ≠ 0 then (0, s)
  else if offset < 0x100 then (identityWord offset s, s)
  else if offset < 0x100000 then (capabilityWord offset s, s)
  else if offset < 0x200000 then (0, s)
  else if offset < 0x280000 then (boxWord fn ((offset - 0x200000) / 0x40) (offset % 0x40) s, s)
  else if offset < 0x1000000 then (0, s)
  else if offset < 0x1100000 then (frameRead (offset - 0x1000000) s, s)
  else if offset < 0x1200000 then posRead (offset - 0x1100000) s
  else if offset < 0x1300000 then journalRead fn (offset - 0x1200000) s
  else if offset < 0x1301000 then (courierWord fn ((offset - 0x1300000) / 0x40) (offset % 0x40) s, s)
  else (0, s)

end Sys2Proof.Machine
end

