-- ==== Sys2Proof/Machine/Commands.lean ====
section
/-!
DEFINITION. Sys2Proof/Machine/Commands.lean: commands on their way (chapters 02 and 23): dispatch (R50), the service port (R43), and
the frames that carry a command along the chain, stage it on every package, and commit or abort it (R54-R56, R492).
-/
namespace Sys2Proof.Machine

/-! ### Dispatch (R50) -/

/-- Does a CANCEL that is staged for the chain hold a waiting command in its place (R54)? -/
def cancelHolds (x : Packet) (s : State) : Bool :=
  s.sys.staged.any fun y => y.op = 0x0004 && cancels (cmdCancel.call y.args) x.args.src x.args.tag

/-- Must a waiting command wait on, for a block that a started command holds (R52) or behind one of its own source and class that must (R50)? -/
def blocked (x : Packet) (s : State) : Bool :=
  mustWait (commandOf x.op) x.args s || (s.sys.waiting.takeWhile (· ≠ x)).any fun y =>
    y.args.src.index = x.args.src.index && y.args.cls = x.args.cls && mustWait (commandOf y.op) y.args s

/-- May a waiting command start at a dispatch (R50, R52, R91)? -/
def dispatchable (x : Packet) (s : State) : Bool :=
  (s.sys.fwRunning || interpreted x.args s) && startsInPause x.op x.args s && !cancelHolds x s && !blocked x s

/-- The next source in turn among those given: the first from the turn on, or else the lowest. -/
def nextSource (turn : Nat) (xs : List Nat) : Nat :=
  match xs.filter (turn ≤ ·) with
  | [] => xs.foldl min (xs.headD 0)
  | y :: ys => ys.foldl min y

/-- COMMAND_DISPATCH: a mode transition in progress completes, and of the highest class present the oldest waiting command of the source whose
turn it is starts (R50, R51, R82). -/
def dispatch (s : State) : State :=
  let s := if transitionReady s then endTransition s else s
  let xs := s.sys.waiting.filter fun x => dispatchable x s
  match xs with
  | [] => s
  | x :: rest =>
    let cls := rest.foldl (fun c y => min c y.args.cls) x.args.cls
    let same := xs.filter fun y => y.args.cls = cls
    let src := nextSource (Tab.get 0 s.sys.rr cls) (same.map fun y => y.args.src.index)
    match same.find? fun y => y.args.src.index = src with
    | none => s
    | some y =>
      let s : State := { s with sys := { s.sys with
        waiting := s.sys.waiting.erase y, rr := Tab.set 0 s.sys.rr cls (src + 1) } }
      startPacket (commandOf y.op) y.op y.args s

/-! ### Packets as bytes -/

/-- The packet that bytes spell: the header of R34 and the parameters it declares. -/
def readPacket (src : Source) (b : List Byte) (s : State) : Nat × Args :=
  (u16 b 0,
    { t := s.now
      src := src
      flags := u8 b 2
      cls := u8 b 3
      tag := u16 b 4
      postcode := u8 b 6
      block := u8 b 7
      plen := u16 b 8
      resv := u32 b 10 + 2 ^ 32 * u16 b 14
      params := (b.drop 16).take (u16 b 8) })

/-! ### The service port (R43) -/

/-- WRITE_PACKET: a frame that ends before the bytes its header declares, or that holds more than 256, is ignored. -/
def writePacket (frame : List Byte) (s : State) : State :=
  if frame.length < 16 || frame.length < 16 + u16 frame 8 || 256 < frame.length then
    modService (fun x => { x with refused := true }) s
  else
    let p := readPacket .service frame s
    takePacket (commandOf p.1) p.1 p.2 s

/-- The status byte. -/
def Service.statusByte (x : Service) : Nat := b2n x.busy + 2 * b2n x.ready + 4 * b2n x.refused

/-- The turnaround byte of READ_STATUS and READ_REPLY, before the data (26_electrical_and_package.md, low-speed timing). -/
def turnaround : Byte := 0xFF#8

/-- READ_STATUS: the byte is clocked out, and REFUSED_FRAME clears. -/
def readStatus (s : State) : State :=
  modService (fun x => { x with refused := false }) (send .reply 16 2 (turnaround :: le 1 s.sys.service.statusByte) s)

/-- READ_REPLY: n bytes are clocked out; with the last byte of the reply REPLY_READY clears. -/
def readReply (n : Nat) (s : State) : State :=
  let x := s.sys.service
  modService (fun y => { y with ready := y.ready && n < x.reply.length }) (send .reply 16 3 (turnaround :: x.reply.take n) s)

/-! ### Commands on the chain (R45, R54-R56, R492) -/

/-- A package on the way whose link onwards carries no frames answers ABSENT, back the way the command came (R47, R497). -/
def answerAbsent (port : ChainPort) (op : Nat) (a : Args) (s : State) : State :=
  let o := originOf a s
  let data := failWhole op a stAbsent a.postcode
  let h := replyHeader a op (frStatus op stAbsent) s.chain.postcode data.length (Tab.get 0 s.sys.seqs 17)
  sendFrame port 0x11 s.chain.postcode (if port = .up then 0 else o.1) (originBytes o.1 o.2 ++ h ++ data)
    (journalRefusal a op stAbsent (countReply 17 s))

/-- COMMAND: upwards to the head, which takes it; downwards to DEST, or on every package for 0xFF. -/
def commandFrame (f : ChainFrame) (origin ref : Nat) (packet : List Byte) (s : State) : State :=
  let body := originBytes origin ref ++ packet
  receiveFrame f 0x10 body (fun s =>
    let p := readPacket (.chain origin ref) packet s
    match f.port with
    | .down =>
      if s.chain.isHead then arrive (commandOf p.1) p.1 p.2 s
      else if s.chain.upLink.carries then sendFrame .up 0x10 f.source f.dest body s
      else answerAbsent .down p.1 p.2 s
    | .up =>
      let on := if f.dest = s.chain.postcode then s
        else if f.dest ≠ 0xFF && !s.chain.downLink.carries then answerAbsent .up p.1 p.2 s
        else sendFrame .down 0x10 f.source f.dest body s
      if f.dest = s.chain.postcode || f.dest = 0xFF then arrive (commandOf p.1) p.1 p.2 on else on) s

/-- The head abandons a chain-wide command: every package discards what it has staged (R54, R55). -/
def abortChain (status staged failed : Nat) (c : ChainCmd) (s : State) : State :=
  endChainCmd status staged failed c (sendFrame .down 0x14 s.chain.postcode 0xFF (chainBody c.args s) s)

/-- Every package has staged: the head commits its own part and sends COMMIT (R54). -/
def commitChain (d : CommandDef) (c : ChainCmd) (s : State) : State :=
  let all := 2 ^ s.chain.size - 1
  let finish := fun (c : ChainCmd) (s' : State) =>
    let s' := sendFrame .down 0x13 s'.chain.postcode 0xFF (chainBody c.args s') s'
    setChainCmd { c with committed := true } s'
  let s := dropStaged c.args s
  match d.commit (d.call c.args) s with
  | .reply data s' => finish { c with data := data } s'
  | .later s' note => finish { c with later := true } (beginStarted d c.args note s s')
  | .ended st data s' => finish { c with data := data, status := st } s'
  | .refuse st => abortChain st (all - packageBit s.chain.postcode) (packageBit s.chain.postcode)
      { c with failed := [(s.chain.postcode, st, 0)] } s

/-- A chain-wide command under CHECK_ONLY has staged everywhere: everything is discarded, and the reply says what the head's part would have come
to (R34). -/
def checkChain (d : CommandDef) (c : ChainCmd) (s : State) : State :=
  let r := match d.commit (d.call c.args) s with
    | .reply data _ => (stDone, data)
    | .ended st data _ => (st, data)
    | .later _ _ => (stDone, d.foresees (d.call c.args) s)
    | .refuse st => (st, [])
  let s := sendFrame .down 0x14 s.chain.postcode 0xFF (chainBody c.args s) s
  let s := dropStaged c.args (dropChainCmd c s)
  sendReply c.args c.op r.1 (if r.1 = stDone then okData c.args r.2 s else if r.1 = stPartial then r.2
    else failWhole c.op c.args r.1 s.chain.postcode) s

/-- Every staging answer is in: commit, or abort with the first failure by postcode (R48, R54). -/
def decideChain (c : ChainCmd) (s : State) : State :=
  match (sortBy (fun e : Nat × Nat × Nat => e.1) c.failed) with
  | e :: _ => abortChain e.2.1 (packageMask c.staged) (packageMask (c.failed.map (·.1))) c s
  | [] =>
    match commandOf c.op with
    | none => s
    | some d => if c.args.checkOnly then checkChain d c s else commitChain d c s

/-- A package's answer to staging has come to the head: the last of them decides. After the commit such an answer is that package's part failing
(R48, R54, R56). -/
def takeStaged (source status blocks : Nat) (c : ChainCmd) (s : State) : State :=
  if c.committed then
    if status = stDone || c.acked.contains source || c.failed.any (fun e => e.1 = source) then s
    else chainCommitted { c with failed := c.failed ++ [(source, status, blocks)] } s
  else if !c.awaited.contains source then s
  else
    let c := { c with
      awaited := c.awaited.filter (· ≠ source)
      staged := if status = stDone then c.staged ++ [source] else c.staged
      failed := if status = stDone then c.failed else c.failed ++ [(source, status, blocks)] }
    let s := setChainCmd c s
    if c.awaited = [] then decideChain c s else s

/-- The chain-wide command of the head that a frame names by ORIGIN and TAG. -/
def chainCmdNamed (origin ref tag : Nat) (s : State) : Option ChainCmd := s.sys.chainCmds.find? fun c => namedBy c.args origin ref tag s

/-- The staged change that a frame names. -/
def stagedNamed (origin ref tag : Nat) (s : State) : Option Staged := s.sys.staged.find? fun x => namedBy x.args origin ref tag s

/-- STAGED: a staging answer on its way to the head (R54, R492). -/
def stagedFrame (f : ChainFrame) (origin ref tag status failedBlocks : Nat) (s : State) : State :=
  let body := originBytes origin ref ++ le 2 tag ++ le 2 status ++ le 2 failedBlocks ++ zeros 6
  receiveFrame f 0x12 body (fun s =>
    if f.port = .up then s
    else if !s.chain.isHead then sendFrame .up 0x12 f.source f.dest body s
    else match chainCmdNamed origin ref tag s with
      | none => s
      | some c => takeStaged f.source status failedBlocks c s) s

/-- A package commits what it has staged, and acknowledges it: at once, or, where the command goes on, when it ends (R54, R56). What it has
reserved becomes the command's own. A commit cannot fail; one that hardware spoils all the same answers with its status. -/
def commitStaged (d : CommandDef) (x : Staged) (s : State) : State :=
  let s := dropStaged x.args s
  let ack := fun (s' : State) => sendFrame .up 0x15 s'.chain.postcode 0 (chainBody x.args s') s'
  let fail := fun (st : Nat) (s' : State) =>
    sendFrame .up 0x12 s'.chain.postcode 0 (stagedBody x.args st x.args.mask s') (journalRefusal x.args x.op st s')
  match d.commit (d.call x.args) s with
  | .reply _ s' => ack s'
  | .ended st _ s' => if st = stDone || st = stPartial then ack s' else fail st s'
  | .later s' note => beginStarted d x.args note s s'
  | .refuse st => fail st s

/-- COMMIT: relayed downwards, and committed here (R54, R56). -/
def commitFrame (f : ChainFrame) (origin ref tag : Nat) (s : State) : State :=
  receiveFrame f 0x13 (commitBody origin ref tag) (fun s =>
    if f.port = .down then s
    else
      let s := sendFrame .down 0x13 f.source 0xFF (commitBody origin ref tag) s
      match stagedNamed origin ref tag s with
      | none => s
      | some x => match commandOf x.op with
        | none => dropStaged x.args s
        | some d => commitStaged d x s) s

/-- ABORT: relayed downwards; what is staged for the command is discarded (R56). -/
def abortFrame (f : ChainFrame) (origin ref tag : Nat) (s : State) : State :=
  receiveFrame f 0x14 (commitBody origin ref tag) (fun s =>
    if f.port = .down then s
    else
      let s := sendFrame .down 0x14 f.source 0xFF (commitBody origin ref tag) s
      match stagedNamed origin ref tag s with
      | none => s
      | some x => discardStaged x s) s

/-- COMMIT_ACK: on its way to the head (R56). -/
def ackFrame (f : ChainFrame) (origin ref tag : Nat) (s : State) : State :=
  receiveFrame f 0x15 (commitBody origin ref tag) (fun s =>
    if f.port = .up then s
    else if !s.chain.isHead then sendFrame .up 0x15 f.source f.dest (commitBody origin ref tag) s
    else match chainCmdNamed origin ref tag s with
      | none => s
      | some c =>
        if !c.committed || c.acked.contains f.source then s
        else chainCommitted { c with acked := c.acked ++ [f.source] } s) s

/-- STAGING_TIMEOUT: 20 ms after staging began. Without every staging answer the command is abandoned (R55). A commit has no such limit: only a
break in the chain ends one that not every package acknowledges (R56). -/
def stagingTimeout (s : State) : State :=
  match s.sys.chainCmds.find? fun c => !c.committed && c.since + 20000000 ≤ s.now with
  | none => s
  | some c => abortChain stTimedOut (packageMask c.staged) (packageMask (c.awaited ++ c.failed.map (·.1))) c s

end Sys2Proof.Machine
end

