-- ==== Sys2Proof/Machine/Settle.lean ====
section
/-!
DEFINITION. Sys2Proof/Machine/Settle.lean: what follows from a command within its own step: the tasks of the sorting frame (R356), the
lane groups that have changed, the mode changes asked for, the events raised and the journal entries that have arisen; and `answer`,
the one form in which every command ends.
-/
namespace Sys2Proof.Machine

/-- The task of input i, activated by an event of multiplicity n (R356). -/
def performTask (i n : Nat) (s : State) : State :=
  if i < 8 then latchTask i i s
  else if i < 72 then courierStart true (i - 8) s
  else if i < 200 then sendMsix ((i - 72) / 64) ((i - 72) % 64) s
  else if i < 232 then gpioTask (i - 200) s
  else if i < 240 then journal 0x0901 0 93 (le 1 (i - 232) ++ zeros 3 ++ le 1 n) s
  else if i = 240 then modModes (fun m => { m with faultRequest := some 0, faultTask := true }) s
  else s

/-- The lane groups whose links have come up or gone down: the sensor ports, the chain, the twin link (R106, R142, R497, R506). -/
def settleLinks (s : State) : State :=
  let s := syncGroup 13 (chainUp .down) (chainDown .down) (syncGroup 12 (chainUp .up) (chainDown .up) (syncPorts (restLinks s)))
  applyLanes (settleTwin s)

/-- The transition into SENTRY is recorded and raised, the host link goes down (R414), and every command that is still outstanding is answered, before any clock stops: what
was relayed times out, as when a link goes; the rest is ABORTED, a mode change having ended it (R47, R57, R83, R94, R465; DEDUCED,
assumption 78). -/
def announceSentry (s : State) : State :=
  let s := s.sys.waiting.foldl (fun s x => refuse x.op stAborted x.args s) { s with sys := { s.sys with waiting := [] } }
  let s := s.sys.chainCmds.foldl (fun s c =>
    if c.committed then loseCommit c s else endChainCmd stTimedOut 0 (2 ^ s.chain.size - 1) c s) s
  let s := s.sys.started.foldl (fun s x => finishStarted x (if x.relayed then stTimedOut else stAborted) [] s) s
  linkDown (stopCouriers (raise 0 (journal 0x0100 0 94 (le 1 2 ++ le 1 1 ++ le 1 0) s)))

/-- The mode changes asked for: a fault, a transition, a SET_MODE that waited, the reductions (R73-R77, R383), and the rail enables whose time has
come (R538-R540). SENTRY comes last. -/
def settleModes (s : State) : State :=
  let s := railTurn (transitionDue (takeFault s))
  let s := if s.modes.wanted = some (.sentry, 0) then s else takeWanted s
  followReductions (runWaitingMode s)

/-- The work that the change has left: output gates, pseudo-records, compression engines, second-look jobs (R310, R299, R437, R326). -/
def settleWork (s : State) : State :=
  let s := (List.range 4).foldl (fun s k => issuePseudos k s) (takeFirings s)
  noDistrict (releaseJobs (returnJobs (compFill s)))

/-- One round; a run of the frame takes at most 256 hops within it. -/
def settleRound (s : State) : State :=
  updateVids (recordArising (frameRounds performTask 256 (settleWork (settleModes (settleLinks s)))))

/-- Has a round left something for another? -/
def unsettled (s : State) : Bool :=
  !s.frame.raised.isEmpty || !s.journal.arising.isEmpty || s.modes.faultRequest.isSome || !s.pos.firings.isEmpty
    || (s.modes.wanted.isSome && s.modes.wanted ≠ some (.sentry, 0)) || linksRest s

/-- Rounds until nothing is left; `fuel` bounds them. -/
def settleRounds : Nat → State → State
  | 0, s => s
  | fuel + 1, s =>
    let t := settleRound s
    if unsettled t then settleRounds fuel t else t

/-- Everything that follows in the same step; entry to SENTRY, for which every lane goes OFF, and a soft reset come last (R83, R84, R105). -/
def settle (s : State) : State :=
  let t := settleRounds 16 s
  takeReset (enterSentry (if sentryDue t then settleRounds 16 (lanesOff (announceSentry t)) else t))

/-- Every command ends so: it came on state s and its own effect left u; what follows is settled, and the queue is not its to touch. -/
def answer (s u : State) : Host.Outcome State Fault Refusal := .next { settle u with pending := s.pending }

end Sys2Proof.Machine
end

