-- ==== Sys2Proof/Machine/Rows02.lean ====
section
/-!
DEFINITION. Sys2Proof/Machine/Rows02.lean: command packets and keys (chapter 02): one meaning for each of their rows in the command table.
-/
namespace Sys2Proof.Machine

/-- COMMAND_DISPATCH (R50): The firmware starts the oldest waiting command of the highest class present, checking mode and tag and staging its changes. -/
def execCommandDispatch (t : Nat) (s : State) : Host.Outcome State Fault Refusal :=
  answer s (dispatch (s.begin t))

/-- NOP (R61): Returns DONE once the packet has passed every header check. -/
def execNop (a : Args) (s : State) : Host.Outcome State Fault Refusal :=
  answer s (runCommand cmdNop a s)

/-- GET_IDENTITY (R61): Returns the 32-byte identity of the package. -/
def execGetIdentity (a : Args) (s : State) : Host.Outcome State Fault Refusal :=
  answer s (runCommand cmdGetIdentity a s)

/-- READ_CAPABILITY (R61): Returns the capability entry with the given ID, or ABSENT. -/
def execReadCapability (a : Args) (s : State) : Host.Outcome State Fault Refusal :=
  answer s (runCommand cmdReadCapability a s)

/-- GET_HEALTH (R61): Returns temperatures, rail warnings, throttle state, queue depth and reset kind. -/
def execGetHealth (a : Args) (s : State) : Host.Outcome State Fault Refusal :=
  answer s (runCommand cmdGetHealth a s)

/-- CANCEL (R61): Cancels a named outstanding command that has not started, which then replies ABORTED. -/
def execCancel (a : Args) (s : State) : Host.Outcome State Fault Refusal :=
  answer s (runCommand cmdCancel a s)

/-- KEY_CHALLENGE (R62): Issues a fresh nonce for an integrator key scope, replacing any earlier challenge. -/
def execKeyChallenge (a : Args) (s : State) : Host.Outcome State Fault Refusal :=
  answer s (runCommand cmdKeyChallenge a s)

/-- KEY_RESPONSE (R62): Verifies a signed challenge against the OTP key hashes, consumes the challenge and grants the scope on success. -/
def execKeyResponse (a : Args) (s : State) : Host.Outcome State Fault Refusal :=
  answer s (runCommand cmdKeyResponse a s)

/-- KEY_REVOKE (R62): Withdraws every integrator key grant. -/
def execKeyRevoke (a : Args) (s : State) : Host.Outcome State Fault Refusal :=
  answer s (runCommand cmdKeyRevoke a s)

/-- WRITE_PACKET (R43): An SPI service-port frame delivers a command packet, or is ignored with REFUSED_FRAME. -/
def execWritePacket (t : Nat) (frame : List Byte) (s : State) : Host.Outcome State Fault Refusal :=
  answer s (writePacket frame (s.begin t))

/-- READ_STATUS (R43): An SPI transaction returns the service status byte and clears REFUSED_FRAME. -/
def execReadStatus (t : Nat) (s : State) : Host.Outcome State Fault Refusal :=
  answer s (readStatus (s.begin t))

/-- READ_REPLY (R43): An SPI transaction clocks out the reply and clears REPLY_READY after its last byte. -/
def execReadReply (t : Nat) (n : Nat) (s : State) : Host.Outcome State Fault Refusal :=
  answer s (readReply n (s.begin t))

/-- STAGING_TIMEOUT (R55): The head abandons a chain-wide command when staging answers are missing after 20 ms and replies TIMED_OUT. -/
def execStagingTimeout (t : Nat) (s : State) : Host.Outcome State Fault Refusal :=
  answer s (stagingTimeout (s.begin t))

/-- FR_IDENTIFY (R63): Forerunner command returning DEVICE_ID 0x0640 with sub-version 0x96. -/
def execFrIdentify (a : Args) (s : State) : Host.Outcome State Fault Refusal :=
  answer s (runCommand cmdFrIdentify a s)

/-- FR_SET_PORT (R63): Forerunner command configuring the port mapped by PORT_MAP through the native port command. -/
def execFrSetPort (a : Args) (s : State) : Host.Outcome State Fault Refusal :=
  answer s (runCommand cmdFrSetPort a s)

/-- FR_SET_PITCH (R63): Forerunner command setting the output pitch of S0. -/
def execFrSetPitch (a : Args) (s : State) : Host.Outcome State Fault Refusal :=
  answer s (runCommand cmdFrSetPitch a s)

/-- FR_LEARN (R63): Forerunner command entering LEARN for S0 with K = 16. -/
def execFrLearn (a : Args) (s : State) : Host.Outcome State Fault Refusal :=
  answer s (runCommand cmdFrLearn a s)

/-- FR_INSPECT (R63): Forerunner command entering INSPECT. -/
def execFrInspect (a : Args) (s : State) : Host.Outcome State Fault Refusal :=
  answer s (runCommand cmdFrInspect a s)

/-- FR_HALT (R63): Forerunner command returning to CONFIGURE. -/
def execFrHalt (a : Args) (s : State) : Host.Outcome State Fault Refusal :=
  answer s (runCommand cmdFrHalt a s)

/-- FR_READ_DEFECTS (R63): Forerunner command returning and removing up to 7 defect records of S0 from the forerunner queue. -/
def execFrReadDefects (a : Args) (s : State) : Host.Outcome State Fault Refusal :=
  answer s (runCommand cmdFrReadDefects a s)

/-- FR_JOURNAL_POLICY (R472): Forerunner command selecting the forerunner journal policy. -/
def execFrJournalPolicy (a : Args) (s : State) : Host.Outcome State Fault Refusal :=
  answer s (runCommand cmdFrJournalPolicy a s)

/-- REGISTER_WRITE (R65): A BAR0 write to a register field without behaviour of its own updates it, or is ignored or counted as a fault. -/
def execRegisterWrite (t : Nat) (fn : Fin 2) (size : Nat) (offset value : Nat) (host : List HostWrite) (s : State) : Host.Outcome State Fault Refusal :=
  answer s (registerWrite fn.val size offset value (hostWrites host (s.begin t)))

end Sys2Proof.Machine
end

