-- ==== Sys2Proof/Machine/Rows03.lean ====
section
/-!
DEFINITION. Sys2Proof/Machine/Rows03.lean: modes, resets and power (chapters 03, 26): one meaning for each of their rows in the command table.
-/
namespace Sys2Proof.Machine

/-- SET_MODE (R73): Requests a mode transition, checked against the transition table and admission, and replies when it completes. -/
def execSetMode (a : Args) (s : State) : Host.Outcome State Fault Refusal :=
  answer s (runCommand cmdSetMode a s)

/-- ENTER_SENTRY (R83): From STANDBY, saves optional resume image, spills the journal, parks DRAM and releases the rail enables. -/
def execEnterSentry (a : Args) (s : State) : Host.Outcome State Fault Refusal :=
  answer s (runCommand cmdEnterSentry a s)

/-- WAKE (R79): Service-port command that starts the wake from SENTRY, and does nothing in other modes. -/
def execWake (a : Args) (s : State) : Host.Outcome State Fault Refusal :=
  answer s (runCommand cmdWake a s)

/-- GET_RESET_CAUSE (R84): Returns the last reset kind and cause, rail, wake sources and reset counts. -/
def execGetResetCause (a : Args) (s : State) : Host.Outcome State Fault Refusal :=
  answer s (runCommand cmdGetResetCause a s)

/-- SET_SAFE_STATE (R71): Sets the idle and fault safe states of the process outputs. -/
def execSetSafeState (a : Args) (s : State) : Host.Outcome State Fault Refusal :=
  answer s (runCommand cmdSetSafeState a s)

/-- RESET (R84): Requests a soft reset of the package or a district reset of one district. -/
def execReset (a : Args) (s : State) : Host.Outcome State Fault Refusal :=
  answer s (runCommand cmdReset a s)

/-- SOFT_RESET_BEGIN (R84): Twenty microseconds after its reply, a requested soft reset acts on the whole package except the Sentry domain. -/
def execSoftResetBegin (t : Nat) (s : State) : Host.Outcome State Fault Refusal :=
  answer s (softResetBegin (s.begin t))

/-- FORCE_SAFE (R77): Registered command entering FAULT_HOLD, overriding any transition in progress. -/
def execForceSafe (a : Args) (s : State) : Host.Outcome State Fault Refusal :=
  answer s (runCommand cmdForceSafe a s)

/-- WAKE_N_ASSERTED (R545): WAKE_N held low for 10 µs wakes the device from SENTRY when enabled. -/
def execWakeNAsserted (t : Nat) (s : State) : Host.Outcome State Fault Refusal :=
  answer s (wakeIf 0 (s.begin t))

/-- CHAIN_WAKE_DETECT (R496): A Sentry signal detector sees chain signal for 100 µs and wakes the package when enabled. -/
def execChainWakeDetect (t : Nat) (s : State) : Host.Outcome State Fault Refusal :=
  answer s (wakeIf 1 (s.begin t))

/-- ALARM_WAKE (R79): The alarm fires ALARM_TICKS after SENTRY entry and wakes the device. -/
def execAlarmWake (t : Nat) (s : State) : Host.Outcome State Fault Refusal :=
  answer s (alarmWake (s.begin t))

/-- BOOT_COMPLETE (R81): Hub firmware is authenticated and running, FW_RUNNING is set and the device enters STANDBY or ENUMERATE. -/
def execBootComplete (t : Nat) (norGood : Bool) (version trainedMask : Nat) (s : State) : Host.Outcome State Fault Refusal :=
  answer s (bootComplete norGood version trainedMask (s.begin t))

/-- POR_RELEASE (R537): All group S rails above 89.5 % and the crystal running for 8 ms release POR. -/
def execPorRelease (t : Nat) (head twin test : Bool) (s : State) : Host.Outcome State Fault Refusal :=
  answer s (porRelease head twin test (s.begin t))

/-- RAIL_BELOW_RESET (R85): A rail below its reset level causes a POR for VDD_SENTRY or a pin reset for any other rail. -/
def execRailBelowReset (t : Nat) (x : Fin 9 × RailLevel) (s : State) : Host.Outcome State Fault Refusal :=
  answer s (railBelowReset x.1 x.2.mv x.2.ns (s.begin t))

/-- RESET_N_ASSERTED (R545): RESET_N low for 25 samples begins a pin reset. -/
def execResetNAsserted (t : Nat) (s : State) : Host.Outcome State Fault Refusal :=
  answer s (resetAsserted (s.begin t))

/-- PIN_RESET_RELEASE (R545): The pin reset ends 20 µs after RESET_N goes high and the straps are sampled. -/
def execPinResetRelease (t : Nat) (head twin test : Bool) (s : State) : Host.Outcome State Fault Refusal :=
  answer s (pinRelease head twin test (s.begin t))

/-- RAIL_BELOW_WARNING (R91): A rail below its warning level raises BROWNOUT_WARN and pauses non-Registered work. -/
def execRailBelowWarning (t : Nat) (r : Fin 9) (x : RailLevel) (s : State) : Host.Outcome State Fault Refusal :=
  answer s (railWarn r x.mv x.ns (s.begin t))

/-- RAIL_RECOVERED (R91): A rail rising above its warning clear level starts the 5 ms recovery wait. -/
def execRailRecovered (t : Nat) (r : Fin 9) (x : RailRise) (s : State) : Host.Outcome State Fault Refusal :=
  answer s (railRecovered r x.mv x.lowest (s.begin t))

/-- BROWNOUT_PAUSE_END (R91): Five milliseconds after the last rail recovered, paused work resumes and BROWNOUT_RECOVERED is raised. -/
def execBrownoutPauseEnd (t : Nat) (s : State) : Host.Outcome State Fault Refusal :=
  answer s (pauseEnd (s.begin t))

/-- WATCHDOG_WARN (R86): The firmware watchdog reaches 500 ms without service. -/
def execWatchdogWarn (t : Nat) (s : State) : Host.Outcome State Fault Refusal :=
  answer s (watchdogWarn (s.begin t))

/-- WATCHDOG_EXPIRY (R86): At 1 s the watchdog applies the fault state and performs a soft reset with cause 0x01. -/
def execWatchdogExpiry (t : Nat) (s : State) : Host.Outcome State Fault Refusal :=
  answer s (watchdogExpiry (s.begin t))

/-- AUTO_DRAIN_STOP_DETECT (R76): No encoder advances beyond its backlash for 500 ms and the device enters DRAIN under AUTO_DRAIN. -/
def execAutoDrainStopDetect (t : Nat) (s : State) : Host.Outcome State Fault Refusal :=
  answer s (autoDrainStop (s.begin t))

/-- DRAIN_COMPLETE (R73): Queued drain work finishes and the device enters STANDBY or CONFIGURE. -/
def execDrainComplete (t : Nat) (s : State) : Host.Outcome State Fault Refusal :=
  answer s (drainComplete (s.begin t))

/-- RAIL_GROUP_UP (R538): A switched rail group reports power good and the next power-up step follows. -/
def execRailGroupUp (t : Nat) (g : Fin 2) (s : State) : Host.Outcome State Fault Refusal :=
  answer s (railGroupUp g (s.begin t))

/-- RAIL_GROUP_TIMEOUT (R539): A switched rail group not up by its limit holds the package in pin reset and releases the enables. -/
def execRailGroupTimeout (t : Nat) (g : Fin 2) (s : State) : Host.Outcome State Fault Refusal :=
  answer s (railTimeout g (s.begin t))

/-- RAIL_RETRY (R539): One hundred milliseconds after a failed power-up the Sentry domain tries again, up to three attempts. -/
def execRailRetry (t : Nat) (s : State) : Host.Outcome State Fault Refusal :=
  answer s (railRetry (s.begin t))

/-- RAIL_DISCHARGED (R540): A group rail falling below 10 % lets a pending wake assert its enable again. -/
def execRailDischarged (t : Nat) (g : Fin 2) (s : State) : Host.Outcome State Fault Refusal :=
  answer s (railDischarged g (s.begin t))

end Sys2Proof.Machine
end

