-- ==== Sys2Proof/Machine/Rows04.lean ====
section
/-!
DEFINITION. Sys2Proof/Machine/Rows04.lean: the serial lanes (chapter 04): one meaning for each of their rows in the command table.
-/
namespace Sys2Proof.Machine

/-- LANE_SET (R119): Applies rate, enable and polarity settings atomically to a mask of sensor lanes. -/
def execLaneSet (a : Args) (s : State) : Host.Outcome State Fault Refusal :=
  answer s (runCommand cmdLaneSet a s)

/-- LANE_REG_READ (R119): Returns up to 12 words of the lane register space. -/
def execLaneRegRead (a : Args) (s : State) : Host.Outcome State Fault Refusal :=
  answer s (runCommand cmdLaneRegRead a s)

/-- LANE_REG_WRITE (R119): Writes masked bits of one lane register word, subject to the in-use and group checks. -/
def execLaneRegWrite (a : Args) (s : State) : Host.Outcome State Fault Refusal :=
  answer s (runCommand cmdLaneRegWrite a s)

/-- LANE_SLIP (R112): A write of SLIP in bit-slip mode moves the block offset by one bit. -/
def execLaneSlip (t : Nat) (l : Fin 58) (s : State) : Host.Outcome State Fault Refusal :=
  answer s (laneSlip l (s.begin t))

/-- LANE_RESTART (R117): A write of RESTART returns the lane to DETECT for a full bring-up. -/
def execLaneRestart (t : Nat) (l : Fin 58) (s : State) : Host.Outcome State Fault Refusal :=
  answer s (laneRestart l (s.begin t))

/-- LANE_COUNT_CLEAR (R117): A write of COUNT_CLEAR clears the lane's error and test counters. -/
def execLaneCountClear (t : Nat) (l : Fin 58) (s : State) : Host.Outcome State Fault Refusal :=
  answer s (laneCountClear l (s.begin t))

/-- LANE_INJECT_ONE (R116): A write of INJECT_ONE injects one error of the selected kind. -/
def execLaneInjectOne (t : Nat) (l : Fin 58) (s : State) : Host.Outcome State Fault Refusal :=
  answer s (laneInject l (s.begin t))

/-- LANE_INJECT_PERIODIC (R116): Once per 2^k bits an error of the selected kind is injected. -/
def execLaneInjectPeriodic (t : Nat) (l : Fin 58) (s : State) : Host.Outcome State Fault Refusal :=
  answer s (laneInjectPeriodic l (s.begin t))

/-- LANE_TEST_ENTER (R115): Setting GEN_EN or CHK_EN takes the lane to TEST, and clearing both returns it to DETECT. -/
def execLaneTestEnter (t : Nat) (l : Fin 58) (gen chk : Bool) (s : State) : Host.Outcome State Fault Refusal :=
  answer s (laneTest l gen chk (s.begin t))

/-- LANE_SIGNAL_DETECTED (R105): Signal present for 10 µs moves a lane from DETECT, or from IDLE with DETECT_WAKE, to clock recovery. -/
def execLaneSignalDetected (t : Nat) (l : Fin 58) (s : State) : Host.Outcome State Fault Refusal :=
  answer s (laneSignal l (s.begin t))

/-- LANE_BIT_LOCKED (R105): Clock recovery locks and the lane begins the sync-header search. -/
def execLaneBitLocked (t : Nat) (l : Fin 58) (s : State) : Host.Outcome State Fault Refusal :=
  answer s (laneBitLocked l (s.begin t))

/-- LANE_BLOCK_LOCKED (R112): Sixty-four consecutive valid sync headers give block lock and the lane moves to TRAIN or DESKEW. -/
def execLaneBlockLocked (t : Nat) (l : Fin 58) (pos : Fin 66) (s : State) : Host.Outcome State Fault Refusal :=
  answer s (laneBlockLocked l pos (s.begin t))

/-- LANE_TRAIN_RECEIVED (R104): A TRAIN block sets the requested preset and completes the handshake when RX_READY and READY_SEEN meet. -/
def execLaneTrainReceived (t : Nat) (l : Fin 58) (payload : List Byte) (adapted : Bool) (fit : Equaliser) (preset : Fin 8) (s : State) : Host.Outcome State Fault Refusal :=
  answer s (laneTrain l payload adapted fit preset (s.begin t))

/-- LANE_BLIND_ADAPT_DONE (R113): A listen-only lane ends 1 ms of blind adaptation and enters DESKEW. -/
def execLaneBlindAdaptDone (t : Nat) (l : Fin 58) (fit : Equaliser) (s : State) : Host.Outcome State Fault Refusal :=
  answer s (laneBlind l fit (s.begin t))

/-- LANE_ALIGN_RECEIVED (R101): ALIGN blocks with equal SEQ on every lane complete group deskew. -/
def execLaneAlignReceived (t : Nat) (l : Fin 58) (index groupSize : Fin 16) (seq : Fin 65536) (row : Nat) (s : State) : Host.Outcome State Fault Refusal :=
  answer s (laneAlign l index groupSize seq row (s.begin t))

/-- LANE_CAPS_RECEIVED (R110): A partner CAPS is checked and the group enters ACTIVE or LISTEN, BACKOFF on mismatch, or sets CAPS_CHANGED. -/
def execLaneCapsReceived (t : Nat) (l : Fin 58) (caps : List Byte) (s : State) : Host.Outcome State Fault Refusal :=
  answer s (laneCaps l caps (s.begin t))

/-- LANE_BRINGUP_TIMEOUT (R105): A bring-up or resume limit passes and the lane returns to DETECT, or to BACKOFF on the fourth return. -/
def execLaneBringupTimeout (t : Nat) (l : Fin 58) (s : State) : Host.Outcome State Fault Refusal :=
  answer s (laneTimeout l (s.begin t))

/-- LANE_BLOCK_LOCK_LOST (R106): Sixteen invalid sync headers in 64 blocks take the group down to the resume path. -/
def execLaneBlockLockLost (t : Nat) (l : Fin 58) (s : State) : Host.Outcome State Fault Refusal :=
  answer s (laneLockLost l (s.begin t))

/-- LANE_BACKOFF_EXPIRED (R105): One hundred milliseconds after BACKOFF the lane returns to DETECT. -/
def execLaneBackoffExpired (t : Nat) (l : Fin 58) (s : State) : Host.Outcome State Fault Refusal :=
  answer s (laneBackoffEnd l (s.begin t))

/-- LANE_ELASTIC_SLIP (R103): An elastic buffer overflow or underflow loses or repeats a block and restarts deskew. -/
def execLaneElasticSlip (t : Nat) (l : Fin 58) (s : State) : Host.Outcome State Fault Refusal :=
  answer s (laneElastic l (s.begin t))

/-- LANE_ERR_WINDOW (R117): At the end of each 1 ms window sync errors are compared with ERR_LIMIT. -/
def execLaneErrWindow (t : Nat) (l : Fin 58) (counts : LaneWindow) (s : State) : Host.Outcome State Fault Refusal :=
  answer s (laneWindow l counts (s.begin t))

/-- LANE_MARKER_SEND (R102): A transmitter sends ALIGN, FILLER or a repeat CAPS when its block count falls due. -/
def execLaneMarkerSend (t : Nat) (l : Fin 58) (filler : Bool) (s : State) : Host.Outcome State Fault Refusal :=
  answer s (laneMarker l filler (s.begin t))

end Sys2Proof.Machine
end

