-- ==== Sys2Proof/Machine/Rows05.lean ====
section
/-!
DEFINITION. Sys2Proof/Machine/Rows05.lean: the sensor ports (chapter 05): one meaning for each of their rows in the command table.
-/
namespace Sys2Proof.Machine

/-- LINE_PACKET_RECEIVED (R126): A whole line packet is checked and accepted, discarded or used to close the previous line. -/
def execLinePacketReceived (t : Nat) (n : Fin 12) (p : PortPacket) (s : State) : Host.Outcome State Fault Refusal :=
  answer s (packetReceived n p (s.begin t))

/-- LINE_RATE_WINDOW (R132): After every 4,096 lines the measured line rate is compared with the declared rate. -/
def execLineRateWindow (t : Nat) (n : Fin 12) (s : State) : Host.Outcome State Fault Refusal :=
  answer s (rateWindow n (s.begin t))

/-- CLOCK_MAP_WINDOW (R129): After each 1,024 input lines the camera clock offset and rate ratio are updated. -/
def execClockMapWindow (t : Nat) (n : Fin 12) (s : State) : Host.Outcome State Fault Refusal :=
  answer s (clockWindow n (s.begin t))

/-- CAMERA_ACK_RECEIVED (R138): A camera ACK answers the outstanding message and may set a new epoch and FIRST_LINE. -/
def execCameraAckReceived (t : Nat) (n : Fin 12) (msg : List Byte) (s : State) : Host.Outcome State Fault Refusal :=
  answer s (camAck n msg (s.begin t))

/-- CAMERA_INFO_RECEIVED (R135): A camera INFO is stored and raises INFO_CHANGED when its body differs. -/
def execCameraInfoReceived (t : Nat) (n : Fin 12) (head body : List Byte) (crc : BitVec 32) (s : State) : Host.Outcome State Fault Refusal :=
  answer s (infoReceived n (head ++ body ++ le 4 crc.toNat) (s.begin t))

/-- VENDOR_REPLY_RECEIVED (R134): A camera VENDOR_REPLY answers the outstanding vendor message. -/
def execVendorReplyReceived (t : Nat) (n : Fin 12) (head body : List Byte) (crc : BitVec 32) (s : State) : Host.Outcome State Fault Refusal :=
  answer s (camVendor n (head ++ body ++ le 4 crc.toNat) (s.begin t))

/-- CAMERA_MSG_RESEND (R134): A device message unanswered for 1 ms is resent under the same SEQ. -/
def execCameraMsgResend (t : Nat) (n : Fin 12) (s : State) : Host.Outcome State Fault Refusal :=
  answer s (camResend n (s.begin t))

/-- PORT_SET (R143): Configures a port's line format, rate, delays, statistics mailbox and exposure. -/
def execPortSet (a : Args) (s : State) : Host.Outcome State Fault Refusal :=
  answer s (runCommand cmdPortSet a s)

/-- PORT_STATUS (R143): Returns a port's link state, epoch and counters, optionally clearing them. -/
def execPortStatus (a : Args) (s : State) : Host.Outcome State Fault Refusal :=
  answer s (runCommand cmdPortStatus a s)

/-- CAMERA_SET (R138): Sends SET_EXPOSURE under a new epoch and replies when the camera answers. -/
def execCameraSet (a : Args) (s : State) : Host.Outcome State Fault Refusal :=
  answer s (runCommand cmdCameraSet a s)

/-- CAMERA_MESSAGE (R143): Sends a VENDOR message and returns the camera's reply. -/
def execCameraMessage (a : Args) (s : State) : Host.Outcome State Fault Refusal :=
  answer s (runCommand cmdCameraMessage a s)

/-- CAMERA_INFO (R143): Returns the stored INFO body of a port. -/
def execCameraInfo (a : Args) (s : State) : Host.Outcome State Fault Refusal :=
  answer s (runCommand cmdCameraInfo a s)

end Sys2Proof.Machine
end

