-- ==== Sys2Proof/Machine/Rows06.lean ====
section
/-!
DEFINITION. Sys2Proof/Machine/Rows06.lean: photometric correction (chapter 06): one meaning for each of their rows in the command table.
-/
namespace Sys2Proof.Machine

/-- PHOTO_STORE_BASE (R151): Writes and seals a base set in the calibration area of the vault. -/
def execPhotoStoreBase (a : Args) (s : State) : Host.Outcome State Fault Refusal :=
  answer s (runCommand cmdPhotoStoreBase a s)

/-- PHOTO_SELECT_BASE (R152): Sets a port's base-set selection mode and loads the set it names. -/
def execPhotoSelectBase (a : Args) (s : State) : Host.Outcome State Fault Refusal :=
  answer s (runCommand cmdPhotoSelectBase a s)

/-- PHOTO_SET_TRIM (R155): Loads a trim set, or the default, into one or more ports. -/
def execPhotoSetTrim (a : Args) (s : State) : Host.Outcome State Fault Refusal :=
  answer s (runCommand cmdPhotoSetTrim a s)

/-- PHOTO_READ (R162): Returns the base or trim set image in use. -/
def execPhotoRead (a : Args) (s : State) : Host.Outcome State Fault Refusal :=
  answer s (runCommand cmdPhotoRead a s)

/-- PHOTO_STATUS (R162): Returns base-set state, bracket, weight and correction counters. -/
def execPhotoStatus (a : Args) (s : State) : Host.Outcome State Fault Refusal :=
  answer s (runCommand cmdPhotoStatus a s)

/-- PHOTO_CAPTURE (R160): Starts averaging a port's lines per pixel at a chosen stage point. -/
def execPhotoCapture (a : Args) (s : State) : Host.Outcome State Fault Refusal :=
  answer s (runCommand cmdPhotoCapture a s)

/-- PHOTO_CAPTURE_DONE (R160): LINES lines have been counted and the capture means and spreads are returned. -/
def execPhotoCaptureDone (t : Nat) (n : Fin 12) (s : State) : Host.Outcome State Fault Refusal :=
  answer s (captureDone n (s.begin t))

/-- PHOTO_CAPTURE_TIMEOUT (R161): A capture not complete in time returns TIMED_OUT. -/
def execPhotoCaptureTimeout (t : Nat) (n : Fin 12) (s : State) : Host.Outcome State Fault Refusal :=
  answer s (captureTimeout n (s.begin t))

/-- BASE_SET_LOAD_DONE (R155): A vault read of a base set selected under FOLLOW completes and the set takes effect. -/
def execBaseSetLoadDone (t : Nat) (n : Fin 12) (s : State) : Host.Outcome State Fault Refusal :=
  answer s (baseLoaded n (s.begin t))

end Sys2Proof.Machine
end

