-- ==== Sys2Proof/Machine/Rows07.lean ====
section
/-!
DEFINITION. Sys2Proof/Machine/Rows07.lean: web position (chapter 07): one meaning for each of their rows in the command table.
-/
namespace Sys2Proof.Machine

/-- ENCODER_EDGE (R164): An accepted quadrature edge updates the count, direction, run extreme and high-water. -/
def execEncoderEdge (t : Nat) (q : Fin 4) (e : QuadEdge) (s : State) : Host.Outcome State Fault Refusal :=
  answer s (moved (encoderEdge q e.kind e.held (s.begin t)))

/-- INDEX_EDGE (R171): A forward Z edge is checked against NOMINAL and may re-zero the count. -/
def execIndexEdge (t : Nat) (e : IndexPulse) (s : State) : Host.Outcome State Fault Refusal :=
  answer s (moved (indexEdge e.q e.held (s.begin t)))

/-- SSI_FRAME (R169): A completed SSI frame adds its delta to the count or counts as illegal. -/
def execSsiFrame (t : Nat) (q : Fin 2) (data : Nat) (parity : Bool) (sampled : Nat) (s : State) : Host.Outcome State Fault Refusal :=
  answer s (moved (ssiFrame (4 + q) data parity sampled (s.begin t)))

/-- LATCH_PERIODIC (R176): A periodic latch unit takes a postmark each PERIOD_NS and delivers track latches to districts. -/
def execLatchPeriodic (t : Nat) (u : Fin 8) (s : State) : Host.Outcome State Fault Refusal :=
  answer s (placeStations (latchPeriodic u (s.begin t)))

/-- LATCH_TRIGGER (R176): A write of TRIGGER takes a latch in SOFTWARE mode. -/
def execLatchTrigger (t : Nat) (u : Fin 8) (s : State) : Host.Outcome State Fault Refusal :=
  answer s (placeStations (latchTrigger u (s.begin t)))

/-- COMPARE_ARM (R183): A write of ARM queues ARM_POS, fires it at once, or refuses it. -/
def execCompareArm (t : Nat) (c : Fin 16) (s : State) : Host.Outcome State Fault Refusal :=
  answer s (compareArm c (s.begin t))

/-- COMPARE_FLUSH (R185): A write of FLUSH empties a compare unit's queue. -/
def execCompareFlush (t : Nat) (c : Fin 16) (s : State) : Host.Outcome State Fault Refusal :=
  answer s (compareFlush c (s.begin t))

/-- ENCODER_CLEAR_FAULT (R166): A write of CLEAR_FAULT clears a channel's ENCODER_FAULT. -/
def execEncoderClearFault (t : Nat) (q : Fin 6) (s : State) : Host.Outcome State Fault Refusal :=
  answer s (clearEncoderFault q (s.begin t))

/-- SPEED_WINDOW (R185): Each millisecond a channel's SPEED is updated. -/
def execSpeedWindow (t : Nat) (q : Fin 6) (s : State) : Host.Outcome State Fault Refusal :=
  answer s (speedWindow q (s.begin t))

/-- POS_ENCODER_SET (R173): Sets encoder channel settings at a sample boundary. -/
def execPosEncoderSet (a : Args) (s : State) : Host.Outcome State Fault Refusal :=
  answer s (runCommand cmdPosEncoderSet a s)

/-- POS_SET_COUNT (R170): Sets a channel's count, high-water and extreme and clears the index reference. -/
def execPosSetCount (a : Args) (s : State) : Host.Outcome State Fault Refusal :=
  answer s (runCommand cmdPosSetCount a s)

/-- POS_STATUS (R187): Returns a channel's count, high-water, extreme, speed and fault counters. -/
def execPosStatus (a : Args) (s : State) : Host.Outcome State Fault Refusal :=
  answer s (runCommand cmdPosStatus a s)

/-- POS_LATCH_SET (R178): Configures a latch unit's channel, mode, event and period. -/
def execPosLatchSet (a : Args) (s : State) : Host.Outcome State Fault Refusal :=
  answer s (runCommand cmdPosLatchSet a s)

/-- POS_COMPARE_ARM (R183): Arms a compare unit at a position, optionally flushing first. -/
def execPosCompareArm (a : Args) (s : State) : Host.Outcome State Fault Refusal :=
  answer s (runCommand cmdPosCompareArm a s)

end Sys2Proof.Machine
end

