-- ==== Sys2Proof/Machine/Rows08.lean ====
section
/-!
DEFINITION. Sys2Proof/Machine/Rows08.lean: distance resampling (chapter 08): one meaning for each of their rows in the command table.
-/
namespace Sys2Proof.Machine

/-- PLACE_EXTRAPOLATE (R191): Two track periods after mid-exposure without a latch, the line is placed by extrapolation. -/
def execPlaceExtrapolate (t : Nat) (n : Fin 12) (s : State) : Host.Outcome State Fault Refusal :=
  answer s (placeExtrapolate n (s.begin t))

/-- OUTPUT_LINE_ISSUE (R205): An output line is filtered and issued with its header once its boxes are complete. -/
def execOutputLineIssue (t : Nat) (n : Fin 12) (s : State) : Host.Outcome State Fault Refusal :=
  answer s (outputLine n (s.begin t))

/-- RESAMPLE_SET (R189): Sets a station's pitch, preset, encoder, step threshold and origin. -/
def execResampleSet (a : Args) (s : State) : Host.Outcome State Fault Refusal :=
  answer s (runCommand cmdResampleSet a s)

/-- RESAMPLE_PLANE_OFFSET (R192): Sets the plane offsets of a port. -/
def execResamplePlaneOffset (a : Args) (s : State) : Host.Outcome State Fault Refusal :=
  answer s (runCommand cmdResamplePlaneOffset a s)

/-- RESAMPLE_STATUS (R209): Returns a port's grid, next line and resampling counters. -/
def execResampleStatus (a : Args) (s : State) : Host.Outcome State Fault Refusal :=
  answer s (runCommand cmdResampleStatus a s)

end Sys2Proof.Machine
end

