-- ==== Sys2Proof/Machine/Rows09.lean ====
section
/-!
DEFINITION. Sys2Proof/Machine/Rows09.lean: stitching and outlets (chapter 09): one meaning for each of their rows in the command table.
-/
namespace Sys2Proof.Machine

/-- SEAM_VALUES_ARRIVE (R217): Neighbour overlap values for a line arrive on the seam ring and are blended. -/
def execSeamValuesArrive (t : Nat) (n : Fin 12) (fromLeft : Bool) (line : Nat) (s : State) : Host.Outcome State Fault Refusal :=
  answer s (seamArrive n.val fromLeft line (s.begin t))

/-- OUTLET_RATE_WINDOW (R227): Each millisecond an outlet's measured rate is checked and frames dropped above it. -/
def execOutletRateWindow (t : Nat) (o : Fin 8) (s : State) : Host.Outcome State Fault Refusal :=
  answer s (outletWindow o.val (s.begin t))

/-- STATION_SET (R210): Sets a station's ports, mono flag and width. -/
def execStationSet (a : Args) (s : State) : Host.Outcome State Fault Refusal :=
  answer s (runCommand cmdStationSet a s)

/-- STITCH_MAP (R211): Sets a port's binning and cross-web position map. -/
def execStitchMap (a : Args) (s : State) : Host.Outcome State Fault Refusal :=
  answer s (runCommand cmdStitchMap a s)

/-- COLOUR_MATRIX (R221): Sets a port's colour matrix and offsets. -/
def execColourMatrix (a : Args) (s : State) : Host.Outcome State Fault Refusal :=
  answer s (runCommand cmdColourMatrix a s)

/-- COLOUR_XYZ (R222): Sets a station's XYZ matrix. -/
def execColourXyz (a : Args) (s : State) : Host.Outcome State Fault Refusal :=
  answer s (runCommand cmdColourXyz a s)

/-- OUTLET_SET (R224): Configures an outlet's crop, scale, format, frame size and mailbox. -/
def execOutletSet (a : Args) (s : State) : Host.Outcome State Fault Refusal :=
  answer s (runCommand cmdOutletSet a s)

/-- OUTLET_TABLE (R225): Loads an outlet's encode table or restores sRGB. -/
def execOutletTable (a : Args) (s : State) : Host.Outcome State Fault Refusal :=
  answer s (runCommand cmdOutletTable a s)

/-- STITCH_STATUS (R229): Returns a station's check result, coverage, seams and counters. -/
def execStitchStatus (a : Args) (s : State) : Host.Outcome State Fault Refusal :=
  answer s (runCommand cmdStitchStatus a s)

/-- OUTLET_STATUS (R229): Returns an outlet's rate and frame counters. -/
def execOutletStatus (a : Args) (s : State) : Host.Outcome State Fault Refusal :=
  answer s (runCommand cmdOutletStatus a s)

end Sys2Proof.Machine
end

