-- ==== Sys2Proof/Machine/Rows10.lean ====
section
/-!
DEFINITION. Sys2Proof/Machine/Rows10.lean: specimens and learning (chapter 10): one meaning for each of their rows in the command table.
-/
namespace Sys2Proof.Machine

/-- LEARN_FINALISE_DONE (R243): Specimen finalisation completes, the specimen loads and AUTO_INSPECT may follow. -/
def execLearnFinaliseDone (t : Nat) (k : Fin 4) (s : State) : Host.Outcome State Fault Refusal :=
  answer s (finaliseDone k.val (s.begin t))

/-- SPECIMEN_STORE_DONE (R247): A specimen store finishes writing and becomes visible in the library. -/
def execSpecimenStoreDone (t : Nat) (k : Fin 4) (fill : Nat) (s : State) : Host.Outcome State Fault Refusal :=
  answer s (storeDone k.val fill (s.begin t))

/-- SPECIMEN_RECALL_DONE (R248): A recalled specimen is read, checked and loaded. -/
def execSpecimenRecallDone (t : Nat) (k : Fin 4) (crcOk : Bool) (s : State) : Host.Outcome State Fault Refusal :=
  answer s (recallDone k.val crcOk (s.begin t))

/-- LEARN_SET (R233): Sets a station's learning role and parameters. -/
def execLearnSet (a : Args) (s : State) : Host.Outcome State Fault Refusal :=
  answer s (runCommand cmdLearnSet a s)

/-- GOLDEN_FREE_SET (R246): Sets the golden-free check settings of a station. -/
def execGoldenFreeSet (a : Args) (s : State) : Host.Outcome State Fault Refusal :=
  answer s (runCommand cmdGoldenFreeSet a s)

/-- LEARN_STATUS (R250): Returns a station's learning state and results. -/
def execLearnStatus (a : Args) (s : State) : Host.Outcome State Fault Refusal :=
  answer s (runCommand cmdLearnStatus a s)

/-- SPECIMEN_STORE (R247): Starts storing a station's loaded specimen under a JOB_ID. -/
def execSpecimenStore (a : Args) (s : State) : Host.Outcome State Fault Refusal :=
  answer s (runCommand cmdSpecimenStore a s)

/-- SPECIMEN_RECALL (R248): Starts loading a stored specimen into a station. -/
def execSpecimenRecall (a : Args) (s : State) : Host.Outcome State Fault Refusal :=
  answer s (runCommand cmdSpecimenRecall a s)

/-- SPECIMEN_DELETE (R250): Deletes a stored specimen from the library. -/
def execSpecimenDelete (a : Args) (s : State) : Host.Outcome State Fault Refusal :=
  answer s (runCommand cmdSpecimenDelete a s)

/-- SPECIMEN_LIST (R250): Returns library entries in JOB_ID order. -/
def execSpecimenList (a : Args) (s : State) : Host.Outcome State Fault Refusal :=
  answer s (runCommand cmdSpecimenList a s)

end Sys2Proof.Machine
end

