-- ==== Sys2Proof/Machine/Rows11.lean ====
section
/-!
DEFINITION. Sys2Proof/Machine/Rows11.lean: registration and compare (chapter 11): one meaning for each of their rows in the command table.
-/
namespace Sys2Proof.Machine

/-- FR_SET_THRESHOLD (R274): Forerunner command setting SEED_DE and GROW_DE of one tolerance class. -/
def execFrSetThreshold (a : Args) (s : State) : Host.Outcome State Fault Refusal :=
  answer s (runCommand cmdFrSetThreshold a s)

/-- TILE_ROW_REGISTER (R258): A searched tile row updates the tracker and the field. -/
def execTileRowRegister (t : Nat) (k : Fin 4) (s : State) : Host.Outcome State Fault Refusal :=
  answer s (tileRowRegister k.val (s.begin t))

/-- ACQUIRE_DONE (R254): Acquisition over the window completes and sets the tracker or starts a new window. -/
def execAcquireDone (t : Nat) (k : Fin 4) (s : State) : Host.Outcome State Fault Refusal :=
  answer s (acquireDone k.val (s.begin t))

/-- REG_SET (R274): Sets registration parameters of a station. -/
def execRegSet (a : Args) (s : State) : Host.Outcome State Fault Refusal :=
  answer s (runCommand cmdRegSet a s)

/-- COMPARE_THRESHOLDS (R265): Sets the thresholds of selected tolerance classes. -/
def execCompareThresholds (a : Args) (s : State) : Host.Outcome State Fault Refusal :=
  answer s (runCommand cmdCompareThresholds a s)

/-- STREAK_SET (R271): Sets streak detector parameters and ignore ranges. -/
def execStreakSet (a : Args) (s : State) : Host.Outcome State Fault Refusal :=
  answer s (runCommand cmdStreakSet a s)

/-- REG_STATUS (R274): Returns the tracker state and compare counters. -/
def execRegStatus (a : Args) (s : State) : Host.Outcome State Fault Refusal :=
  answer s (runCommand cmdRegStatus a s)

/-- STREAK_LIST (R274): Returns the streaks tracked by a station. -/
def execStreakList (a : Args) (s : State) : Host.Outcome State Fault Refusal :=
  answer s (runCommand cmdStreakList a s)

/-- REG_FIELD_READ (R274): Returns tile entries of a registration field. -/
def execRegFieldRead (a : Args) (s : State) : Host.Outcome State Fault Refusal :=
  answer s (runCommand cmdRegFieldRead a s)

end Sys2Proof.Machine
end

