-- ==== Sys2Proof/Machine/Rows12.lean ====
section
/-!
DEFINITION. Sys2Proof/Machine/Rows12.lean: segmentation (chapter 12): one meaning for each of their rows in the command table.
-/
namespace Sys2Proof.Machine

/-- FRAGMENT_SUMMARY_ARRIVE (R279): A district's fragment summary reaches the lead district, which labels the line when all are in. -/
def execFragmentSummaryArrive (t : Nat) (k : Fin 4) (j : Fin 6) (line : Nat) (s : State) : Host.Outcome State Fault Refusal :=
  answer s (summaryArrive k.val j.val line (s.begin t))

/-- SEG_SET (R296): Sets a station's segmentation parameters. -/
def execSegSet (a : Args) (s : State) : Host.Outcome State Fault Refusal :=
  answer s (runCommand cmdSegSet a s)

/-- SEG_RULES (R296): Loads a station's classification rule table. -/
def execSegRules (a : Args) (s : State) : Host.Outcome State Fault Refusal :=
  answer s (runCommand cmdSegRules a s)

/-- SEG_RULES_READ (R296): Returns the classification rule table in force. -/
def execSegRulesRead (a : Args) (s : State) : Host.Outcome State Fault Refusal :=
  answer s (runCommand cmdSegRulesRead a s)

/-- SEG_STATUS (R296): Returns segmentation counters and rule hits. -/
def execSegStatus (a : Args) (s : State) : Host.Outcome State Fault Refusal :=
  answer s (runCommand cmdSegStatus a s)

end Sys2Proof.Machine
end

