-- ==== Sys2Proof/Machine/Rows13.lean ====
section
/-!
DEFINITION. Sys2Proof/Machine/Rows13.lean: the defect ledger (chapter 13): one meaning for each of their rows in the command table.
-/
namespace Sys2Proof.Machine

/-- CROP_DELIVER (R306): A captured crop reaches the crop mailbox. -/
def execCropDeliver (t : Nat) (s : State) : Host.Outcome State Fault Refusal :=
  answer s (cropDeliver (s.begin t))

/-- GATE_CLOSE (R311): A gate releases its output when H passes close or MIN_PULSE_US has elapsed. -/
def execGateClose (t : Nat) (r : Fin 16) (s : State) : Host.Outcome State Fault Refusal :=
  answer s (gateClose r.val (s.begin t))

/-- BACKLOG_DELIVER (R307): A backlogged record is delivered when its mailbox has room. -/
def execBacklogDeliver (t : Nat) (m : Fin 8192) (s : State) : Host.Outcome State Fault Refusal :=
  answer s (backlogDeliver m.val (s.begin t))

/-- LEDGER_SET (R307): Sets a station's ledger mailboxes, masks, crop mailbox and options. -/
def execLedgerSet (a : Args) (s : State) : Host.Outcome State Fault Refusal :=
  answer s (runCommand cmdLedgerSet a s)

/-- LEDGER_CHAIN (R308): Sets the head's chain ledger mailbox. -/
def execLedgerChain (a : Args) (s : State) : Host.Outcome State Fault Refusal :=
  answer s (runCommand cmdLedgerChain a s)

/-- OUTPUT_RULES (R309): Loads the 16 output rules and claims their compare units. -/
def execOutputRules (a : Args) (s : State) : Host.Outcome State Fault Refusal :=
  answer s (runCommand cmdOutputRules a s)

/-- OUTPUT_FORCE (R315): Asserts and holds or releases a process output. -/
def execOutputForce (a : Args) (s : State) : Host.Outcome State Fault Refusal :=
  answer s (runCommand cmdOutputForce a s)

/-- LEDGER_STATUS (R315): Returns ledger counters and output states. -/
def execLedgerStatus (a : Args) (s : State) : Host.Outcome State Fault Refusal :=
  answer s (runCommand cmdLedgerStatus a s)

/-- LEDGER_EXPORT (R315): Reads day-book records of a job, per package, optionally advancing cursors. -/
def execLedgerExport (a : Args) (s : State) : Host.Outcome State Fault Refusal :=
  answer s (runCommand cmdLedgerExport a s)

end Sys2Proof.Machine
end

