-- ==== Sys2Proof/Machine/Rows14.lean ====
section
/-!
DEFINITION. Sys2Proof/Machine/Rows14.lean: second look (chapter 14): one meaning for each of their rows in the command table.
-/
namespace Sys2Proof.Machine

/-- SL_JOB_START (R324): A second-look job with the earliest deadline starts on a free cluster. -/
def execSlJobStart (t : Nat) (x : Fin 16) (s : State) : Host.Outcome State Fault Refusal :=
  answer s (jobStart x.val (s.begin t))

/-- SL_JOB_DONE (R322): A second-look job completes and its verdict amendment is issued. -/
def execSlJobDone (t : Nat) (d : Fin 4) (c : Fin 4) (s : State) : Host.Outcome State Fault Refusal :=
  answer s (jobDone (4 * d.val + c.val) (s.begin t))

/-- SL_NETWORK_LOAD (R321): Loads or removes a station's network image. -/
def execSlNetworkLoad (a : Args) (s : State) : Host.Outcome State Fault Refusal :=
  answer s (runCommand cmdSlNetworkLoad a s)

/-- SL_SET (R329): Sets MAX_AGE_LINES, default verdicts and minimum scores. -/
def execSlSet (a : Args) (s : State) : Host.Outcome State Fault Refusal :=
  answer s (runCommand cmdSlSet a s)

/-- SL_NETWORK_READ (R331): Returns the loaded network image's summary. -/
def execSlNetworkRead (a : Args) (s : State) : Host.Outcome State Fault Refusal :=
  answer s (runCommand cmdSlNetworkRead a s)

/-- SL_STATUS (R331): Returns second-look queue and verdict counters. -/
def execSlStatus (a : Args) (s : State) : Host.Outcome State Fault Refusal :=
  answer s (runCommand cmdSlStatus a s)

end Sys2Proof.Machine
end

