-- ==== Sys2Proof/Machine/Rows15.lean ====
section
/-!
DEFINITION. Sys2Proof/Machine/Rows15.lean: the franking unit (chapter 15): one meaning for each of their rows in the command table.
-/
namespace Sys2Proof.Machine

/-- FRANK_FIRE_DEFERRED (R338): A column held for T_min fires once T_min has passed. -/
def execFrankFireDeferred (t : Nat) (h : Fin 2) (s : State) : Host.Outcome State Fault Refusal :=
  answer s (fireDeferred h.val (s.begin t))

/-- HEAD_FAULT_ASSERTED (R335): FRKh_FAULT_N asserted stops the head after the column in progress. -/
def execHeadFaultAsserted (t : Nat) (h : Fin 2) (s : State) : Host.Outcome State Fault Refusal :=
  answer s (headFault h.val (s.begin t))

/-- HEAD_TEMP_SAMPLE (R346): A head temperature mean is computed and the head becomes hot or cool. -/
def execHeadTempSample (t : Nat) (h : Fin 2) (codes : List (BitVec 12)) (s : State) : Host.Outcome State Fault Refusal :=
  answer s (headSample h.val (codes.map BitVec.toNat) (s.begin t))

/-- REWIND_WEB_STOPPED (R350): Speed below STOP_COUNTS_S for 20 ms advances a rewind step. -/
def execRewindWebStopped (t : Nat) (s : State) : Host.Outcome State Fault Refusal :=
  answer s (rewindStopped (s.begin t))

/-- REWIND_TIMEOUT (R351): A rewind limit passes and the rewind fails. -/
def execRewindTimeout (t : Nat) (s : State) : Host.Outcome State Fault Refusal :=
  answer s (rewindTimeout (s.begin t))

/-- REWIND_HOLD_RELEASE (R351): Twenty milliseconds after a failed rewind WEB_HOLD is released. -/
def execRewindHoldRelease (t : Nat) (s : State) : Host.Outcome State Fault Refusal :=
  answer s (rewindRelease (s.begin t))

/-- FRANK_HEAD_SET (R353): Sets a head's role, geometry, temperature and clock settings. -/
def execFrankHeadSet (a : Args) (s : State) : Host.Outcome State Fault Refusal :=
  answer s (runCommand cmdFrankHeadSet a s)

/-- FRANK_WAVEFORM (R334): Sets a head's drop-size waveforms. -/
def execFrankWaveform (a : Args) (s : State) : Host.Outcome State Fault Refusal :=
  answer s (runCommand cmdFrankWaveform a s)

/-- FRANK_DENSITY (R345): Sets the density tables of the colours. -/
def execFrankDensity (a : Args) (s : State) : Host.Outcome State Fault Refusal :=
  answer s (runCommand cmdFrankDensity a s)

/-- FRANK_MASK (R344): Loads a head's nozzle mask. -/
def execFrankMask (a : Args) (s : State) : Host.Outcome State Fault Refusal :=
  answer s (runCommand cmdFrankMask a s)

/-- FRANK_SELECT (R339): Sets a head's entry selection and symbol content. -/
def execFrankSelect (a : Args) (s : State) : Host.Outcome State Fault Refusal :=
  answer s (runCommand cmdFrankSelect a s)

/-- FRANK_MACHINE (R349): Sets the machine profile and rewind limits. -/
def execFrankMachine (a : Args) (s : State) : Host.Outcome State Fault Refusal :=
  answer s (runCommand cmdFrankMachine a s)

/-- FRANK_STATUS (R353): Returns a head's state and counters. -/
def execFrankStatus (a : Args) (s : State) : Host.Outcome State Fault Refusal :=
  answer s (runCommand cmdFrankStatus a s)

/-- FRK_FAULT_RELEASED (R335): FRKh_FAULT_N is released and the head may fire again. -/
def execFrkFaultReleased (t : Nat) (h : Fin 2) (s : State) : Host.Outcome State Fault Refusal :=
  answer s (headFaultEnds h.val (s.begin t))

end Sys2Proof.Machine
end

