-- ==== Sys2Proof/Machine/Rows16.lean ====
section
/-!
DEFINITION. Sys2Proof/Machine/Rows16.lean: event routing (chapter 16): one meaning for each of their rows in the command table.
-/
namespace Sys2Proof.Machine

/-- CHANNEL_FIRE (R357): A write of FIRE makes a channel carry one event. -/
def execChannelFire (t : Nat) (c : Fin 128) (s : State) : Host.Outcome State Fault Refusal :=
  answer s (fireChannel c.val (s.begin t))

/-- SW_FIRE (R358): A write of SW_FIRE raises software sources SW0 to SW7. -/
def execSwFire (t : Nat) (mask : BitVec 8) (s : State) : Host.Outcome State Fault Refusal :=
  answer s (fireSw mask.toNat (s.begin t))

/-- CHANNEL_LOCK (R364): A write of LOCK with the key locks a channel. -/
def execChannelLock (t : Nat) (c : Fin 128) (key : BitVec 8) (s : State) : Host.Outcome State Fault Refusal :=
  answer s (channelWrite c.val 0x04 (2 + 256 * key.toNat) (s.begin t))

/-- HELD_EVENT_RELEASE (R361): A held fresh event is carried once the channel may originate again. -/
def execHeldEventRelease (t : Nat) (c : Fin 128) (s : State) : Host.Outcome State Fault Refusal :=
  answer s (releaseHeld performTask c.val (s.begin t))

/-- OWED_ACTIVATION (R360): A COUNT input performs one owed activation per hub clock. -/
def execOwedActivation (t : Nat) (j : Fin 320) (s : State) : Host.Outcome State Fault Refusal :=
  answer s (payOwed performTask j.val (s.begin t))

/-- EVENT_CHANNEL_SET (R354): Sets a channel's producer and software-fire permission. -/
def execEventChannelSet (a : Args) (s : State) : Host.Outcome State Fault Refusal :=
  answer s (runCommand cmdEventChannelSet a s)

/-- EVENT_INPUT_SET (R355): Sets a task input's channel, enable, mode and divide. -/
def execEventInputSet (a : Args) (s : State) : Host.Outcome State Fault Refusal :=
  answer s (runCommand cmdEventInputSet a s)

/-- EVENT_FIRE (R357): Fires a mask of channels and software sources in one clock. -/
def execEventFire (a : Args) (s : State) : Host.Outcome State Fault Refusal :=
  answer s (runCommand cmdEventFire a s)

/-- EVENT_LOCK (R364): Locks a channel. -/
def execEventLock (a : Args) (s : State) : Host.Outcome State Fault Refusal :=
  answer s (runCommand cmdEventLock a s)

/-- EVENT_BRIDGE_SET (R365): Sets a bridge slot's mode, channel and peer. -/
def execEventBridgeSet (a : Args) (s : State) : Host.Outcome State Fault Refusal :=
  answer s (runCommand cmdEventBridgeSet a s)

/-- EVENT_STATUS (R367): Returns a channel's words and counters. -/
def execEventStatus (a : Args) (s : State) : Host.Outcome State Fault Refusal :=
  answer s (runCommand cmdEventStatus a s)

end Sys2Proof.Machine
end

