-- ==== Sys2Proof/Machine/Rows17.lean ====
section
/-!
DEFINITION. Sys2Proof/Machine/Rows17.lean: the teller and the crossbar (chapters 01, 17): one meaning for each of their rows in the command table.
-/
namespace Sys2Proof.Machine

/-- TELLER_TICK (R369): Each 100 µs tick credits purses, charges leakage, updates thermal models and throttle level. -/
def execTellerTick (t : Nat) (energy : List Nat) (compute : Int × Int) (hub : Int) (s : State) : Host.Outcome State Fault Refusal :=
  answer s (tellerTick energy (compute.1, compute.2, hub) (s.begin t))

/-- THROTTLE_EXIT (R380): Tj below a level's threshold less 2 °C for 10 ms leaves one level. -/
def execThrottleExit (t : Nat) (s : State) : Host.Outcome State Fault Refusal :=
  answer s (throttleExit (s.begin t))

/-- REDUCTION_STEP (R383): At level 4 the next reduction step is applied after 100 ms. -/
def execReductionStep (t : Nat) (s : State) : Host.Outcome State Fault Refusal :=
  answer s (reductionStep (s.begin t))

/-- REDUCTION_REVERT (R384): Tj below 93 °C for 500 ms undoes the last reduction step. -/
def execReductionRevert (t : Nat) (s : State) : Host.Outcome State Fault Refusal :=
  answer s (reductionRevert (s.begin t))

/-- HOT_DISTRICT_CHECK (R381): Once per second at level 3 a hot port district's port is moved. -/
def execHotDistrictCheck (t : Nat) (s : State) : Host.Outcome State Fault Refusal :=
  answer s (hotDistrictCheck (s.begin t))

/-- POOL_POINT_RESELECT (R374): Each millisecond a pool district's DVFS point is chosen again. -/
def execPoolPointReselect (t : Nat) (d : Fin 16) (s : State) : Host.Outcome State Fault Refusal :=
  answer s (poolPointReselect d.val (s.begin t))

/-- DISTRICT_POWER_GATE (R374): A district without work for 10 ms is power-gated. -/
def execDistrictPowerGate (t : Nat) (d : Fin 16) (s : State) : Host.Outcome State Fault Refusal :=
  answer s (districtPowerGate d.val (s.begin t))

/-- CELL_DISPATCH (R371): A free cell is given the oldest task of the highest class passing its floor. -/
def execCellDispatch (t : Nat) (d : Fin 17) (cell : Fin 64) (tasks : List TileTask) (s : State) : Host.Outcome State Fault Refusal :=
  answer s (cellDispatch d.val cell.val tasks (s.begin t))

/-- TILE_DONE (R385): A tile completes and is checked against its deadline. -/
def execTileDone (t : Nat) (d : Fin 16) (cell : Fin 64) (storeError : Bool) (s : State) : Host.Outcome State Fault Refusal :=
  answer s (tileDone d.val cell.val storeError (s.begin t))

/-- ROUTE_CHANGE_DONE (R18): A port's route change to a new district completes. -/
def execRouteChangeDone (t : Nat) (s : State) : Host.Outcome State Fault Refusal :=
  answer s (routeChangeDone (s.begin t))

/-- DISTRICT_READY (R15): A district completes reset or wake and is ready for tiles. -/
def execDistrictReady (t : Nat) (d : Fin 16) (bad : List (Fin 64)) (s : State) : Host.Outcome State Fault Refusal :=
  answer s (districtReady d.val (bad.map (·.val)) (s.begin t))

/-- DVFS_STEP_DONE (R373): A district's step between DVFS points completes. -/
def execDvfsStepDone (t : Nat) (d : Fin 16) (s : State) : Host.Outcome State Fault Refusal :=
  answer s (dvfsStepDone d.val (s.begin t))

/-- TELLER_SET (R377): Sets the package power limit and guard band. -/
def execTellerSet (a : Args) (s : State) : Host.Outcome State Fault Refusal :=
  answer s (runCommand cmdTellerSet a s)

/-- TELLER_STATION_SET (R382): Declares a station's accepted reductions and maximum speed. -/
def execTellerStationSet (a : Args) (s : State) : Host.Outcome State Fault Refusal :=
  answer s (runCommand cmdTellerStationSet a s)

/-- TELLER_CHECK (R559): Returns what admission would find now. -/
def execTellerCheck (a : Args) (s : State) : Host.Outcome State Fault Refusal :=
  answer s (runCommand cmdTellerCheck a s)

/-- TELLER_STATUS (R391): Returns throttle, reductions and district states. -/
def execTellerStatus (a : Args) (s : State) : Host.Outcome State Fault Refusal :=
  answer s (runCommand cmdTellerStatus a s)

/-- TELLER_REMAP (R387): Moves a port to a named or chosen district. -/
def execTellerRemap (a : Args) (s : State) : Host.Outcome State Fault Refusal :=
  answer s (runCommand cmdTellerRemap a s)

/-- DISTRICT_FAULT (R386): A district reports a hardware fault, and the teller remaps its port and resets the district. -/
def execDistrictFault (t : Nat) (d : Fin 16) (s : State) : Host.Outcome State Fault Refusal :=
  answer s (districtFault d.val (s.begin t))

end Sys2Proof.Machine
end

