-- ==== Sys2Proof/Machine/Rows18.lean ====
section
/-!
DEFINITION. Sys2Proof/Machine/Rows18.lean: the DRAM controller (chapter 18): one meaning for each of their rows in the command table.
-/
namespace Sys2Proof.Machine

/-- RETRAIN_SLICE_GRANT (R388): The teller grants a DRAM retraining slice. -/
def execRetrainSliceGrant (t : Nat) (c : Fin 8) (rank : Fin 2) (took : Fin 1501) (drift : Nat) (s : State) : Host.Outcome State Fault Refusal :=
  answer s (sliceGrant c.val rank.val took.val drift (s.begin t))

/-- REFRESH_DUE (R399): A refresh falls due and is sent or postponed. -/
def execRefreshDue (t : Nat) (c : Fin 8) (reads : Bool) (s : State) : Host.Outcome State Fault Refusal :=
  answer s (refreshDue c.val reads (s.begin t))

/-- REFRESH_MR4_POLL (R398): Every 16 ms MR4 is read and the refresh interval adjusted. -/
def execRefreshMr4Poll (t : Nat) (c : Fin 8) (levels : List Nat) (s : State) : Host.Outcome State Fault Refusal :=
  answer s (mr4Poll c.val levels (s.begin t))

/-- REFRESH_MAKEUP (R400): Owed refreshes are made up after the read queue has been empty for 100 ns. -/
def execRefreshMakeup (t : Nat) (c : Fin 8) (s : State) : Host.Outcome State Fault Refusal :=
  answer s (refreshMakeup c.val (s.begin t))

/-- RETRAIN_DUE (R404): A rank needs a retraining slice by time, temperature change or self-refresh exit. -/
def execRetrainDue (t : Nat) (c : Fin 8) (rank : Fin 2) (s : State) : Host.Outcome State Fault Refusal :=
  answer s (retrainDue c.val rank.val (s.begin t))

/-- ECC_WRITEBACK (R406): A corrected burst is written back when the read queue is empty. -/
def execEccWriteback (t : Nat) (c : Fin 8) (s : State) : Host.Outcome State Fault Refusal :=
  answer s (eccWriteback c.val (s.begin t))

/-- SCRUB_READ (R408): The scrubber reads the next burst when the read queue is empty. -/
def execScrubRead (t : Nat) (errors : List (BitVec 40)) (s : State) : Host.Outcome State Fault Refusal :=
  answer s (scrubRead errors (s.begin t))

/-- DRAM_INFO (R392): Returns the fitted DRAM configuration. -/
def execDramInfo (a : Args) (s : State) : Host.Outcome State Fault Refusal :=
  answer s (runCommand cmdDramInfo a s)

/-- DRAM_SET (R411): Sets refresh, neighbour refresh, retraining and scrub settings. -/
def execDramSet (a : Args) (s : State) : Host.Outcome State Fault Refusal :=
  answer s (runCommand cmdDramSet a s)

/-- DRAM_STATUS (R411): Returns a channel's state and counters. -/
def execDramStatus (a : Args) (s : State) : Host.Outcome State Fault Refusal :=
  answer s (runCommand cmdDramStatus a s)

/-- DRAM_ERROR_LOG (R407): Returns a channel's error log. -/
def execDramErrorLog (a : Args) (s : State) : Host.Outcome State Fault Refusal :=
  answer s (runCommand cmdDramErrorLog a s)

/-- DRAM_TRAIN (R403): Trains a channel fully. -/
def execDramTrain (a : Args) (s : State) : Host.Outcome State Fault Refusal :=
  answer s (runCommand cmdDramTrain a s)

/-- DRAM_RETRAIN (R404): Starts retraining slices without a grant. -/
def execDramRetrain (a : Args) (s : State) : Host.Outcome State Fault Refusal :=
  answer s (runCommand cmdDramRetrain a s)

/-- DRAM_TEST (R411): Tests the training areas with a pattern. -/
def execDramTest (a : Args) (s : State) : Host.Outcome State Fault Refusal :=
  answer s (runCommand cmdDramTest a s)

end Sys2Proof.Machine
end

