-- ==== Sys2Proof/Machine/Rows19.lean ====
section
/-!
DEFINITION. Sys2Proof/Machine/Rows19.lean: the Courier, the mailboxes and the host link (chapter 19): one meaning for each of their rows in the command table.
-/
namespace Sys2Proof.Machine

/-- MAILBOX_DOORBELL (R421): A doorbell write moves the host's index of a mailbox, or is ignored as bad. -/
def execMailboxDoorbell (t : Nat) (f : Fin 2) (m : Fin 8192) (index : BitVec 32) (host : List HostWrite) (s : State) : Host.Outcome State Fault Refusal :=
  answer s (doorbell f.val m.val index.toNat (hostWrites host (s.begin t)))

/-- MAILBOX_ENABLE (R423): Setting or clearing a mailbox's ENABLE checks and starts it or stops it. -/
def execMailboxEnable (t : Nat) (f : Fin 2) (m : Fin 8192) (word : BitVec 32) (s : State) : Host.Outcome State Fault Refusal :=
  answer s (boxWrite f.val m.val 0x10 word.toNat (s.begin t))

/-- MSIX_COALESCE_TIMER (R420): COALESCE_US after the first unsignalled entry the mailbox sends its vector. -/
def execMsixCoalesceTimer (t : Nat) (m : Fin 8192) (s : State) : Host.Outcome State Fault Refusal :=
  answer s (coalesceTimer m.val (s.begin t))

/-- HOST_MEMORY_ERROR (R422): A host memory access of a mailbox fails and the mailbox is disabled. -/
def execHostMemoryError (t : Nat) (m : Fin 8192) (s : State) : Host.Outcome State Fault Refusal :=
  answer s (hostMemoryError m.val (s.begin t))

/-- COURIER_START (R425): A write of START checks and starts a channel, or holds it pending. -/
def execCourierStart (t : Nat) (k : Fin 64) (host : List HostWrite) (s : State) : Host.Outcome State Fault Refusal :=
  answer s (courierStart false k.val (hostWrites host (s.begin t)))

/-- COURIER_STOP (R425): A write of STOP ends a channel at its next burst boundary. -/
def execCourierStop (t : Nat) (k : Fin 64) (s : State) : Host.Outcome State Fault Refusal :=
  answer s (courierStop k.val (s.begin t))

/-- COURIER_BURST (R428): At each burst slot the engine moves a burst of the chosen channel. -/
def execCourierBurst (t : Nat) (errors : List (BitVec 40)) (host : List HostWrite) (s : State) : Host.Outcome State Fault Refusal :=
  answer s (courierBurst errors (hostWrites host (s.begin t)))

/-- COURIER_RUN_DONE (R429): A channel's last burst completes, or a burst fails and stops the channel. -/
def execCourierRunDone (t : Nat) (k : Fin 64) (hostError : Bool) (s : State) : Host.Outcome State Fault Refusal :=
  answer s (courierRunDone k.val hostError (s.begin t))

/-- FUNCTION_LEVEL_RESET (R414): An FLR disables the function's mailboxes, stops its channels and clears its MSI-X table. -/
def execFunctionLevelReset (t : Nat) (f : Fin 2) (s : State) : Host.Outcome State Fault Refusal :=
  answer s (functionReset f.val (s.begin t))

/-- HOST_LINK_DOWN (R414): The PCIe link going down acts as an FLR on every function. -/
def execHostLinkDown (t : Nat) (s : State) : Host.Outcome State Fault Refusal :=
  answer s (linkDown (s.begin t))

/-- MAILBOX_SET (R423): Writes a mailbox's configuration and enable. -/
def execMailboxSet (a : Args) (s : State) : Host.Outcome State Fault Refusal :=
  answer s (runCommand cmdMailboxSet a s)

/-- MAILBOX_STATUS (R432): Returns a mailbox's indices and status. -/
def execMailboxStatus (a : Args) (s : State) : Host.Outcome State Fault Refusal :=
  answer s (runCommand cmdMailboxStatus a s)

/-- COURIER_SET (R426): Reserves or releases the Courier user region. -/
def execCourierSet (a : Args) (s : State) : Host.Outcome State Fault Refusal :=
  answer s (runCommand cmdCourierSet a s)

/-- HOST_LINK_STATUS (R432): Returns PCIe link speed, width and counters. -/
def execHostLinkStatus (a : Args) (s : State) : Host.Outcome State Fault Refusal :=
  answer s (runCommand cmdHostLinkStatus a s)

end Sys2Proof.Machine
end

