-- ==== Sys2Proof/Machine/Rows20.lean ====
section
/-!
DEFINITION. Sys2Proof/Machine/Rows20.lean: the compression engines (chapter 20): one meaning for each of their rows in the command table.
-/
namespace Sys2Proof.Machine

/-- COMP_JOB (R440): Queues a compression or decompression job on one engine or split across engines. -/
def execCompJob (a : Args) (s : State) : Host.Outcome State Fault Refusal :=
  answer s (runCommand cmdCompJob a s)

/-- COMP_JOB_DONE (R438): A job or part completes, commits its output and context, or fails. -/
def execCompJobDone (t : Nat) (e : Fin 4) (x : ReadErrors) (s : State) : Host.Outcome State Fault Refusal :=
  answer s (compJobDone e.val x.burst x.errors (s.begin t))

/-- COMP_STATUS (R443): Returns an engine's state and counters. -/
def execCompStatus (a : Args) (s : State) : Host.Outcome State Fault Refusal :=
  answer s (runCommand cmdCompStatus a s)

end Sys2Proof.Machine
end

