-- ==== Sys2Proof/Machine/Rows21.lean ====
section
/-!
DEFINITION. Sys2Proof/Machine/Rows21.lean: the vault (chapter 21): one meaning for each of their rows in the command table.
-/
namespace Sys2Proof.Machine

/-- VAULT_MOUNT_DONE (R448): The vault mount from a checkpoint completes. -/
def execVaultMountDone (t : Nat) (bad : Nat) (s : State) : Host.Outcome State Fault Refusal :=
  answer s (mountDone bad (s.begin t))

/-- VAULT_REPLAY_DONE (R448): The metadata replay after POR or pin reset completes. -/
def execVaultReplayDone (t : Nat) (bad : Nat) (s : State) : Host.Outcome State Fault Refusal :=
  answer s (replayDone bad (s.begin t))

/-- VAULT_OBJECT_COMMIT (R447): An object's commit record is programmed and the object becomes visible. -/
def execVaultObjectCommit (t : Nat) (fill : Nat) (s : State) : Host.Outcome State Fault Refusal :=
  answer s (storeCommit fill (s.begin t))

/-- VAULT_PROGRAM_FAIL (R452): A failed program or erase grows a bad block and the object is finished elsewhere. -/
def execVaultProgramFail (t : Nat) (b : Nat) (channel target lun plane : Nat) (s : State) : Host.Outcome State Fault Refusal :=
  answer s (programFail b channel target lun plane (s.begin t))

/-- VAULT_CHECKPOINT (R448): After every 1 GiB of programs a mapping checkpoint is written. -/
def execVaultCheckpoint (t : Nat) (s : State) : Host.Outcome State Fault Refusal :=
  answer s (checkpointDue (s.begin t))

/-- VAULT_SCRUB_DUE (R456): A superblock's scrub period expires and it is read in full. -/
def execVaultScrubDue (t : Nat) (b : Nat) (m : MediumRead) (s : State) : Host.Outcome State Fault Refusal :=
  answer s (scrubSuperblock b m (s.begin t))

/-- VAULT_READ_DISTURB (R455): A superblock's read count reaches its limit and it is relocated. -/
def execVaultReadDisturb (t : Nat) (b : Nat) (s : State) : Host.Outcome State Fault Refusal :=
  answer s (readDisturb b (s.begin t))

/-- VAULT_INFO (R444): Returns the vault geometry and area sizes. -/
def execVaultInfo (a : Args) (s : State) : Host.Outcome State Fault Refusal :=
  answer s (runCommand cmdVaultInfo a s)

/-- VAULT_FORMAT (R450): Formats the vault, keeping areas 1 to 3. -/
def execVaultFormat (a : Args) (s : State) : Host.Outcome State Fault Refusal :=
  answer s (runCommand cmdVaultFormat a s)

/-- VAULT_SET (R462): Sets the day-book policy, scrub period and refresh threshold. -/
def execVaultSet (a : Args) (s : State) : Host.Outcome State Fault Refusal :=
  answer s (runCommand cmdVaultSet a s)

/-- VAULT_STATUS (R462): Returns vault state and counters. -/
def execVaultStatus (a : Args) (s : State) : Host.Outcome State Fault Refusal :=
  answer s (runCommand cmdVaultStatus a s)

/-- VAULT_FW_WRITE (R459): Programs a firmware image into a slot in 4 MiB parts. -/
def execVaultFwWrite (a : Args) (s : State) : Host.Outcome State Fault Refusal :=
  answer s (runCommand cmdVaultFwWrite a s)

/-- VAULT_FW_ACTIVATE (R460): Authenticates a slot, copies it to boot NOR and soft resets. -/
def execVaultFwActivate (a : Args) (s : State) : Host.Outcome State Fault Refusal :=
  answer s (runCommand cmdVaultFwActivate a s)

/-- DAYBOOK_JOBS (R458): Returns the day-book jobs. -/
def execDaybookJobs (a : Args) (s : State) : Host.Outcome State Fault Refusal :=
  answer s (runCommand cmdDaybookJobs a s)

/-- DAYBOOK_JOB_SET (R458): Protects, unprotects or deletes a day-book job. -/
def execDaybookJobSet (a : Args) (s : State) : Host.Outcome State Fault Refusal :=
  answer s (runCommand cmdDaybookJobSet a s)

end Sys2Proof.Machine
end

