-- ==== Sys2Proof/Machine/Rows22.lean ====
section
/-!
DEFINITION. Sys2Proof/Machine/Rows22.lean: the journal (chapter 22): one meaning for each of their rows in the command table.
-/
namespace Sys2Proof.Machine

/-- JOURNAL_SUPPRESS_TIMER (R470): One second after the last suppressed entry a SUPPRESSED entry is recorded. -/
def execJournalSuppressTimer (t : Nat) (code : BitVec 16) (s : State) : Host.Outcome State Fault Refusal :=
  answer s (suppressTimer code.toNat (s.begin t))

/-- JOURNAL_SPILL (R475): With SRAM at 49,152 entries and spill able to run, the oldest 16,384 entries are spilled. -/
def execJournalSpill (t : Nat) (s : State) : Host.Outcome State Fault Refusal :=
  answer s (spillEntries (s.begin t))

/-- JOURNAL_POLICY (R472): Changes the journal policy, discarding held entries. -/
def execJournalPolicy (a : Args) (s : State) : Host.Outcome State Fault Refusal :=
  answer s (runCommand cmdJournalPolicy a s)

/-- JOURNAL_RATE (R467): Sets a code's rate-limit bucket. -/
def execJournalRate (a : Args) (s : State) : Host.Outcome State Fault Refusal :=
  answer s (runCommand cmdJournalRate a s)

/-- JOURNAL_READ (R479): Returns journal entries from a sequence number with a bracket. -/
def execJournalRead (a : Args) (s : State) : Host.Outcome State Fault Refusal :=
  answer s (runCommand cmdJournalRead a s)

/-- JOURNAL_RELEASE (R473): Frees entries below a sequence number and lets recording continue. -/
def execJournalRelease (a : Args) (s : State) : Host.Outcome State Fault Refusal :=
  answer s (runCommand cmdJournalRelease a s)

/-- JOURNAL_STATUS (R481): Returns journal sequence bounds, state and counters. -/
def execJournalStatus (a : Args) (s : State) : Host.Outcome State Fault Refusal :=
  answer s (runCommand cmdJournalStatus a s)

end Sys2Proof.Machine
end

