-- ==== Sys2Proof/Machine/Rows23.lean ====
section
/-!
DEFINITION. Sys2Proof/Machine/Rows23.lean: the chain (chapter 23): one meaning for each of their rows in the command table.
-/
namespace Sys2Proof.Machine

/-- HEAD_DETECT_TIMER (R483): No upstream signal for 20 ms after reset makes the package the head. -/
def execHeadDetectTimer (t : Nat) (s : State) : Host.Outcome State Fault Refusal :=
  answer s (headDetect (s.begin t))

/-- ENUM_TOKEN (R484): An enumeration token assigns the next postcode and is passed downstream. -/
def execEnumToken (t : Nat) (f : ChainFrame) (body : List Byte) (s : State) : Host.Outcome State Fault Refusal :=
  answer s (enumToken f body (s.begin t))

/-- ENUM_LAST_TIMER (R484): No downstream link within 20 ms makes the package last and it sends ENUM_DONE. -/
def execEnumLastTimer (t : Nat) (s : State) : Host.Outcome State Fault Refusal :=
  answer s (enumLast (s.begin t))

/-- ENUM_DONE (R484): ENUM_DONE reaching the head sets CHAIN_SIZE and raises CHAIN_UP. -/
def execEnumDone (t : Nat) (f : ChainFrame) (body : List Byte) (s : State) : Host.Outcome State Fault Refusal :=
  answer s (enumDone f body (s.begin t))

/-- CHAIN_HELLO (R485): A HELLO frame is checked and the link carries frames or reports mismatch. -/
def execChainHello (t : Nat) (f : ChainFrame) (postcode : Nat) (headSerial : Nat) (s : State) : Host.Outcome State Fault Refusal :=
  answer s (chainHello f postcode headSerial (s.begin t))

/-- CHAIN_COMMAND_FRAME (R492): A COMMAND frame is relayed or taken as a command. -/
def execChainCommandFrame (t : Nat) (f : ChainFrame) (origin ref : Nat) (packet : List Byte) (s : State) : Host.Outcome State Fault Refusal :=
  answer s (commandFrame f origin ref packet (s.begin t))

/-- CHAIN_REPLY_FRAME (R492): A REPLY frame is relayed towards or delivered to its origin. -/
def execChainReplyFrame (t : Nat) (f : ChainFrame) (origin ref : Nat) (reply : List Byte) (s : State) : Host.Outcome State Fault Refusal :=
  answer s (replyFrame f origin ref reply (s.begin t))

/-- STAGED (R54): A staging answer reaches the head, which commits or aborts when all are in. -/
def execStaged (t : Nat) (f : ChainFrame) (origin ref tag status failedBlocks : Nat) (s : State) : Host.Outcome State Fault Refusal :=
  answer s (stagedFrame f origin ref tag status failedBlocks (s.begin t))

/-- COMMIT (R56): A COMMIT frame commits a staged change and is acknowledged. -/
def execCommit (t : Nat) (f : ChainFrame) (origin ref tag : Nat) (s : State) : Host.Outcome State Fault Refusal :=
  answer s (commitFrame f origin ref tag (s.begin t))

/-- ABORT (R56): An ABORT frame discards a staged change. -/
def execAbort (t : Nat) (f : ChainFrame) (origin ref tag : Nat) (s : State) : Host.Outcome State Fault Refusal :=
  answer s (abortFrame f origin ref tag (s.begin t))

/-- COMMIT_ACK (R56): A commit acknowledgement reaches the head. -/
def execCommitAck (t : Nat) (f : ChainFrame) (origin ref tag : Nat) (s : State) : Host.Outcome State Fault Refusal :=
  answer s (ackFrame f origin ref tag (s.begin t))

/-- LEDGER_FRAME (R493): A forwarded ledger record is relayed or delivered at the head. -/
def execLedgerFrame (t : Nat) (f : ChainFrame) (record : List Byte) (s : State) : Host.Outcome State Fault Refusal :=
  answer s (ledgerFrame f record (s.begin t))

/-- EVENT_FRAME (R494): A bridged event is relayed and fires a RECEIVE slot's channel. -/
def execEventFrame (t : Nat) (f : ChainFrame) (slot : Fin 16) (mult hops : Nat) (s : State) : Host.Outcome State Fault Refusal :=
  answer s (eventFrame f slot mult hops (s.begin t))

/-- CHAIN_ACK (R488): An ACK frees acknowledged frames. -/
def execChainAck (t : Nat) (port : Option ChainPort) (seq : Fin 256) (s : State) : Host.Outcome State Fault Refusal :=
  answer s (linkAck port seq (s.begin t))

/-- CHAIN_NAK (R488): A NAK makes the sender resend from the named frame or restart the link. -/
def execChainNak (t : Nat) (port : Option ChainPort) (seq : Fin 256) (s : State) : Host.Outcome State Fault Refusal :=
  answer s (linkNak port seq (s.begin t))

/-- CHAIN_ACK_TIMER (R488): Every 10 µs or 16 frames the receiver sends an ACK. -/
def execChainAckTimer (t : Nat) (port : ChainPort) (s : State) : Host.Outcome State Fault Refusal :=
  answer s (ackTimer port (s.begin t))

/-- PROBE_TIMER (R490): Each millisecond the upstream end sends PROBE and SYNC. -/
def execProbeTimer (t : Nat) (s : State) : Host.Outcome State Fault Refusal :=
  answer s (probeTimer (s.begin t))

/-- PROBE (R490): A PROBE is answered with PROBE_REPLY. -/
def execProbe (t : Nat) (seq : Fin 256) (_t1 : Nat) (residence : Nat) (s : State) : Host.Outcome State Fault Refusal :=
  answer s (probe seq residence (s.begin t))

/-- PROBE_REPLY (R490): A PROBE_REPLY gives a link delay sample. -/
def execProbeReply (t : Nat) (seq : Fin 256) (residence : Nat) (s : State) : Host.Outcome State Fault Refusal :=
  answer s (probeReply seq residence (s.begin t))

/-- SYNC (R490): A SYNC block steps or slews the downstream chain time. -/
def execSync (t : Nat) (value : Nat) (d : Nat) (s : State) : Host.Outcome State Fault Refusal :=
  answer s (sync value d (s.begin t))

/-- CHAIN_RESET_BLOCK (R495): A RESET block from upstream is relayed and causes a chain reset. -/
def execChainResetBlock (t : Nat) (port : ChainPort) (s : State) : Host.Outcome State Fault Refusal :=
  answer s (chainReset port (s.begin t))

/-- CHAIN_STATUS (R499): Returns chain position, link state, time error and counters. -/
def execChainStatus (a : Args) (s : State) : Host.Outcome State Fault Refusal :=
  answer s (runCommand cmdChainStatus a s)

/-- CHAIN_ENUMERATE (R484): Clears and reassigns postcodes along the chain. -/
def execChainEnumerate (a : Args) (s : State) : Host.Outcome State Fault Refusal :=
  answer s (runCommand cmdChainEnumerate a s)

/-- CHAIN_TIME_SET (R491): Steps the head's chain time. -/
def execChainTimeSet (a : Args) (s : State) : Host.Outcome State Fault Refusal :=
  answer s (runCommand cmdChainTimeSet a s)

/-- CHAIN_RESET (R495): Sends a chain reset down the chain and resets the head. -/
def execChainReset (a : Args) (s : State) : Host.Outcome State Fault Refusal :=
  answer s (runCommand cmdChainReset a s)

/-- CHAIN_WAKE (R496): Lights the head's downstream lanes to wake the chain. -/
def execChainWake (a : Args) (s : State) : Host.Outcome State Fault Refusal :=
  answer s (runCommand cmdChainWake a s)

/-- TIME_UNSYNCED (R490): A downstream package that has had no SYNC for 10 ms becomes unsynchronised and raises TIME_UNSYNCED. -/
def execTimeUnsynced (t : Nat) (s : State) : Host.Outcome State Fault Refusal :=
  answer s (timeUnsynced (s.begin t))

/-- HEAD_CHAIN_RESET (R495): Twenty microseconds after its CHAIN_RESET reply, the head performs its own chain reset. -/
def execHeadChainReset (t : Nat) (s : State) : Host.Outcome State Fault Refusal :=
  answer s (headChainReset (s.begin t))

end Sys2Proof.Machine
end

