-- ==== Sys2Proof/Machine/Rows24.lean ====
section
/-!
DEFINITION. Sys2Proof/Machine/Rows24.lean: twin operation (chapter 24): one meaning for each of their rows in the command table.
-/
namespace Sys2Proof.Machine

/-- TWIN_SENSE_FREE (R514): TWIN_SENSE reading free lets a standby member start taking over. -/
def execTwinSenseFree (t : Nat) (s : State) : Host.Outcome State Fault Refusal :=
  answer s (senseFree (s.begin t))

/-- TWIN_SENSE_HELD (R503): TWIN_SENSE reading held during a take puts the members in contention. -/
def execTwinSenseHeld (t : Nat) (s : State) : Host.Outcome State Fault Refusal :=
  answer s (senseHeldNow (s.begin t))

/-- INTERLOCK_TAKE_TIMER (R503): After the free-reading intervals the package asserts TWIN_HOLD and enables its drivers. -/
def execInterlockTakeTimer (t : Nat) (s : State) : Host.Outcome State Fault Refusal :=
  answer s (takeTimer (s.begin t))

/-- CONTENTION_BACKOFF (R503): A secondary that released in contention may try again after 1 ms. -/
def execContentionBackoff (t : Nat) (s : State) : Host.Outcome State Fault Refusal :=
  answer s (backoffEnd (s.begin t))

/-- HEARTBEAT (R506): A HEARTBEAT block from the partner refreshes the twin link. -/
def execHeartbeat (t : Nat) (role : Fin 256) (counter : Nat) (s : State) : Host.Outcome State Fault Refusal :=
  answer s (heartbeat role counter (s.begin t))

/-- HEARTBEAT_SEND (R506): Every 10 µs each member sends a HEARTBEAT. -/
def execHeartbeatSend (t : Nat) (s : State) : Host.Outcome State Fault Refusal :=
  answer s (heartbeatSend (s.begin t))

/-- HEARTBEAT_LOSS (R506): No HEARTBEAT for 30 µs counts the twin link lost. -/
def execHeartbeatLoss (t : Nat) (s : State) : Host.Outcome State Fault Refusal :=
  answer s (heartbeatLoss (s.begin t))

/-- TWIN_HELLO (R506): A twin HELLO carries role and configuration digest. -/
def execTwinHello (t : Nat) (f : TwinFrame) (serial : Nat) (role pairPostcode : Fin 256) (digest resv : Nat) (s : State) : Host.Outcome State Fault Refusal :=
  answer s (twinHello f serial role pairPostcode digest resv (s.begin t))

/-- STATE_FRAME (R507): State frames are applied by the standby at its block boundary. -/
def execStateFrame (t : Nat) (f : TwinFrame) (k : Fin 4) (block part parts : Nat) (x : StatePart) (s : State) : Host.Outcome State Fault Refusal :=
  answer s (stateFrame f k block part parts x.bytes x.copy (s.begin t))

/-- DIGEST_FRAME (R511): A partner's block digest is compared, counting matches and mismatches and starting replay. -/
def execDigestFrame (t : Nat) (f : TwinFrame) (k : Fin 4) (partialSeen : Bool) (block records digest : Nat) (s : State) : Host.Outcome State Fault Refusal :=
  answer s (digestFrame f k { block := block, records := records, partialView := partialSeen, digest := digest } (s.begin t))

/-- REPLAY_DONE (R512): A replay of the disputed block completes and its result is sent. -/
def execReplayDone (t : Nat) (s : State) : Host.Outcome State Fault Refusal :=
  answer s (twinReplayDone (s.begin t))

/-- REPLAY_RESULT_FRAME (R513): The partner's replay result decides the verdict. -/
def execReplayResultFrame (t : Nat) (f : TwinFrame) (k : Fin 4) (result : Fin 256) (block : Nat) (s : State) : Host.Outcome State Fault Refusal :=
  answer s (replayResultFrame f k result block (s.begin t))

/-- REPLAY_RESULT_TIMEOUT (R513): No replay result within 3 ms makes the verdict undecided. -/
def execReplayResultTimeout (t : Nat) (s : State) : Host.Outcome State Fault Refusal :=
  answer s (replayTimeout (s.begin t))

/-- HANDOVER_FRAME (R519): A HANDOVER names the block at which the partner takes over. -/
def execHandoverFrame (t : Nat) (f : TwinFrame) (k : Fin 4) (block : Nat) (s : State) : Host.Outcome State Fault Refusal :=
  answer s (handoverFrame f k block (s.begin t))

/-- SPECIMEN_FRAME (R520): Specimen frames load a specimen on the standby when its CRC passes. -/
def execSpecimenFrame (t : Nat) (f : TwinFrame) (k : Fin 4) (offset : Nat) (image : List Byte) (s : State) : Host.Outcome State Fault Refusal :=
  answer s (specimenFrame f k offset image (s.begin t))

/-- TWIN_SET (R505): Enables or disables twin operation with role preference and reversion. -/
def execTwinSet (a : Args) (s : State) : Host.Outcome State Fault Refusal :=
  answer s (runCommand cmdTwinSet a s)

/-- TWIN_JOIN (R505): Joins an active partner and enters SHADOW as SYNCING. -/
def execTwinJoin (a : Args) (s : State) : Host.Outcome State Fault Refusal :=
  answer s (runCommand cmdTwinJoin a s)

/-- TWIN_HANDOVER (R519): Hands control to an in-sync partner. -/
def execTwinHandover (a : Args) (s : State) : Host.Outcome State Fault Refusal :=
  answer s (runCommand cmdTwinHandover a s)

/-- TWIN_STATUS (R522): Returns twin roles, state and counters. -/
def execTwinStatus (a : Args) (s : State) : Host.Outcome State Fault Refusal :=
  answer s (runCommand cmdTwinStatus a s)

/-- TWIN_HOLD_RELEASE (R502): One microsecond after a package has put its drivers to high impedance and darkened its transmitters, it releases TWIN_HOLD. -/
def execTwinHoldRelease (t : Nat) (s : State) : Host.Outcome State Fault Refusal :=
  answer s (holdRelease (s.begin t))

end Sys2Proof.Machine
end

