-- ==== Sys2Proof/Machine/Rows25.lean ====
section
/-!
DEFINITION. Sys2Proof/Machine/Rows25.lean: electrical calibration (chapter 25): one meaning for each of their rows in the command table.
-/
namespace Sys2Proof.Machine

/-- CAL_RUN (R530): Starts a calibration run over the given scope. -/
def execCalRun (a : Args) (s : State) : Host.Outcome State Fault Refusal :=
  answer s (runCommand cmdCalRun a s)

/-- CAL_STEP_DONE (R527): A calibration step completes, and at the run's end all corrections commit or none. -/
def execCalStepDone (t : Nat) (calres : Nat) (measured : List (Nat × Nat × Int)) (s : State) : Host.Outcome State Fault Refusal :=
  answer s (calStepDone calres measured (s.begin t))

/-- CAL_RUN_TIMEOUT (R532): A run not complete within 1 s returns TIMED_OUT. -/
def execCalRunTimeout (t : Nat) (s : State) : Host.Outcome State Fault Refusal :=
  answer s (calTimeout (s.begin t))

/-- CAL_RECOMPUTE (R526): Every 100 ms value codes of items 4 to 8 are recomputed and stepped. -/
def execCalRecompute (t : Nat) (sentry : Int) (s : State) : Host.Outcome State Fault Refusal :=
  answer s (calRecompute sentry (s.begin t))

/-- CAL_OFFSET_SET (R526): Sets a calibrated item's user offset. -/
def execCalOffsetSet (a : Args) (s : State) : Host.Outcome State Fault Refusal :=
  answer s (runCommand cmdCalOffsetSet a s)

/-- CAL_STATUS (R534): Returns a calibrated item's codes and temperature. -/
def execCalStatus (a : Args) (s : State) : Host.Outcome State Fault Refusal :=
  answer s (runCommand cmdCalStatus a s)

end Sys2Proof.Machine
end

