-- ==== Sys2Proof/Machine/Rows26.lean ====
section
/-!
DEFINITION. Sys2Proof/Machine/Rows26.lean: low-speed balls (chapter 26): one meaning for each of their rows in the command table.
-/
namespace Sys2Proof.Machine

/-- PERST_N_CHANGE (R547): PERST_N holds or releases the PCIe endpoint. -/
def execPerstNChange (t : Nat) (low : Bool) (s : State) : Host.Outcome State Fault Refusal :=
  answer s (perstChange low (s.begin t))

/-- GPIO_EDGE (R551): An accepted input GPIO edge fires its event channel. -/
def execGpioEdge (t : Nat) (g : Fin 32) (x : GpioLevel) (s : State) : Host.Outcome State Fault Refusal :=
  answer s (gpioEdge g.val x.high x.ns (s.begin t))

/-- GPIO_PULSE_END (R551): A GPIO pulse ends after PULSE_US and returns to LEVEL. -/
def execGpioPulseEnd (t : Nat) (g : Fin 32) (s : State) : Host.Outcome State Fault Refusal :=
  answer s (gpioPulseEnd g.val (s.begin t))

/-- GPIO_SET (R551): Configures a GPIO's kind, level, action, filter and event channel. -/
def execGpioSet (a : Args) (s : State) : Host.Outcome State Fault Refusal :=
  answer s (runCommand cmdGpioSet a s)

/-- GPIO_STATUS (R553): Returns GPIO levels, outputs and edge counts. -/
def execGpioStatus (a : Args) (s : State) : Host.Outcome State Fault Refusal :=
  answer s (runCommand cmdGpioStatus a s)

/-- ADC_READ (R552): Returns mean calibrated codes of masked ADC channels. -/
def execAdcRead (a : Args) (s : State) : Host.Outcome State Fault Refusal :=
  answer s (runCommand cmdAdcRead a s)

/-- I2C_TRANSFER (R553): Performs an I²C write and read on a bus. -/
def execI2cTransfer (a : Args) (s : State) : Host.Outcome State Fault Refusal :=
  answer s (runCommand cmdI2cTransfer a s)

/-- HOST_LINK_UP (R547): The PCIe link finishes training and configuration space becomes ready, so BAR0 answers. -/
def execHostLinkUp (t : Nat) (speed : Fin 6) (width : Fin 9) (payload : Fin 3) (s : State) : Host.Outcome State Fault Refusal :=
  answer s (linkUp speed.val width.val payload.val (s.begin t))

/-- VID_SETTLED (R542): Fifteen microseconds after a raised VID code, districts of that die may start their step up to a higher DVFS point. -/
def execVidSettled (t : Nat) (c : Fin 2) (s : State) : Host.Outcome State Fault Refusal :=
  answer s (vidSettled c.val (s.begin t))

/-- TEST_ACCESS_INSTRUCTION (R550): An instruction is shifted into the IEEE 1149.1 test access port and is run, or is refused as BYPASS without the DEBUG grant. -/
def execTestAccessInstruction (t : Nat) (ins : TapInstr) (s : State) : Host.Outcome State Fault Refusal :=
  answer s (testAccess ins (s.begin t))

end Sys2Proof.Machine
end

