-- ==== Sys2Proof/Machine/Dispatch.lean ====
section
/-!
DEFINITION. Sys2Proof/Machine/Dispatch.lean: exec, one arm for each command of Instr.
-/
namespace Sys2Proof.Machine

def exec (i : Instr) (s : State) : Host.Outcome State Fault Refusal :=
  match i with
  | .commandDispatch t => Sys2Proof.Machine.execCommandDispatch t s
  | .nop a => Sys2Proof.Machine.execNop a s
  | .getIdentity a => Sys2Proof.Machine.execGetIdentity a s
  | .readCapability a => Sys2Proof.Machine.execReadCapability a s
  | .getHealth a => Sys2Proof.Machine.execGetHealth a s
  | .cancel a => Sys2Proof.Machine.execCancel a s
  | .keyChallenge a => Sys2Proof.Machine.execKeyChallenge a s
  | .keyResponse a => Sys2Proof.Machine.execKeyResponse a s
  | .keyRevoke a => Sys2Proof.Machine.execKeyRevoke a s
  | .writePacket t frame => Sys2Proof.Machine.execWritePacket t frame s
  | .readStatus t => Sys2Proof.Machine.execReadStatus t s
  | .readReply t n => Sys2Proof.Machine.execReadReply t n s
  | .stagingTimeout t => Sys2Proof.Machine.execStagingTimeout t s
  | .frIdentify a => Sys2Proof.Machine.execFrIdentify a s
  | .frSetPort a => Sys2Proof.Machine.execFrSetPort a s
  | .frSetPitch a => Sys2Proof.Machine.execFrSetPitch a s
  | .frLearn a => Sys2Proof.Machine.execFrLearn a s
  | .frInspect a => Sys2Proof.Machine.execFrInspect a s
  | .frHalt a => Sys2Proof.Machine.execFrHalt a s
  | .frSetThreshold a => Sys2Proof.Machine.execFrSetThreshold a s
  | .frReadDefects a => Sys2Proof.Machine.execFrReadDefects a s
  | .frJournalPolicy a => Sys2Proof.Machine.execFrJournalPolicy a s
  | .registerWrite t fn size offset value host => Sys2Proof.Machine.execRegisterWrite t fn size offset value host s
  | .setMode a => Sys2Proof.Machine.execSetMode a s
  | .enterSentry a => Sys2Proof.Machine.execEnterSentry a s
  | .wake a => Sys2Proof.Machine.execWake a s
  | .getResetCause a => Sys2Proof.Machine.execGetResetCause a s
  | .setSafeState a => Sys2Proof.Machine.execSetSafeState a s
  | .reset a => Sys2Proof.Machine.execReset a s
  | .softResetBegin t => Sys2Proof.Machine.execSoftResetBegin t s
  | .forceSafe a => Sys2Proof.Machine.execForceSafe a s
  | .wakeNAsserted t => Sys2Proof.Machine.execWakeNAsserted t s
  | .chainWakeDetect t => Sys2Proof.Machine.execChainWakeDetect t s
  | .alarmWake t => Sys2Proof.Machine.execAlarmWake t s
  | .bootComplete t norGood version trainedMask => Sys2Proof.Machine.execBootComplete t norGood version trainedMask s
  | .porRelease t head twin test => Sys2Proof.Machine.execPorRelease t head twin test s
  | .railBelowReset t x => Sys2Proof.Machine.execRailBelowReset t x s
  | .resetNAsserted t => Sys2Proof.Machine.execResetNAsserted t s
  | .pinResetRelease t head twin test => Sys2Proof.Machine.execPinResetRelease t head twin test s
  | .railBelowWarning t r x => Sys2Proof.Machine.execRailBelowWarning t r x s
  | .railRecovered t r x => Sys2Proof.Machine.execRailRecovered t r x s
  | .brownoutPauseEnd t => Sys2Proof.Machine.execBrownoutPauseEnd t s
  | .watchdogWarn t => Sys2Proof.Machine.execWatchdogWarn t s
  | .watchdogExpiry t => Sys2Proof.Machine.execWatchdogExpiry t s
  | .autoDrainStopDetect t => Sys2Proof.Machine.execAutoDrainStopDetect t s
  | .drainComplete t => Sys2Proof.Machine.execDrainComplete t s
  | .railGroupUp t g => Sys2Proof.Machine.execRailGroupUp t g s
  | .railGroupTimeout t g => Sys2Proof.Machine.execRailGroupTimeout t g s
  | .railRetry t => Sys2Proof.Machine.execRailRetry t s
  | .railDischarged t g => Sys2Proof.Machine.execRailDischarged t g s
  | .laneSet a => Sys2Proof.Machine.execLaneSet a s
  | .laneRegRead a => Sys2Proof.Machine.execLaneRegRead a s
  | .laneRegWrite a => Sys2Proof.Machine.execLaneRegWrite a s
  | .laneSlip t l => Sys2Proof.Machine.execLaneSlip t l s
  | .laneRestart t l => Sys2Proof.Machine.execLaneRestart t l s
  | .laneCountClear t l => Sys2Proof.Machine.execLaneCountClear t l s
  | .laneInjectOne t l => Sys2Proof.Machine.execLaneInjectOne t l s
  | .laneInjectPeriodic t l => Sys2Proof.Machine.execLaneInjectPeriodic t l s
  | .laneTestEnter t l gen chk => Sys2Proof.Machine.execLaneTestEnter t l gen chk s
  | .laneSignalDetected t l => Sys2Proof.Machine.execLaneSignalDetected t l s
  | .laneBitLocked t l => Sys2Proof.Machine.execLaneBitLocked t l s
  | .laneBlockLocked t l pos => Sys2Proof.Machine.execLaneBlockLocked t l pos s
  | .laneTrainReceived t l payload adapted fit preset => Sys2Proof.Machine.execLaneTrainReceived t l payload adapted fit preset s
  | .laneBlindAdaptDone t l fit => Sys2Proof.Machine.execLaneBlindAdaptDone t l fit s
  | .laneAlignReceived t l index groupSize seq row => Sys2Proof.Machine.execLaneAlignReceived t l index groupSize seq row s
  | .laneCapsReceived t l caps => Sys2Proof.Machine.execLaneCapsReceived t l caps s
  | .laneBringupTimeout t l => Sys2Proof.Machine.execLaneBringupTimeout t l s
  | .laneBlockLockLost t l => Sys2Proof.Machine.execLaneBlockLockLost t l s
  | .laneBackoffExpired t l => Sys2Proof.Machine.execLaneBackoffExpired t l s
  | .laneElasticSlip t l => Sys2Proof.Machine.execLaneElasticSlip t l s
  | .laneErrWindow t l counts => Sys2Proof.Machine.execLaneErrWindow t l counts s
  | .laneMarkerSend t l filler => Sys2Proof.Machine.execLaneMarkerSend t l filler s
  | .linePacketReceived t n p => Sys2Proof.Machine.execLinePacketReceived t n p s
  | .lineRateWindow t n => Sys2Proof.Machine.execLineRateWindow t n s
  | .clockMapWindow t n => Sys2Proof.Machine.execClockMapWindow t n s
  | .cameraAckReceived t n msg => Sys2Proof.Machine.execCameraAckReceived t n msg s
  | .cameraInfoReceived t n head body crc => Sys2Proof.Machine.execCameraInfoReceived t n head body crc s
  | .vendorReplyReceived t n head body crc => Sys2Proof.Machine.execVendorReplyReceived t n head body crc s
  | .cameraMsgResend t n => Sys2Proof.Machine.execCameraMsgResend t n s
  | .portSet a => Sys2Proof.Machine.execPortSet a s
  | .portStatus a => Sys2Proof.Machine.execPortStatus a s
  | .cameraSet a => Sys2Proof.Machine.execCameraSet a s
  | .cameraMessage a => Sys2Proof.Machine.execCameraMessage a s
  | .cameraInfo a => Sys2Proof.Machine.execCameraInfo a s
  | .photoStoreBase a => Sys2Proof.Machine.execPhotoStoreBase a s
  | .photoSelectBase a => Sys2Proof.Machine.execPhotoSelectBase a s
  | .photoSetTrim a => Sys2Proof.Machine.execPhotoSetTrim a s
  | .photoRead a => Sys2Proof.Machine.execPhotoRead a s
  | .photoStatus a => Sys2Proof.Machine.execPhotoStatus a s
  | .photoCapture a => Sys2Proof.Machine.execPhotoCapture a s
  | .photoCaptureDone t n => Sys2Proof.Machine.execPhotoCaptureDone t n s
  | .photoCaptureTimeout t n => Sys2Proof.Machine.execPhotoCaptureTimeout t n s
  | .baseSetLoadDone t n => Sys2Proof.Machine.execBaseSetLoadDone t n s
  | .encoderEdge t q e => Sys2Proof.Machine.execEncoderEdge t q e s
  | .indexEdge t e => Sys2Proof.Machine.execIndexEdge t e s
  | .ssiFrame t q data parity sampled => Sys2Proof.Machine.execSsiFrame t q data parity sampled s
  | .latchPeriodic t u => Sys2Proof.Machine.execLatchPeriodic t u s
  | .latchTrigger t u => Sys2Proof.Machine.execLatchTrigger t u s
  | .compareArm t c => Sys2Proof.Machine.execCompareArm t c s
  | .compareFlush t c => Sys2Proof.Machine.execCompareFlush t c s
  | .encoderClearFault t q => Sys2Proof.Machine.execEncoderClearFault t q s
  | .speedWindow t q => Sys2Proof.Machine.execSpeedWindow t q s
  | .posEncoderSet a => Sys2Proof.Machine.execPosEncoderSet a s
  | .posSetCount a => Sys2Proof.Machine.execPosSetCount a s
  | .posStatus a => Sys2Proof.Machine.execPosStatus a s
  | .posLatchSet a => Sys2Proof.Machine.execPosLatchSet a s
  | .posCompareArm a => Sys2Proof.Machine.execPosCompareArm a s
  | .placeExtrapolate t n => Sys2Proof.Machine.execPlaceExtrapolate t n s
  | .outputLineIssue t n => Sys2Proof.Machine.execOutputLineIssue t n s
  | .resampleSet a => Sys2Proof.Machine.execResampleSet a s
  | .resamplePlaneOffset a => Sys2Proof.Machine.execResamplePlaneOffset a s
  | .resampleStatus a => Sys2Proof.Machine.execResampleStatus a s
  | .seamValuesArrive t n fromLeft line => Sys2Proof.Machine.execSeamValuesArrive t n fromLeft line s
  | .outletRateWindow t o => Sys2Proof.Machine.execOutletRateWindow t o s
  | .stationSet a => Sys2Proof.Machine.execStationSet a s
  | .stitchMap a => Sys2Proof.Machine.execStitchMap a s
  | .colourMatrix a => Sys2Proof.Machine.execColourMatrix a s
  | .colourXyz a => Sys2Proof.Machine.execColourXyz a s
  | .outletSet a => Sys2Proof.Machine.execOutletSet a s
  | .outletTable a => Sys2Proof.Machine.execOutletTable a s
  | .stitchStatus a => Sys2Proof.Machine.execStitchStatus a s
  | .outletStatus a => Sys2Proof.Machine.execOutletStatus a s
  | .learnFinaliseDone t k => Sys2Proof.Machine.execLearnFinaliseDone t k s
  | .specimenStoreDone t k fill => Sys2Proof.Machine.execSpecimenStoreDone t k fill s
  | .specimenRecallDone t k crcOk => Sys2Proof.Machine.execSpecimenRecallDone t k crcOk s
  | .learnSet a => Sys2Proof.Machine.execLearnSet a s
  | .goldenFreeSet a => Sys2Proof.Machine.execGoldenFreeSet a s
  | .learnStatus a => Sys2Proof.Machine.execLearnStatus a s
  | .specimenStore a => Sys2Proof.Machine.execSpecimenStore a s
  | .specimenRecall a => Sys2Proof.Machine.execSpecimenRecall a s
  | .specimenDelete a => Sys2Proof.Machine.execSpecimenDelete a s
  | .specimenList a => Sys2Proof.Machine.execSpecimenList a s
  | .tileRowRegister t k => Sys2Proof.Machine.execTileRowRegister t k s
  | .acquireDone t k => Sys2Proof.Machine.execAcquireDone t k s
  | .regSet a => Sys2Proof.Machine.execRegSet a s
  | .compareThresholds a => Sys2Proof.Machine.execCompareThresholds a s
  | .streakSet a => Sys2Proof.Machine.execStreakSet a s
  | .regStatus a => Sys2Proof.Machine.execRegStatus a s
  | .streakList a => Sys2Proof.Machine.execStreakList a s
  | .regFieldRead a => Sys2Proof.Machine.execRegFieldRead a s
  | .fragmentSummaryArrive t k j line => Sys2Proof.Machine.execFragmentSummaryArrive t k j line s
  | .segSet a => Sys2Proof.Machine.execSegSet a s
  | .segRules a => Sys2Proof.Machine.execSegRules a s
  | .segRulesRead a => Sys2Proof.Machine.execSegRulesRead a s
  | .segStatus a => Sys2Proof.Machine.execSegStatus a s
  | .cropDeliver t => Sys2Proof.Machine.execCropDeliver t s
  | .gateClose t r => Sys2Proof.Machine.execGateClose t r s
  | .backlogDeliver t m => Sys2Proof.Machine.execBacklogDeliver t m s
  | .ledgerSet a => Sys2Proof.Machine.execLedgerSet a s
  | .ledgerChain a => Sys2Proof.Machine.execLedgerChain a s
  | .outputRules a => Sys2Proof.Machine.execOutputRules a s
  | .outputForce a => Sys2Proof.Machine.execOutputForce a s
  | .ledgerStatus a => Sys2Proof.Machine.execLedgerStatus a s
  | .ledgerExport a => Sys2Proof.Machine.execLedgerExport a s
  | .slJobStart t x => Sys2Proof.Machine.execSlJobStart t x s
  | .slJobDone t d c => Sys2Proof.Machine.execSlJobDone t d c s
  | .slNetworkLoad a => Sys2Proof.Machine.execSlNetworkLoad a s
  | .slSet a => Sys2Proof.Machine.execSlSet a s
  | .slNetworkRead a => Sys2Proof.Machine.execSlNetworkRead a s
  | .slStatus a => Sys2Proof.Machine.execSlStatus a s
  | .frankFireDeferred t h => Sys2Proof.Machine.execFrankFireDeferred t h s
  | .headFaultAsserted t h => Sys2Proof.Machine.execHeadFaultAsserted t h s
  | .headTempSample t h codes => Sys2Proof.Machine.execHeadTempSample t h codes s
  | .rewindWebStopped t => Sys2Proof.Machine.execRewindWebStopped t s
  | .rewindTimeout t => Sys2Proof.Machine.execRewindTimeout t s
  | .rewindHoldRelease t => Sys2Proof.Machine.execRewindHoldRelease t s
  | .frankHeadSet a => Sys2Proof.Machine.execFrankHeadSet a s
  | .frankWaveform a => Sys2Proof.Machine.execFrankWaveform a s
  | .frankDensity a => Sys2Proof.Machine.execFrankDensity a s
  | .frankMask a => Sys2Proof.Machine.execFrankMask a s
  | .frankSelect a => Sys2Proof.Machine.execFrankSelect a s
  | .frankMachine a => Sys2Proof.Machine.execFrankMachine a s
  | .frankStatus a => Sys2Proof.Machine.execFrankStatus a s
  | .channelFire t c => Sys2Proof.Machine.execChannelFire t c s
  | .swFire t mask => Sys2Proof.Machine.execSwFire t mask s
  | .channelLock t c key => Sys2Proof.Machine.execChannelLock t c key s
  | .heldEventRelease t c => Sys2Proof.Machine.execHeldEventRelease t c s
  | .owedActivation t j => Sys2Proof.Machine.execOwedActivation t j s
  | .eventChannelSet a => Sys2Proof.Machine.execEventChannelSet a s
  | .eventInputSet a => Sys2Proof.Machine.execEventInputSet a s
  | .eventFire a => Sys2Proof.Machine.execEventFire a s
  | .eventLock a => Sys2Proof.Machine.execEventLock a s
  | .eventBridgeSet a => Sys2Proof.Machine.execEventBridgeSet a s
  | .eventStatus a => Sys2Proof.Machine.execEventStatus a s
  | .tellerTick t energy compute hub => Sys2Proof.Machine.execTellerTick t energy compute hub s
  | .throttleExit t => Sys2Proof.Machine.execThrottleExit t s
  | .reductionStep t => Sys2Proof.Machine.execReductionStep t s
  | .reductionRevert t => Sys2Proof.Machine.execReductionRevert t s
  | .hotDistrictCheck t => Sys2Proof.Machine.execHotDistrictCheck t s
  | .poolPointReselect t d => Sys2Proof.Machine.execPoolPointReselect t d s
  | .districtPowerGate t d => Sys2Proof.Machine.execDistrictPowerGate t d s
  | .cellDispatch t d cell tasks => Sys2Proof.Machine.execCellDispatch t d cell tasks s
  | .tileDone t d cell storeError => Sys2Proof.Machine.execTileDone t d cell storeError s
  | .routeChangeDone t => Sys2Proof.Machine.execRouteChangeDone t s
  | .districtReady t d bad => Sys2Proof.Machine.execDistrictReady t d bad s
  | .dvfsStepDone t d => Sys2Proof.Machine.execDvfsStepDone t d s
  | .retrainSliceGrant t c rank took drift => Sys2Proof.Machine.execRetrainSliceGrant t c rank took drift s
  | .tellerSet a => Sys2Proof.Machine.execTellerSet a s
  | .tellerStationSet a => Sys2Proof.Machine.execTellerStationSet a s
  | .tellerCheck a => Sys2Proof.Machine.execTellerCheck a s
  | .tellerStatus a => Sys2Proof.Machine.execTellerStatus a s
  | .tellerRemap a => Sys2Proof.Machine.execTellerRemap a s
  | .refreshDue t c reads => Sys2Proof.Machine.execRefreshDue t c reads s
  | .refreshMr4Poll t c levels => Sys2Proof.Machine.execRefreshMr4Poll t c levels s
  | .refreshMakeup t c => Sys2Proof.Machine.execRefreshMakeup t c s
  | .retrainDue t c rank => Sys2Proof.Machine.execRetrainDue t c rank s
  | .eccWriteback t c => Sys2Proof.Machine.execEccWriteback t c s
  | .scrubRead t errors => Sys2Proof.Machine.execScrubRead t errors s
  | .dramInfo a => Sys2Proof.Machine.execDramInfo a s
  | .dramSet a => Sys2Proof.Machine.execDramSet a s
  | .dramStatus a => Sys2Proof.Machine.execDramStatus a s
  | .dramErrorLog a => Sys2Proof.Machine.execDramErrorLog a s
  | .dramTrain a => Sys2Proof.Machine.execDramTrain a s
  | .dramRetrain a => Sys2Proof.Machine.execDramRetrain a s
  | .dramTest a => Sys2Proof.Machine.execDramTest a s
  | .mailboxDoorbell t f m index host => Sys2Proof.Machine.execMailboxDoorbell t f m index host s
  | .mailboxEnable t f m word => Sys2Proof.Machine.execMailboxEnable t f m word s
  | .msixCoalesceTimer t m => Sys2Proof.Machine.execMsixCoalesceTimer t m s
  | .hostMemoryError t m => Sys2Proof.Machine.execHostMemoryError t m s
  | .courierStart t k host => Sys2Proof.Machine.execCourierStart t k host s
  | .courierStop t k => Sys2Proof.Machine.execCourierStop t k s
  | .courierBurst t errors host => Sys2Proof.Machine.execCourierBurst t errors host s
  | .courierRunDone t k hostError => Sys2Proof.Machine.execCourierRunDone t k hostError s
  | .functionLevelReset t f => Sys2Proof.Machine.execFunctionLevelReset t f s
  | .hostLinkDown t => Sys2Proof.Machine.execHostLinkDown t s
  | .perstNChange t low => Sys2Proof.Machine.execPerstNChange t low s
  | .mailboxSet a => Sys2Proof.Machine.execMailboxSet a s
  | .mailboxStatus a => Sys2Proof.Machine.execMailboxStatus a s
  | .courierSet a => Sys2Proof.Machine.execCourierSet a s
  | .hostLinkStatus a => Sys2Proof.Machine.execHostLinkStatus a s
  | .compJob a => Sys2Proof.Machine.execCompJob a s
  | .compJobDone t e x => Sys2Proof.Machine.execCompJobDone t e x s
  | .compStatus a => Sys2Proof.Machine.execCompStatus a s
  | .vaultMountDone t bad => Sys2Proof.Machine.execVaultMountDone t bad s
  | .vaultReplayDone t bad => Sys2Proof.Machine.execVaultReplayDone t bad s
  | .vaultObjectCommit t fill => Sys2Proof.Machine.execVaultObjectCommit t fill s
  | .vaultProgramFail t b channel target lun plane => Sys2Proof.Machine.execVaultProgramFail t b channel target lun plane s
  | .vaultCheckpoint t => Sys2Proof.Machine.execVaultCheckpoint t s
  | .vaultScrubDue t b m => Sys2Proof.Machine.execVaultScrubDue t b m s
  | .vaultReadDisturb t b => Sys2Proof.Machine.execVaultReadDisturb t b s
  | .vaultInfo a => Sys2Proof.Machine.execVaultInfo a s
  | .vaultFormat a => Sys2Proof.Machine.execVaultFormat a s
  | .vaultSet a => Sys2Proof.Machine.execVaultSet a s
  | .vaultStatus a => Sys2Proof.Machine.execVaultStatus a s
  | .vaultFwWrite a => Sys2Proof.Machine.execVaultFwWrite a s
  | .vaultFwActivate a => Sys2Proof.Machine.execVaultFwActivate a s
  | .daybookJobs a => Sys2Proof.Machine.execDaybookJobs a s
  | .daybookJobSet a => Sys2Proof.Machine.execDaybookJobSet a s
  | .journalSuppressTimer t code => Sys2Proof.Machine.execJournalSuppressTimer t code s
  | .journalSpill t => Sys2Proof.Machine.execJournalSpill t s
  | .journalPolicy a => Sys2Proof.Machine.execJournalPolicy a s
  | .journalRate a => Sys2Proof.Machine.execJournalRate a s
  | .journalRead a => Sys2Proof.Machine.execJournalRead a s
  | .journalRelease a => Sys2Proof.Machine.execJournalRelease a s
  | .journalStatus a => Sys2Proof.Machine.execJournalStatus a s
  | .headDetectTimer t => Sys2Proof.Machine.execHeadDetectTimer t s
  | .enumToken t f body => Sys2Proof.Machine.execEnumToken t f body s
  | .enumLastTimer t => Sys2Proof.Machine.execEnumLastTimer t s
  | .enumDone t f body => Sys2Proof.Machine.execEnumDone t f body s
  | .chainHello t f postcode headSerial => Sys2Proof.Machine.execChainHello t f postcode headSerial s
  | .chainCommandFrame t f origin ref packet => Sys2Proof.Machine.execChainCommandFrame t f origin ref packet s
  | .chainReplyFrame t f origin ref reply => Sys2Proof.Machine.execChainReplyFrame t f origin ref reply s
  | .staged t f origin ref tag status failedBlocks => Sys2Proof.Machine.execStaged t f origin ref tag status failedBlocks s
  | .commit t f origin ref tag => Sys2Proof.Machine.execCommit t f origin ref tag s
  | .abort t f origin ref tag => Sys2Proof.Machine.execAbort t f origin ref tag s
  | .commitAck t f origin ref tag => Sys2Proof.Machine.execCommitAck t f origin ref tag s
  | .ledgerFrame t f record => Sys2Proof.Machine.execLedgerFrame t f record s
  | .eventFrame t f slot mult hops => Sys2Proof.Machine.execEventFrame t f slot mult hops s
  | .chainAck t port seq => Sys2Proof.Machine.execChainAck t port seq s
  | .chainNak t port seq => Sys2Proof.Machine.execChainNak t port seq s
  | .chainAckTimer t port => Sys2Proof.Machine.execChainAckTimer t port s
  | .probeTimer t => Sys2Proof.Machine.execProbeTimer t s
  | .probe t seq t1 residence => Sys2Proof.Machine.execProbe t seq t1 residence s
  | .probeReply t seq residence => Sys2Proof.Machine.execProbeReply t seq residence s
  | .sync t value d => Sys2Proof.Machine.execSync t value d s
  | .chainResetBlock t port => Sys2Proof.Machine.execChainResetBlock t port s
  | .chainStatus a => Sys2Proof.Machine.execChainStatus a s
  | .chainEnumerate a => Sys2Proof.Machine.execChainEnumerate a s
  | .chainTimeSet a => Sys2Proof.Machine.execChainTimeSet a s
  | .chainReset a => Sys2Proof.Machine.execChainReset a s
  | .chainWake a => Sys2Proof.Machine.execChainWake a s
  | .twinSenseFree t => Sys2Proof.Machine.execTwinSenseFree t s
  | .twinSenseHeld t => Sys2Proof.Machine.execTwinSenseHeld t s
  | .interlockTakeTimer t => Sys2Proof.Machine.execInterlockTakeTimer t s
  | .contentionBackoff t => Sys2Proof.Machine.execContentionBackoff t s
  | .heartbeat t role counter => Sys2Proof.Machine.execHeartbeat t role counter s
  | .heartbeatSend t => Sys2Proof.Machine.execHeartbeatSend t s
  | .heartbeatLoss t => Sys2Proof.Machine.execHeartbeatLoss t s
  | .twinHello t f serial role pairPostcode digest resv => Sys2Proof.Machine.execTwinHello t f serial role pairPostcode digest resv s
  | .stateFrame t f k block part parts x => Sys2Proof.Machine.execStateFrame t f k block part parts x s
  | .digestFrame t f k partialSeen block records digest => Sys2Proof.Machine.execDigestFrame t f k partialSeen block records digest s
  | .replayDone t => Sys2Proof.Machine.execReplayDone t s
  | .replayResultFrame t f k result block => Sys2Proof.Machine.execReplayResultFrame t f k result block s
  | .replayResultTimeout t => Sys2Proof.Machine.execReplayResultTimeout t s
  | .handoverFrame t f k block => Sys2Proof.Machine.execHandoverFrame t f k block s
  | .specimenFrame t f k offset image => Sys2Proof.Machine.execSpecimenFrame t f k offset image s
  | .twinSet a => Sys2Proof.Machine.execTwinSet a s
  | .twinJoin a => Sys2Proof.Machine.execTwinJoin a s
  | .twinHandover a => Sys2Proof.Machine.execTwinHandover a s
  | .twinStatus a => Sys2Proof.Machine.execTwinStatus a s
  | .calRun a => Sys2Proof.Machine.execCalRun a s
  | .calStepDone t calres measured => Sys2Proof.Machine.execCalStepDone t calres measured s
  | .calRunTimeout t => Sys2Proof.Machine.execCalRunTimeout t s
  | .calRecompute t sentry => Sys2Proof.Machine.execCalRecompute t sentry s
  | .calOffsetSet a => Sys2Proof.Machine.execCalOffsetSet a s
  | .calStatus a => Sys2Proof.Machine.execCalStatus a s
  | .gpioEdge t g x => Sys2Proof.Machine.execGpioEdge t g x s
  | .gpioPulseEnd t g => Sys2Proof.Machine.execGpioPulseEnd t g s
  | .gpioSet a => Sys2Proof.Machine.execGpioSet a s
  | .gpioStatus a => Sys2Proof.Machine.execGpioStatus a s
  | .adcRead a => Sys2Proof.Machine.execAdcRead a s
  | .i2cTransfer a => Sys2Proof.Machine.execI2cTransfer a s
  | .timeUnsynced t => Sys2Proof.Machine.execTimeUnsynced t s
  | .twinHoldRelease t => Sys2Proof.Machine.execTwinHoldRelease t s
  | .headChainReset t => Sys2Proof.Machine.execHeadChainReset t s
  | .districtFault t d => Sys2Proof.Machine.execDistrictFault t d s
  | .hostLinkUp t speed width payload => Sys2Proof.Machine.execHostLinkUp t speed width payload s
  | .vidSettled t c => Sys2Proof.Machine.execVidSettled t c s
  | .frkFaultReleased t h => Sys2Proof.Machine.execFrkFaultReleased t h s
  | .testAccessInstruction t ins => Sys2Proof.Machine.execTestAccessInstruction t ins s

end Sys2Proof.Machine
end

