-- ==== Sys2Proof/Machine/Step.lean ====
section
/-!
DEFINITION. Sys2Proof/Machine/Step.lean: the step: the command at the front of the queue has its effect on the state with the queue's
rest; with no command waiting the block idles (assumption 1).
-/
namespace Sys2Proof.Machine

/-- One step. -/
def step (s : State) : Host.Outcome State Fault Refusal :=
  match s.pending with
  | [] => .next s
  | c :: rest => exec c { s with pending := rest }

/-- The state with the command that a word spells at the front of its queue; unchanged where the word spells none. -/
def State.withFetchWord (s : State) (nbits w : Nat) : State :=
  match decodeTableWord nbits w with
  | none => s
  | some c => { s with pending := c :: s.pending }

end Sys2Proof.Machine
end

