-- ==== Sys2Proof/Safety.lean ====
section
/-!
DEFINITION. Sys2Proof/Safety.lean: what the statements of this package speak of: a package in which a command's own effect is the
whole step (`Calm`), the journal taking what the command made arise (`State.settled`), and a packet that passes every check
(`Accepted`).
-/
namespace Sys2Proof.Machine

/-- A member of a twin pair for which a step has nothing to do: its lane group is known to be as it is, its HELLO is sent, no specimen,
no change of role and no handover is due (R505, R506, R519, R520). -/
structure TwinQuiet (s : State) : Prop where
  link : groupLink 14 s ≠ 0 ↔ s.lanes.up.getLsbD 14 = true
  hello : (s.sys.fwRunning && s.twin.up) = true → s.twin.helloDigest = configDigest s
  partner : s.twin.role = .active → s.twin.up = true → s.twin.partnerRole ≠ .syncing ∧ s.twin.partnerRole ≠ .inSync
  role : s.twin.role ≠ .inSync
  sync : syncReached s = false
  handover : s.twin.handoverNow = false

/-- Nothing in the package is waiting for the end of the step: no channel of the sorting frame listens to a source, no mode change, fault
or reset is asked for, no lane group has changed, no work is left over, and a twin member has nothing to tell its partner.
A command that comes in such a state and keeps it so has its own effect and no other. -/
structure Calm (s : State) : Prop where
  /-- No channel listens to a source (R354). -/
  channels : ∀ e ∈ s.frame.channels, e.2.producerEn = false
  /-- What is raised enters by a source, and a clock takes it. -/
  raised : ∀ r ∈ s.frame.raised, r.chan = none
  few : s.frame.raised.length ≤ 200
  /-- No mode change, fault or reset is asked for (R73, R75, R77, R84). -/
  fault : s.modes.faultRequest = none
  wanted : s.modes.wanted = none
  reset : s.modes.resetNow = none
  waiting : s.modes.waitingModes = []
  /-- No transition is in progress, unless it waits for a running engine (R75, R82, R83). -/
  transition : ∀ x ∈ s.modes.trans, x.target = .standby ∧ enginesRun s = true
  /-- No enable of the switched rails is about to change (R538-R540). -/
  falling : s.modes.rail1Off = none
  rising : wantsPower s = true → (s.modes.rail1En = true ∨ s.modes.discharged.getLsbD 0 = false) ∧
    (s.modes.rail2En = true ∨ s.modes.groupUp.getLsbD 0 = false ∨ s.modes.discharged.getLsbD 1 = false)
  /-- INSPECT and INSPECT_REDUCED stand as the reductions in force say (R383). -/
  full : s.mode = .inspect → reducedNow s = false
  reduced : s.mode = .reduced → reducedNow s = true
  /-- TWIN_EN is low (R500), or the member has nothing to do. -/
  twin : s.modes.strapTwin = false ∨ TwinQuiet s
  /-- Every lane group's link is known to be as it is (R106). -/
  links : ∀ g < 14, (groupLink g s ≠ 0 ↔ s.lanes.up.getLsbD g = true)
  /-- No chain or twin lane is on its way to IDLE (R108). -/
  rest : s.lanes.rests = false
  /-- Every sensor group that is lit is known to be so (R136). -/
  lit : ∀ g < 12, (groupLink g s = 1 ↔ s.lanes.lit.getLsbD g = true)
  /-- No lane waits for a calibrated code (R526). -/
  codes : ∀ e ∈ s.lanes.lanes, e.2.calDue = false
  /-- No compare unit has fired for a gate (R310). -/
  firings : s.pos.firings = []
  /-- No pseudo-record waits (R299). -/
  pseudos : ∀ e ∈ s.regs, e.2.pseudos = []
  /-- No second-look job is queued, and none runs (R326). -/
  queue : s.look.queue = []
  running : s.look.running = []
  released : ∀ e ∈ s.learns, e.2.released = false
  /-- Nothing waits for a compression engine (R440). -/
  jobs : compWaiters s = []

/-- A calm package that is no member of a pair: TWIN_EN is low (R500). -/
structure Solo (s : State) : Prop extends Calm s where
  alone : s.modes.strapTwin = false

/-- The frame has carried to no one what was raised. -/
def State.unheard (s : State) : State := { s with frame := { s.frame with raised := [] } }

/-- A calm state at the end of its step: the journal has taken the entries that arose (R465), the VID codes are those the districts need
(R541), and no event is left. -/
def State.settled (s : State) : State := (updateVids (recordArising s.unheard)).unheard

/-- The next state when a command that came on s left the calm state u. -/
def State.next (s u : State) : State := { u.settled with pending := s.pending }

/-- The state a packet meets: a mailbox entry has been taken, the service port is busy (R43, R419). -/
def received (a : Args) (s : State) : State :=
  if a.src = .service then modService (fun x => { x with busy := true, reply := [] }) (s.begin a.t)
  else takeEntry a.src (s.begin a.t)

/-- A packet that its source delivers, that starts at once, and that is for this package: it passes the checks of the header (R34-R36)
and is not chain-wide. -/
def Delivered (op : Nat) (a : Args) (s : State) : Bool :=
  let u := received a s
  (a.src ≠ .service || serviceFree (s.begin a.t)) && mayStart op a u
    && headerStatus a u = stDone && (a.postcode = 0xFE || (a.postcode < 16 && a.postcode = u.chain.postcode) || (a.postcode = 0xFF && u.chain.size ≤ 1))

/-- A packet meets no block that a started command holds, and so does not wait (R52). -/
def Prompt (d : CommandDef) (a : Args) (u : State) : Bool := d.free || !(d.changes a u).any (startedHolds a u)

/-- A delivered packet that passes the checks of its definition (R35-R55), stages on every target (R54), waits for no block that a started
command holds (R52) and is not CHECK_ONLY. -/
def Accepted (d : CommandDef) (a : Args) (s : State) : Bool :=
  let u := received a s
  Delivered d.opcode a s && !a.checkOnly && commandStatus d a u = stDone && stageStatus (stageAll d a u) = stDone  && Prompt d a u

/-- The next state of a command that came on s and whose own effect left u: what follows within the step is settled, and the queue is as it
was. A calm u settles to `s.next u`. -/
def State.ends (s u : State) : State := { settle u with pending := s.pending }

/-- The next state when an accepted packet with this opcode had its effect, which left u, and its reply carries these data: the reply goes
to the packet's source (R46), after the target result where R48 asks for one, and the step ends. -/
def State.replied (s : State) (a : Args) (op : Nat) (data : List Byte) (u : State) : State :=
  s.ends (sendReply a op stDone (okData a data u) u)

/-- The next state when an accepted packet had its effect, which left u, and ends under a status of its own (R49, R59). -/
def State.concluded (s : State) (a : Args) (op st : Nat) (data : List Byte) (u : State) : State :=
  s.ends (sendReply a op st
    (if st = stDone then okData a data u else if st = stPartial then data else failWhole op a st u.chain.postcode) u)

/-- The next state when an accepted packet had its effect, which left u, and its reply comes with a later event: the command is outstanding,
and holds what it changes (R47, R52, R53). -/
def State.begun (s : State) (a : Args) (d : CommandDef) (u : State) (note : Nat) : State :=
  s.ends (beginStarted d a note (received a s) u)

/-- The next state when a packet is refused with a status in the state u: one reply, one journal entry, and no other effect (R57). -/
def State.turnedAway (s : State) (a : Args) (op : Nat) (u : State) (st : Nat) : State := s.ends (refuse op st a u)

/-- The next state by what the commit of an accepted packet answers (R47, R54). -/
def CommandDef.after (d : CommandDef) (a : Args) (s : State) : Result → State
  | .reply data u => s.replied a d.opcode data u
  | .later u note => s.begun a d u note
  | .ended st data u => s.concluded a d.opcode st data u
  | .refuse st => s.ends (sendReply a d.opcode st (failWhole d.opcode a st (received a s).chain.postcode) (d.onRefusal (d.call a) st (received a s)))

/-- The command packet that a row of the table delivers, with the command's definition; a row that is an event delivers none. -/
def packetOf : Instr → Option (CommandDef × Args)
  | .nop a => some (cmdNop, a)
  | .getIdentity a => some (cmdGetIdentity, a)
  | .readCapability a => some (cmdReadCapability, a)
  | .getHealth a => some (cmdGetHealth, a)
  | .cancel a => some (cmdCancel, a)
  | .keyChallenge a => some (cmdKeyChallenge, a)
  | .keyResponse a => some (cmdKeyResponse, a)
  | .keyRevoke a => some (cmdKeyRevoke, a)
  | .frIdentify a => some (cmdFrIdentify, a)
  | .frSetPort a => some (cmdFrSetPort, a)
  | .frSetPitch a => some (cmdFrSetPitch, a)
  | .frLearn a => some (cmdFrLearn, a)
  | .frInspect a => some (cmdFrInspect, a)
  | .frHalt a => some (cmdFrHalt, a)
  | .frReadDefects a => some (cmdFrReadDefects, a)
  | .frJournalPolicy a => some (cmdFrJournalPolicy, a)
  | .setMode a => some (cmdSetMode, a)
  | .enterSentry a => some (cmdEnterSentry, a)
  | .wake a => some (cmdWake, a)
  | .getResetCause a => some (cmdGetResetCause, a)
  | .setSafeState a => some (cmdSetSafeState, a)
  | .reset a => some (cmdReset, a)
  | .forceSafe a => some (cmdForceSafe, a)
  | .laneSet a => some (cmdLaneSet, a)
  | .laneRegRead a => some (cmdLaneRegRead, a)
  | .laneRegWrite a => some (cmdLaneRegWrite, a)
  | .portSet a => some (cmdPortSet, a)
  | .portStatus a => some (cmdPortStatus, a)
  | .cameraSet a => some (cmdCameraSet, a)
  | .cameraMessage a => some (cmdCameraMessage, a)
  | .cameraInfo a => some (cmdCameraInfo, a)
  | .photoStoreBase a => some (cmdPhotoStoreBase, a)
  | .photoSelectBase a => some (cmdPhotoSelectBase, a)
  | .photoSetTrim a => some (cmdPhotoSetTrim, a)
  | .photoRead a => some (cmdPhotoRead, a)
  | .photoStatus a => some (cmdPhotoStatus, a)
  | .photoCapture a => some (cmdPhotoCapture, a)
  | .posEncoderSet a => some (cmdPosEncoderSet, a)
  | .posSetCount a => some (cmdPosSetCount, a)
  | .posStatus a => some (cmdPosStatus, a)
  | .posLatchSet a => some (cmdPosLatchSet, a)
  | .posCompareArm a => some (cmdPosCompareArm, a)
  | .resampleSet a => some (cmdResampleSet, a)
  | .resamplePlaneOffset a => some (cmdResamplePlaneOffset, a)
  | .resampleStatus a => some (cmdResampleStatus, a)
  | .stationSet a => some (cmdStationSet, a)
  | .stitchMap a => some (cmdStitchMap, a)
  | .colourMatrix a => some (cmdColourMatrix, a)
  | .colourXyz a => some (cmdColourXyz, a)
  | .outletSet a => some (cmdOutletSet, a)
  | .outletTable a => some (cmdOutletTable, a)
  | .stitchStatus a => some (cmdStitchStatus, a)
  | .outletStatus a => some (cmdOutletStatus, a)
  | .learnSet a => some (cmdLearnSet, a)
  | .goldenFreeSet a => some (cmdGoldenFreeSet, a)
  | .learnStatus a => some (cmdLearnStatus, a)
  | .specimenStore a => some (cmdSpecimenStore, a)
  | .specimenRecall a => some (cmdSpecimenRecall, a)
  | .specimenDelete a => some (cmdSpecimenDelete, a)
  | .specimenList a => some (cmdSpecimenList, a)
  | .frSetThreshold a => some (cmdFrSetThreshold, a)
  | .regSet a => some (cmdRegSet, a)
  | .compareThresholds a => some (cmdCompareThresholds, a)
  | .streakSet a => some (cmdStreakSet, a)
  | .regStatus a => some (cmdRegStatus, a)
  | .streakList a => some (cmdStreakList, a)
  | .regFieldRead a => some (cmdRegFieldRead, a)
  | .segSet a => some (cmdSegSet, a)
  | .segRules a => some (cmdSegRules, a)
  | .segRulesRead a => some (cmdSegRulesRead, a)
  | .segStatus a => some (cmdSegStatus, a)
  | .ledgerSet a => some (cmdLedgerSet, a)
  | .ledgerChain a => some (cmdLedgerChain, a)
  | .outputRules a => some (cmdOutputRules, a)
  | .outputForce a => some (cmdOutputForce, a)
  | .ledgerStatus a => some (cmdLedgerStatus, a)
  | .ledgerExport a => some (cmdLedgerExport, a)
  | .slNetworkLoad a => some (cmdSlNetworkLoad, a)
  | .slSet a => some (cmdSlSet, a)
  | .slNetworkRead a => some (cmdSlNetworkRead, a)
  | .slStatus a => some (cmdSlStatus, a)
  | .frankHeadSet a => some (cmdFrankHeadSet, a)
  | .frankWaveform a => some (cmdFrankWaveform, a)
  | .frankDensity a => some (cmdFrankDensity, a)
  | .frankMask a => some (cmdFrankMask, a)
  | .frankSelect a => some (cmdFrankSelect, a)
  | .frankMachine a => some (cmdFrankMachine, a)
  | .frankStatus a => some (cmdFrankStatus, a)
  | .eventChannelSet a => some (cmdEventChannelSet, a)
  | .eventInputSet a => some (cmdEventInputSet, a)
  | .eventFire a => some (cmdEventFire, a)
  | .eventLock a => some (cmdEventLock, a)
  | .eventBridgeSet a => some (cmdEventBridgeSet, a)
  | .eventStatus a => some (cmdEventStatus, a)
  | .tellerSet a => some (cmdTellerSet, a)
  | .tellerStationSet a => some (cmdTellerStationSet, a)
  | .tellerCheck a => some (cmdTellerCheck, a)
  | .tellerStatus a => some (cmdTellerStatus, a)
  | .tellerRemap a => some (cmdTellerRemap, a)
  | .dramInfo a => some (cmdDramInfo, a)
  | .dramSet a => some (cmdDramSet, a)
  | .dramStatus a => some (cmdDramStatus, a)
  | .dramErrorLog a => some (cmdDramErrorLog, a)
  | .dramTrain a => some (cmdDramTrain, a)
  | .dramRetrain a => some (cmdDramRetrain, a)
  | .dramTest a => some (cmdDramTest, a)
  | .mailboxSet a => some (cmdMailboxSet, a)
  | .mailboxStatus a => some (cmdMailboxStatus, a)
  | .courierSet a => some (cmdCourierSet, a)
  | .hostLinkStatus a => some (cmdHostLinkStatus, a)
  | .compJob a => some (cmdCompJob, a)
  | .compStatus a => some (cmdCompStatus, a)
  | .vaultInfo a => some (cmdVaultInfo, a)
  | .vaultFormat a => some (cmdVaultFormat, a)
  | .vaultSet a => some (cmdVaultSet, a)
  | .vaultStatus a => some (cmdVaultStatus, a)
  | .vaultFwWrite a => some (cmdVaultFwWrite, a)
  | .vaultFwActivate a => some (cmdVaultFwActivate, a)
  | .daybookJobs a => some (cmdDaybookJobs, a)
  | .daybookJobSet a => some (cmdDaybookJobSet, a)
  | .journalPolicy a => some (cmdJournalPolicy, a)
  | .journalRate a => some (cmdJournalRate, a)
  | .journalRead a => some (cmdJournalRead, a)
  | .journalRelease a => some (cmdJournalRelease, a)
  | .journalStatus a => some (cmdJournalStatus, a)
  | .chainStatus a => some (cmdChainStatus, a)
  | .chainEnumerate a => some (cmdChainEnumerate, a)
  | .chainTimeSet a => some (cmdChainTimeSet, a)
  | .chainReset a => some (cmdChainReset, a)
  | .chainWake a => some (cmdChainWake, a)
  | .twinSet a => some (cmdTwinSet, a)
  | .twinJoin a => some (cmdTwinJoin, a)
  | .twinHandover a => some (cmdTwinHandover, a)
  | .twinStatus a => some (cmdTwinStatus, a)
  | .calRun a => some (cmdCalRun, a)
  | .calOffsetSet a => some (cmdCalOffsetSet, a)
  | .calStatus a => some (cmdCalStatus, a)
  | .gpioSet a => some (cmdGpioSet, a)
  | .gpioStatus a => some (cmdGpioStatus, a)
  | .adcRead a => some (cmdAdcRead, a)
  | .i2cTransfer a => some (cmdI2cTransfer, a)
  | _ => none

/-- The state but for what every packet and its reply touch: time, reply numbers, the service port, the mailboxes' indices, host memory, the
clock each MSI-X message was last sent in, the chain's links and clock, the lanes and the order in which a group's blocks are striped, the free values drawn, the DRAM's queues, the journal,
the VID codes, what is sent and what is raised. -/
def State.work (s : State) : State := { s with
  sys := { s.sys with seqs := [], service := {}, free := 0 }
  lanes := { s.lanes with lanes := [], rows := [] }
  dram := { s.dram with chs := [], demand := [], slot := 0 }
  modes := { s.modes with vid0 := 0, vid1 := 0, vidRaised0 := none, vidRaised1 := none, vidOld0 := 0, vidOld1 := 0 }
  frame := { s.frame with base := 0, clock := 0, raised := [] }
  host := { s.host with boxes := [], repliesDiscarded := 0, msixAt := [] }
  journal := {}
  chain := { s.chain with upLink := {}, downLink := {}, offset := 0, slewLeft := 0, slewFrom := 0 }
  hostMem := []
  now := 0
  sent := [] }

/-- A lane but for its transmitter's scrambler and the injections that a block sent has used up (R99, R116). -/
def Lane.rest (x : Lane) : Lane := { x with scr := 0, injects := [] }

/-- A DRAM channel but for its queues and what serving them counts (R397, R401, R411). -/
def DramCh.rest (x : DramCh) : DramCh :=
  { x with subs := [], writebacks := [], lfsr := 0, neighbours := 0, readBytes := 0, writeBytes := 0 }

/-- Nothing has changed but what every packet and its reply touch: the block's units are as they were, lane by lane and channel by channel (of a
table of channels that is listed in order). -/
structure Untouched (s t : State) : Prop where
  work : t.work = s.work
  lanes : ∀ l, (t.lane l).rest = (s.lane l).rest
  listed : Tab.rising s.dram.chs = true → Tab.rising t.dram.chs = true
  channels : Tab.rising s.dram.chs = true → ∀ c, (t.dramCh c).rest = (s.dramCh c).rest

/-- The commands that only read: their reply tells of the state, and they leave it as it is. -/
def readsOnly : Instr → Bool
  | .nop _ => true
  | .getIdentity _ => true
  | .readCapability _ => true
  | .getHealth _ => true
  | .frIdentify _ => true
  | .getResetCause _ => true
  | .laneRegRead _ => true
  | .cameraInfo _ => true
  | .photoRead _ => true
  | .learnStatus _ => true
  | .specimenList _ => true
  | .streakList _ => true
  | .regFieldRead _ => true
  | .segRulesRead _ => true
  | .slNetworkRead _ => true
  | .tellerCheck _ => true
  | .dramInfo _ => true
  | .dramErrorLog _ => true
  | .mailboxStatus _ => true
  | .vaultInfo _ => true
  | .vaultStatus _ => true
  | .daybookJobs _ => true
  | .journalRead _ => true
  | .calStatus _ => true
  | .adcRead _ => true
  | _ => false

end Sys2Proof.Machine
end

