-- ==== Sys2Proof/Certificates/Slice0/Obligations.lean ====
section
/-!
DEFINITION. Sys2Proof/Certificates/Slice0/Obligations.lean: the statements for the provers.
-/
open Sys2Proof Sys2Proof.Machine

/-- The queue is served first in, first out: a step takes the command at the front, and is that command's effect on the state with the
queue's rest. (Assumption 1: the model's own queue.) -/
def Obligations.StepRunsFrontCommand : Prop :=
  ∀ (c : Instr) (rest : List Instr) (s : State), s.pending = c :: rest → Sys2Proof.Machine.step s = exec c { s with pending := rest }

/-- With no command waiting the block idles (assumption 1, the model's choice). -/
def Obligations.EmptyQueueIdles : Prop := ∀ s : State, s.pending = [] → Sys2Proof.Machine.step s = .next s

/-- Every row of the table completes, in every state and with every operand, and the queue behind it is left as it is: no command ends in a
fault or a refusal. What the other statements give row by row is given here for the events of calibration, the pins and the supplies: the
next state is the event's own effect, settled. And for the seven commands of the DRAM controller (R411): an accepted packet of DRAM_INFO,
DRAM_SET, DRAM_STATUS, DRAM_ERROR_LOG, DRAM_RETRAIN or DRAM_TEST ends DONE with its one reply, whose length is that of R411's table, and one of
DRAM_TRAIN does where no channel fails its training; what DRAM_SET and DRAM_STATUS leave is named. -/
def Obligations.EveryCommandCompletes : Prop :=
  (∀ (c : Instr) (s : State), ∃ t : State, exec c s = .next t ∧ t.pending = s.pending) ∧
  (∀ (t calres : Nat) (measured : List (Nat × Nat × Int)) (s : State),
    exec (.calStepDone t calres measured) s = .next (s.ends (calStepDone calres measured (s.begin t)))) ∧
  (∀ (t : Nat) (s : State), exec (.calRunTimeout t) s = .next (s.ends (calTimeout (s.begin t)))) ∧
  (∀ (t : Nat) (sentry : Int) (s : State), exec (.calRecompute t sentry) s = .next (s.ends (calRecompute sentry (s.begin t)))) ∧
  (∀ (t : Nat) (low : Bool) (s : State), exec (.perstNChange t low) s = .next (s.ends (perstChange low (s.begin t)))) ∧
  (∀ (t : Nat) (g : Fin 32) (high : Bool) (ns : Nat) (s : State),
    exec (.gpioEdge t g ⟨high, ns⟩) s = .next (s.ends (gpioEdge g.val high ns (s.begin t)))) ∧
  (∀ (t : Nat) (g : Fin 32) (s : State), exec (.gpioPulseEnd t g) s = .next (s.ends (gpioPulseEnd g.val (s.begin t)))) ∧
  (∀ (t : Nat) (speed : Fin 6) (width : Fin 9) (payload : Fin 3) (s : State),
    exec (.hostLinkUp t speed width payload) s = .next (s.ends (linkUp speed.val width.val payload.val (s.begin t)))) ∧
  (∀ (t : Nat) (c : Fin 2) (s : State), exec (.vidSettled t c) s = .next (s.ends (vidSettled c.val (s.begin t)))) ∧
  (∀ (a : Args) (s : State), Accepted cmdDramInfo a s = true →
    ∃ data : List Byte, data.length = 16 ∧ exec (.dramInfo a) s = .next (s.replied a 0x0B00 data (received a s))) ∧
  (∀ (a : Args) (s : State), Accepted cmdDramSet a s = true →
    let p := (cmdDramSet.call a).p
    exec (.dramSet a) s = .next (s.replied a 0x0B01 [] (modDram (fun d => { d with set := {
      postponeMax := u8 p 0, fine := u8 p 1 = 1, neighbour := u8 p 2 = 1, neighbourK := u8 p 3, retrainMs := u16 p 4
      scrubHours := u16 p 6 } }) (received a s)))) ∧
  (∀ (a : Args) (s : State), Accepted cmdDramStatus a s = true →
    let c := cmdDramStatus.call a
    ∃ data : List Byte, data.length = 40 ∧ exec (.dramStatus a) s = .next (s.replied a 0x0B02 data
      (if u8 c.p 0 = 1 then modDramCh c.target (fun x => { x with
        owedPeak := x.owed, corrected := 0, uncorrectable := 0, neighbours := 0, slices := 0, driftMax := 0, readBytes := 0, writeBytes := 0 })
        (received a s) else received a s))) ∧
  (∀ (a : Args) (s : State), Accepted cmdDramErrorLog a s = true →
    ∃ data : List Byte, data.length = 4 + 32 * ((received a s).dramCh (cmdDramErrorLog.call a).target).log.length ∧
      exec (.dramErrorLog a) s = .next (s.replied a 0x0B03 data (received a s))) ∧
  (∀ (a : Args) (s : State), Accepted cmdDramTrain a s = true → a.fails = none →
    ∃ (data : List Byte) (u : State), data.length = 4 ∧ exec (.dramTrain a) s = .next (s.replied a 0x0B04 data u)) ∧
  (∀ (a : Args) (s : State), Accepted cmdDramRetrain a s = true →
    ∃ (data : List Byte) (u : State), data.length = 4 ∧ exec (.dramRetrain a) s = .next (s.replied a 0x0B05 data u)) ∧
  (∀ (a : Args) (s : State), Accepted cmdDramTest a s = true →
    ∃ (data : List Byte) (u : State), data.length = 24 * (channelsOf (cmdDramTest.call a)).length ∧
      exec (.dramTest a) s = .next (s.replied a 0x0B06 data u))

/-- What the end of a step adds in a calm state: the journal takes the entries that arose, the VID codes follow, and no event is left. The
other statements' `ends` is this on every calm state, so that they say the whole next state there. -/
def Obligations.CalmStepSettles : Prop := ∀ s u : State, Calm u → s.ends u = s.next u

/-- Taking a packet and replying to it leave a calm package calm: nothing else becomes due by them. -/
def Obligations.RepliesKeepCalm : Prop :=
  ∀ (a : Args) (op st : Nat) (data : List Byte) (s : State), Calm s → Calm (sendReply a op st data (received a s))

/-- The frame of the commands that only read: accepted in a calm package, they complete, and nothing has changed but what a packet and its
reply touch; of REG_FIELD_READ, where no burst that it reads fails (R407) (`Untouched`: every register, buffer, counter and mode of the block's units is as it was, every lane but for its scrambler, every
DRAM channel but for its queues). -/
def Obligations.ReadersLeaveTheBlock : Prop :=
  ∀ (i : Instr) (d : CommandDef) (a : Args) (s : State), readsOnly i = true → packetOf i = some (d, a) → Accepted d a s = true →
    (i = .regFieldRead a → a.fails = none) → Calm s → ∃ t : State, exec i s = .next t ∧ Untouched s t ∧ t.pending = s.pending

/-- R57 for a packet that waits for no block and is refused on this package, by the checks of its definition or in staging: the block is as it
was. Left out are
the two commands whose refusal itself acts, and those only without CHECK_ONLY: KEY_RESPONSE, which consumes its challenge (R62), and
POS_COMPARE_ARM, whose refusal has a status bit and an event (R183). -/
def Obligations.RefusalsLeaveTheBlock : Prop :=
  ∀ (i : Instr) (d : CommandDef) (a : Args) (s : State), packetOf i = some (d, a) → Delivered d.opcode a s = true →
    Prompt d a (received a s) = true →
    (commandStatus d a (received a s) ≠ stDone ∨ stageStatus (stageAll d a (received a s)) ≠ stDone) →
    (a.checkOnly = true ∨ d.opcode ≠ 0x0006 ∧ d.opcode ≠ 0x0404) → Calm s →
    ∃ t : State, exec i s = .next t ∧ Untouched s t ∧ t.pending = s.pending

/-- A packet with CHECK_ONLY set runs its checks and replies, and leaves the block as it was, whatever the command and whatever the checks
find (R34, R57). -/
def Obligations.CheckOnlyLeavesTheBlock : Prop :=
  ∀ (i : Instr) (d : CommandDef) (a : Args) (s : State), packetOf i = some (d, a) → Delivered d.opcode a s = true → a.checkOnly = true → Calm s →
    ∃ t : State, exec i s = .next t ∧ Untouched s t ∧ t.pending = s.pending

/-- R53, for every command: a packet whose tag is outstanding from the same source gets CONFLICT and no effect, and the outstanding commands
are as they were. The premises are the checks that stand before this one: the header, the Sentry subset, class and block. -/
def Obligations.OutstandingTagConflicts : Prop :=
  ∀ (i : Instr) (d : CommandDef) (a : Args) (s : State), packetOf i = some (d, a) → Delivered d.opcode a s = true →
    ((received a s).mode = .sentry → d.sentry = true) → (a.cls = 0 → d.registered = true) → d.blockOk a = true →
    (∃ x ∈ s.sys.started, x.args.src = a.src ∧ x.args.tag = a.tag) →
    exec i s = .next (s.turnedAway a d.opcode (received a s) stConflict) ∧
      (refuse d.opcode stConflict a (received a s)).sys.started = s.sys.started

/-- R36, for every command: the four sentences on POSTCODE. The premises are that the packet comes in and starts, and that the header is in
order otherwise. -/
def Obligations.PostcodeIsChecked : Prop :=
  ∀ (i : Instr) (d : CommandDef) (a : Args) (s : State), packetOf i = some (d, a) →
    (a.src = .service → serviceFree (s.begin a.t) = true) → mayStart d.opcode a (received a s) = true →
    headerStatus { a with postcode := 0xFE } (received a s) = stDone →
    (16 ≤ a.postcode → a.postcode ≤ 0xFD → exec i s = .next (s.turnedAway a d.opcode (received a s) stOutOfRange)) ∧
    (a.postcode ≤ 15 → (received a s).chain.size ≤ a.postcode →
      exec i s = .next (s.turnedAway a d.opcode (received a s) stAbsent)) ∧
    ((received a s).chain.enumerated = false → a.postcode ≤ 15 ∨ a.postcode = 0xFF →
      exec i s = .next (s.turnedAway a d.opcode (received a s) stAbsent)) ∧
    (a.postcode = 0xFE → headerStatus a (received a s) = stDone)

/-- R60's sentence on opcodes that no chapter defines, over the service port: the frame is taken, and its packet gets BAD_OPCODE and nothing
else. -/
def Obligations.UndefinedOpcodeIsRefused : Prop :=
  ∀ (t : Nat) (frame : List Byte) (s : State), 16 ≤ frame.length → 16 + u16 frame 8 ≤ frame.length → frame.length ≤ 256 →
    let p := readPacket .service frame (s.begin t)
    let u := modService (fun x => { x with busy := true, reply := [] }) (s.begin t)
    commandOf p.1 = none → serviceFree (s.begin t) = true → mayStart p.1 p.2 u = true → headerStatus p.2 u = stDone → p.2.postcode = 0xFE →
    u.mode ≠ .sentry → exec (.writePacket t frame) s = .next (s.ends (refuse p.1 stBadOpcode p.2 u))

/-- R67: before FW_RUNNING reads 1 a doorbell of a command mailbox, rung by the function that owns it, is discarded: the command completes,
the mailbox's indices stand where they were, and no entry becomes a command. -/
def Obligations.DoorbellBeforeFirmwareIsDiscarded : Prop :=
  ∀ (t : Nat) (f : Fin 2) (m : Fin 8192) (index : BitVec 32) (host : List HostWrite) (s : State), m.val < 16 →
    s.sys.fwRunning = false → (s.box m.val).owner = f.val →
    ∃ u : State, exec (.mailboxDoorbell t f m index host) s = .next (s.ends u) ∧
      (u.box m.val).producer = (s.box m.val).producer ∧ (u.box m.val).consumer = (s.box m.val).consumer ∧
      u.sys.waiting = s.sys.waiting ∧ u.sys.started = s.sys.started

/-- R86: at 500 ms without service WATCHDOG_WARN (source 6) is raised; at 1 s the fault state goes to the process outputs and a soft reset with
cause 0x01 acts. -/
def Obligations.WatchdogWarnsThenResets : Prop :=
  (∀ (t : Nat) (s : State), s.sys.fwRunning = true →
    exec (.watchdogWarn t) s = .next (s.ends (raise 6 (journal 0x0104 0 0 [] (modModes (fun m => { m with watchdogWarned := true }) (s.begin t)))))) ∧
  (∀ (t : Nat) (s : State), s.sys.fwRunning = true →
    exec (.watchdogExpiry t) s = .next (s.ends (packageReset .soft 0x01 0xFF
      (modModes (fun m => { m with outputs := m.faultSafe.setWidth 7 }) (s.begin t)))))

/-- R93: in SENTRY a rail other than VDD_SENTRY (rail 3) does nothing, whether it falls below its levels or recovers; VDD_SENTRY below its reset
level, 88 % of nominal, for 500 ns (R90) causes a POR. -/
def Obligations.SentryWatchesOneRail : Prop :=
  (∀ (t : Nat) (r : Fin 9) (mv ns : Nat) (s : State), s.mode = .sentry → r.val ≠ 3 →
    exec (.railBelowReset t (r, ⟨mv, ns⟩)) s = .next (s.ends (s.begin t)) ∧ exec (.railBelowWarning t r ⟨mv, ns⟩) s = .next (s.ends (s.begin t)) ∧
      exec (.railRecovered t r ⟨mv, ns⟩) s = .next (s.ends (s.begin t))) ∧
  (∀ (t mv ns : Nat) (s : State), s.mode = .sentry → 500 ≤ ns → 1000 * mv < 880 * railNominal 3 s.modes →
    exec (.railBelowReset t (3, ⟨mv, ns⟩)) s = .next (s.ends (packageReset .por 1 3 (s.begin t))))

/-- R110, for a group's lane in CAPS: the four conditions, and CAPS_MISMATCH (bit 8 of the causes) where one does not hold. -/
def Obligations.CapsMustPair : Prop :=
  (∀ (g : Nat) (caps : List Byte), capsCompatible g caps = true ↔
    (u8 caps 0 = if g < 12 then 1 else if g = 12 then 4 else if g = 13 then 3 else 5) ∧ u8 caps 1 = 1 ∧ u8 caps 3 = (lanesOf g).length) ∧
  (∀ (t : Nat) (l : Fin 58) (caps : List Byte) (s : State), (s.lane l.val).state = .caps → capsCompatible (groupOf l.val) caps = false →
    ∃ u : State, exec (.laneCapsReceived t l caps) s = .next (s.ends u) ∧ (u.lane l.val).cause.getLsbD 8 = true ∧
      (u.lane l.val).state = .backoff)

/-- R164 and R165, for an enabled quadrature channel and levels held as long as its filter asks: an edge that follows A-leads-B adds one to the
count, the opposite one subtracts one, DIR_INVERT swaps the senses; an edge held for less moves no count and is counted in EDGE_FAULTS. Z does
not count: without the index check it does nothing, and with it the position stays, unless REZERO asks for the step of R172. The four edges of a
line period count four. Counts wrap at 48 bits (R168). -/
def Obligations.QuadratureEdgesCount : Prop :=
  (∀ (t held : Nat) (q : Fin 4) (s : State), (s.encoder q.val).enable = true → filterNs (s.encoder q.val) s ≤ held →
    exec (.encoderEdge t q ⟨.aLeads, held⟩) s = .next (s.ends (moved (encoderEdge q.val .aLeads held (s.begin t)))) ∧
    exec (.encoderEdge t q ⟨.bLeads, held⟩) s = .next (s.ends (moved (encoderEdge q.val .bLeads held (s.begin t)))) ∧
    ((encoderEdge q.val .aLeads held (s.begin t)).encoder q.val).count =
      pos48 ((s.encoder q.val).count + if (s.encoder q.val).dirInvert then -1 else 1) ∧
    ((encoderEdge q.val .bLeads held (s.begin t)).encoder q.val).count =
      pos48 ((s.encoder q.val).count + if (s.encoder q.val).dirInvert then 1 else -1) ∧
    let edge := encoderEdge q.val .aLeads held
    ((edge (edge (edge (edge (s.begin t))))).encoder q.val).count =
      pos48 ((s.encoder q.val).count + if (s.encoder q.val).dirInvert then -4 else 4)) ∧
  (∀ (t held : Nat) (q : Fin 4) (s : State), (s.encoder q.val).enable = true → held < filterNs (s.encoder q.val) s →
    let u := encoderEdge q.val .aLeads held (s.begin t)
    exec (.encoderEdge t q ⟨.aLeads, held⟩) s = .next (s.ends (moved u)) ∧ (u.encoder q.val).count = (s.encoder q.val).count ∧
      (u.encoder q.val).edgeFaults = sat 32 ((s.encoder q.val).edgeFaults + 1)) ∧
  (∀ (t held : Nat) (q : Fin 4) (s : State), filterNs (s.encoder q.val) s ≤ held → (s.encoder q.val).indexCheck = false →
    exec (.indexEdge t ⟨q, held⟩) s = .next (s.ends (moved (s.begin t)))) ∧
  (∀ (t held : Nat) (q : Fin 4) (s : State), (s.encoder q.val).rezero = false →
    exec (.indexEdge t ⟨q, held⟩) s = .next (s.ends (moved (indexEdge q.val held (s.begin t)))) ∧
    pos48 ((indexEdge q.val held (s.begin t)).encoder q.val).count = pos48 (s.encoder q.val).count)

/-- R168's order on positions: the difference of two counts is their difference modulo 2^48 read as a signed 48-bit value, a position is ahead
of another exactly when the other is behind it or both lie half the range apart, and a count wraps into the range. -/
def Obligations.PositionsCompareModulo : Prop :=
  (∀ x y : Int, (2 ^ 48 ∣ posDiff x y - (x - y)) ∧ -2 ^ 47 ≤ posDiff x y ∧ posDiff x y < 2 ^ 47) ∧
  (∀ x y : Int, 0 < posDiff x y → posDiff y x < 0) ∧
  (∀ x : Int, (2 ^ 48 ∣ pos48 x - x) ∧ -2 ^ 47 ≤ pos48 x ∧ pos48 x < 2 ^ 47)

/-- R17: after every package reset the crossbar routes port n to district n, and no pool district serves a port; so it stands at reset. -/
def Obligations.ResetRestoresRoutes : Prop :=
  (∀ (k : ResetKind) (cause rail : Nat) (s : State), (∀ n < 12, (packageReset k cause rail s).route n = n) ∧
    ∀ d, 12 ≤ d → servedPort d (packageReset k cause rail s) = none) ∧
  (∀ n < 12, State.reset.route n = n) ∧ ∀ d, 12 ≤ d → servedPort d State.reset = none

/-- R477: what is held survives a chain reset and a soft reset in place; a POR and a pin reset discard the journal and the spill area, and the
firmware's first entry afterwards is JOURNAL_STARTED (0x0001). -/
def Obligations.JournalSurvivesWarmResets : Prop :=
  (∀ (cause rail : Nat) (s : State), (packageReset .chain cause rail s).journal = s.journal ∧
    (packageReset .soft cause rail s).journal = s.journal) ∧
  (∀ (k : ResetKind) (cause rail : Nat) (s : State), k = .por ∨ k = .pin →
    (packageReset k cause rail s).journal.sram = [] ∧ (packageReset k cause rail s).journal.spill = [] ∧
    (packageReset k cause rail s).journal.arising = [] ∧
    (((bootReset (packageReset k cause rail s)).journal.arising.head?.map (fun e => e.code)) = some 0x0001))

/-- R464 for the entry that is stored, the one that is suppressed and the one that is lost: SEQ starts at 0 after POR and pin reset, a
recorded entry takes the next number, which wraps at 2^48, and the others take none. (Under the STOP policy, where SRAM grows at its end.) -/
def Obligations.SequenceNumbersCount : Prop :=
  (∀ (k : ResetKind) (cause rail : Nat) (s : State), k = .por ∨ k = .pin → (packageReset k cause rail s).journal.nextSeq = 0) ∧
  (∀ (e : JEntry) (s : State), s.journal.policy = false →
    (storeEntry e s).journal.sram = s.journal.sram ++ [{ e with seq := s.journal.nextSeq }]) ∧
  (∀ (e : JEntry) (s : State), (storeEntry e s).journal.nextSeq = (s.journal.nextSeq + 1) % 2 ^ 48) ∧
  (∀ (e : JEntry) (b : Bucket) (s : State), (suppressEntry e b s).journal.nextSeq = s.journal.nextSeq ∧
    (loseEntry s).journal.nextSeq = s.journal.nextSeq)

/-- R469: an entry whose bucket is empty is not recorded; it is counted in SUPPRESSED_TOTAL, and the count and the times of the first and the
last suppressed entry are noted for its code. -/
def Obligations.EmptyBucketSuppresses : Prop :=
  ∀ (e : JEntry) (s : State), s.mode ≠ .sentry → limitedCode e.code = true → ((s.journal.bucket e.code).take s.now).1 = false →
    let b := ((s.journal.bucket e.code).take s.now).2
    let t := recordEntry s e
    t.journal.sram = s.journal.sram ∧ t.journal.spill = s.journal.spill ∧
      t.journal.suppressedTotal = sat 32 (s.journal.suppressedTotal + 1) ∧
      (t.journal.bucket e.code).supCount = sat 32 (b.supCount + 1) ∧
      (t.journal.bucket e.code).supFirst = (if b.supCount = 0 then e.time else b.supFirst) ∧
      (t.journal.bucket e.code).supLast = e.time

/-- R472: the policy is STOP after POR; JOURNAL_POLICY and FR_JOURNAL_POLICY select one; the change discards every held entry, in SRAM and in
the spill area, keeps NEXT_SEQ, and leaves POLICY_CHANGED (0x0004) as the one entry it makes. -/
def Obligations.PolicyChangeStartsAfresh : Prop :=
  State.reset.journal.policy = false ∧
  (∀ (cause rail : Nat) (s : State), (packageReset .por cause rail s).journal.policy = false) ∧
  (∀ (p : Bool) (s : State), (setPolicy p s).journal.policy = p ∧ (setPolicy p s).journal.sram = [] ∧
    (setPolicy p s).journal.spill = [] ∧ (setPolicy p s).journal.nextSeq = s.journal.nextSeq ∧
    ∃ e : JEntry, e.code = 0x0004 ∧ (setPolicy p s).journal.arising = s.journal.arising ++ [e]) ∧
  (∀ (a : Args) (s : State), Accepted cmdJournalPolicy a s = true →
    exec (.journalPolicy a) s = .next (s.replied a 0x0F00 [] (setPolicy (u8 (cmdJournalPolicy.call a).p 0 = 1) (received a s)))) ∧
  (∀ (a : Args) (s : State), Accepted cmdFrJournalPolicy a s = true →
    exec (.frJournalPolicy a) s = .next (s.replied a 0x7F08 [] (setPolicy true (received a s))))

/-- R495: CHAIN_RESET at the head sends RESET on its downstream link; a package relays RESET and performs a chain reset; the head resets
itself 20 us after its reply; a RESET on a downstream port is ignored. -/
def Obligations.ChainResetRunsDown : Prop :=
  (∀ (a : Args) (s : State), Accepted cmdChainReset a s = true →
    let v := if chainActive .down (received a s) then putControl .down 0xC9 true resetBlock (received a s) else received a s
    exec (.chainReset a) s = .next (s.replied a 0x1003 [] (modChain (fun c => { c with resetAt := some v.now }) v))) ∧
  (∀ (t r : Nat) (s : State), (s.begin t).chain.resetAt = some r → r + 20000 ≤ (s.begin t).now →
    exec (.headChainReset t) s = .next (s.ends (packageReset .chain 0 0xFF (s.begin t)))) ∧
  (∀ (t : Nat) (s : State), s.sys.fwRunning = true → exec (.chainResetBlock t .up) s = .next (s.ends (packageReset .chain 0 0xFF
    (if chainActive .down (s.begin t) then putControl .down 0xC9 true resetBlock (s.begin t) else s.begin t)))) ∧
  (∀ (t : Nat) (s : State), exec (.chainResetBlock t .down) s = .next (s.ends (s.begin t)))

/-- R550: the instructions the test access port always offers, the value IDCODE reads, and BYPASS in place of any other without the DEBUG
grant. -/
def Obligations.TestAccessPortOffers : Prop :=
  (∀ (t : Nat) (ins : TapInstr) (s : State), ∃ u : State, exec (.testAccessInstruction t ins) s = .next (s.ends u) ∧
    u.elec.tap = (match ins with
      | .other c => if s.sys.grantDebug then .other c else .bypass
      | x => x)) ∧
  (∀ (t : Nat) (s : State), exec (.testAccessInstruction t .idcode) s =
    .next (s.ends (send .bus 3 1 (le 4 0x112967AB) (modElec (fun e => { e with tap := .idcode }) (s.begin t)))))

/-- A Courier burst between two places in DRAM stores where its element lies, and nowhere else: every DRAM byte outside the burst and all of
host memory read as before (R425, R428). The address and the length are the ones the burst's own rules give. -/
def Obligations.CourierBurstStaysInPlace : Prop :=
  ∀ (t k : Nat) (errors : List (BitVec 40)) (s : State), workHeld 1 (s.begin t) = false → pickCourier (s.begin t) = some k →
    (s.courier k).dstHost = false →
    let x := s.courier k
    let a := x.dst + (if x.dest.single then 0 else x.moved / max 1 x.dest.run * x.dstStride) + x.moved % max 1 x.dest.run
    ∃ u : State, exec (.courierBurst t errors []) s = .next (s.ends u) ∧ u.hostMem = s.hostMem ∧
      ∀ b, b < a ∨ a + min 512 (x.dest.run - x.moved % max 1 x.dest.run) ≤ b → Mem.read u.dramMem b = Mem.read s.dramMem b

/-- No package reset is left half done between steps, and no entry into SENTRY but one that waits for a running compression job (R83, R84): the
invariant. -/
def NothingHalfDone (s : State) : Prop := s.modes.resetNow = none ∧ (s.modes.wanted = some (.sentry, 0) → enginesRun s = true)

/-- Every step keeps the invariant, from every state that has it: a soft reset that a command brought about, and an ENTER_SENTRY that it
asked for, have happened by the end of the step, unless a compression job still runs (R83, R84). -/
def Obligations.StepsLeaveNothingHalfDone : Prop :=
  ∀ s t : State, NothingHalfDone s → Sys2Proof.Machine.step s = .next t → NothingHalfDone t

/-- The invariant holds at reset. -/
def Obligations.ResetHasNothingHalfDone : Prop := NothingHalfDone State.reset

/-- The packet codec: a packet as COMMAND frames carry it reads back as the same opcode and arguments, with every field of the header at every
value its width admits (R34, R486). The fields that a COMMAND frame has no place for are at their defaults. -/
def Obligations.PacketsReadBack : Prop :=
  ∀ (src : Source) (op : Nat) (a : Args) (relayed : Bool) (s : State), op < 2 ^ 16 → a.flags < 4 → a.cls < 2 ^ 8 → a.tag < 2 ^ 16 →
    a.postcode < 2 ^ 8 → a.block < 2 ^ 8 → a.plen = a.params.length → a.plen < 2 ^ 16 →
    readPacket src (packetBytes op a relayed) s = (op, ({
      t := s.now, src := src, flags := a.flags + (if relayed then 4 else 0), cls := a.cls, tag := a.tag, postcode := a.postcode
      block := a.block, plen := a.plen, params := a.params } : Args))

/-- What the block is at reset, by the rules that give it: POWER-ON state, no firmware, no postcode, the idle state with every output inactive
and the fault state with PRESS_STOP_N alone asserted (R71, R36, R87), every encoder count 0, the journal empty under STOP (R464, R472), no
command waiting, the interlock not held, no event pending. -/
def Obligations.ResetState : Prop :=
  State.reset.sys.fwRunning = false ∧ State.reset.chain.postcode = 0xFF ∧ State.reset.modes.idleSafe = 0 ∧
    State.reset.modes.faultSafe = 1 ∧ State.reset.modes.outputs = State.reset.modes.idleSafe.setWidth 7 ∧
    (∀ q, (State.reset.encoder q).count = 0) ∧ State.reset.journal.nextSeq = 0 ∧ State.reset.journal.sram = [] ∧
    State.reset.pending = [] ∧ State.reset.twin.holding = false ∧ State.reset.frame.raised = [] ∧ State.reset.sys.waiting = [] ∧
    State.reset.dramMem.wf = true ∧ State.reset.hostMem.wf = true

/-- The commands of the system commands and keys (chapter 02). An accepted packet has the effect its definition gives it, and its one reply
carries the data its definition gives, or the command stays outstanding; nothing else of the state is named on the right, and
`CalmStepSettles` says what the end of the step adds. NOP (R61), GET_IDENTITY (R61), READ_CAPABILITY (R61), GET_HEALTH (R61), CANCEL
(R61), KEY_CHALLENGE (R62), KEY_RESPONSE (R62), KEY_REVOKE (R62). -/
def Obligations.SystemCommandsRun : Prop :=
  (∀ (a₀ : Args) (s₀ : State), Accepted cmdNop a₀ s₀ = true → exec (.nop a₀) s₀ = .next (
      let s := received a₀ s₀
      s₀.replied a₀ 0x0000 [] s)) ∧
  (∀ (a₀ : Args) (s₀ : State), Accepted cmdGetIdentity a₀ s₀ = true → exec (.getIdentity a₀) s₀ = .next (
      let s := received a₀ s₀
      s₀.replied a₀ 0x0001 (le 2 0x1D7A ++ le 2 0x1296 ++ le 1 1 ++ le 1 (b2n Config.gradeI) ++ le 1 s.mode.code
        ++ le 1 (b2n s.chain.isHead + 2 * b2n s.modes.strapTwin) ++ le 8 Config.serial.toNat ++ le 4 (fwVersionNow s)
        ++ le 2 (if s.mode = .sentry then 0 else s.chain.size) ++ zeros 10) s)) ∧
  (∀ (a₀ : Args) (s₀ : State), Accepted cmdReadCapability a₀ s₀ = true → exec (.readCapability a₀) s₀ = .next (
      let s := received a₀ s₀
      let c := cmdReadCapability.call a₀
      s₀.replied a₀ 0x0002 ((capabilityEntry (u16 c.p 0) s).getD []) s)) ∧
  (∀ (a₀ : Args) (s₀ : State), Accepted cmdGetHealth a₀ s₀ = true → exec (.getHealth a₀) s₀ = .next (
      let s := received a₀ s₀
      let asleep := s.mode = .sentry
      s₀.replied a₀ 0x0003 (les 2 (if asleep then s.cal.sentryTemp else nth 0 s.teller.dies 2)
        ++ (if asleep then le 2 0x8000 ++ le 2 0x8000 else les 2 (nth 0 s.teller.dies 0) ++ les 2 (nth 0 s.teller.dies 1))
        ++ le 2 (railWarnMask s)
        ++ le 1 (if asleep then 0 else b2n (0 < s.teller.level) + 2 * b2n (s.mode = .reduced))
        ++ le 1 (if asleep then 0 else sat 8 s.sys.waiting.length) ++ le 2 s.modes.lastReset ++ le 8 (sentryTime s) ++ zeros 4) s)) ∧
  (∀ (a₀ : Args) (s₀ : State), Accepted cmdCancel a₀ s₀ = true → exec (.cancel a₀) s₀ = .next (
      let s := received a₀ s₀
      let c := cmdCancel.call a₀
      match s.sys.waiting.find? fun x => cancels c x.args.src x.args.tag with
      | some x => s₀.replied a₀ 0x0004 [] (refuse x.op stAborted x.args
          (loseChallenge x.op x.args (modSys (fun y => { y with waiting := y.waiting.erase x }) s)))
      | none => s₀.turnedAway a₀ 0x0004 s stAbsent)) ∧
  (∀ (a₀ : Args) (s₀ : State), Accepted cmdKeyChallenge a₀ s₀ = true → exec (.keyChallenge a₀) s₀ = .next (
      let s := received a₀ s₀
      let c := cmdKeyChallenge.call a₀
      let r := s.drawBytes 32
      s₀.replied a₀ 0x0005 (r.1 ++ le 8 Config.serial.toNat) (modSys (fun y => { y with challenge := some (ofLe r.1, u32 c.p 0, s.now) }) r.2))) ∧
  (∀ (a₀ : Args) (s₀ : State), Accepted cmdKeyResponse a₀ s₀ = true → exec (.keyResponse a₀) s₀ = .next (
      let s := received a₀ s₀
      let c := cmdKeyResponse.call a₀
      s₀.replied a₀ 0x0006 [] (modSys (fun y => { y with
        challenge := none
        grantDebug := y.grantDebug || (u32 c.p 0).testBit 0, grantBase := y.grantBase || (u32 c.p 0).testBit 1 }) s))) ∧
  (∀ (a₀ : Args) (s₀ : State), Accepted cmdKeyRevoke a₀ s₀ = true → exec (.keyRevoke a₀) s₀ = .next (
      let s := received a₀ s₀
      s₀.replied a₀ 0x0007 [] (modSys (fun y => { y with grantDebug := false, grantBase := false }) s)))

/-- The commands of the forerunner subset (chapter 02). An accepted packet has the effect its definition gives it, and its one reply
carries the data its definition gives, or the command stays outstanding; nothing else of the state is named on the right, and
`CalmStepSettles` says what the end of the step adds. FR_IDENTIFY (R63), FR_SET_PORT (R63), FR_SET_PITCH (R63), FR_LEARN (R63),
FR_INSPECT (R63), FR_HALT (R63), FR_READ_DEFECTS (R63), FR_JOURNAL_POLICY (R472). -/
def Obligations.ForerunnerCommandsRun : Prop :=
  (∀ (a₀ : Args) (s₀ : State), Accepted cmdFrIdentify a₀ s₀ = true → exec (.frIdentify a₀) s₀ = .next (
      let s := received a₀ s₀
      s₀.replied a₀ 0x7F00 (le 2 0x0640 ++ le 1 0x96 ++ zeros 1) s)) ∧
  (∀ (a₀ : Args) (s₀ : State), Accepted cmdFrSetPort a₀ s₀ = true → exec (.frSetPort a₀) s₀ = .next (
      let s := received a₀ s₀
      let c := cmdFrSetPort.call a₀
      s₀.replied a₀ 0x7F01 [] (nativeState cmdPortSet (nativeCall cmdPortSet c (frPort c s) (c.p.drop 4)) s))) ∧
  (∀ (a₀ : Args) (s₀ : State), Accepted cmdFrSetPitch a₀ s₀ = true → exec (.frSetPitch a₀) s₀ = .next (
      let s := received a₀ s₀
      let c := cmdFrSetPitch.call a₀
      s₀.replied a₀ 0x7F02 [] (nativeState cmdResampleSet (nativeCall cmdResampleSet c 0 (frPitchParams (u16 c.p 0) s)) s))) ∧
  (∀ (a₀ : Args) (s₀ : State), Accepted cmdFrLearn a₀ s₀ = true → exec (.frLearn a₀) s₀ = .next (
      let s := received a₀ s₀
      s₀.replied a₀ 0x7F03 [] (if s.mode = .learn then s else goMode .learn 0 (takeOptions 6 0 (frLearnSet s))))) ∧
  (∀ (a₀ : Args) (s₀ : State), Accepted cmdFrInspect a₀ s₀ = true → exec (.frInspect a₀) s₀ = .next (
      let s := received a₀ s₀
      s₀.replied a₀ 0x7F04 [] (if s.mode = .inspect || s.mode = .reduced then s else goMode .inspect 0 (takeOptions 7 0 s)))) ∧
  (∀ (a₀ : Args) (s₀ : State), Accepted cmdFrHalt a₀ s₀ = true → exec (.frHalt a₀) s₀ = .next (
      let s := received a₀ s₀
      s₀.replied a₀ 0x7F05 [] (if s.mode = .configure then s else goMode .configure 0 (takeOptions 4 0 s)))) ∧
  (∀ (a₀ : Args) (s₀ : State), Accepted cmdFrReadDefects a₀ s₀ = true → exec (.frReadDefects a₀) s₀ = .next (
      let s := received a₀ s₀
      let xs := s.sys.frQueue.take 7
      s₀.replied a₀ 0x7F07 (le 8 xs.length ++ xs.flatMap (padTo 64)) (modSys (fun y => { y with frQueue := y.frQueue.drop 7 }) s))) ∧
  (∀ (a₀ : Args) (s₀ : State), Accepted cmdFrJournalPolicy a₀ s₀ = true → exec (.frJournalPolicy a₀) s₀ = .next (
      let s := received a₀ s₀
      s₀.replied a₀ 0x7F08 [] (setPolicy true s)))

/-- The commands of modes, resets and retention (chapter 03). An accepted packet has the effect its definition gives it, and its one reply
carries the data its definition gives, or the command stays outstanding; nothing else of the state is named on the right, and
`CalmStepSettles` says what the end of the step adds. SET_MODE (R73), ENTER_SENTRY (R83), WAKE (R79), GET_RESET_CAUSE (R84),
SET_SAFE_STATE (R71), RESET (R84), FORCE_SAFE (R77). -/
def Obligations.ModeCommandsRun : Prop :=
  (∀ (a₀ : Args) (s₀ : State), Accepted cmdSetMode a₀ s₀ = true → exec (.setMode a₀) s₀ = .next (
      let s := received a₀ s₀
      let c := cmdSetMode.call a₀
      if modeHeld s || (s.mode = .calibrate && s.cal.run.isSome && u8 c.p 0 ≠ s.mode.code) then s₀.begun a₀ cmdSetMode (waitForMode c s) 0
      else if (modeOf (u8 c.p 0)).any (slowMode s) then s₀.begun a₀ cmdSetMode (beginTransition { op := c.op, args := c.a } c.p s) 0
      else
        let r := runSetMode c.p s
        s₀.replied a₀ 0x0100 r.1 r.2)) ∧
  (∀ (a₀ : Args) (s₀ : State), Accepted cmdEnterSentry a₀ s₀ = true → exec (.enterSentry a₀) s₀ = .next (
      let s := received a₀ s₀
      let c := cmdEnterSentry.call a₀
      if modeHeld s then s₀.begun a₀ cmdEnterSentry (waitForMode c s) 0
      else s₀.replied a₀ 0x0101 [] (runEnterSentry c.p s))) ∧
  (∀ (a₀ : Args) (s₀ : State), Accepted cmdWake a₀ s₀ = true → exec (.wake a₀) s₀ = .next (
      let s := received a₀ s₀
      s₀.replied a₀ 0x0102 [] (wake 4 s))) ∧
  (∀ (a₀ : Args) (s₀ : State), Accepted cmdGetResetCause a₀ s₀ = true → exec (.getResetCause a₀) s₀ = .next (
      let s := received a₀ s₀
      let m := s.modes
      s₀.replied a₀ 0x0103 (le 2 m.lastReset ++ le 1 m.resetRail ++ le 1 m.wakeSources.toNat ++ le 2 m.pinCount ++ le 2 m.chainCount ++ le 2 m.softCount
        ++ le 2 m.districtCount ++ le 2 m.warnCount ++ zeros 2) s)) ∧
  (∀ (a₀ : Args) (s₀ : State), Accepted cmdSetSafeState a₀ s₀ = true → exec (.setSafeState a₀) s₀ = .next (
      let s := received a₀ s₀
      let c := cmdSetSafeState.call a₀
      let s := modModes (fun m => { m with idleSafe := BitVec.ofNat 6 (u8 c.p 0), faultSafe := BitVec.ofNat 6 (u8 c.p 1) }) s
      s₀.replied a₀ 0x0104 [] (modModes (fun m => { m with outputs := m.idleSafe.setWidth 7 }) s))) ∧
  (∀ (a₀ : Args) (s₀ : State), Accepted cmdReset a₀ s₀ = true → exec (.reset a₀) s₀ = .next (
      let s := received a₀ s₀
      let c := cmdReset.call a₀
      if c.a.block = 0 then s₀.replied a₀ 0x0105 [] (modModes (fun m => { m with softPending := some 0, softAt := s.now }) s)
      else s₀.begun a₀ cmdReset (resetDistrict c.target s) 0)) ∧
  (∀ (a₀ : Args) (s₀ : State), Accepted cmdForceSafe a₀ s₀ = true → exec (.forceSafe a₀) s₀ = .next (
      let s := received a₀ s₀
      s₀.replied a₀ 0x0106 [] (enterFault 0 s)))

/-- The commands of the lanes and the sensor ports (chapter 04, chapter 05). An accepted packet has the effect its definition gives it, and
its one reply carries the data its definition gives, or the command stays outstanding; nothing else of the state is named on the right,
and `CalmStepSettles` says what the end of the step adds. LANE_SET (R119), LANE_REG_READ (R119), LANE_REG_WRITE (R119), PORT_SET
(R143), PORT_STATUS (R143), CAMERA_SET (R138), CAMERA_MESSAGE (R143), CAMERA_INFO (R143). -/
def Obligations.LaneAndPortCommandsRun : Prop :=
  (∀ (a₀ : Args) (s₀ : State), Accepted cmdLaneSet a₀ s₀ = true → exec (.laneSet a₀) s₀ = .next (
      let s := received a₀ s₀
      let c := cmdLaneSet.call a₀
      let flags := u8 c.p 9
      s₀.replied a₀ 0x0200 [] ((setIndices 48 (u64 c.p 0)).foldl (fun s l =>
        let x := s.lane l
        let y := { x with
          rate := u8 c.p 8, enable := flags.testBit 0, rxInvert := flags.testBit 1, txInvert := flags.testBit 2 }
        if x = y then s else restartLane l (s.setLane l y)) s))) ∧
  (∀ (a₀ : Args) (s₀ : State), Accepted cmdLaneRegRead a₀ s₀ = true → exec (.laneRegRead a₀) s₀ = .next (
      let s := received a₀ s₀
      let c := cmdLaneRegRead.call a₀
      s₀.replied a₀ 0x0201 ((List.range (u16 c.p 2)).flatMap fun k => le 4 (laneSpaceWord (u16 c.p 0 + 4 * k) s)) s)) ∧
  (∀ (a₀ : Args) (s₀ : State), Accepted cmdLaneRegWrite a₀ s₀ = true → exec (.laneRegWrite a₀) s₀ = .next (
      let s := received a₀ s₀
      let c := cmdLaneRegWrite.call a₀
      s₀.replied a₀ 0x0202 [] (laneWrite (u16 c.p 0) (u32 c.p 4) (u32 c.p 8) s))) ∧
  (∀ (a₀ : Args) (s₀ : State), Accepted cmdPortSet a₀ s₀ = true → exec (.portSet a₀) s₀ = .next (
      let s := received a₀ s₀
      let c := cmdPortSet.call a₀
      s₀.replied a₀ 0x0220 [] (c.targets.foldl (fun s n =>
        let s := modPort n (fun p => { p with
          configured := true, pixels := u16 c.p 0, planes := u8 c.p 2, depth := u8 c.p 3, lineRate := u32 c.p 4
          cableDelay := u16 c.p 8, tempDefault := s16 c.p 10, statsMailbox := u16 c.p 12
          exposure := u32 c.p 16, gain := u16 c.p 20, cur := none }) s
        sendLineSetup n s) s))) ∧
  (∀ (a₀ : Args) (s₀ : State), Accepted cmdPortStatus a₀ s₀ = true → exec (.portStatus a₀) s₀ = .next (
      let s := received a₀ s₀
      let c := cmdPortStatus.call a₀
      let n := c.target
      let p := s.port n
      let data := le 1 (groupLink n s) ++ le 1 (b2n p.refused + 2 * b2n p.outstanding.isSome + 4 * b2n (p.info ≠ []))
        ++ le 2 p.epoch ++ les 2 (p.lastTemp.getD 0) ++ zeros 2 ++ le 4 (p.lastCount.getD 0) ++ le 4 p.linePeriod
        ++ le 8 p.linesReceived ++ le 4 p.linesLost ++ le 4 p.crcErrors ++ le 4 p.shortLines ++ le 4 p.longLines
        ++ le 4 p.formatErrors ++ le 4 p.duplicates ++ le 4 p.resyncs ++ le 4 p.epochUnknown ++ le 4 p.msgRetries ++ le 4 p.msgTimeouts
      s₀.replied a₀ 0x0221 data (if (u8 c.p 0).testBit 0 then s.setPort n { p with
        linesReceived := 0, linesLost := 0, crcErrors := 0, shortLines := 0, longLines := 0, formatErrors := 0
        duplicates := 0, resyncs := 0, epochUnknown := 0, msgRetries := 0, msgTimeouts := 0 } else s))) ∧
  (∀ (a₀ : Args) (s₀ : State), Accepted cmdCameraSet a₀ s₀ = true → exec (.cameraSet a₀) s₀ = .next (
      let s := received a₀ s₀
      let c := cmdCameraSet.call a₀
      s₀.begun a₀ cmdCameraSet (camQueue c.target (setExposureMsg (u32 c.p 0) (u16 c.p 4) true) s) 0)) ∧
  (∀ (a₀ : Args) (s₀ : State), Accepted cmdCameraMessage a₀ s₀ = true → exec (.cameraMessage a₀) s₀ = .next (
      let s := received a₀ s₀
      let c := cmdCameraMessage.call a₀
      s₀.begun a₀ cmdCameraMessage (camQueue c.target { kind := 4, body := c.p.drop 4, command := true } s) 0)) ∧
  (∀ (a₀ : Args) (s₀ : State), Accepted cmdCameraInfo a₀ s₀ = true → exec (.cameraInfo a₀) s₀ = .next (
      let s := received a₀ s₀
      let c := cmdCameraInfo.call a₀
      s₀.replied a₀ 0x0224 (s.port c.target).info s))

/-- The commands of photometric correction (chapter 06). An accepted packet has the effect its definition gives it, and its one reply
carries the data its definition gives, or the command stays outstanding; nothing else of the state is named on the right, and
`CalmStepSettles` says what the end of the step adds. PHOTO_STORE_BASE (R151), PHOTO_SELECT_BASE (R152), PHOTO_SET_TRIM (R155),
PHOTO_READ (R162), PHOTO_STATUS (R162), PHOTO_CAPTURE (R160). -/
def Obligations.PhotometricCommandsRun : Prop :=
  (∀ (a₀ : Args) (s₀ : State), Accepted cmdPhotoStoreBase a₀ s₀ = true → exec (.photoStoreBase a₀) s₀ = .next (
      let s := received a₀ s₀
      let c := cmdPhotoStoreBase.call a₀
      s₀.begun a₀ cmdPhotoStoreBase (vaultQueue { kind := .baseSet, key := imgSerial c.p, bytes := c.p, stored := c.p.length } s) 0)) ∧
  (∀ (a₀ : Args) (s₀ : State), Accepted cmdPhotoSelectBase a₀ s₀ = true → exec (.photoSelectBase a₀) s₀ = .next (
      let s := received a₀ s₀
      let c := cmdPhotoSelectBase.call a₀
      s₀.replied a₀ 0x0301 [] (c.targets.foldl (fun s n =>
        let s := modPhoto n (fun p => { p with selMode := u8 c.p 0, loading := none }) s
        match u8 c.p 0 with
        | 0 => if (s.port n).info = [] then s else followCamera n (u64 (s.port n).info 8) s
        | 1 => match storedBase (u64 c.p 8) s with
          | some o => if o.lost then commitBase n [] 0 2 s else commitBase n o.bytes (u64 c.p 8) 1 (vaultRead o s)
          | none => s
        | _ => commitBase n [] 0 0 s) s))) ∧
  (∀ (a₀ : Args) (s₀ : State), Accepted cmdPhotoSetTrim a₀ s₀ = true → exec (.photoSetTrim a₀) s₀ = .next (
      let s := received a₀ s₀
      let c := cmdPhotoSetTrim.call a₀
      s₀.replied a₀ 0x0302 [] (c.targets.foldl (fun s n => commitTrim n (if c.p.length = 8 then [] else c.p) s) s))) ∧
  (∀ (a₀ : Args) (s₀ : State), Accepted cmdPhotoRead a₀ s₀ = true → exec (.photoRead a₀) s₀ = .next (
      let s := received a₀ s₀
      let c := cmdPhotoRead.call a₀
      let n := c.target
      let im := if u8 c.p 0 = 1 then (s.photo n).base else (s.photo n).trim
      s₀.replied a₀ 0x0303 (if im = [] then defaultImage (u8 c.p 0) (s.port n).pixels (s.port n).planes
        else if u8 c.p 0 = 1 then sealImage im else im) s)) ∧
  (∀ (a₀ : Args) (s₀ : State), Accepted cmdPhotoStatus a₀ s₀ = true → exec (.photoStatus a₀) s₀ = .next (
      let s := received a₀ s₀
      let c := cmdPhotoStatus.call a₀
      let p := s.photo c.target
      s₀.replied a₀ 0x0304 (le 8 p.baseSerial ++ le 1 p.baseState ++ le 1 p.selMode ++ le 1 (if p.base = [] then 1 else imgSets p.base)
          ++ le 1 (b2n (p.trim ≠ [])) ++ le 1 p.bracket ++ zeros 1 ++ le 2 p.weight ++ les 2 p.lineTemp ++ zeros 2
          ++ le 4 p.clampLow ++ le 4 p.clampHigh ++ le 4 p.replaced ++ le 4 p.voided)
        (if (u8 c.p 0).testBit 0 then
          s.setPhoto c.target { p with clampLow := 0, clampHigh := 0, replaced := 0, voided := 0 } else s))) ∧
  (∀ (a₀ : Args) (s₀ : State), Accepted cmdPhotoCapture a₀ s₀ = true → exec (.photoCapture a₀) s₀ = .next (
      let s := received a₀ s₀
      let c := cmdPhotoCapture.call a₀
      s₀.begun a₀ cmdPhotoCapture (modPhoto c.target (fun p => { p with capture := some { lines := u32 c.p 0, stage := u8 c.p 4, startedAt := s.now } }) s) 0))

/-- The commands of the web position (chapter 07). An accepted packet has the effect its definition gives it, and its one reply carries the
data its definition gives, or the command stays outstanding; nothing else of the state is named on the right, and `CalmStepSettles`
says what the end of the step adds. POS_ENCODER_SET (R173), POS_SET_COUNT (R170), POS_STATUS (R187), POS_LATCH_SET (R178),
POS_COMPARE_ARM (R183). -/
def Obligations.PositionCommandsRun : Prop :=
  (∀ (a₀ : Args) (s₀ : State), Accepted cmdPosEncoderSet a₀ s₀ = true → exec (.posEncoderSet a₀) s₀ = .next (
      let s := received a₀ s₀
      let c := cmdPosEncoderSet.call a₀
      s₀.replied a₀ 0x0400 [] (c.targets.foldl (fun s q =>
        let f := u8 c.p 0
        modEncoder q (fun e =>
          let flip := e.dirInvert ≠ f.testBit 1
          { e with
            enable := f.testBit 0, dirInvert := f.testBit 1, indexCheck := f.testBit 2, rezero := f.testBit 3
            ssiGray := f.testBit 4, ssiParity := f.testBit 5, backlash := u8 c.p 1, minEdge := u16 c.p 2
            pitchPm := u32 c.p 4, nominal := u32 c.p 8, indexTol := u16 c.p 12, illegalWindow := u16 c.p 14
            ssiBits := u8 c.p 16, ssiRecovery := u8 c.p 17, ssiClock := u16 c.p 18
            hw := if flip then e.count else e.hw
            ext := if flip then e.count else e.ext
            indexRef := if e.enable ≠ f.testBit 0 || e.indexCheck ≠ f.testBit 2 then none else e.indexRef
            ssiLast := if e.enable ≠ f.testBit 0 then none else e.ssiLast }) s) s))) ∧
  (∀ (a₀ : Args) (s₀ : State), Accepted cmdPosSetCount a₀ s₀ = true → exec (.posSetCount a₀) s₀ = .next (
      let s := received a₀ s₀
      let c := cmdPosSetCount.call a₀
      s₀.replied a₀ 0x0401 [] (modEncoder c.target (fun e => { e with
        count := s64 c.p 0, hw := s64 c.p 0, ext := s64 c.p 0, speedBase := s64 c.p 0, indexRef := none }) s))) ∧
  (∀ (a₀ : Args) (s₀ : State), Accepted cmdPosStatus a₀ s₀ = true → exec (.posStatus a₀) s₀ = .next (
      let s := received a₀ s₀
      let c := cmdPosStatus.call a₀
      let e := s.encoder c.target
      s₀.replied a₀ 0x0402 (les 8 e.count ++ les 8 e.hw ++ les 8 e.ext
          ++ (if s.mode = .sentry then le 4 0x80000000 else les 4 e.speed) ++ les 4 e.indexDelta
          ++ le 4 e.illegalCount ++ le 4 e.edgeFaults
          ++ le 1 (b2n e.reverse + 2 * b2n e.encoderFault + 4 * b2n e.indexError + 8 * b2n e.enable) ++ zeros 7)
        (if (u8 c.p 0).testBit 0 then
          s.setEncoder c.target { e with encoderFault := false, illegalCount := 0, edgeFaults := 0 } else s))) ∧
  (∀ (a₀ : Args) (s₀ : State), Accepted cmdPosLatchSet a₀ s₀ = true → exec (.posLatchSet a₀) s₀ = .next (
      let s := received a₀ s₀
      let c := cmdPosLatchSet.call a₀
      s₀.replied a₀ 0x0403 [] (modLatch (u8 c.p 0) (fun l => { l with
        encoder := u8 c.p 1, mode := u8 c.p 2, eventEn := (u8 c.p 3).testBit 0
        takenAt := if l.mode = 1 then l.takenAt else none
        period := if u8 c.p 2 = 1 then u32 c.p 4 else l.period }) s))) ∧
  (∀ (a₀ : Args) (s₀ : State), Accepted cmdPosCompareArm a₀ s₀ = true → exec (.posCompareArm a₀) s₀ = .next (
      let s := received a₀ s₀
      let c := cmdPosCompareArm.call a₀
      let k := u8 c.p 0
      let r := armJudged c s
      let s := modCompare k (fun u => { u with
        queue := armQueue c s, encoder := u8 c.p 1, reverse := (u8 c.p 2).testBit 0 }) s
      let s := applyArm k (s64 c.p 8) r s
      let u := s.compare k
      s₀.replied a₀ 0x0404 (le 1 u.queue.length ++ le 1 (b2n (r = .fires)) ++ zeros 2
        ++ (if r = .fires then u.firedPm.toBytes else zeros 16)) s))

/-- The commands of resampling, stitching and outlets (chapter 08, chapter 09). An accepted packet has the effect its definition gives it,
and its one reply carries the data its definition gives, or the command stays outstanding; nothing else of the state is named on the
right, and `CalmStepSettles` says what the end of the step adds. RESAMPLE_SET (R189), RESAMPLE_PLANE_OFFSET (R192), RESAMPLE_STATUS
(R209), STATION_SET (R210), STITCH_MAP (R211), COLOUR_MATRIX (R221), COLOUR_XYZ (R222), OUTLET_SET (R224), OUTLET_TABLE (R225),
STITCH_STATUS (R229), OUTLET_STATUS (R229). -/
def Obligations.ResampleAndStitchCommandsRun : Prop :=
  (∀ (a₀ : Args) (s₀ : State), Accepted cmdResampleSet a₀ s₀ = true → exec (.resampleSet a₀) s₀ = .next (
      let s := received a₀ s₀
      let c := cmdResampleSet.call a₀
      s₀.replied a₀ 0x0500 [] (c.targets.foldl (fun s k =>
        let g := s.grid k
        let fixed := u8 c.p 5 = 1
        let s := stopCoarse k (clearStation k s)
        let origin := if fixed then some (s64 c.p 8 * 2 ^ 16) else none
        let s := s.setGrid k { g with
          pitch := u16 c.p 0, oldPitch := 0, basePitch := u16 c.p 0, preset := u8 c.p 2, encoder := u8 c.p 3, stepPct := u8 c.p 4
          fixedOrigin := fixed, originGiven := s64 c.p 8
          origin := origin, p0 := origin, lineBase := 0, provisional := none, changes := []
          track := if g.encoder = u8 c.p 3 then g.track else [] }
        startRun k true s) s))) ∧
  (∀ (a₀ : Args) (s₀ : State), Accepted cmdResamplePlaneOffset a₀ s₀ = true → exec (.resamplePlaneOffset a₀) s₀ = .next (
      let s := received a₀ s₀
      let c := cmdResamplePlaneOffset.call a₀
      s₀.replied a₀ 0x0501 [] (c.targets.foldl (fun s n =>
        let os := (List.range 4).map fun i => s32 c.p (4 * i)
        modRes n (fun r => if r.planes = [] then { r with offsets := os, newOffsets := none } else { r with newOffsets := some os }) s) s))) ∧
  (∀ (a₀ : Args) (s₀ : State), Accepted cmdResampleStatus a₀ s₀ = true → exec (.resampleStatus a₀) s₀ = .next (
      let s := received a₀ s₀
      let c := cmdResampleStatus.call a₀
      let n := c.target
      let r := s.res n
      let g := (stationOf n s).map s.grid
      let geo := (stationOf n s).bind fun k => geometry k n s
      let own := ((stationOf n s).bind fun k => gridSet k s).isSome
      s₀.replied a₀ 0x0502 (les 8 (if own then divHalfUp ((geo.map (·.origin)).getD 0) (2 ^ 16) else 0) ++ le 8 r.nextLine ++ le 4 r.lastSpeed
          ++ le 2 ((geo.map (·.pitch)).getD ((g.map (·.pitch)).getD 0)) ++ le 1 ((g.map (·.preset)).getD 0)
          ++ le 1 (b2n (0 < r.unsettled) + 2 * b2n (r.planes = []) + 4 * b2n own)
          ++ le 4 r.unsettledLines ++ le 4 r.undersampled ++ le 4 r.reverseDropped ++ le 4 r.speedSteps ++ le 4 r.extrapolated ++ zeros 4)
        (if (u8 c.p 0).testBit 0 then
          s.setRes n { r with unsettledLines := 0, undersampled := 0, reverseDropped := 0, speedSteps := 0, extrapolated := 0 } else s))) ∧
  (∀ (a₀ : Args) (s₀ : State), Accepted cmdStationSet a₀ s₀ = true → exec (.stationSet a₀) s₀ = .next (
      let s := received a₀ s₀
      let c := cmdStationSet.call a₀
      let k := c.target
      let cnt := u8 c.p 0
      let old := (s.station k).ports
      let s := clearStation k s
      let s := modStation k (fun st => { st with
        ports := (List.range cnt).map fun i => u8 c.p (8 + i)
        mono := u8 c.p 1 = 1, width := if cnt = 0 then 0 else u32 c.p 4 }) s
      s₀.replied a₀ 0x0510 [] ((s.station k).ports.foldl (fun s n => startPort k (!old.contains n) s n) s))) ∧
  (∀ (a₀ : Args) (s₀ : State), Accepted cmdStitchMap a₀ s₀ = true → exec (.stitchMap a₀) s₀ = .next (
      let s := received a₀ s₀
      let c := cmdStitchMap.call a₀
      s₀.replied a₀ 0x0511 [] (modPmap c.target (fun m => { m with
        bin := u8 c.p 0, map := (List.range (u32 c.p 4)).map fun i => u32 c.p (8 + 4 * i) }) s))) ∧
  (∀ (a₀ : Args) (s₀ : State), Accepted cmdColourMatrix a₀ s₀ = true → exec (.colourMatrix a₀) s₀ = .next (
      let s := received a₀ s₀
      let c := cmdColourMatrix.call a₀
      s₀.replied a₀ 0x0512 [] (c.targets.foldl (fun s n =>
        let m := (List.range 12).map fun i => s16 c.p (2 * i)
        let o := (List.range 3).map fun i => s16 c.p (24 + 2 * i)
        let r := s.res n
        if r.started then modPmap n (fun x => { x with newColour := some ((r.nextLine + 255) / 256 * 256, m, o) }) s
        else modPmap n (fun x => { x with matrix := m, offs := o, newColour := none }) s) s))) ∧
  (∀ (a₀ : Args) (s₀ : State), Accepted cmdColourXyz a₀ s₀ = true → exec (.colourXyz a₀) s₀ = .next (
      let s := received a₀ s₀
      let c := cmdColourXyz.call a₀
      s₀.replied a₀ 0x0513 [] (c.targets.foldl (fun s k =>
        modStation k (fun st => { st with xyz := (List.range 9).map fun i => u16 c.p (2 * i) }) s) s))) ∧
  (∀ (a₀ : Args) (s₀ : State), Accepted cmdOutletSet a₀ s₀ = true → exec (.outletSet a₀) s₀ = .next (
      let s := received a₀ s₀
      let c := cmdOutletSet.call a₀
      let i := u8 c.p 0
      let s := modOutlet i (fun o => { o with newSet := some (outletArgs c.p) }) s
      s₀.replied a₀ 0x0514 [] (if (s.station (outletHost i s)).nextLine.isSome then s else takeOutletSet i s))) ∧
  (∀ (a₀ : Args) (s₀ : State), Accepted cmdOutletTable a₀ s₀ = true → exec (.outletTable a₀) s₀ = .next (
      let s := received a₀ s₀
      let c := cmdOutletTable.call a₀
      let t := (List.range ((c.p.length - 4) / 2)).map fun i => u16 c.p (4 + 2 * i)
      s₀.replied a₀ 0x0515 [] (modOutlet (u8 c.p 0) (fun o =>
        if o.rows = [] && o.accLines = 0 then { o with table := t, newTable := none } else { o with newTable := some t }) s))) ∧
  (∀ (a₀ : Args) (s₀ : State), Accepted cmdStitchStatus a₀ s₀ = true → exec (.stitchStatus a₀) s₀ = .next (
      let s := received a₀ s₀
      let c := cmdStitchStatus.call a₀
      let k := c.target
      let st := s.station k
      let pitch := pitchNow k s
      let chk := stationCheck k pitch s
      let ranges := portRanges k pitch s
      s₀.replied a₀ 0x0516 (le 1 chk.1 ++ le 1 chk.2 ++ zeros 2 ++ le 4 (widthAt k pitch s)
          ++ padTo 24 (ranges.flatMap fun r => le 2 ((r.map (·.1)).getD 0) ++ le 2 ((r.map (·.2)).getD 0))
          ++ padTo 20 ((seamsOf ranges).flatMap fun x => le 4 x.b)
          ++ le 4 st.seamMissing ++ le 4 st.seamLate ++ le 4 st.clamped)
        (if (u8 c.p 0).testBit 0 then s.setStation k { st with seamMissing := 0, seamLate := 0, clamped := 0 } else s))) ∧
  (∀ (a₀ : Args) (s₀ : State), Accepted cmdOutletStatus a₀ s₀ = true → exec (.outletStatus a₀) s₀ = .next (
      let s := received a₀ s₀
      let c := cmdOutletStatus.call a₀
      let i := u8 c.p 0
      let o := s.outlet i
      s₀.replied a₀ 0x0517 (le 4 (outletRate o.set s) ++ le 4 o.sent ++ le 4 o.dropped ++ le 4 o.short
          ++ le 1 (b2n o.set.enable + 2 * b2n (o.set.enable && firstWithheld s)) ++ zeros 3)
        (if (u8 c.p 1).testBit 0 then s.setOutlet i { o with sent := 0, dropped := 0, short := 0 } else s)))

/-- The commands of specimens and learning (chapter 10). An accepted packet has the effect its definition gives it, and its one reply
carries the data its definition gives, or the command stays outstanding; nothing else of the state is named on the right, and
`CalmStepSettles` says what the end of the step adds. LEARN_SET (R233), GOLDEN_FREE_SET (R246), LEARN_STATUS (R250), SPECIMEN_STORE
(R247), SPECIMEN_RECALL (R248), SPECIMEN_DELETE (R250), SPECIMEN_LIST (R250). -/
def Obligations.SpecimenCommandsRun : Prop :=
  (∀ (a₀ : Args) (s₀ : State), Accepted cmdLearnSet a₀ s₀ = true → exec (.learnSet a₀) s₀ = .next (
      let s := received a₀ s₀
      let c := cmdLearnSet.call a₀
      s₀.replied a₀ 0x0600 [] (c.targets.foldl (fun s k =>
        regIdle k (modLearn k (fun l => { l with set := learnArgs c.p }) s)) s))) ∧
  (∀ (a₀ : Args) (s₀ : State), Accepted cmdGoldenFreeSet a₀ s₀ = true → exec (.goldenFreeSet a₀) s₀ = .next (
      let s := received a₀ s₀
      let c := cmdGoldenFreeSet.call a₀
      s₀.replied a₀ 0x0601 [] (c.targets.foldl (fun s k =>
        let p := c.p
        let g : GoldenSet := { enable := BitVec.ofNat 3 (u8 p 0), streakDe := u16 p 2, streakMaxCols := u8 p 4
                               streakLengthMm := u16 p 6, blankDe := u16 p 8, blankShare := u8 p 10 }
        if s.mode.inspects then modLearn k (fun l => { l with newGolden := some g }) s
        else modLearn k (fun l => { l with golden := g, newGolden := none }) s) s))) ∧
  (∀ (a₀ : Args) (s₀ : State), Accepted cmdLearnStatus a₀ s₀ = true → exec (.learnStatus a₀) s₀ = .next (
      let s := received a₀ s₀
      let c := cmdLearnStatus.call a₀
      let l := s.learn c.target
      let shown := l.next.or l.loaded
      let running := l.state = .stability || l.state = .collecting || l.state = .finalising
      let lines := if running then (l.length + 128) / 256 else (shown.map (·.lines)).getD 0
      let width := if running then (s.station c.target).width else (shown.map (·.width)).getD 0
      s₀.replied a₀ 0x0602 (le 1 l.state.code ++ le 1 l.result ++ le 1 l.attempt ++ le 1 l.collected ++ le 2 l.seen ++ le 2 l.skipped
        ++ le 4 (if running then l.length else (shown.map (·.length)).getD l.length) ++ le 2 l.ncc ++ le 1 l.pct ++ zeros 1
        ++ les 4 l.stretch ++ le 4 ((shown.map (·.unstable)).getD l.unstable) ++ le 4 (width / 64 * ((lines + 63) / 64))
        ++ le 8 ((l.loaded.map (·.jobId)).getD 0) ++ zeros 4) s)) ∧
  (∀ (a₀ : Args) (s₀ : State), Accepted cmdSpecimenStore a₀ s₀ = true → exec (.specimenStore a₀) s₀ = .next (
      let s := received a₀ s₀
      let c := cmdSpecimenStore.call a₀
      let k := c.target
      match (s.learn k).loaded with
      | none => s₀.turnedAway a₀ 0x0603 s stConflict
      | some sp =>
        let sp := { sp with jobId := u64 c.p 0 }
        let s := modLearn k (fun l => { l with storing := some (u64 c.p 0) }) s
        s₀.begun a₀ cmdSpecimenStore (vaultQueue { kind := .specimen, key := u64 c.p 0, spec := some sp, station := k, stored := (storedImage sp).length } s) 0)) ∧
  (∀ (a₀ : Args) (s₀ : State), Accepted cmdSpecimenRecall a₀ s₀ = true → exec (.specimenRecall a₀) s₀ = .next (
      let s := received a₀ s₀
      let c := cmdSpecimenRecall.call a₀
      s₀.begun a₀ cmdSpecimenRecall (modLearn c.target (fun l => { l with recalling := some (u64 c.p 0) }) s) 0)) ∧
  (∀ (a₀ : Args) (s₀ : State), Accepted cmdSpecimenDelete a₀ s₀ = true → exec (.specimenDelete a₀) s₀ = .next (
      let s := received a₀ s₀
      let c := cmdSpecimenDelete.call a₀
      let s := vaultDelete (fun o => o.kind = .specimen && o.key = u64 c.p 0) s
      s₀.replied a₀ 0x0605 [] ((List.range 4).foldl (fun s k => modLearn k (fun l => { l with
        loaded := l.loaded.map fun sp => if sp.jobId = u64 c.p 0 then { sp with jobId := 0 } else sp }) s) s))) ∧
  (∀ (a₀ : Args) (s₀ : State), Accepted cmdSpecimenList a₀ s₀ = true → exec (.specimenList a₀) s₀ = .next (
      let s := received a₀ s₀
      let c := cmdSpecimenList.call a₀
      s₀.replied a₀ 0x0606 ((((library s).drop (u16 c.p 0)).take (u16 c.p 2)).flatMap fun o =>
        let sp := o.spec.getD {}
        le 8 o.key ++ le 4 sp.width ++ le 4 sp.lines ++ le 2 sp.pitch ++ le 1 sp.kUsed ++ le 1 (b2n sp.mono) ++ le 4 o.stored
          ++ le 8 sp.learned) s))

/-- The commands of registration, compare and segmentation (chapter 11, chapter 12). An accepted packet has the effect its definition gives
it, and its one reply carries the data its definition gives, or the command stays outstanding; nothing else of the state is named on
the right, and `CalmStepSettles` says what the end of the step adds. FR_SET_THRESHOLD (R274), REG_SET (R274), COMPARE_THRESHOLDS
(R265), STREAK_SET (R271), REG_STATUS (R274), STREAK_LIST (R274), REG_FIELD_READ (R274), SEG_SET (R296), SEG_RULES (R296),
SEG_RULES_READ (R296), SEG_STATUS (R296). -/
def Obligations.RegistrationAndSegmentationCommandsRun : Prop :=
  (∀ (a₀ : Args) (s₀ : State), Accepted cmdFrSetThreshold a₀ s₀ = true → exec (.frSetThreshold a₀) s₀ = .next (
      let s := received a₀ s₀
      let c := cmdFrSetThreshold.call a₀
      s₀.replied a₀ 0x7F06 [] (giveThresholds 0 (setNth (s.reg 0).wanted (u8 c.p 0) (frThresholds c s)) s))) ∧
  (∀ (a₀ : Args) (s₀ : State), Accepted cmdRegSet a₀ s₀ = true → exec (.regSet a₀) s₀ = .next (
      let s := received a₀ s₀
      let c := cmdRegSet.call a₀
      s₀.replied a₀ 0x0610 [] (c.targets.foldl (fun s k =>
        if regRuns k s then modReg k (fun r => { r with newSet := some (regArgs c.p) }) s
        else modReg k (fun r => { r with set := regArgs c.p, newSet := none }) s) s))) ∧
  (∀ (a₀ : Args) (s₀ : State), Accepted cmdCompareThresholds a₀ s₀ = true → exec (.compareThresholds a₀) s₀ = .next (
      let s := received a₀ s₀
      let c := cmdCompareThresholds.call a₀
      s₀.replied a₀ 0x0611 [] (c.targets.foldl (fun s k =>
        giveThresholds k ((s.reg k).wanted.zipIdx.map fun e =>
          if (u16 c.p 0).testBit e.2 then thresholdArgs c.p e.2 else e.1) s) s))) ∧
  (∀ (a₀ : Args) (s₀ : State), Accepted cmdStreakSet a₀ s₀ = true → exec (.streakSet a₀) s₀ = .next (
      let s := received a₀ s₀
      let c := cmdStreakSet.call a₀
      s₀.replied a₀ 0x0612 [] (c.targets.foldl (fun s k =>
        let x : StreakSet := {
          enable := u8 c.p 0 = 1, repeats := u16 c.p 2, dl := u16 c.p 4, flat := u16 c.p 6, coverPct := u8 c.p 8
          ignore := ignoreArgs c.p, minLines := u32 c.p 12 }
        if regRuns k s then modReg k (fun r => { r with newStreak := some x }) s
        else modReg k (fun r => { r with streakSet := x, newStreak := none, streakRing := [], streakSums := [] }) s) s))) ∧
  (∀ (a₀ : Args) (s₀ : State), Accepted cmdRegStatus a₀ s₀ = true → exec (.regStatus a₀) s₀ = .next (
      let s := received a₀ s₀
      let c := cmdRegStatus.call a₀
      let r := s.reg c.target
      s₀.replied a₀ 0x0613 (le 1 r.state.code ++ le 1 (r.lastFlags.toNat % 4) ++ le 1 r.coast ++ le 1 r.confidentPct ++ le 4 r.repeatNo
          ++ les 8 r.phase ++ les 4 r.stretch ++ les 4 r.lateral ++ le 4 r.unregRepeats ++ le 4 r.acquisitions
          ++ le 8 r.seedPixels ++ le 8 r.growPixels)
        (if (u8 c.p 0).testBit 0 then
          s.setReg c.target { r with unregRepeats := 0, acquisitions := 0, seedPixels := 0, growPixels := 0 } else s))) ∧
  (∀ (a₀ : Args) (s₀ : State), Accepted cmdStreakList a₀ s₀ = true → exec (.streakList a₀) s₀ = .next (
      let s := received a₀ s₀
      let c := cmdStreakList.call a₀
      let r := s.reg c.target
      s₀.replied a₀ 0x0614 (le 2 r.streaks.length ++ le 2 r.streakOverflow ++ r.streaks.flatMap fun t =>
        le 2 t.first ++ le 2 t.last ++ le 1 (b2n t.dark) ++ le 1 t.cover ++ les 2 t.mean ++ le 4 t.found ++ zeros 4) s)) ∧
  (∀ (a₀ : Args) (s₀ : State), Accepted cmdRegFieldRead a₀ s₀ = true → exec (.regFieldRead a₀) s₀ = .next (
      let s := received a₀ s₀
      let c := cmdRegFieldRead.call a₀
      let k := c.target
      match c.a.fails with
      | some a =>
        let beats := s.drawFree 65535
        s₀.concluded a₀ 0x0615 stHwFault [] (uncorrectableRead (a - a % 64) 1 (beats.1 + 1) beats.2)
      | none =>
      let w := ((reference k s).map (·.tx)).getD 0
      let es := ((readField k (u8 c.p 0) s).getD []).drop (w * u16 c.p 2)
      s₀.replied a₀ 0x0615 ((es.take (w * u16 c.p 4)).flatMap fun e =>
        les 2 e.dx ++ les 2 e.dy ++ le 1 e.q ++ le 1 (b2n e.confident + 2 * b2n e.inherited + 4 * b2n e.noField)) s)) ∧
  (∀ (a₀ : Args) (s₀ : State), Accepted cmdSegSet a₀ s₀ = true → exec (.segSet a₀) s₀ = .next (
      let s := received a₀ s₀
      let c := cmdSegSet.call a₀
      s₀.replied a₀ 0x0700 [] (c.targets.foldl (fun s k =>
        let p := c.p
        modSeg k (fun g => { g with set := {
          mergeGap := u8 p 0, mergeCols := u8 p 1, minSeed := u16 p 2, maxLines := u32 p 4, sigMin := u16 p 8, defaultClass := u8 p 10 } }) s) s))) ∧
  (∀ (a₀ : Args) (s₀ : State), Accepted cmdSegRules a₀ s₀ = true → exec (.segRules a₀) s₀ = .next (
      let s := received a₀ s₀
      let c := cmdSegRules.call a₀
      s₀.replied a₀ 0x0701 [] (c.targets.foldl (fun s k =>
        if s.mode.inspects then modSeg k (fun g => { g with newRules := some (g.labelled.map (· / 256), c.p) }) s
        else modSeg k (fun g => { g with rules := c.p, newRules := none }) s) s))) ∧
  (∀ (a₀ : Args) (s₀ : State), Accepted cmdSegRulesRead a₀ s₀ = true → exec (.segRulesRead a₀) s₀ = .next (
      let s := received a₀ s₀
      let c := cmdSegRulesRead.call a₀
      s₀.replied a₀ 0x0702 (padTo 3072 (s.seg c.target).rules) s)) ∧
  (∀ (a₀ : Args) (s₀ : State), Accepted cmdSegStatus a₀ s₀ = true → exec (.segStatus a₀) s₀ = .next (
      let s := received a₀ s₀
      let c := cmdSegStatus.call a₀
      let g := s.seg c.target
      s₀.replied a₀ 0x0703 (le 2 g.blobs.length ++ le 2 g.peak ++ zeros 4 ++ le 8 g.records ++ le 4 g.discarded ++ le 4 g.growOnly ++ le 4 g.storms
          ++ le 4 g.splits ++ le 4 g.late ++ zeros 4 ++ (List.range 64).flatMap fun r => le 4 (Tab.get 0 g.hits r))
        (if u8 c.p 0 = 1 then s.setSeg c.target { g with
          peak := g.blobs.length, records := 0, discarded := 0, growOnly := 0, storms := 0, splits := 0, late := 0, hits := [] } else s)))

/-- The commands of the ledger, the outputs and second look (chapter 13, chapter 14). An accepted packet has the effect its definition
gives it, and its one reply carries the data its definition gives, or the command stays outstanding; nothing else of the state is named
on the right, and `CalmStepSettles` says what the end of the step adds. LEDGER_SET (R307), LEDGER_CHAIN (R308), OUTPUT_RULES (R309),
OUTPUT_FORCE (R315), LEDGER_STATUS (R315), LEDGER_EXPORT (R315), SL_NETWORK_LOAD (R321), SL_SET (R329), SL_NETWORK_READ (R331),
SL_STATUS (R331). -/
def Obligations.LedgerAndSecondLookCommandsRun : Prop :=
  (∀ (a₀ : Args) (s₀ : State), Accepted cmdLedgerSet a₀ s₀ = true → exec (.ledgerSet a₀) s₀ = .next (
      let s := received a₀ s₀
      let c := cmdLedgerSet.call a₀
      s₀.replied a₀ 0x0710 [] (c.targets.foldl (fun s k => modStLedger k (fun l => { l with set := {
        jobId := u64 c.p 0, boxes := (List.range 4).map fun j => u16 c.p (8 + 2 * j)
        masks := (List.range 4).map fun j => u32 c.p (16 + 4 * j)
        secondLook := u32 c.p 32, cropBox := u16 c.p 36, options := BitVec.ofNat 7 (u8 c.p 38) } }) s) s))) ∧
  (∀ (a₀ : Args) (s₀ : State), Accepted cmdLedgerChain a₀ s₀ = true → exec (.ledgerChain a₀) s₀ = .next (
      let s := received a₀ s₀
      let c := cmdLedgerChain.call a₀
      s₀.replied a₀ 0x0711 [] (modLedger (fun l => { l with chainBox := u16 c.p 0 }) s))) ∧
  (∀ (a₀ : Args) (s₀ : State), Accepted cmdOutputRules a₀ s₀ = true → exec (.outputRules a₀) s₀ = .next (
      let s := received a₀ s₀
      let c := cmdOutputRules.call a₀
      let us := unitsNamed c.p
      let s := (List.range 16).foldl (fun s u =>
        let x := s.compare u
        s.setCompare u { x with claimed := us.contains u, queue := if x.claimed then [] else x.queue }) s
      s₀.replied a₀ 0x0712 [] ((List.range 16).foldl (fun s r => (s.setOutRule r (outRuleArgs c.p r)).setRuleGates r {}) s))) ∧
  (∀ (a₀ : Args) (s₀ : State), Accepted cmdOutputForce a₀ s₀ = true → exec (.outputForce a₀) s₀ = .next (
      let s := received a₀ s₀
      let c := cmdOutputForce.call a₀
      let b := BitVec.ofNat 5 (2 ^ u8 c.p 0)
      s₀.replied a₀ 0x0713 [] (showOutputs (modLedger (fun l =>
        if u8 c.p 1 = 1 then { l with forced := l.forced ||| b }
        else { l with forced := l.forced &&& ~~~ b, latched := l.latched &&& ~~~ b }) s)))) ∧
  (∀ (a₀ : Args) (s₀ : State), Accepted cmdLedgerStatus a₀ s₀ = true → exec (.ledgerStatus a₀) s₀ = .next (
      let s := received a₀ s₀
      let c := cmdLedgerStatus.call a₀
      let k := c.target
      let l := s.stLedger k
      s₀.replied a₀ 0x0714 (le 8 l.entries ++ le 8 l.serial ++ le 4 l.pseudo ++ le 4 l.amendments ++ le 2 (backlogOf k s) ++ le 2 l.backlogPeak
          ++ le 4 l.overflow ++ le 4 l.armed ++ le 4 l.late ++ le 4 l.merged ++ le 4 l.discarded ++ le 4 l.cropsNone ++ le 4 l.outside
          ++ le 1 (outputsByte s) ++ zeros 7)
        (if u8 c.p 0 = 1 then s.setStLedger k { l with
          entries := 0, pseudo := 0, amendments := 0, backlogPeak := backlogOf k s, overflow := 0, armed := 0, late := 0
          merged := 0, discarded := 0, cropsNone := 0, outside := 0 } else s))) ∧
  (∀ (a₀ : Args) (s₀ : State), Accepted cmdLedgerExport a₀ s₀ = true → exec (.ledgerExport a₀) s₀ = .next (
      let s := received a₀ s₀
      let c := cmdLedgerExport.call a₀
      let r := exportPart c.p c.a.fails s
      if r.1 = stDone then s₀.replied a₀ 0x0715 r.2.1 r.2.2 else s₀.turnedAway a₀ 0x0715 s r.1)) ∧
  (∀ (a₀ : Args) (s₀ : State), Accepted cmdSlNetworkLoad a₀ s₀ = true → exec (.slNetworkLoad a₀) s₀ = .next (
      let s := received a₀ s₀
      let c := cmdSlNetworkLoad.call a₀
      let s := c.targets.foldl (fun s k => modStLook k (fun l => { l with image := if c.p.length = 8 then [] else c.p }) s) s
      s₀.replied a₀ 0x0720 [] (raiseIf (c.p.length ≠ 8) 355 s))) ∧
  (∀ (a₀ : Args) (s₀ : State), Accepted cmdSlSet a₀ s₀ = true → exec (.slSet a₀) s₀ = .next (
      let s := received a₀ s₀
      let c := cmdSlSet.call a₀
      s₀.replied a₀ 0x0721 [] (c.targets.foldl (fun s k => modStLook k (fun l => { l with set := {
        maxAge := u16 c.p 0, withdraw := u32 c.p 4, minScore := (List.range 32).map fun i => u8 c.p (8 + i) } }) s) s))) ∧
  (∀ (a₀ : Args) (s₀ : State), Accepted cmdSlNetworkRead a₀ s₀ = true → exec (.slNetworkRead a₀) s₀ = .next (
      let s := received a₀ s₀
      let c := cmdSlNetworkRead.call a₀
      let img := lookImage c.target s
      s₀.replied a₀ 0x0722 (le 4 (netId img) ++ le 4 (sat 32 (netCost img)) ++ le 4 (sumNat ((imageLayers img).map (·.weights)))
        ++ le 1 (netLayers img) ++ le 1 (netOutputs img) ++ zeros 2) s)) ∧
  (∀ (a₀ : Args) (s₀ : State), Accepted cmdSlStatus a₀ s₀ = true → exec (.slStatus a₀) s₀ = .next (
      let s := received a₀ s₀
      let c := cmdSlStatus.call a₀
      let l := s.look
      s₀.replied a₀ 0x0723 (le 2 l.queue.length ++ le 2 l.queuePeak ++ le 1 (maskOf (lookDistricts s)) ++ zeros 3 ++ le 8 l.jobsDone ++ le 4 l.confirmed
          ++ le 4 l.withdrawn ++ le 4 l.reclassed ++ (List.range 6).flatMap (fun i => le 4 (Tab.get 0 l.causes i)) ++ le 4 l.lastUs
          ++ le 4 l.maxUs ++ zeros 4)
        (if u8 c.p 0 = 1 then { s with look := { l with
          queuePeak := l.queue.length, jobsDone := 0, confirmed := 0, withdrawn := 0, reclassed := 0, causes := [], lastUs := 0
          maxUs := 0 } } else s)))

/-- The commands of the franking unit (chapter 15). An accepted packet has the effect its definition gives it, and its one reply carries
the data its definition gives, or the command stays outstanding; nothing else of the state is named on the right, and `CalmStepSettles`
says what the end of the step adds. FRANK_HEAD_SET (R353), FRANK_WAVEFORM (R334), FRANK_DENSITY (R345), FRANK_MASK (R344), FRANK_SELECT
(R339), FRANK_MACHINE (R349), FRANK_STATUS (R353). -/
def Obligations.FrankingCommandsRun : Prop :=
  (∀ (a₀ : Args) (s₀ : State), Accepted cmdFrankHeadSet a₀ s₀ = true → exec (.frankHeadSet a₀) s₀ = .next (
      let s := received a₀ s₀
      let c := cmdFrankHeadSet.call a₀
      s₀.replied a₀ 0x0800 [] (modHead c.target (fun y => { y with set := headSetArgs c.p }) s))) ∧
  (∀ (a₀ : Args) (s₀ : State), Accepted cmdFrankWaveform a₀ s₀ = true → exec (.frankWaveform a₀) s₀ = .next (
      let s := received a₀ s₀
      let c := cmdFrankWaveform.call a₀
      s₀.replied a₀ 0x0801 [] (modHead c.target (fun y => { y with wave := (List.range 3).map (waveArgs c.p) }) s))) ∧
  (∀ (a₀ : Args) (s₀ : State), Accepted cmdFrankDensity a₀ s₀ = true → exec (.frankDensity a₀) s₀ = .next (
      let s := received a₀ s₀
      let c := cmdFrankDensity.call a₀
      s₀.replied a₀ 0x0802 [] (modFrank (fun f => { f with
        density := (List.range 4).foldl (fun t i => Tab.set ({} : Density) t i (densityArgs c.p i)) f.density }) s))) ∧
  (∀ (a₀ : Args) (s₀ : State), Accepted cmdFrankMask a₀ s₀ = true → exec (.frankMask a₀) s₀ = .next (
      let s := received a₀ s₀
      let c := cmdFrankMask.call a₀
      let m := c.p.map BitVec.toNat
      s₀.replied a₀ 0x0803 [] (modHead c.target (fun y => { y with mask := if m.all (· = 0x06) then [] else m }) s))) ∧
  (∀ (a₀ : Args) (s₀ : State), Accepted cmdFrankSelect a₀ s₀ = true → exec (.frankSelect a₀) s₀ = .next (
      let s := received a₀ s₀
      let c := cmdFrankSelect.call a₀
      s₀.replied a₀ 0x0804 [] (modHead c.target (fun y => { y with select := selectArgs c.p }) s))) ∧
  (∀ (a₀ : Args) (s₀ : State), Accepted cmdFrankMachine a₀ s₀ = true → exec (.frankMachine a₀) s₀ = .next (
      let s := received a₀ s₀
      let c := cmdFrankMachine.call a₀
      s₀.replied a₀ 0x0805 [] (modFrank (fun f => { f with machine := machineArgs c.p }) s))) ∧
  (∀ (a₀ : Args) (s₀ : State), Accepted cmdFrankStatus a₀ s₀ = true → exec (.frankStatus a₀) s₀ = .next (
      let s := received a₀ s₀
      let c := cmdFrankStatus.call a₀
      let x := s.head c.target
      s₀.replied a₀ 0x0806 (le 1 (b2n x.hot + 2 * b2n x.fault + 4 * b2n (s.frank.rewind.step ≠ 0) + 8 * b2n (headPrinting c.target s)) ++ le 1 0
          ++ les 2 x.temp ++ le 2 x.queue.length ++ le 2 0 ++ le 4 x.marksDone ++ le 4 x.incomplete ++ le 4 x.marksMoved
          ++ le 4 x.withheld ++ le 4 x.fireLate ++ le 4 x.dotsLost ++ le 4 x.rewinds ++ le 4 x.rewindsFailed)
        (if u8 c.p 0 = 1 then s.setHead c.target { x with
          marksDone := 0, incomplete := 0, marksMoved := 0, withheld := 0, fireLate := 0, dotsLost := 0, rewinds := 0
          rewindsFailed := 0 } else s)))

/-- The commands of the sorting frame (chapter 16). An accepted packet has the effect its definition gives it, and its one reply carries
the data its definition gives, or the command stays outstanding; nothing else of the state is named on the right, and `CalmStepSettles`
says what the end of the step adds. EVENT_CHANNEL_SET (R354), EVENT_INPUT_SET (R355), EVENT_FIRE (R357), EVENT_LOCK (R364),
EVENT_BRIDGE_SET (R365), EVENT_STATUS (R367). -/
def Obligations.FrameCommandsRun : Prop :=
  (∀ (a₀ : Args) (s₀ : State), Accepted cmdEventChannelSet a₀ s₀ = true → exec (.eventChannelSet a₀) s₀ = .next (
      let s := received a₀ s₀
      let c := cmdEventChannelSet.call a₀
      s₀.replied a₀ 0x0900 [] (modChannel (u8 c.p 0) (channelArgs c.p) s))) ∧
  (∀ (a₀ : Args) (s₀ : State), Accepted cmdEventInputSet a₀ s₀ = true → exec (.eventInputSet a₀) s₀ = .next (
      let s := received a₀ s₀
      let c := cmdEventInputSet.call a₀
      s₀.replied a₀ 0x0901 [] (modInput (u16 c.p 0) (inputArgs c.p) s))) ∧
  (∀ (a₀ : Args) (s₀ : State), Accepted cmdEventFire a₀ s₀ = true → exec (.eventFire a₀) s₀ = .next (
      let s := received a₀ s₀
      let c := cmdEventFire.call a₀
      s₀.replied a₀ 0x0902 [] ((setIndices 128 (fld 16 c.p 0)).foldl (fun s x => fireChannel x s) (fireSw (u8 c.p 16) s)))) ∧
  (∀ (a₀ : Args) (s₀ : State), Accepted cmdEventLock a₀ s₀ = true → exec (.eventLock a₀) s₀ = .next (
      let s := received a₀ s₀
      let c := cmdEventLock.call a₀
      s₀.replied a₀ 0x0903 [] (lockChannel (u8 c.p 0) s))) ∧
  (∀ (a₀ : Args) (s₀ : State), Accepted cmdEventBridgeSet a₀ s₀ = true → exec (.eventBridgeSet a₀) s₀ = .next (
      let s := received a₀ s₀
      let c := cmdEventBridgeSet.call a₀
      s₀.replied a₀ 0x0904 [] (s.setBridge (u8 c.p 0) (bridgeArgs c.p (s.bridge (u8 c.p 0)))))) ∧
  (∀ (a₀ : Args) (s₀ : State), Accepted cmdEventStatus a₀ s₀ = true → exec (.eventStatus a₀) s₀ = .next (
      let s := received a₀ s₀
      let c := cmdEventStatus.call a₀
      let x := s.channel (u8 c.p 0)
      s₀.replied a₀ 0x0905 ([0x00, 0x04, 0x08, 0x0C].flatMap (fun o => le 4 (x.word o)) ++ le 2 s.frame.saturated ++ le 2 s.frame.mergedExcess ++ zeros 4)
        (if u8 c.p 1 = 1 then s.setChannel (u8 c.p 0) { x with
          carried := 0, returned := 0, hopDropped := 0, swRefused := 0, lockViolations := 0 } else s)))

/-- The commands of the teller (chapter 17). An accepted packet has the effect its definition gives it, and its one reply carries the data
its definition gives, or the command stays outstanding; nothing else of the state is named on the right, and `CalmStepSettles` says
what the end of the step adds. TELLER_SET (R377), TELLER_STATION_SET (R382), TELLER_CHECK (R559), TELLER_STATUS (R391), TELLER_REMAP
(R387). -/
def Obligations.TellerCommandsRun : Prop :=
  (∀ (a₀ : Args) (s₀ : State), Accepted cmdTellerSet a₀ s₀ = true → exec (.tellerSet a₀) s₀ = .next (
      let s := received a₀ s₀
      let c := cmdTellerSet.call a₀
      let s := modTeller (fun x => { x with powerLimit := u16 c.p 0, guardBand := u16 c.p 2 }) s
      s₀.replied a₀ 0x0A00 [] (if s.mode = .inspect || s.mode = .reduced then takeAdmission s else s))) ∧
  (∀ (a₀ : Args) (s₀ : State), Accepted cmdTellerStationSet a₀ s₀ = true → exec (.tellerStationSet a₀) s₀ = .next (
      let s := received a₀ s₀
      let c := cmdTellerStationSet.call a₀
      s₀.replied a₀ 0x0A01 [] (c.targets.foldl (fun s k => modDecl k (fun d => { d with
        reduce := BitVec.ofNat 2 (u8 c.p 0), factor := u8 c.p 1, speedMax := u32 c.p 4 }) s) s))) ∧
  (∀ (a₀ : Args) (s₀ : State), Accepted cmdTellerCheck a₀ s₀ = true → exec (.tellerCheck a₀) s₀ = .next (
      let s := received a₀ s₀
      let a := admission s.teller.steps s
      let ns := districtNeeds s.teller.steps s
      s₀.replied a₀ 0x0A02 (le 2 (if a.1 = 0 then stDone else stUnsafe) ++ le 1 a.1 ++ le 1 a.2 ++ le 4 (sixteenths (regPower ns s))
        ++ le 4 (85 * s.teller.powerLimit / 100) ++ zeros 4
        ++ (List.range 16).flatMap fun d => match ns.find? (fun x => x.district = d) with
          | some x => le 1 x.point ++ le 1 (min 255 ⌈x.work / ((dvfs x.point).capacity * 10000000)⌉.toNat)
              ++ le 2 (sixteenths x.power)
          | none => [0xFF#8, 0#8, 0#8, 0#8]) s)) ∧
  (∀ (a₀ : Args) (s₀ : State), Accepted cmdTellerStatus a₀ s₀ = true → exec (.tellerStatus a₀) s₀ = .next (
      let s := received a₀ s₀
      let c := cmdTellerStatus.call a₀
      let x := s.teller
      s₀.replied a₀ 0x0A03 (le 1 x.level ++ le 1 (stepsApplied s) ++ les 2 x.tj ++ zeros 4
          ++ (List.range 16).flatMap (fun d => districtStatus d s)
          ++ le 4 x.shortTicks ++ le 4 x.remaps ++ le 4 x.retirements ++ le 4 x.throttledMs)
        (if (u8 c.p 0).testBit 0 then modTeller (fun x => { x with
          shortTicks := 0, remaps := 0, retirements := 0, throttledMs := 0 })
          ((List.range 16).foldl (fun s d => modDistrict d (fun y => { y with misses := 0 }) s) s) else s))) ∧
  (∀ (a₀ : Args) (s₀ : State), Accepted cmdTellerRemap a₀ s₀ = true → exec (.tellerRemap a₀) s₀ = .next (
      let s := received a₀ s₀
      let c := cmdTellerRemap.call a₀
      let n := u8 c.p 0
      match remapTarget n (u8 c.p 1) s with
      | some d => s₀.begun a₀ cmdTellerRemap (startMove s { port := n, source := s.route n, dest := d, cause := 0 }) d
      | none => s₀.turnedAway a₀ 0x0A04 s stNoSpace))

/-- The commands of the DRAM controller (chapter 18). An accepted packet has the effect its definition gives it, and its one reply carries
the data its definition gives, or the command stays outstanding; nothing else of the state is named on the right, and `CalmStepSettles`
says what the end of the step adds. DRAM_INFO (R392), DRAM_SET (R411), DRAM_STATUS (R411), DRAM_ERROR_LOG (R407), DRAM_TRAIN (R403),
DRAM_RETRAIN (R404), DRAM_TEST (R411). -/
def Obligations.DramCommandsRun : Prop :=
  (∀ (a₀ : Args) (s₀ : State), Accepted cmdDramInfo a₀ s₀ = true → exec (.dramInfo a₀) s₀ = .next (
      let s := received a₀ s₀
      s₀.replied a₀ 0x0B00 (le 1 Config.dramChannels ++ le 1 Config.dramRanks ++ le 1 Config.dramDensity
        ++ le 1 (8 + Config.dramGrainCode.val) ++ le 2 Config.dramRate ++ le 1 (failedChannels s) ++ zeros 1 ++ le 8 Config.dramCapacity) s)) ∧
  (∀ (a₀ : Args) (s₀ : State), Accepted cmdDramSet a₀ s₀ = true → exec (.dramSet a₀) s₀ = .next (
      let s := received a₀ s₀
      let c := cmdDramSet.call a₀
      s₀.replied a₀ 0x0B01 [] (modDram (fun d => { d with set := {
        postponeMax := u8 c.p 0, fine := u8 c.p 1 = 1, neighbour := u8 c.p 2 = 1, neighbourK := u8 c.p 3, retrainMs := u16 c.p 4
        scrubHours := u16 c.p 6 } }) s))) ∧
  (∀ (a₀ : Args) (s₀ : State), Accepted cmdDramStatus a₀ s₀ = true → exec (.dramStatus a₀) s₀ = .next (
      let s := received a₀ s₀
      let c := cmdDramStatus.call a₀
      let x := s.dramCh c.target
      s₀.replied a₀ 0x0B02 (le 1 (b2n x.selfRefresh + 2 * b2n (s.now < x.sliceUntil) + 4 * b2n (0 < x.interval) + 8 * b2n x.failed) ++ le 1 x.owed
          ++ le 1 x.owedPeak ++ zeros 1 ++ le 4 x.corrected ++ le 4 x.uncorrectable ++ le 4 x.neighbours ++ le 4 x.slices ++ le 2 x.driftMax
          ++ zeros 2 ++ le 8 x.readBytes ++ le 8 x.writeBytes)
        (if u8 c.p 0 = 1 then s.setDramCh c.target { x with
          owedPeak := x.owed, corrected := 0, uncorrectable := 0, neighbours := 0, slices := 0, driftMax := 0, readBytes := 0, writeBytes := 0 }
        else s))) ∧
  (∀ (a₀ : Args) (s₀ : State), Accepted cmdDramErrorLog a₀ s₀ = true → exec (.dramErrorLog a₀) s₀ = .next (
      let s := received a₀ s₀
      let c := cmdDramErrorLog.call a₀
      let x := s.dramCh c.target
      s₀.replied a₀ 0x0B03 (le 4 x.log.length ++ x.log.flatMap DramError.toBytes) s)) ∧
  (∀ (a₀ : Args) (s₀ : State), Accepted cmdDramTrain a₀ s₀ = true → exec (.dramTrain a₀) s₀ = .next (
      let s := received a₀ s₀
      let c := cmdDramTrain.call a₀
      let ok := (channelsOf c).all fun i => !channelFails c i
      let s := (channelsOf c).foldl (fun s i => trained i (!channelFails c i) s) s
      let s := if s.mode = .standby then dramSleep s else s
      if ok then
        let r := s.drawBytes 2
        s₀.replied a₀ 0x0B04 (r.1 ++ zeros 2) r.2
      else s₀.concluded a₀ 0x0B04 stHwFault [] s)) ∧
  (∀ (a₀ : Args) (s₀ : State), Accepted cmdDramRetrain a₀ s₀ = true → exec (.dramRetrain a₀) s₀ = .next (
      let s := received a₀ s₀
      let c := cmdDramRetrain.call a₀
      let r := (List.range Config.dramRanks).foldl (fun (acc : Nat × State) rank =>
        let d := acc.2.drawFree 65536
        let took := d.2.drawFree 1501
        (max acc.1 d.1, sliceRun c.target rank took.1 d.1 took.2)) (0, s)
      s₀.replied a₀ 0x0B05 (le 2 r.1 ++ zeros 2) (modDram (fun d => { d with busyUntil := max d.busyUntil (r.2.dramCh c.target).sliceUntil }) r.2))) ∧
  (∀ (a₀ : Args) (s₀ : State), Accepted cmdDramTest a₀ s₀ = true → exec (.dramTest a₀) s₀ = .next (
      let s := received a₀ s₀
      let c := cmdDramTest.call a₀
      let r := (channelsOf c).foldl (fun (acc : List Byte × State) i =>
        let x := testResult (channelFails c i) acc.2
        (acc.1 ++ x.1, x.2)) (([] : List Byte), s)
      s₀.replied a₀ 0x0B06 r.1 (raise 391 r.2)))

/-- The commands of mailboxes, the Courier, the host link and compression (chapter 19, chapter 20). An accepted packet has the effect its
definition gives it, and its one reply carries the data its definition gives, or the command stays outstanding; nothing else of the
state is named on the right, and `CalmStepSettles` says what the end of the step adds. MAILBOX_SET (R423), MAILBOX_STATUS (R432),
COURIER_SET (R426), HOST_LINK_STATUS (R432), COMP_JOB (R440), COMP_STATUS (R443). -/
def Obligations.HostAndCompressionCommandsRun : Prop :=
  (∀ (a₀ : Args) (s₀ : State), Accepted cmdMailboxSet a₀ s₀ = true → exec (.mailboxSet a₀) s₀ = .next (
      let s := received a₀ s₀
      let c := cmdMailboxSet.call a₀
      let m := u16 c.p 0
      let b := s.box m
      let x := boxArgs c.p b
      s₀.replied a₀ 0x0C00 [] (if b.enable then (if u8 c.p 6 = 0 then s.setBox m b.stop else s)
        else s.setBox m (if u8 c.p 6 = 1 then x.start else x)))) ∧
  (∀ (a₀ : Args) (s₀ : State), Accepted cmdMailboxStatus a₀ s₀ = true → exec (.mailboxStatus a₀) s₀ = .next (
      let s := received a₀ s₀
      let c := cmdMailboxStatus.call a₀
      let b := s.box (u16 c.p 0)
      s₀.replied a₀ 0x0C01 (le 4 b.producer ++ le 4 b.consumer ++ le 4 b.dropped
        ++ le 1 (b2n b.badDoorbell + 2 * b2n b.fetchError + 4 * b2n b.fullSeen) ++ le 1 b.kind ++ le 1 b.owner ++ le 1 (b2n b.enable)) s)) ∧
  (∀ (a₀ : Args) (s₀ : State), Accepted cmdCourierSet a₀ s₀ = true → exec (.courierSet a₀) s₀ = .next (
      let s := received a₀ s₀
      let c := cmdCourierSet.call a₀
      let n := u64 c.p 0
      let base := if n = 0 then 0 else Config.userBase n % (Config.dramCapacity - n + 1)
      s₀.replied a₀ 0x0C02 (le 8 base) (modHost (fun h => { h with userBase := base, userBytes := n }) s))) ∧
  (∀ (a₀ : Args) (s₀ : State), Accepted cmdHostLinkStatus a₀ s₀ = true → exec (.hostLinkStatus a₀) s₀ = .next (
      let s := received a₀ s₀
      let c := cmdHostLinkStatus.call a₀
      let h := s.host
      s₀.replied a₀ 0x0C03 (le 1 h.speed ++ le 1 h.width ++ zeros 2 ++ le 4 h.correctable ++ le 4 h.uncorrectable ++ le 4 h.linkDowns ++ le 4 h.flrs
          ++ le 4 h.repliesDiscarded)
        (if u8 c.p 0 = 1 then modHost (fun h => { h with
          correctable := 0, uncorrectable := 0, linkDowns := 0, flrs := 0, repliesDiscarded := 0 }) s else s))) ∧
  (∀ (a₀ : Args) (s₀ : State), Accepted cmdCompJob a₀ s₀ = true → exec (.compJob a₀) s₀ = .next (
      let s := received a₀ s₀
      s₀.begun a₀ cmdCompJob s 0)) ∧
  (∀ (a₀ : Args) (s₀ : State), Accepted cmdCompStatus a₀ s₀ = true → exec (.compStatus a₀) s₀ = .next (
      let s := received a₀ s₀
      let c := cmdCompStatus.call a₀
      let y := s.engine c.target
      s₀.replied a₀ 0x0D01 (le 1 (b2n y.job.isSome) ++ le 1 ((y.job.map (·.user)).getD 0) ++ zeros 2 ++ le 4 y.jobs ++ le 8 y.bytesIn
          ++ le 8 y.bytesOut ++ le 4 y.noSpace ++ le 4 y.faults ++ le 4 y.hwFaults ++ zeros 4)
        (if u8 c.p 0 = 1 then s.setEngine c.target { job := y.job } else s)))

/-- The commands of the vault, the day book and the journal (chapter 21, chapter 22). An accepted packet has the effect its definition
gives it, and its one reply carries the data its definition gives, or the command stays outstanding; nothing else of the state is named
on the right, and `CalmStepSettles` says what the end of the step adds. VAULT_INFO (R444), VAULT_FORMAT (R450), VAULT_SET (R462),
VAULT_STATUS (R462), VAULT_FW_WRITE (R459), VAULT_FW_ACTIVATE (R460), DAYBOOK_JOBS (R458), DAYBOOK_JOB_SET (R458), JOURNAL_POLICY
(R472), JOURNAL_RATE (R467), JOURNAL_READ (R479), JOURNAL_RELEASE (R473), JOURNAL_STATUS (R481). -/
def Obligations.VaultAndJournalCommandsRun : Prop :=
  (∀ (a₀ : Args) (s₀ : State), Accepted cmdVaultInfo a₀ s₀ = true → exec (.vaultInfo a₀) s₀ = .next (
      let s := received a₀ s₀
      s₀.replied a₀ 0x0E00 (le 1 vaultChannels ++ le 1 Config.vaultTargets ++ le 1 Config.vaultLuns
        ++ le 1 Config.vaultPlanes ++ le 2 Config.vaultRate ++ zeros 2 ++ le 8 (rawBytes s) ++ le 8 (logicalBytes s)
        ++ (List.range 7).flatMap fun a => le 8 (areaBytes a s)) s)) ∧
  (∀ (a₀ : Args) (s₀ : State), Accepted cmdVaultFormat a₀ s₀ = true → exec (.vaultFormat a₀) s₀ = .next (
      let s := received a₀ s₀
      let c := cmdVaultFormat.call a₀
      s₀.replied a₀ 0x0E01 [] (formatVault (u8 c.p 0) s))) ∧
  (∀ (a₀ : Args) (s₀ : State), Accepted cmdVaultSet a₀ s₀ = true → exec (.vaultSet a₀) s₀ = .next (
      let s := received a₀ s₀
      let c := cmdVaultSet.call a₀
      s₀.replied a₀ 0x0E02 [] (modVault (fun v => { v with
        dayFull := u8 c.p 0, scrubDays := u8 c.p 1, refreshBits := u16 c.p 2 }) s))) ∧
  (∀ (a₀ : Args) (s₀ : State), Accepted cmdVaultStatus a₀ s₀ = true → exec (.vaultStatus a₀) s₀ = .next (
      let s := received a₀ s₀
      let v := s.vault
      s₀.replied a₀ 0x0E03 (le 1 (b2n v.mounted + 2 * b2n v.replaying + 4 * b2n v.formatted + 8 * b2n (spareBelow 3 s)
          + 16 * b2n (programsLimited s))
        ++ le 1 (sparePct s) ++ le 2 (wearTenths s) ++ le 4 v.growBad ++ le 4 v.factoryBad ++ le 4 v.retryReads
        ++ le 4 v.softReads ++ le 4 v.uncorrectable ++ le 4 v.relocations ++ le 4 v.dayLost ++ le 2 v.badTargets ++ zeros 2) s)) ∧
  (∀ (a₀ : Args) (s₀ : State), Accepted cmdVaultFwWrite a₀ s₀ = true → exec (.vaultFwWrite a₀) s₀ = .next (
      let s := received a₀ s₀
      let c := cmdVaultFwWrite.call a₀
      let s := if u32 c.p 4 = 0 then clearSlot (u8 c.p 0) s else s
      s₀.begun a₀ cmdVaultFwWrite (modVault (fun v => { v with fwWrite := some {
        slot := u8 c.p 0, off := u32 c.p 4, len := u32 c.p 8, src := u64 c.p 16, fails := c.a.fails } }) s) 0)) ∧
  (∀ (a₀ : Args) (s₀ : State), Accepted cmdVaultFwActivate a₀ s₀ = true → exec (.vaultFwActivate a₀) s₀ = .next (
      let s := received a₀ s₀
      let c := cmdVaultFwActivate.call a₀
      let s := modVault (fun v => { v with activating := some (u8 c.p 0), norSlot := u8 c.p 0 }) s
      let s := modFwSlot (u8 c.p 0) (fun x => { x with signed := u32 c.p 4 }) s
      s₀.replied a₀ 0x0E05 [] { s with modes := { s.modes with softPending := some 0x02, softAt := s.now } })) ∧
  (∀ (a₀ : Args) (s₀ : State), Accepted cmdDaybookJobs a₀ s₀ = true → exec (.daybookJobs a₀) s₀ = .next (
      let s := received a₀ s₀
      let c := cmdDaybookJobs.call a₀
      s₀.replied a₀ 0x0E06 (((s.vault.jobs.drop (u16 c.p 0)).take (u16 c.p 2)).flatMap fun j => dayJobEntry j s) s)) ∧
  (∀ (a₀ : Args) (s₀ : State), Accepted cmdDaybookJobSet a₀ s₀ = true → exec (.daybookJobSet a₀) s₀ = .next (
      let s := received a₀ s₀
      let c := cmdDaybookJobSet.call a₀
      let job := u64 c.p 0
      if u8 c.p 8 = 2 then
        s₀.replied a₀ 0x0E07 [] (vaultDelete (fun o => o.kind = .dayRecord && o.key = job)
          (modVault (fun v => { v with jobs := v.jobs.filter fun j => j.job ≠ job }) s))
      else s₀.replied a₀ 0x0E07 [] (modVault (fun v => { v with
        jobs := v.jobs.map fun j => if j.job = job then { j with isProtected := u8 c.p 8 = 1 } else j }) s))) ∧
  (∀ (a₀ : Args) (s₀ : State), Accepted cmdJournalPolicy a₀ s₀ = true → exec (.journalPolicy a₀) s₀ = .next (
      let s := received a₀ s₀
      let c := cmdJournalPolicy.call a₀
      s₀.replied a₀ 0x0F00 [] (setPolicy (u8 c.p 0 = 1) s))) ∧
  (∀ (a₀ : Args) (s₀ : State), Accepted cmdJournalRate a₀ s₀ = true → exec (.journalRate a₀) s₀ = .next (
      let s := received a₀ s₀
      let c := cmdJournalRate.call a₀
      let codes := if u16 c.p 0 = 0xFFFF then limitedCodes else [u16 c.p 0]
      s₀.replied a₀ 0x0F01 [] (modJournal (fun j => codes.foldl (fun j code => j.setBucket code { j.bucket code with
        rate := u16 c.p 2, burst := u8 c.p 4, level := u8 c.p 4 * 1000000000, levelAt := s.now }) j) s))) ∧
  (∀ (a₀ : Args) (s₀ : State), Accepted cmdJournalRead a₀ s₀ = true → exec (.journalRead a₀) s₀ = .next (
      let s := received a₀ s₀
      let c := cmdJournalRead.call a₀
      let j := s.journal
      let xs := ((j.spill ++ j.sram).filter fun e => u64 c.p 0 ≤ e.seq).take (u32 c.p 8)
      s₀.replied a₀ 0x0F02 (le 8 j.firstSeq ++ le 8 j.nextSeq ++ le 4 xs.length ++ zeros 4 ++ xs.flatMap JEntry.toBytes) s)) ∧
  (∀ (a₀ : Args) (s₀ : State), Accepted cmdJournalRelease a₀ s₀ = true → exec (.journalRelease a₀) s₀ = .next (
      let s := received a₀ s₀
      let c := cmdJournalRelease.call a₀
      s₀.replied a₀ 0x0F03 [] (resumeRecording (fitSpill (modJournal (fun j => { j with
        sram := j.sram.filter fun e => u64 c.p 0 ≤ e.seq
        spill := j.spill.filter fun e => u64 c.p 0 ≤ e.seq
        full := false }) s))))) ∧
  (∀ (a₀ : Args) (s₀ : State), Accepted cmdJournalStatus a₀ s₀ = true → exec (.journalStatus a₀) s₀ = .next (
      let s := received a₀ s₀
      let c := cmdJournalStatus.call a₀
      let j := s.journal
      s₀.replied a₀ 0x0F04 (le 8 j.nextSeq ++ le 8 j.firstSeq ++ le 8 j.sramFirst ++ le 1 (journalState s) ++ zeros 3 ++ le 4 j.lost
          ++ le 4 j.suppressedTotal ++ le 4 j.spill.length)
        (if u8 c.p 0 = 1 then modJournal (fun j => { j with lost := 0, suppressedTotal := 0 }) s else s)))

/-- The commands of the chain and twin operation (chapter 23, chapter 24). An accepted packet has the effect its definition gives it, and
its one reply carries the data its definition gives, or the command stays outstanding; nothing else of the state is named on the right,
and `CalmStepSettles` says what the end of the step adds. CHAIN_STATUS (R499), CHAIN_ENUMERATE (R484), CHAIN_TIME_SET (R491),
CHAIN_RESET (R495), CHAIN_WAKE (R496), TWIN_SET (R505), TWIN_JOIN (R505), TWIN_HANDOVER (R519), TWIN_STATUS (R522). -/
def Obligations.ChainAndTwinCommandsRun : Prop :=
  (∀ (a₀ : Args) (s₀ : State), Accepted cmdChainStatus a₀ s₀ = true → exec (.chainStatus a₀) s₀ = .next (
      let s := received a₀ s₀
      let c := cmdChainStatus.call a₀
      let x := s.chain
      let st := b2n x.isHead + 2 * b2n (chainActive .up s) + 4 * b2n (chainActive .down s) + 8 * b2n x.synced + 16 * b2n x.mismatch
      s₀.replied a₀ 0x1000 (le 1 x.postcode ++ le 1 x.size ++ le 1 st ++ zeros 1 ++ le 4 x.delay ++ les 4 x.timeError ++ le 4 x.frameErrors
          ++ le 4 x.forwardLost ++ le 4 x.outbound.length)
        (if u8 c.p 0 = 1 then modChain (fun y => { y with frameErrors := 0, forwardLost := 0 }) s else s))) ∧
  (∀ (a₀ : Args) (s₀ : State), Accepted cmdChainEnumerate a₀ s₀ = true → exec (.chainEnumerate a₀) s₀ = .next (
      let s := received a₀ s₀
      let s := modChain (fun c => { c with postcode := 0, size := 1, enumerating := true, mismatch := false, since := s.now }) s
      s₀.begun a₀ cmdChainEnumerate (if chainActive .down s then sendToken 1 (sendHello .down s) else s) 0)) ∧
  (∀ (a₀ : Args) (s₀ : State), Accepted cmdChainTimeSet a₀ s₀ = true → exec (.chainTimeSet a₀) s₀ = .next (
      let s := received a₀ s₀
      let c := cmdChainTimeSet.call a₀
      s₀.replied a₀ 0x1002 [] (modChain (fun x => { x with offset := (u64 c.p 0 : Int) - (s.now : Int), slewLeft := 0 }) s))) ∧
  (∀ (a₀ : Args) (s₀ : State), Accepted cmdChainReset a₀ s₀ = true → exec (.chainReset a₀) s₀ = .next (
      let s := received a₀ s₀
      let s := if chainActive .down s then putControl .down 0xC9 true resetBlock s else s
      s₀.replied a₀ 0x1003 [] (modChain (fun c => { c with resetAt := some s.now }) s))) ∧
  (∀ (a₀ : Args) (s₀ : State), Accepted cmdChainWake a₀ s₀ = true → exec (.chainWake a₀) s₀ = .next (
      let s := received a₀ s₀
      s₀.replied a₀ 0x1004 [] (lightGroup 13 s))) ∧
  (∀ (a₀ : Args) (s₀ : State), Accepted cmdTwinSet a₀ s₀ = true → exec (.twinSet a₀) s₀ = .next (
      let s := received a₀ s₀
      let c := cmdTwinSet.call a₀
      let on := u8 c.p 0 = 1
      let s := modTwin (fun t => { t with
        enable := on, secondary := u8 c.p 1 = 1, revertBlocks := u16 c.p 2, partnerSerial := u64 c.p 8 }) s
      s₀.replied a₀ 0x1100 [] (if !on then setRole .off 0 (releaseInterlock s)
        else if s.twin.role = .off && !s.twin.driving then beginTake 0 s else s))) ∧
  (∀ (a₀ : Args) (s₀ : State), Accepted cmdTwinJoin a₀ s₀ = true → exec (.twinJoin a₀) s₀ = .next (
      let s := received a₀ s₀
      s₀.replied a₀ 0x1101 [] (goMode .shadow 0 (setRole .syncing 0 (freshStandby (cancelTake s)))))) ∧
  (∀ (a₀ : Args) (s₀ : State), Accepted cmdTwinHandover a₀ s₀ = true → exec (.twinHandover a₀) s₀ = .next (
      let s := received a₀ s₀
      s₀.begun a₀ cmdTwinHandover (if s.twin.handover.isSome then s else sendHandover 0 s) 0)) ∧
  (∀ (a₀ : Args) (s₀ : State), Accepted cmdTwinStatus a₀ s₀ = true → exec (.twinStatus a₀) s₀ = .next (
      let s := received a₀ s₀
      let c := cmdTwinStatus.call a₀
      let t := s.twin
      s₀.replied a₀ 0x1103 (le 1 t.role.code ++ le 1 t.partnerRole.code
          ++ le 1 (b2n t.holding + 2 * b2n t.senseHeld + 4 * b2n t.up + 8 * b2n (digestsEqual s)) ++ zeros 1
          ++ le 4 t.cleanRun ++ le 4 t.mismatches ++ le 4 t.replays ++ le 4 t.disagreements ++ le 4 t.switchovers ++ le 4 t.reissued)
        (if u8 c.p 0 = 1 then modTwin (fun x => { x with
          cleanRun := 0, mismatches := 0, replays := 0, disagreements := 0, switchovers := 0, reissued := 0 }) s else s)))

/-- The commands of calibration and the pins (chapter 25, chapter 26). An accepted packet has the effect its definition gives it, and its
one reply carries the data its definition gives, or the command stays outstanding; nothing else of the state is named on the right, and
`CalmStepSettles` says what the end of the step adds. CAL_RUN (R530), CAL_OFFSET_SET (R526), CAL_STATUS (R534), GPIO_SET (R551),
GPIO_STATUS (R553), ADC_READ (R552), I2C_TRANSFER (R553). -/
def Obligations.CalibrationAndPinCommandsRun : Prop :=
  (∀ (a₀ : Args) (s₀ : State), Accepted cmdCalRun a₀ s₀ = true → exec (.calRun a₀) s₀ = .next (
      let s := received a₀ s₀
      let c := cmdCalRun.call a₀
      let r : CalRun := { scope := u32 c.p 0, steps := setIndices 19 (u32 c.p 0), stay := u8 c.p 4 = 1, startedAt := s.now }
      s₀.begun a₀ cmdCalRun (beginStep (modCal (fun x => { x with run := some r }) s)) 0)) ∧
  (∀ (a₀ : Args) (s₀ : State), Accepted cmdCalOffsetSet a₀ s₀ = true → exec (.calOffsetSet a₀) s₀ = .next (
      let s := received a₀ s₀
      let c := cmdCalOffsetSet.call a₀
      s₀.replied a₀ 0x1201 [] (modCalItem (calKey (u8 c.p 0) (u16 c.p 2)) (fun x => { x with offset := s16 c.p 4 }) s))) ∧
  (∀ (a₀ : Args) (s₀ : State), Accepted cmdCalStatus a₀ s₀ = true → exec (.calStatus a₀) s₀ = .next (
      let s := received a₀ s₀
      let c := cmdCalStatus.call a₀
      let i := u8 c.p 0
      let n := u16 c.p 2
      let x := s.calItem (calKey i n)
      s₀.replied a₀ 0x1202 (les 2 (calF i n s) ++ les 2 x.correction ++ les 2 x.offset ++ les 2 (calV i n s) ++ les 2 (x.applied.getD (calV i n s))
        ++ les 2 (calTemp i n s) ++ le 8 x.lastRun) s)) ∧
  (∀ (a₀ : Args) (s₀ : State), Accepted cmdGpioSet a₀ s₀ = true → exec (.gpioSet a₀) s₀ = .next (
      let s := received a₀ s₀
      let c := cmdGpioSet.call a₀
      s₀.replied a₀ 0x0010 [] (modGpio (u8 c.p 0) (gpioArgs c.p) s))) ∧
  (∀ (a₀ : Args) (s₀ : State), Accepted cmdGpioStatus a₀ s₀ = true → exec (.gpioStatus a₀) s₀ = .next (
      let s := received a₀ s₀
      s₀.replied a₀ 0x0011 (le 4 (maskOf ((List.range 32).filter fun g => (s.gpio g).atBall)) ++ le 4 (maskOf ((List.range 32).filter fun g => (s.gpio g).kind ≠ 0))
          ++ (List.range 4).flatMap (fun i => le 1 (Tab.get 0 s.elec.edges i)) ++ zeros 4)
        (modElec (fun e => { e with edges := [] }) s))) ∧
  (∀ (a₀ : Args) (s₀ : State), Accepted cmdAdcRead a₀ s₀ = true → exec (.adcRead a₀) s₀ = .next (
      let s := received a₀ s₀
      let c := cmdAdcRead.call a₀
      s₀.replied a₀ 0x0012 ((List.range 8).flatMap fun i => if (u8 c.p 0).testBit i then le 2 (u16 c.a.seen (2 * i)) else zeros 2) s)) ∧
  (∀ (a₀ : Args) (s₀ : State), Accepted cmdI2cTransfer a₀ s₀ = true → exec (.i2cTransfer a₀) s₀ = .next (
      let s := received a₀ s₀
      let c := cmdI2cTransfer.call a₀
      let s := send .bus (u8 c.p 0) (u8 c.p 1) ((c.p.drop 8).take (u8 c.p 2)) s
      match c.a.fails with
      | none => s₀.replied a₀ 0x0013 (padTo (u8 c.p 3) c.a.seen) s
      | some 0 => s₀.concluded a₀ 0x0013 stAbsent [] s
      | some 1 => s₀.concluded a₀ 0x0013 stTimedOut [] s
      | some _ => s₀.concluded a₀ 0x0013 stHwFault [] s))

/-- The events of the packet path (chapter 02). Whatever the state and the operands, exec answers the next state written out here: the
event's own effect where its conditions hold, and otherwise only the time that has passed; then the step ends. COMMAND_DISPATCH (R50),
WRITE_PACKET (R43), READ_STATUS (R43), READ_REPLY (R43), STAGING_TIMEOUT (R55), REGISTER_WRITE (R65). -/
def Obligations.PacketPathEvents : Prop :=
  (∀ (t : Nat) (s₀ : State), exec (.commandDispatch t) s₀ = .next (s₀.ends (
      let s : State := s₀.begin t
      let s := if transitionReady s then endTransition s else s
      let xs := s.sys.waiting.filter fun x => dispatchable x s
      match xs with
      | [] => s
      | x :: rest =>
        let cls := rest.foldl (fun c y => min c y.args.cls) x.args.cls
        let same := xs.filter fun y => y.args.cls = cls
        let src := nextSource (Tab.get 0 s.sys.rr cls) (same.map fun y => y.args.src.index)
        match same.find? fun y => y.args.src.index = src with
        | none => s
        | some y =>
          let s : State := { s with sys := { s.sys with
            waiting := s.sys.waiting.erase y, rr := Tab.set 0 s.sys.rr cls (src + 1) } }
          startPacket (commandOf y.op) y.op y.args s))) ∧
  (∀ (t : Nat) (frame : List Byte) (s₀ : State), exec (.writePacket t frame) s₀ = .next (s₀.ends (
      let s : State := s₀.begin t
      if frame.length < 16 || frame.length < 16 + u16 frame 8 || 256 < frame.length then
        modService (fun x => { x with refused := true }) s
      else
        let p := readPacket .service frame s
        takePacket (commandOf p.1) p.1 p.2 s))) ∧
  (∀ (t : Nat) (s₀ : State), exec (.readStatus t) s₀ = .next (s₀.ends (
      let s : State := s₀.begin t
      modService (fun x => { x with refused := false }) (send .reply 16 2 (turnaround :: le 1 s.sys.service.statusByte) s)))) ∧
  (∀ (t : Nat) (n : Nat) (s₀ : State), exec (.readReply t n) s₀ = .next (s₀.ends (
      let s : State := s₀.begin t
      let x := s.sys.service
      modService (fun y => { y with ready := y.ready && n < x.reply.length }) (send .reply 16 3 (turnaround :: x.reply.take n) s)))) ∧
  (∀ (t : Nat) (s₀ : State), exec (.stagingTimeout t) s₀ = .next (s₀.ends (
      let s : State := s₀.begin t
      match s.sys.chainCmds.find? fun c => !c.committed && c.since + 20000000 ≤ s.now with
      | none => s
      | some c => abortChain stTimedOut (packageMask c.staged) (packageMask (c.awaited ++ c.failed.map (·.1))) c s))) ∧
  (∀ (t : Nat) (fn : Fin 2) (size : Nat) (offset : Nat) (value : Nat) (host : List HostWrite) (s₀ : State), exec (.registerWrite t fn size offset value host) s₀ = .next (s₀.ends (
      let s : State := hostWrites host (s₀.begin t)
      let fn : Nat := fn.val
      if !barReachable s then s
      else if size = 4 && offset % 4 = 0 then registerWord fn offset value s
      else if size = 8 && offset % 8 = 0 then registerWord fn (offset + 4) (value / 2 ^ 32) (registerWord fn offset (value % 2 ^ 32) s)
      else s)))

/-- The events of modes, resets and supplies (chapter 03). Whatever the state and the operands, exec answers the next state written out
here: the event's own effect where its conditions hold, and otherwise only the time that has passed; then the step ends.
SOFT_RESET_BEGIN (R84), WAKE_N_ASSERTED (R545), CHAIN_WAKE_DETECT (R496), ALARM_WAKE (R79), BOOT_COMPLETE (R81), POR_RELEASE (R537),
RAIL_BELOW_RESET (R85), RESET_N_ASSERTED (R545), PIN_RESET_RELEASE (R545), RAIL_BELOW_WARNING (R91), RAIL_RECOVERED (R91),
BROWNOUT_PAUSE_END (R91), WATCHDOG_WARN (R86), WATCHDOG_EXPIRY (R86), AUTO_DRAIN_STOP_DETECT (R76), DRAIN_COMPLETE (R73), RAIL_GROUP_UP
(R538), RAIL_GROUP_TIMEOUT (R539), RAIL_RETRY (R539), RAIL_DISCHARGED (R540). -/
def Obligations.ResetAndPowerEvents : Prop :=
  (∀ (t : Nat) (s₀ : State), exec (.softResetBegin t) s₀ = .next (s₀.ends (
      let s : State := s₀.begin t
      match s.modes.softPending with
      | some cause =>
        if s.now < s.modes.softAt + 20000 then s
        else
          let s := modModes (fun m => { m with softPending := none, resetNow := some cause }) s
          if cause = 2 then raise 439 (journal 0x0E01 0 121 (le 1 (s.vault.activating.getD 0)) s) else s
      | none => s))) ∧
  (∀ (t : Nat) (s₀ : State), exec (.wakeNAsserted t) s₀ = .next (s₀.ends (
      let s : State := s₀.begin t
      let source : Nat := 0
      if s.modes.wakeMask.getLsbD source then wake source s else s))) ∧
  (∀ (t : Nat) (s₀ : State), exec (.chainWakeDetect t) s₀ = .next (s₀.ends (
      let s : State := s₀.begin t
      let source : Nat := 1
      if s.modes.wakeMask.getLsbD source then wake source s else s))) ∧
  (∀ (t : Nat) (s₀ : State), exec (.alarmWake t) s₀ = .next (s₀.ends (
      let s : State := s₀.begin t
      if s.modes.alarmTicks * 10 ^ 9 ≤ (s.now - s.modes.sentryAt) * 32768 then wakeIf 3 s else s))) ∧
  (∀ (t : Nat) (norGood : Bool) (version : Nat) (trainedMask : Nat) (s₀ : State), exec (.bootComplete t norGood version trainedMask) s₀ = .next (s₀.ends (
      let s : State := s₀.begin t
      let m := s.modes
      if s.sys.fwRunning || m.por || m.pinHeld || m.strapTest || m.groupUp ≠ 0b11 || (m.mode = .sentry && !m.waking) then s
      else match bootSlot norGood s with
      | none => s
      | some slot =>
        let s := modVault (fun v => { v with norSlot := slot }) s
        let s : State := { s with sys := { s.sys with fwRunning := true, fwVersion := version % 2 ^ 24 + 2 ^ 24 * slot } }
        let full := m.mode ≠ .sentry && m.lastReset % 256 ≤ 2
        let s := if full then (List.range Config.dramChannels).foldl (fun s c => trained c (trainedMask.testBit c) s) s else s
        restartSpeeds (lightLinks (if m.mode = .sentry then bootWake (dramSleep s) else bootReset (seedNeighbours (dramSleep s))))))) ∧
  (∀ (t : Nat) (head : Bool) (twin : Bool) (test : Bool) (s₀ : State), exec (.porRelease t head twin test) s₀ = .next (s₀.ends (
      let s : State := s₀.begin t
      if !s.modes.por then s
      else
        let s := modModes (fun m => { m with
          por := false, strapHead := head, strapTwin := twin, strapTest := test, outputs := m.idleSafe.setWidth 7 }) s
        let s : State := { s with sys := { s.sys with sentryBase := s.now } }
        tryPower (if twin then darkenSensors true s else s)))) ∧
  (∀ (t : Nat) (x : Fin 9 × RailLevel) (s₀ : State), exec (.railBelowReset t x) s₀ = .next (s₀.ends (
      let s : State := s₀.begin t
      let r : Nat := x.1
      let mv : Nat := x.2.mv
      let ns : Nat := x.2.ns
      if !railWatched r s || ns < 500 || !railUnder r mv 880 s then s
      else if r = 3 then packageReset .por 1 3 s
      else
        let s := modModes (fun m => { m with
          pinHeld := true
          groupUp := match railGroup r with
            | some g => m.groupUp &&& ~~~ (1#2 <<< g)
            | none => m.groupUp }) (s.setRail r { s.rail r with inReset := true })
        packageReset .pin 1 r s))) ∧
  (∀ (t : Nat) (s₀ : State), exec (.resetNAsserted t) s₀ = .next (s₀.ends (
      let s : State := s₀.begin t
      if s.modes.por || s.modes.pinHeld then s
      else packageReset .pin 0 0xFF (modModes (fun m => { m with pinHeld := true }) s)))) ∧
  (∀ (t : Nat) (head : Bool) (twin : Bool) (test : Bool) (s₀ : State), exec (.pinResetRelease t head twin test) s₀ = .next (s₀.ends (
      let s : State := s₀.begin t
      if !s.modes.pinHeld || s.modes.rails.any (fun e => e.2.inReset) then s
      else
        let s := modModes (fun m => { m with pinHeld := false, strapHead := head, strapTwin := twin, strapTest := test }) s
        tryPower (darkenSensors twin s)))) ∧
  (∀ (t : Nat) (r : Fin 9) (x : RailLevel) (s₀ : State), exec (.railBelowWarning t r x) s₀ = .next (s₀.ends (
      let s : State := s₀.begin t
      let r : Nat := r
      let mv : Nat := x.mv
      let ns : Nat := x.ns
      if !railWatched r s || ns < 100 || !railUnder r mv 930 s then s
      else
        let x := s.rail r
        if x.below then s.setRail r { x with lowest := min x.lowest mv }
        else
          let s := s.setRail r { x with below := true, since := s.now, lowest := mv, warn := true }
          let s := modModes (fun m => { m with warnCount := sat 16 (m.warnCount + 1), pause := true, pauseFrom := none }) s
          if s.mode = .sentry then s else raise 4 (frankPause s)))) ∧
  (∀ (t : Nat) (r : Fin 9) (x : RailRise) (s₀ : State), exec (.railRecovered t r x) s₀ = .next (s₀.ends (
      let s : State := s₀.begin t
      let r : Nat := r
      let mv : Nat := x.mv
      let lowest : Nat := x.lowest
      if s.mode = .sentry && r ≠ 3 then s
      else
        let x := s.rail r
        let x := { x with inReset := x.inReset && 1000 * mv ≤ 895 * railNominal r s.modes }
        if x.below && 945 * railNominal r s.modes < 1000 * mv then
          let s := s.setRail r { inReset := x.inReset }
          modModes (fun m => { m with
            dips := m.dips ++ [(r, min x.lowest lowest, s.now - x.since)]
            pauseFrom := if m.rails.any (fun e => e.2.below) then none else some s.now }) s
        else s.setRail r x))) ∧
  (∀ (t : Nat) (s₀ : State), exec (.brownoutPauseEnd t) s₀ = .next (s₀.ends (
      let s : State := s₀.begin t
      match s.modes.pauseFrom with
      | some t =>
        if s.modes.pause && t + 5000000 ≤ s.now && !s.modes.rails.any (fun e => e.2.below) then
          let s := s.modes.dips.foldl (fun s e =>
            journal 0x0103 0 0 (le 1 e.1 ++ zeros 1 ++ le 2 (sat 16 e.2.1) ++ le 4 (sat 32 (e.2.2 / 1000))) s) s
          raise 5 (rewindResume (modModes (fun m => { m with pause := false, pauseFrom := none, dips := [] }) s))
        else s
      | none => s))) ∧
  (∀ (t : Nat) (s₀ : State), exec (.watchdogWarn t) s₀ = .next (s₀.ends (
      let s : State := s₀.begin t
      if s.sys.fwRunning then raise 6 (journal 0x0104 0 0 [] (modModes (fun m => { m with watchdogWarned := true }) s)) else s))) ∧
  (∀ (t : Nat) (s₀ : State), exec (.watchdogExpiry t) s₀ = .next (s₀.ends (
      let s : State := s₀.begin t
      if s.sys.fwRunning then
        packageReset .soft 1 0xFF (modModes (fun m => { m with outputs := m.faultSafe.setWidth 7 }) s)
      else s))) ∧
  (∀ (t : Nat) (s₀ : State), exec (.autoDrainStopDetect t) s₀ = .next (s₀.ends (
      let s : State := s₀.begin t
      if s.modes.autoDrain && s.mode.drives && s.modes.waitingModes = [] && s.modes.drainSince + 500000000 ≤ s.now
          && s.frank.rewind.step = 0 && s.frank.rewind.releaseAt.isNone then
        goMode .drain 5 (modModes (fun m => { m with autoDrain := false }) s)
      else s))) ∧
  (∀ (t : Nat) (s₀ : State), exec (.drainComplete t) s₀ = .next (s₀.ends (
      let s : State := s₀.begin t
      if s.mode = .drain && !drainWork s && s.modes.trans.isNone then goMode (if s.modes.drainToConfigure then .configure else .standby) 5 s else s))) ∧
  (∀ (t : Nat) (g : Fin 2) (s₀ : State), exec (.railGroupUp t g) s₀ = .next (s₀.ends (
      let s : State := s₀.begin t
      let g : Nat := g
      let s := railTurn s
      let en := if g = 0 then s.modes.rail1En else s.modes.rail2En
      if !en || s.modes.groupUp.getLsbD g then s
      else
        let s := modModes (fun m => { m with groupUp := m.groupUp ||| (1#2 <<< g), groupAt := if g = 0 then s.now else m.groupAt }) s
        tryPower (if s.modes.groupUp = 0b11 then pllLock s else s)))) ∧
  (∀ (t : Nat) (g : Fin 2) (s₀ : State), exec (.railGroupTimeout t g) s₀ = .next (s₀.ends (
      let s : State := s₀.begin t
      let g : Nat := g
      let en := if g = 0 then s.modes.rail1En else s.modes.rail2En
      if !en || s.modes.groupUp.getLsbD g || s.now < s.modes.powerAt + (if g = 0 then 7000000 else 15000000) then s
      else
        let n := s.modes.powerTries + 1
        let s := modModes (fun m => { m with powerTries := if 3 ≤ n then 0 else n, retryWait := n < 3 }) s
        let s := packageReset .pin 1 (if g = 0 then 0 else 5) s
        modModes (fun m => { m with mode := if 3 ≤ n then .sentry else m.mode, retryWait := n < 3, retryAt := s.now }) (releaseRails s)))) ∧
  (∀ (t : Nat) (s₀ : State), exec (.railRetry t) s₀ = .next (s₀.ends (
      let s : State := s₀.begin t
      if s.modes.retryWait && s.modes.retryAt + 100000000 ≤ s.now then tryPower (modModes (fun m => { m with retryWait := false }) s) else s))) ∧
  (∀ (t : Nat) (g : Fin 2) (s₀ : State), exec (.railDischarged t g) s₀ = .next (s₀.ends (
      let s : State := s₀.begin t
      let g : Nat := g
      let s := railTurn s
      if (if g = 0 then s.modes.rail1En else s.modes.rail2En) then s
      else tryPower (modModes (fun m => { m with discharged := m.discharged ||| (1#2 <<< g) }) s))))

/-- The events of the serial lanes (chapter 04). Whatever the state and the operands, exec answers the next state written out here: the
event's own effect where its conditions hold, and otherwise only the time that has passed; then the step ends. LANE_SLIP (R112),
LANE_RESTART (R117), LANE_COUNT_CLEAR (R117), LANE_INJECT_ONE (R116), LANE_INJECT_PERIODIC (R116), LANE_TEST_ENTER (R115),
LANE_SIGNAL_DETECTED (R105), LANE_BIT_LOCKED (R105), LANE_BLOCK_LOCKED (R112), LANE_TRAIN_RECEIVED (R104), LANE_BLIND_ADAPT_DONE
(R113), LANE_ALIGN_RECEIVED (R101), LANE_CAPS_RECEIVED (R110), LANE_BRINGUP_TIMEOUT (R105), LANE_BLOCK_LOCK_LOST (R106),
LANE_BACKOFF_EXPIRED (R105), LANE_ELASTIC_SLIP (R103), LANE_ERR_WINDOW (R117), LANE_MARKER_SEND (R102). -/
def Obligations.LaneEvents : Prop :=
  (∀ (t : Nat) (l : Fin 58) (s₀ : State), exec (.laneSlip t l) s₀ = .next (s₀.ends (
      let s : State := s₀.begin t
      let l : Nat := l
      modLane l (fun x => if x.bitslip then { x with slipPos := (x.slipPos + 1) % 66 } else x) s))) ∧
  (∀ (t : Nat) (l : Fin 58) (s₀ : State), exec (.laneRestart t l) s₀ = .next (s₀.ends (
      let s : State := s₀.begin t
      let l : Nat := l
      if (s.lane l).enable then restartLane l s else s))) ∧
  (∀ (t : Nat) (l : Fin 58) (s₀ : State), exec (.laneCountClear t l) s₀ = .next (s₀.ends (
      let s : State := s₀.begin t
      let l : Nat := l
      modLane l (fun x => { x with syncErr := 0, blockErr := 0, chkErrors := 0, chkBits := 0 }) s))) ∧
  (∀ (t : Nat) (l : Fin 58) (s₀ : State), exec (.laneInjectOne t l) s₀ = .next (s₀.ends (
      let s : State := s₀.begin t
      let l : Nat := l
      let x := s.lane l
      if x.injectKind ≠ 0 && !x.txDark && (x.state = .active || (x.state = .test && x.injectKind = 1)) then
        s.setLane l { x with injects := x.injects ++ [x.injectKind] }
      else s))) ∧
  (∀ (t : Nat) (l : Fin 58) (s₀ : State), exec (.laneInjectPeriodic t l) s₀ = .next (s₀.ends (
      let s : State := s₀.begin t
      let l : Nat := l
      let x := s.lane l
      let due := match x.injectAt with
        | some t => 2 ^ x.injectRate * 64 ≤ (s.now - t) * 10 * rateMultiple x.rate
        | none => true
      if 10 ≤ x.injectRate && due then laneInject l (s.setLane l { x with injectAt := some s.now }) else s))) ∧
  (∀ (t : Nat) (l : Fin 58) (gen : Bool) (chk : Bool) (s₀ : State), exec (.laneTestEnter t l gen chk) s₀ = .next (s₀.ends (
      let s : State := s₀.begin t
      let l : Nat := l
      let x := s.lane l
      let enters := (gen || chk) && (x.state = .active || x.state = .off || x.state = .idle)
      let s := if enters then groupWaits l (leaveCarrying l 0 s) else s
      let s := modLane l (fun x => { x with genEn := gen, chkEn := chk, chk := if chk && x.chkEn then x.chk else {} }) s
      if enters then enterLane l .test Lane.fresh s
      else if !gen && !chk && x.state = .test then enterLane l .detect Lane.anew s
      else s))) ∧
  (∀ (t : Nat) (l : Fin 58) (s₀ : State), exec (.laneSignalDetected t l) s₀ = .next (s₀.ends (
      let s : State := s₀.begin t
      let l : Nat := l
      let x := s.lane l
      if x.state = .detect then enterLane l .bitLock (fun x => { x.fresh with calDue := true }) s
      else if x.state = .idle && x.detectWake then
        enterLane l .bitLock (fun x => { (if x.trained then x.resumed else x.anew) with calDue := true }) s
      else s))) ∧
  (∀ (t : Nat) (l : Fin 58) (s₀ : State), exec (.laneBitLocked t l) s₀ = .next (s₀.ends (
      let s : State := s₀.begin t
      let l : Nat := l
      if (s.lane l).state = .bitLock then enterLane l .blockLock (fun x => { x with bitLock := true }) s else s))) ∧
  (∀ (t : Nat) (l : Fin 58) (pos : Fin 66) (s₀ : State), exec (.laneBlockLocked t l pos) s₀ = .next (s₀.ends (
      let s : State := s₀.begin t
      let l : Nat := l
      let pos : Nat := pos
      let x := s.lane l
      if x.state = .blockLock then
        let locked : Lane → Lane := fun x => { x with
          blockLock := true, slipPos := if x.bitslip then x.slipPos else pos, readySent := false, readySeen := false, partnerReady := false }
        if x.resume then enterDeskew l locked s else enterLane l .train locked s
      else s))) ∧
  (∀ (t : Nat) (l : Fin 58) (payload : List Byte) (adapted : Bool) (fit : Equaliser) (preset : Fin 8) (s₀ : State), exec (.laneTrainReceived t l payload adapted fit preset) s₀ = .next (s₀.ends (
      let s : State := s₀.begin t
      let l : Nat := l
      let f : Equaliser := fit
      let x := s.lane l
      let req := bits (u8 payload 1) 3 0
      let x := { x with overheard := if req < 8 then req else x.overheard }
      if x.listenOnly then s.setLane l x
      else if x.state = .train then
        let x := { x with
          txPreset := if req < 8 then req else x.txPreset
          partnerReady := x.partnerReady || (u8 payload 1).testBit 4
          readySeen := x.readySeen || (u8 payload 1).testBit 5
          readySent := x.readySent || adapted
          presetReq := if adapted then preset.val else x.presetReq }
        let x := if adapted then x.fit f else x
        let s := sendDue l (s.setLane l x)
        if x.readySent && x.readySeen then enterDeskew l id s else s
      else s.setLane l x))) ∧
  (∀ (t : Nat) (l : Fin 58) (fit : Equaliser) (s₀ : State), exec (.laneBlindAdaptDone t l fit) s₀ = .next (s₀.ends (
      let s : State := s₀.begin t
      let l : Nat := l
      let f : Equaliser := fit
      let x := s.lane l
      if x.state = .train && x.listenOnly && x.since + 1000000 ≤ s.now then
        enterDeskew l (fun x => x.fit f) s
      else s))) ∧
  (∀ (t : Nat) (l : Fin 58) (index : Fin 16) (groupSize : Fin 16) (seq : Fin 65536) (row : Nat) (s₀ : State), exec (.laneAlignReceived t l index groupSize seq row) s₀ = .next (s₀.ends (
      let s : State := s₀.begin t
      let l : Nat := l
      let index : Nat := index
      let groupSize : Nat := groupSize
      let seq : Nat := seq
      let g := lanesOf (groupOf l)
      let s := modLane l (fun x => { x with laneIndex := index }) s
      if (s.lane l).state = .deskew && groupSize = g.length then
        let s := modLane l (fun x => { x with alignSeq := some seq, alignRow := row }) s
        let rows := g.map fun k => (s.lane k).alignRow
        let ready := g.all (fun k => (s.lane k).state = .deskew && (s.lane k).alignSeq = some seq && (s.lane k).laneIndex < g.length)
          && (g.map fun k => (s.lane k).laneIndex).eraseDups.length = g.length
          && rows.foldl max 0 ≤ rows.foldl min row + 8
        if ready then g.foldl (fun s k => enterLane k .caps (fun x => { x with aligned := true, capsOk := false }) s) s
        else s
      else s))) ∧
  (∀ (t : Nat) (l : Fin 58) (caps : List Byte) (s₀ : State), exec (.laneCapsReceived t l caps) s₀ = .next (s₀.ends (
      let s : State := s₀.begin t
      let l : Nat := l
      let g := groupOf l
      let x := s.lane l
      let same := capsBody caps = capsBody x.partnerCaps
      if x.state = .caps then
        if !capsCompatible g caps then setCause l 0x110 (enterLane l .backoff Lane.fresh s)
        else if x.resume && !same then s
        else
          let s := s.setLane l { x with capsOk := true, newCaps := padTo 7 caps }
          if (lanesOf g).all (fun k => (s.lane k).state = .caps && (s.lane k).capsOk) then groupEnters g s else s
      else if x.state.carries && u8 caps 4 % 2 = 1 && !same then setCause l 8 s
      else s))) ∧
  (∀ (t : Nat) (l : Fin 58) (s₀ : State), exec (.laneBringupTimeout t l) s₀ = .next (s₀.ends (
      let s : State := s₀.begin t
      let l : Nat := l
      let x := s.lane l
      let passed := !laneWaits l s && (laneLimit x).any fun d => x.since + d ≤ s.now
      let late := (x.resumeBy.any fun d => d ≤ s.now) && (x.state = .blockLock || x.state = .deskew || x.state = .caps)
      if passed then returnToDetect l (if x.state = .deskew then 0x80 else 0) s
      else if late then returnToDetect l 0 s
      else s))) ∧
  (∀ (t : Nat) (l : Fin 58) (s₀ : State), exec (.laneBlockLockLost t l) s₀ = .next (s₀.ends (
      let s : State := s₀.begin t
      let l : Nat := l
      if (s.lane l).state.carries then
        let s := groupWaits l (leaveCarrying l 2 s)
        enterLane l .blockLock (fun x => { x.resumed with bitLock := true, resumeBy := some (s.now + 1000000) }) s
      else s))) ∧
  (∀ (t : Nat) (l : Fin 58) (s₀ : State), exec (.laneBackoffExpired t l) s₀ = .next (s₀.ends (
      let s : State := s₀.begin t
      let l : Nat := l
      let x := s.lane l
      if x.state = .backoff && x.since + 100000000 ≤ s.now then enterLane l .detect (fun x => { x.anew with fails := 0 }) s else s))) ∧
  (∀ (t : Nat) (l : Fin 58) (s₀ : State), exec (.laneElasticSlip t l) s₀ = .next (s₀.ends (
      let s : State := s₀.begin t
      let l : Nat := l
      let s := if (s.lane l).state.carries then leaveCarrying l 0x20 s else setCause l 0x20 s
      let s := groupWaits l s
      (lanesOf (groupOf l)).foldl (fun s k =>
        let x := s.lane k
        if x.state.carries || x.state = .caps || x.state = .deskew then
          enterLane k .deskew (fun x => { x with
            resume := x.resume || x.state.carries, aligned := false, alignSeq := none, capsOk := false, newCaps := [] }) s
        else s) s))) ∧
  (∀ (t : Nat) (l : Fin 58) (counts : LaneWindow) (s₀ : State), exec (.laneErrWindow t l counts) s₀ = .next (s₀.ends (
      let s : State := s₀.begin t
      let l : Nat := l
      let c : LaneWindow := counts
      let x := s.lane l
      let types := c.controls.map (·.val)
      let chk := if x.state = .test && x.chkEn then
          (c.bits.map (xor · x.rxInvert)).foldl (Checker.step x.chkPattern x.testPattern) x.chk
        else x.chk
      let errs := x.winErrs + c.syncErrs
      let ends := x.winFrom + 1000000 ≤ s.now
      let s := s.setLane l { x.takeCheck chk with
        syncErr := sat 32 (x.syncErr + c.syncErrs)
        blockErr := sat 32 (x.blockErr + (types.filter fun y => !typeKnown (groupOf l) y).length)
        filler := wrap 32 (x.filler + types.count 0xA1)
        winErrs := if ends then 0 else errs
        winFrom := if ends then s.now else x.winFrom }
      let causes : BitVec 9 := (if ends && x.errLimit ≤ errs then 4 else 0) ||| (if chk.lost then 0x40 else 0)
      sendPattern l c.bits.length (if causes = 0 then s else setCause l causes s)))) ∧
  (∀ (t : Nat) (l : Fin 58) (filler : Bool) (s₀ : State), exec (.laneMarkerSend t l filler) s₀ = .next (s₀.ends (
      let s : State := s₀.begin t
      let l : Nat := l
      let g := groupOf l
      let s := (lanesOf g).foldl (fun s k => sendDue k s) s
      if filler then sendRow g 0xA1 (fun _ => []) s
      else if elapsed (blocksNs (s.lane l).rate 4096) (s.marks g).alignAt s.now then sendMarker g s
      else s)))

/-- The events of the sensor ports and photometric correction (chapter 05, chapter 06). Whatever the state and the operands, exec answers
the next state written out here: the event's own effect where its conditions hold, and otherwise only the time that has passed; then
the step ends. LINE_PACKET_RECEIVED (R126), LINE_RATE_WINDOW (R132), CLOCK_MAP_WINDOW (R129), CAMERA_ACK_RECEIVED (R138),
CAMERA_INFO_RECEIVED (R135), VENDOR_REPLY_RECEIVED (R134), CAMERA_MSG_RESEND (R134), PHOTO_CAPTURE_DONE (R160), PHOTO_CAPTURE_TIMEOUT
(R161), BASE_SET_LOAD_DONE (R155). -/
def Obligations.PortAndPhotometricEvents : Prop :=
  (∀ (t : Nat) (n : Fin 12) (p : PortPacket) (s₀ : State), exec (.linePacketReceived t n p) s₀ = .next (s₀.ends (
      let s : State := s₀.begin t
      let n : Nat := n
      let k : PortPacket := p
      let r := receivePacket n k s
      r.1.foldl (acceptLine n) r.2))) ∧
  (∀ (t : Nat) (n : Fin 12) (s₀ : State), exec (.lineRateWindow t n) s₀ = .next (s₀.ends (
      let s : State := s₀.begin t
      let n : Nat := n
      let p := s.port n
      if p.rateLines ≤ 4096 then s
      else
        let span := p.rateLast - p.rateFrom
        let fast := p.configured && p.lineRate * 101 * span < (p.rateLines - 1) * 100 * 10 ^ 9
        let s := s.setPort n { p with
          linePeriod := sat 32 (span * 1000 / (p.rateLines - 1)), rateLines := 1, rateFrom := p.rateLast
          rateExceeded := p.rateExceeded || fast }
        if fast && !p.rateExceeded then portEvent n 4 s else s))) ∧
  (∀ (t : Nat) (n : Fin 12) (s₀ : State), exec (.clockMapWindow t n) s₀ = .next (s₀.ends (
      let s : State := s₀.begin t
      let n : Nat := n
      let p := s.port n
      match p.mapMin with
      | none => s
      | some x =>
        if p.mapLines < 1024 then s
        else
          let bound : Int := 2 ^ 32 * 250 / 1000000
          let ratio := match p.mapDone with
            | some y => if x.2 = y.2 then p.ratio else clampInt (-bound) bound (((x.1 - y.1) - (x.2 - y.2)) * (2 ^ 32 : Nat) / (x.2 - y.2))
            | none => p.ratio
          s.setPort n { p with ratio := ratio, mapDone := some x, mapMin := none, mapLines := 0 }))) ∧
  (∀ (t : Nat) (n : Fin 12) (msg : List Byte) (s₀ : State), exec (.cameraAckReceived t n msg) s₀ = .next (s₀.ends (
      let s : State := s₀.begin t
      let n : Nat := n
      camMessage n 0x81 (· = 8) msg (fun b s =>
        if groupLink n s = 2 then overhearAck n (u8 b 1) (u16 b 2) (u32 b 4) s
        else match (s.port n).outstanding with
          | some m =>
            if m.seq = u8 b 0 then
              camNext n (camAnswer n m (u8 b 1) (u16 b 2) (u32 b 4) (modPort n (fun p => { p with outstanding := none }) s))
            else s
          | none => s) s))) ∧
  (∀ (t : Nat) (n : Fin 12) (head : List Byte) (body : List Byte) (crc : BitVec 32) (s₀ : State), exec (.cameraInfoReceived t n head body crc) s₀ = .next (s₀.ends (
      let s : State := s₀.begin t
      let n : Nat := n
      let msg : List Byte := (head ++ body ++ le 4 crc.toNat)
      camMessage n 0x82 (· = 40) msg (fun b s => followInfo n (camInfo n b s)) s))) ∧
  (∀ (t : Nat) (n : Fin 12) (head : List Byte) (body : List Byte) (crc : BitVec 32) (s₀ : State), exec (.vendorReplyReceived t n head body crc) s₀ = .next (s₀.ends (
      let s : State := s₀.begin t
      let n : Nat := n
      let msg : List Byte := (head ++ body ++ le 4 crc.toNat)
      camMessage n 0x84 (1 ≤ ·) msg (fun b s =>
        match (s.port n).outstanding with
        | some m =>
          if m.kind = 4 && m.seq = u8 b 0 then
            camNext n (camReply n m stDone (b.drop 1) (modPort n (fun p => { p with outstanding := none }) s))
          else s
        | none => s) s))) ∧
  (∀ (t : Nat) (n : Fin 12) (s₀ : State), exec (.cameraMsgResend t n) s₀ = .next (s₀.ends (
      let s : State := s₀.begin t
      let n : Nat := n
      let p := s.port n
      match p.outstanding with
      | none => s
      | some m =>
        if s.now < m.sentAt + 1000000 then s
        else if m.tries < 3 then
          let m := { m with tries := m.tries + 1, sentAt := s.now }
          let s := s.setPort n { p with outstanding := some m, msgRetries := sat 32 (p.msgRetries + 1) }
          if portTransmits n s then sendCam n m s else s
        else
          let s := s.setPort n { p with outstanding := none, msgTimeouts := sat 32 (p.msgTimeouts + 1) }
          camNext n (camReply n m stTimedOut [] (cameraTimeout n m 0xFF s))))) ∧
  (∀ (t : Nat) (n : Fin 12) (s₀ : State), exec (.photoCaptureDone t n) s₀ = .next (s₀.ends (
      let s : State := s₀.begin t
      let n : Nat := n
      match (s.photo n).capture with
      | some c =>
        if c.lines ≤ c.done then
          finishOne 0x0305 (fun y => y.args.block = 0x10 + n) stDone (captureReply c) (modPhoto n (fun p => { p with capture := none }) s)
        else s
      | none => s))) ∧
  (∀ (t : Nat) (n : Fin 12) (s₀ : State), exec (.photoCaptureTimeout t n) s₀ = .next (s₀.ends (
      let s : State := s₀.begin t
      let n : Nat := n
      match (s.photo n).capture with
      | some c =>
        if c.done < c.lines && c.startedAt + 2 * c.lines * 10 ^ 9 / max 1 (s.port n).lineRate + 100000000 ≤ s.now then captureFails n stTimedOut s
        else s
      | none => s))) ∧
  (∀ (t : Nat) (n : Fin 12) (s₀ : State), exec (.baseSetLoadDone t n) s₀ = .next (s₀.ends (
      let s : State := s₀.begin t
      let n : Nat := n
      match (s.photo n).loading with
      | none => s
      | some serial =>
        if workHeld 1 s || !s.vault.mounted then s
        else match storedBase serial s with
        | some o =>
          if o.lost then followDefault n 2 s
          else if setFits o.bytes (s.port n).pixels (s.port n).planes then
            commitBase n o.bytes serial 1 (vaultRead o (modPhoto n (fun p => { p with loading := none }) s))
          else followDefault n 3 s
        | none => followDefault n 2 s)))

/-- The events of the web position (chapter 07). Whatever the state and the operands, exec answers the next state written out here: the
event's own effect where its conditions hold, and otherwise only the time that has passed; then the step ends. ENCODER_EDGE (R164),
INDEX_EDGE (R171), SSI_FRAME (R169), LATCH_PERIODIC (R176), LATCH_TRIGGER (R176), COMPARE_ARM (R183), COMPARE_FLUSH (R185),
ENCODER_CLEAR_FAULT (R166), SPEED_WINDOW (R185). -/
def Obligations.PositionEvents : Prop :=
  (∀ (t : Nat) (q : Fin 4) (e : QuadEdge) (s₀ : State), exec (.encoderEdge t q e) s₀ = .next (s₀.ends (
      moved <|
        let s : State := s₀.begin t
        let q : Nat := q
        let k : EdgeKind := e.kind
        let held : Nat := e.held
        let e := s.encoder q
        if !e.enable then s
        else if held < filterNs e s then
          match k with
          | .illegal => edgeFault q (edgeFault q s)
          | _ => edgeFault q s
        else match k with
          | .aLeads => moveCount q (if e.dirInvert then -1 else 1) s
          | .bLeads => moveCount q (if e.dirInvert then 1 else -1) s
          | .illegal => illegalTransition q s))) ∧
  (∀ (t : Nat) (e : IndexPulse) (s₀ : State), exec (.indexEdge t e) s₀ = .next (s₀.ends (
      moved <|
        let s : State := s₀.begin t
        let q : Nat := e.q
        let held : Nat := e.held
        let e := s.encoder q
        if !e.enable then s
        else if held < filterNs e s then edgeFault q s
        else if !e.indexCheck || e.reverse then s
        else
          let s := channelEvent (283 + 6 * q) s
          match e.indexRef with
          | none => s.setEncoder q { e with indexRef := some e.count }
          | some r =>
            let diff := posDiff e.count r - e.nominal
            let bad := e.indexTol < diff.natAbs
            let shift := if bad && e.rezero then diff else 0
            let s := s.setEncoder q { e with
              indexDelta := wrapInt 32 diff, indexError := bad
              count := pos48 (e.count - shift), ext := pos48 (e.ext - shift), hw := pos48 (e.hw - shift)
              speedBase := pos48 (e.speedBase - shift)
              indexRef := some (pos48 (e.count - shift)) }
            let s := if bad then flagEvent q (284 + 6 * q) s else s
            if shift = 0 then s else judgeCompares q true s))) ∧
  (∀ (t : Nat) (q : Fin 2) (data : Nat) (parity : Bool) (sampled : Nat) (s₀ : State), exec (.ssiFrame t q data parity sampled) s₀ = .next (s₀.ends (
      moved <|
        let s : State := s₀.begin t
        let q : Nat := (4 + q)
        let e := s.encoder q
        if !e.enable then s
        else
          let d := data % 2 ^ e.ssiBits
          let v := if e.ssiGray then fromGray e.ssiBits d else d
          if e.ssiParity && (popcount e.ssiBits d + b2n parity) % 2 = 1 then illegalTransition q s
          else
            let s := s.setEncoder q { e with ssiLast := some (v, sampled) }
            match e.ssiLast with
            | none => s
            | some (old, _) =>
              let delta := toInt e.ssiBits (ofInt e.ssiBits ((v : Int) - old))
              if 2 ^ (e.ssiBits - 2) < delta.natAbs then illegalTransition q s else moveCount q delta s))) ∧
  (∀ (t : Nat) (u : Fin 8) (s₀ : State), exec (.latchPeriodic t u) s₀ = .next (s₀.ends (
      placeStations <|
        let s : State := s₀.begin t
        let u : Nat := u
        let l := s.latch u
        if l.mode = 1 && s.mode ≠ .sentry && elapsed l.period l.takenAt s.now then
          takeLatch u none (s.setLatch u { l with takenAt := some s.now })
        else s))) ∧
  (∀ (t : Nat) (u : Fin 8) (s₀ : State), exec (.latchTrigger t u) s₀ = .next (s₀.ends (
      placeStations <|
        let s : State := s₀.begin t
        let u : Nat := u
        if (s.latch u).mode = 3 && s.mode ≠ .sentry && !servesTrack u s then takeLatch u none s else s))) ∧
  (∀ (t : Nat) (c : Fin 16) (s₀ : State), exec (.compareArm t c) s₀ = .next (s₀.ends (
      let s : State := s₀.begin t
      let c : Nat := c
      let u := s.compare c
      if s.mode = .sentry then s
      else if u.claimed then s.setCompare c { u with ignored := true }
      else
        let p := toInt 48 u.armPos
        applyArm c p (judgeArm u.encoder u.reverse u.catchUp u.queue p s) s))) ∧
  (∀ (t : Nat) (c : Fin 16) (s₀ : State), exec (.compareFlush t c) s₀ = .next (s₀.ends (
      let s : State := s₀.begin t
      let c : Nat := c
      let u := s.compare c
      if s.mode = .sentry then s
      else s.setCompare c (if u.claimed then { u with ignored := true } else { u with queue := [] })))) ∧
  (∀ (t : Nat) (q : Fin 6) (s₀ : State), exec (.encoderClearFault t q) s₀ = .next (s₀.ends (
      let s : State := s₀.begin t
      let q : Nat := q
      modEncoder q (fun e => { e with encoderFault := false }) s))) ∧
  (∀ (t : Nat) (q : Fin 6) (s₀ : State), exec (.speedWindow t q) s₀ = .next (s₀.ends (
      let s : State := s₀.begin t
      let q : Nat := q
      let e := s.encoder q
      let dt := s.now - e.speedAt
      if dt < 1000000 || s.mode = .sentry then s
      else s.setEncoder q { e with
        speed := clampInt (-(2 ^ 31)) (2 ^ 31 - 1) (posDiff e.count e.speedBase * 1000000000 / dt), speedBase := e.count, speedAt := s.now
        slowFrom := if e.speed.natAbs < s.frank.machine.stopCounts then e.slowFrom else s.now })))

/-- The events of lines on their way from the resampler to segmentation, and specimens (chapter 08, chapter 09, chapter 10, chapter 11,
chapter 12). Whatever the state and the operands, exec answers the next state written out here: the event's own effect where its
conditions hold, and otherwise only the time that has passed; then the step ends. PLACE_EXTRAPOLATE (R191), OUTPUT_LINE_ISSUE (R205),
SEAM_VALUES_ARRIVE (R217), OUTLET_RATE_WINDOW (R227), LEARN_FINALISE_DONE (R243), SPECIMEN_STORE_DONE (R247), SPECIMEN_RECALL_DONE
(R248), TILE_ROW_REGISTER (R258), ACQUIRE_DONE (R254), FRAGMENT_SUMMARY_ARRIVE (R279). -/
def Obligations.LineAndSpecimenEvents : Prop :=
  (∀ (t : Nat) (n : Fin 12) (s₀ : State), exec (.placeExtrapolate t n) s₀ = .next (s₀.ends (
      let s : State := s₀.begin t
      let n : Nat := n
      match stationOf n s with
      | none => s
      | some k =>
        match (s.res n).queue, (s.grid k).track with
        | x :: rest, newest :: _ =>
          if (newest.time : Int) < x.tMid && x.tMid + 2 * trackPeriod k s ≤ s.chainTime then
            drainFront n 256 (placeQueue n k 64 (placeAt n k x true (modRes n (fun r => { r with queue := rest }) s)))
          else s
        | _, _ => s))) ∧
  (∀ (t : Nat) (n : Fin 12) (s₀ : State), exec (.outputLineIssue t n) s₀ = .next (s₀.ends (
      let s : State := s₀.begin t
      let n : Nat := n
      match stationOf n s with
      | none => s
      | some k =>
        if !s.mode.receives || (s.pmap n).lost then s
        else match issueLine n k false s with
          | some (out, s) => portLine n k out s
          | none => s))) ∧
  (∀ (t : Nat) (n : Fin 12) (fromLeft : Bool) (line : Nat) (s₀ : State), exec (.seamValuesArrive t n fromLeft line) s₀ = .next (s₀.ends (
      let s : State := s₀.begin t
      let n : Nat := n.val
      let s := seamDeliver n fromLeft line s
      match stationOf n s with
      | some k => pumpStation k false 64 s
      | none => s))) ∧
  (∀ (t : Nat) (o : Fin 8) (s₀ : State), exec (.outletRateWindow t o) s₀ = .next (s₀.ends (
      let s : State := s₀.begin t
      let i : Nat := o.val
      let o := s.outlet i
      if s.now < o.windowFrom + 1000000 then s
      else s.setOutlet i { o with
        rateOver := stationRate o.set.station s * (s.now - o.windowFrom) < 10 ^ 9 * o.windowLines, windowLines := 0, windowFrom := s.now }))) ∧
  (∀ (t : Nat) (k : Fin 4) (s₀ : State), exec (.learnFinaliseDone t k) s₀ = .next (s₀.ends (
      let s : State := s₀.begin t
      let k : Nat := k.val
      let l := s.learn k
      match l.state, l.anchor with
      | .finalising, some sp =>
        let tiles := sp.tx * sp.ty
        let bad := ((List.range tiles).filter (tileUnstable l)).length
        if l.set.unstableMaxPct * tiles < 100 * bad then failAttempt k 4 (s.setLearn k { l with unstable := bad })
        else
          let new := finishSpecimen l sp bad s.chainTime
          raise 322 (s.setLearn k { l with state := .done, result := 1, unstable := bad, next := some new, slots := [], closed := [], goods := [] })
      | _, _ => s))) ∧
  (∀ (t : Nat) (k : Fin 4) (fill : Nat) (s₀ : State), exec (.specimenStoreDone t k fill) s₀ = .next (s₀.ends (
      let s : State := s₀.begin t
      let k : Nat := k.val
      match (s.learn k).storing, findStarted 0x0603 (fun x => x.args.block = 0x30 + k) s with
      | some job, some _ =>
        if !compHolds k s || s.modes.pause then s else
        let s := modLearn k (fun l => { l with storing := none }) s
        match s.vault.waiting.find? fun o => o.kind = .specimen && o.key = job && o.station = k with
        | none => finishOne 0x0603 (fun x => x.args.block = 0x30 + k) stHwFault [] (compRelease 1 k none s)
        | some o =>
          let s := modVault (fun v => { v with waiting := v.waiting.erase o }) s
          let spoiled := o.spec.any fun sp => sp.rows.any fun row => row.any fun x => 15 < x.2.2.2
          if spoiled then finishOne 0x0603 (fun x => x.args.block = 0x30 + k) stHwFault [] (compRelease 1 k none s) else
          let s := vaultCommit { o with station := 0 } fill s
          let s := compRelease 1 k (some ((o.spec.map fun sp => (specimenImage sp).length).getD 0, o.stored)) s
          let s := modLearn k (fun l => { l with loaded := l.loaded.map fun sp => { sp with jobId := job } }) s
          finishOne 0x0603 (fun x => x.args.block = 0x30 + k) stDone [] (raise 325 s)
      | _, _ => s))) ∧
  (∀ (t : Nat) (k : Fin 4) (crcOk : Bool) (s₀ : State), exec (.specimenRecallDone t k crcOk) s₀ = .next (s₀.ends (
      let s : State := s₀.begin t
      let k : Nat := k.val
      match (s.learn k).recalling with
      | none => s
      | some job =>
        if !compHolds (k + 4) s || s.modes.pause || !s.vault.mounted then s else
        let s := modLearn k (fun l => { l with recalling := none }) s
        let ends := fun (st : Nat) (s : State) => finishOne 0x0604 (fun x => x.args.block = 0x30 + k) st [] s
        match vaultFind .specimen job s with
        | none => ends stAbsent (compRelease 1 (k + 4) none s)
        | some o =>
          match o.spec with
          | none => ends stHwFault (compRelease 1 (k + 4) none s)
          | some sp =>
            if o.lost || !crcOk then ends stHwFault (compRelease 1 (k + 4) none (vaultRead o s))
            else
              let s := compRelease 1 (k + 4) (some (o.stored, (specimenImage sp).length)) (vaultRead o s)
              let s := regIdle k (modLearn k (fun l => { l with loaded := some { sp with jobId := job }, released := l.released || l.loaded.isSome }) s)
              let s := prepareReference k s
              ends stDone (raise 326 s)))) ∧
  (∀ (t : Nat) (k : Fin 4) (s₀ : State), exec (.tileRowRegister t k) s₀ = .next (s₀.ends (
      let s : State := s₀.begin t
      let k : Nat := k.val
      match (s.station k).nextLine with
      | some m => if rowPast k m s then registerRow k s else s
      | none => s))) ∧
  (∀ (t : Nat) (k : Fin 4) (s₀ : State), exec (.acquireDone t k) s₀ = .next (s₀.ends (
      let s : State := s₀.begin t
      let k : Nat := k.val
      let r := s.reg k
      let q := pitchNow k s
      match reference k s with
      | none => s
      | some sp =>
        if r.state ≠ .acquire || r.window = [] || r.window.length < windowLines sp q then s
        else match bestLag r.window.reverse (specimenProfile sp r.bandProfile q) with
          | none => s.setReg k { r with window := [] }
          | some (lag, c, d) =>
            if c < (r.set.acquireNcc * 1024 : Nat) then s.setReg k { r with window := [] }
            else
              let start := 256 * (r.windowFirst : Int) - (256 * lag + d)
              let issued := 256 * (((s.station k).nextLine.getD 0 : Int) - 1)
              let len : Int := repeatLength k q s
              raise 328 (s.setReg k { r with
              state := .tracking, phase := start + max 0 ((issued - start) / len) * len, stretch := 0, lateral := 0, coast := 0
              acquisitions := sat 32 (r.acquisitions + 1), window := [], searched := false, suspended := true, prevRegistered := false
              live := if s.mode = .learn then r.live else [], cur := [], curC := [], rowsDone := 0, confident := 0, sumDP := 0 })))) ∧
  (∀ (t : Nat) (k : Fin 4) (j : Fin 6) (line : Nat) (s₀ : State), exec (.fragmentSummaryArrive t k j line) s₀ = .next (s₀.ends (
      let s : State := s₀.begin t
      let k : Nat := k.val
      let i : Nat := j.val
      pumpStation k false 64 (labelLoop k false 64 (summaryIn k i line s)))))

/-- The events of the ledger, second look and the franking unit (chapter 13, chapter 14, chapter 15). Whatever the state and the operands,
exec answers the next state written out here: the event's own effect where its conditions hold, and otherwise only the time that has
passed; then the step ends. CROP_DELIVER (R306), GATE_CLOSE (R311), BACKLOG_DELIVER (R307), SL_JOB_START (R324), SL_JOB_DONE (R322),
FRANK_FIRE_DEFERRED (R338), HEAD_FAULT_ASSERTED (R335), HEAD_TEMP_SAMPLE (R346), REWIND_WEB_STOPPED (R350), REWIND_TIMEOUT (R351),
REWIND_HOLD_RELEASE (R351), FRK_FAULT_RELEASED (R335). -/
def Obligations.LedgerLookAndFrankingEvents : Prop :=
  (∀ (t : Nat) (s₀ : State), exec (.cropDeliver t) s₀ = .next (s₀.ends (
      let s : State := s₀.begin t
      match s.ledger.crops with
      | [] => s
      | c :: rest => (pushBuffer c.1 c.2.1 c.2.2 (modLedger (fun l => { l with crops := rest }) s)).2))) ∧
  (∀ (t : Nat) (r : Fin 16) (s₀ : State), exec (.gateClose t r) s₀ = .next (s₀.ends (
      let s : State := s₀.begin t
      let r : Nat := r.val
      let x := s.outRule r
      let h := (s.encoder (s.compare x.unit).encoder).hw
      showOutputs (modRuleGates r (fun g => { g with
        opened := g.opened.filter fun o => posDiff h o.gate.closes ≤ 0 || s.now < o.firedAt + 1000 * x.minPulse }) s)))) ∧
  (∀ (t : Nat) (m : Fin 8192) (s₀ : State), exec (.backlogDeliver t m) s₀ = .next (s₀.ends (
      let s : State := s₀.begin t
      let m : Nat := m.val
      match Tab.get [] s.ledger.backlogs m with
      | (_, rec) :: rest =>
        if roomFor m 128 s then
          modLedger (fun l => { l with backlogs := Tab.set [] l.backlogs m rest }) (pushRecord m (addFlags 128 rec) s).2
        else s
      | [] => if m = s.ledger.chainBox then drainForward 1 s else s))) ∧
  (∀ (t : Nat) (x : Fin 16) (s₀ : State), exec (.slJobStart t x) s₀ = .next (s₀.ends (
      let s : State := s₀.begin t
      let x : Nat := x.val
      if workHeld 2 s || !clusterFree x s then s
      else match nextJob s with
        | none => s
        | some j =>
          let s := modLook (fun l => { l with queue := l.queue.erase j }) s
          let s := modLook (fun l => { l with high := 1536 ≤ l.queue.length }) s
          let k := j.station
          if lookImage k s = [] then defaultVerdict j 3 0 s
          else if cropSpoiled j s then defaultVerdict j 2 0 s
          else
            let c := cropPixels k j.col0 j.line0 (cropReads 0 k j.col0 j.line0 s)
            let r : RunningJob := { job := j, input := jobInput j c.1, image := lookImage k c.2, startedAt := c.2.now }
            modLook (fun l => { l with running := Tab.put l.running x r }) c.2))) ∧
  (∀ (t : Nat) (d : Fin 4) (c : Fin 4) (s₀ : State), exec (.slJobDone t d c) s₀ = .next (s₀.ends (
      let s : State := s₀.begin t
      let x : Nat := (4 * d.val + c.val)
      match s.look.running.find? fun e => e.1 = x with
      | none => s
      | some e =>
        let r := e.2
        let us := sat 32 ((s.now - r.startedAt) / 1000)
        let s := modLook (fun l => { l with
          running := Tab.clear l.running x, jobsDone := sat 64 (l.jobsDone + 1), lastUs := us, maxUs := max l.maxUs us }) s
        networkVerdict r.job r.image (runNetwork r.image r.input) s))) ∧
  (∀ (t : Nat) (h : Fin 2) (s₀ : State), exec (.frankFireDeferred t h) s₀ = .next (s₀.ends (
      let s : State := s₀.begin t
      let h : Nat := h.val
      if (s.head h).deferred && s.mode.franks then fireHead h 65536 s else s))) ∧
  (∀ (t : Nat) (h : Fin 2) (s₀ : State), exec (.headFaultAsserted t h) s₀ = .next (s₀.ends (
      let s : State := s₀.begin t
      let h : Nat := h.val
      if (s.head h).fault then s
      else stopMarks (leadOf h s) (fun _ => true) (raise (380 + h) (modHead h (fun y => { y with fault := true }) s))))) ∧
  (∀ (t : Nat) (h : Fin 2) (codes : List (BitVec 12)) (s₀ : State), exec (.headTempSample t h codes) s₀ = .next (s₀.ends (
      let s : State := s₀.begin t
      let h : Nat := h.val
      let codes : List Nat := (codes.map BitVec.toNat)
      let x := s.head h
      if adcHeld s || !elapsed 160000 x.tempAt s.now then s else
      let t := headTemp x.set codes
      let s := s.setHead h { x with temp := t, tempAt := some s.now }
      if !x.hot && (x.set.tempLimit : Int) ≤ t then
        stopPrinting h (raise (372 + h) (modHead h (fun y => { y with hot := true }) s))
      else if x.hot && t < (x.set.tempLimit : Int) - x.set.tempHyst then
        raise (374 + h) (modHead h (fun y => { y with hot := false }) s)
      else s))) ∧
  (∀ (t : Nat) (s₀ : State), exec (.rewindWebStopped t) s₀ = .next (s₀.ends (
      let s : State := s₀.begin t
      if s.modes.pause || !rewindStill s then s
      else if s.frank.rewind.step = 2 then rewindAim s
      else if s.frank.rewind.step = 5 then rewindDone s
      else s))) ∧
  (∀ (t : Nat) (s₀ : State), exec (.rewindTimeout t) s₀ = .next (s₀.ends (
      let s : State := s₀.begin t
      let r := s.frank.rewind
      let ms := if r.step = 4 then s.frank.machine.reverseTimeout else s.frank.machine.holdTimeout
      if r.step = 0 || s.modes.pause || s.now < r.since + ms * 1000000 then s else rewindFail s))) ∧
  (∀ (t : Nat) (s₀ : State), exec (.rewindHoldRelease t) s₀ = .next (s₀.ends (
      let s : State := s₀.begin t
      match s.frank.rewind.releaseAt with
      | some u => if u ≤ s.now then rewindNext (webForward (modRewind (fun r => { r with releaseAt := none }) s)) else s
      | none => s))) ∧
  (∀ (t : Nat) (h : Fin 2) (s₀ : State), exec (.frkFaultReleased t h) s₀ = .next (s₀.ends (
      let s : State := s₀.begin t
      let h : Nat := h.val
      modHead h (fun y => { y with fault := false }) s)))

/-- The events of the sorting frame, mailboxes, the Courier and the host link (chapter 16, chapter 19). Whatever the state and the
operands, exec answers the next state written out here: the event's own effect where its conditions hold, and otherwise only the time
that has passed; then the step ends. CHANNEL_FIRE (R357), SW_FIRE (R358), CHANNEL_LOCK (R364), HELD_EVENT_RELEASE (R361),
OWED_ACTIVATION (R360), MAILBOX_DOORBELL (R421), MAILBOX_ENABLE (R423), MSIX_COALESCE_TIMER (R420), HOST_MEMORY_ERROR (R422),
COURIER_START (R425), COURIER_STOP (R425), COURIER_BURST (R428), COURIER_RUN_DONE (R429), FUNCTION_LEVEL_RESET (R414), HOST_LINK_DOWN
(R414). -/
def Obligations.FrameAndHostEvents : Prop :=
  (∀ (t : Nat) (c : Fin 128) (s₀ : State), exec (.channelFire t c) s₀ = .next (s₀.ends (
      let s : State := s₀.begin t
      let c : Nat := c.val
      if (s.channel c).noSwFire then modChannel c (fun x => { x with swRefused := sat 8 (x.swRefused + 1) }) s
      else enterChannel c 0 1 false s))) ∧
  (∀ (t : Nat) (mask : BitVec 8) (s₀ : State), exec (.swFire t mask) s₀ = .next (s₀.ends (
      let s : State := s₀.begin t
      let mask : Nat := mask.toNat
      modFrame (fun f => { f with raised := f.raised ++ (setIndices 8 mask).map fun k => { src := 504 + k, clock := f.clock + 1 } }) s))) ∧
  (∀ (t : Nat) (c : Fin 128) (key : BitVec 8) (s₀ : State), exec (.channelLock t c key) s₀ = .next (s₀.ends (
      let s : State := s₀.begin t
      let c : Nat := c.val
      let off : Nat := 0x04
      let v : Nat := (2 + 256 * key.toNat)
      let x := s.channel c
      if off = 0x00 then
        let y := { x with producer := bits v 8 0, producerEn := v.testBit 9, noSwFire := v.testBit 10 }
        if x.locked then (if y.frozen = x.frozen then s else lockViolated c s) else s.setChannel c y
      else if off = 0x04 then
        let s := if v.testBit 0 then fireChannel c s else s
        if v.testBit 1 && bits v 15 8 = 0xA5 then lockChannel c s else s
      else s))) ∧
  (∀ (t : Nat) (c : Fin 128) (s₀ : State), exec (.heldEventRelease t c) s₀ = .next (s₀.ends (
      let s : State := s₀.begin t
      let c : Nat := c.val
      let clock := s.frame.clock + 1
      if (s.channel c).held = 0 || s.mode = .sentry then s
      else
        let r := carryParts c clock [] (modFrame (fun f => { f with clock := clock + 1 }) s)
        r.1.toList.foldl (deliverEvent performTask (clock + 1)) r.2))) ∧
  (∀ (t : Nat) (j : Fin 320) (s₀ : State), exec (.owedActivation t j) s₀ = .next (s₀.ends (
      let s : State := s₀.begin t
      let i : Nat := j.val
      let x := s.input i
      if x.owed = 0 || s.mode = .sentry then s
      else
        let clock := s.frame.clock
        let s := modFrame (fun f => { f with clock := clock + 1 }) (s.setInput i { x with owed := x.owed - 1 })
        if x.enable then activate performTask i 1 { (x.cause.getD {}) with clock := clock } s else s))) ∧
  (∀ (t : Nat) (f : Fin 2) (m : Fin 8192) (index : BitVec 32) (host : List HostWrite) (s₀ : State), exec (.mailboxDoorbell t f m index host) s₀ = .next (s₀.ends (
      let s : State := hostWrites host (s₀.begin t)
      let fn : Nat := f.val
      let m : Nat := m.val
      let v : Nat := index.toNat
      let b := s.box m
      if !boxAnswers fn m b then s
      else if !b.enable || !s.sys.fwRunning then badDoorbell m s
      else if b.kind = 1 then
        if (b.producer + 2 ^ 32 - v) % 2 ^ 32 ≤ b.held then s.setBox m { b with consumer := v } else badDoorbell m s
      else if (v + 2 ^ 32 - b.consumer) % 2 ^ 32 ≤ b.size then s.setBox m { b with producer := v }
      else badDoorbell m s))) ∧
  (∀ (t : Nat) (f : Fin 2) (m : Fin 8192) (word : BitVec 32) (s₀ : State), exec (.mailboxEnable t f m word) s₀ = .next (s₀.ends (
      let s : State := s₀.begin t
      let fn : Nat := f.val
      let m : Nat := m.val
      let off : Nat := 0x10
      let v : Nat := word.toNat
      let b := s.box m
      if !boxAnswers fn m b then s
      else if off = 0x10 then boxEnableWrite m v s
      else if off = 0x20 then s.setBox m { b with
        badDoorbell := b.badDoorbell && !v.testBit 0, fetchError := b.fetchError && !v.testBit 1, fullSeen := b.fullSeen && !v.testBit 2 }
      else if off = 0x18 || off = 0x1C || 0x20 < off then s
      else if b.enable then hostFault s
      else
        match off with
        | 0x00 => if v % 64 = 0 then s.setBox m { b with ring := putHalf false b.ring v } else hostFault s
        | 0x04 => s.setBox m { b with ring := putHalf true b.ring v }
        | 0x08 => if v % 8 = 0 then s.setBox m { b with wb := putHalf false b.wb v } else hostFault s
        | 0x0C => s.setBox m { b with wb := putHalf true b.wb v }
        | 0x14 => s.setBox m { b with coalesceCount := bits v 15 0, coalesceUs := bits v 31 16 }
        | _ => s))) ∧
  (∀ (t : Nat) (m : Fin 8192) (s₀ : State), exec (.msixCoalesceTimer t m) s₀ = .next (s₀.ends (
      let s : State := s₀.begin t
      let m : Nat := m.val
      let b := s.box m
      match b.timerFrom with
      | some u =>
        if b.enable && b.irqEn && u + b.coalesceUs * 1000 ≤ s.now then
          sendMsix b.owner b.vector (s.setBox m { b with unsignalled := 0, timerFrom := none })
        else s
      | none => s))) ∧
  (∀ (t : Nat) (m : Fin 8192) (s₀ : State), exec (.hostMemoryError t m) s₀ = .next (s₀.ends (
      let s : State := s₀.begin t
      let m : Nat := m.val
      let b := s.box m
      if !b.enable then s
      else
        let shows := elapsed 1000000 s.host.fetchErrorAt s.now
        raiseIf shows 404 (modHost (fun h => { h with
            fetchErrorAt := if shows then some s.now else h.fetchErrorAt, uncorrectable := sat 32 (h.uncorrectable + 1) })
          (s.setBox m { b.stop with fetchError := true }))))) ∧
  (∀ (t : Nat) (k : Fin 64) (host : List HostWrite) (s₀ : State), exec (.courierStart t k host) s₀ = .next (s₀.ends (
      let s : State := hostWrites host (s₀.begin t)
      let byTask : Bool := false
      let k : Nat := k.val
      let x := s.courier k
      if !x.busy then courierRun byTask k s
      else if !x.pending then s.setCourier k { x with pending := true, pendingTask := byTask }
      else
        let shows := elapsed 1000000 s.host.courierMissedAt s.now
        let s := modHost (fun h => { h with courierMissedAt := if shows then some s.now else h.courierMissedAt })
          (s.setCourier k { x with missed := true, missedCount := sat 32 (x.missedCount + 1) })
        if shows then raiseBy (if byTask then some (8 + k) else none) 402 s else s))) ∧
  (∀ (t : Nat) (k : Fin 64) (s₀ : State), exec (.courierStop t k) s₀ = .next (s₀.ends (
      let s : State := s₀.begin t
      let k : Nat := k.val
      let x := s.courier k
      if x.busy then s.setCourier k { x with busy := false, pending := false, stopped := true } else s))) ∧
  (∀ (t : Nat) (errors : List (BitVec 40)) (host : List HostWrite) (s₀ : State), exec (.courierBurst t errors host) s₀ = .next (s₀.ends (
      let s : State := hostWrites host (s₀.begin t)
      if workHeld 1 s then s
      else match pickCourier s with
        | none => s
        | some k =>
          let x := s.courier k
          let d := x.dest
          let q := x.moved / max 1 d.run
          let off := x.moved % max 1 d.run
          let a := x.dst + (if d.single then 0 else q * x.dstStride) + off
          let len := min (min 512 (d.run - off)) (if x.dstHost then 4096 - a % 4096 else 512)
          let from_ := burstSource x q off
          let waiting := (List.range 64).filter fun j => j ≠ k && courierReady (s.courier j)
          let s := waiting.foldl (fun s j => modCourier j (fun y => { y with waited := y.waited + 1 }) s) s
          let s := modHost (fun h => { h with courierRr := Tab.set 0 h.courierRr (x.cfg 20 19) (k + 1) }) s
          let r := if x.srcHost then (ReadOutcome.clean, s)
            else readBurst from_ 1 errors (askDram false from_ (len * x.source.width / max 1 d.width) 1 s)
          let s := r.2
          match r.1 with
          | .uncorrectable _ =>
            raiseBy (courierTask k x) 401 (modCourier k (fun y => { y with
                busy := false, pending := false, error := true, errCode := 4, doneCount := elementsDone x x.moved }) s)
          | _ =>
            let bs := destBytes x s.sys.free q off len s
            let s : State := { s with sys := { s.sys with free := s.sys.free + 1 } }
            let s : State := if x.dstHost then s.writeHost a bs else askDram true a bs.length 1 { s with dramMem := Mem.writeN s.dramMem a bs }
            modCourier k (fun y => { y with
              moved := x.moved + len, waited := 0, doneCount := elementsDone x (x.moved + len) }) s))) ∧
  (∀ (t : Nat) (k : Fin 64) (hostError : Bool) (s₀ : State), exec (.courierRunDone t k hostError) s₀ = .next (s₀.ends (
      let s : State := s₀.begin t
      let k : Nat := k.val
      let x := s.courier k
      if !x.busy then s
      else if hostError then
        (if x.srcHost || x.dstHost then courierFails k 5 (modHost (fun h => { h with uncorrectable := sat 32 (h.uncorrectable + 1) }) s) else s)
      else if x.total ≤ x.moved then courierComplete k s
      else s))) ∧
  (∀ (t : Nat) (f : Fin 2) (s₀ : State), exec (.functionLevelReset t f) s₀ = .next (s₀.ends (
      let s : State := s₀.begin t
      let f : Nat := f.val
      let s := stopBoxes (fun _ b => b.owner = f) s
      let s := (List.range 64).foldl (fun s k =>
        let x := s.courier k
        if courierOwner k = f && x.busy then s.setCourier k { x with busy := false, pending := false, stopped := true, errCode := 7 } else s) s
      modHost (fun h => { h with
        msixTable := h.msixTable.filter fun e => e.1 / 2048 ≠ f
        flrs := sat 32 (h.flrs + 1) }) s))) ∧
  (∀ (t : Nat) (s₀ : State), exec (.hostLinkDown t) s₀ = .next (s₀.ends (
      let s : State := s₀.begin t
      if !s.host.up then s
      else
        let s := stopBoxes (fun _ _ => true) s
        let s := (List.range 64).foldl (fun s k =>
          let x := s.courier k
          if x.busy && (x.srcHost || x.dstHost) then courierFails k 6 s else s) s
        raise 405 (modHost (fun h => { h with up := false, speed := 0, width := 0, linkDowns := sat 32 (h.linkDowns + 1) }) s))))

/-- The events of the purse, the teller and the DRAM controller (chapter 17, chapter 18). Whatever the state and the operands, exec answers
the next state written out here: the event's own effect where its conditions hold, and otherwise only the time that has passed; then
the step ends. TELLER_TICK (R369), THROTTLE_EXIT (R380), REDUCTION_STEP (R383), REDUCTION_REVERT (R384), HOT_DISTRICT_CHECK (R381),
POOL_POINT_RESELECT (R374), DISTRICT_POWER_GATE (R374), CELL_DISPATCH (R371), TILE_DONE (R385), ROUTE_CHANGE_DONE (R18), DISTRICT_READY
(R15), DVFS_STEP_DONE (R373), DISTRICT_FAULT (R386), RETRAIN_SLICE_GRANT (R388), REFRESH_DUE (R399), REFRESH_MR4_POLL (R398),
REFRESH_MAKEUP (R400), RETRAIN_DUE (R404), ECC_WRITEBACK (R406), SCRUB_READ (R408). -/
def Obligations.TellerAndDramEvents : Prop :=
  (∀ (t : Nat) (energy : List Nat) (compute : Int × Int) (hub : Int) (s₀ : State), exec (.tellerTick t energy compute hub) s₀ = .next (s₀.ends (
      let s : State := s₀.begin t
      let dies : Int × Int × Int := (compute.1, compute.2, hub)
      if !elapsed 100000 s.teller.tickAt s.now then s else
      let s := modTeller (fun x => { x with tickAt := some s.now }) s
      let s := (List.range 17).foldl (settlePurse energy) s
      let s := if sensorsHeld s then s
        else readHeat ((List.range 16).foldl (heatDistrict energy) (modTeller (fun x => { x with dies := [dies.1, dies.2.1, dies.2.2] }) s))
      let s := if s.teller.level = 0 then s
        else modTeller (fun x => { x with
          ticks := (x.ticks + 1) % 10, throttledMs := if x.ticks = 9 then sat 32 (x.throttledMs + 1) else x.throttledMs }) s
      let s := (List.range 16).foldl (fun s d => modDistrict d (fun x => { x with
        idleFrom := if districtIdle x then some (x.idleFrom.getD s.now) else none
        clockStopped := (s.modes.critical && x.running = []) || districtIdle x }) s) s
      creditTick ((List.range 17).map fun i => waitingCost i s) s))) ∧
  (∀ (t : Nat) (s₀ : State), exec (.throttleExit t) s₀ = .next (s₀.ends (
      let s : State := s₀.begin t
      match s.teller.coolFrom with
      | some c =>
        if 0 < s.teller.level && c + 10000000 ≤ s.now then
          let s := setLevel (s.teller.level - 1) s
          modTeller (fun x => { x with
            coolFrom := if 0 < x.level && x.tj < throttleAt x.level - 32 then some s.now else none }) s
        else s
      | none => s))) ∧
  (∀ (t : Nat) (s₀ : State), exec (.reductionStep t) s₀ = .next (s₀.ends (
      let s : State := s₀.begin t
      let ready := stepsTaken s && (s.teller.steps = 0 || elapsed 100000000 s.teller.stepAt s.now)
      if s.teller.level = 4 && throttleAt 4 ≤ s.teller.tj && ready && (s.mode = .inspect || s.mode = .reduced) then
        match nextStep s with
        | some steps => reduceAll steps s
        | none => s
      else s))) ∧
  (∀ (t : Nat) (s₀ : State), exec (.reductionRevert t) s₀ = .next (s₀.ends (
      let s : State := s₀.begin t
      let cool := stepsTaken s && elapsed 500000000 s.teller.warmAt s.now && elapsed 500000000 s.teller.stepAt s.now
        && s.teller.tj < 93 * 16
      if 0 < s.teller.steps && cool && s.mode = .reduced && stepsFit (stepBefore s) s && (admission (stepBefore s) s).1 = 0 then
        reduceAll (stepBefore s) s
      else s))) ∧
  (∀ (t : Nat) (s₀ : State), exec (.hotDistrictCheck t) s₀ = .next (s₀.ends (
      let s : State := s₀.begin t
      if s.teller.level < 3 || !elapsed 1000000000 s.teller.hotAt s.now then s else
      let s := modTeller (fun x => { x with hotAt := some s.now }) s
      let active := fun d => !(s.district d).gated && !(s.district d).failed
      let hot := (List.range 16).find? fun d =>
        let others := (List.range 16).filter fun e => e ≠ d && dieOf e = dieOf d && active e
        let sum := sumInt (others.map fun e => (s.district e).temp)
        (servedPort d s).isSome && active d && others ≠ []
          && decide (sum + 3 * 2 ^ 20 * others.length ≤ (s.district d).temp * others.length)
          && (moveTarget d 2 s).isSome
      if !elapsed 1000000000 s.teller.movedAt s.now then s
      else match hot.bind fun d => servedPort d s with
        | none => s
        | some n => moveAway n 2 (modTeller (fun x => { x with movedAt := some s.now }) s)))) ∧
  (∀ (t : Nat) (d : Fin 16) (s₀ : State), exec (.poolPointReselect t d) s₀ = .next (s₀.ends (
      let s : State := s₀.begin t
      let d : Nat := d.val
      if d < 12 || (servedPort d s).isSome || !elapsed 1000000 (s.district d).poolAt s.now then s
      else modDistrict d (fun x =>
        let p := ((List.range 5).filter fun p => fullCost x p ≤ 10 * x.credit).foldl max 0
        { x with stepTo := if p = x.point then none else some p, poolAt := some s.now }) s))) ∧
  (∀ (t : Nat) (d : Fin 16) (s₀ : State), exec (.districtPowerGate t d) s₀ = .next (s₀.ends (
      let s : State := s₀.begin t
      let d : Nat := d.val
      match (s.district d).idleFrom with
      | some c =>
        if c + 10000000 ≤ s.now && districtIdle (s.district d) then
          modDistrict d (fun x => { x with gated := true, clockStopped := true, purse := 0, carry := 0, running := [] }) s
        else s
      | none => s))) ∧
  (∀ (t : Nat) (d : Fin 17) (cell : Fin 64) (tasks : List TileTask) (s₀ : State), exec (.cellDispatch t d cell tasks) s₀ = .next (s₀.ends (
      let s : State := s₀.begin t
      let d : Nat := d.val
      let cell : Nat := cell.val
      let s := modDistrict d (fun x =>
        let x := tasks.foldl (fun x q => feedTask d (taskClass d q s) x) x
        if tasks = [] then x else wakeDistrict x) s
      let x := s.district d
      let c := if d = 16 then 0 else cell / 16
      if !cellFree d cell s then s
      else match nextTask (Tab.get [] x.queue c) x s with
        | some q =>
          let cost := taskCost q.ops x.point x.k
          s.setDistrict d { x with
            purse := purseOf (x.purse - cost), charged := x.charged + cost, clockStopped := false, idleFrom := none
            queue := Tab.set [] x.queue c ((Tab.get [] x.queue c).erase q)
            running := if d = 16 then x.running else Tab.set {} x.running cell (runTile cell q s.now x) }
        | none => s))) ∧
  (∀ (t : Nat) (d : Fin 16) (cell : Fin 64) (storeError : Bool) (s₀ : State), exec (.tileDone t d cell storeError) s₀ = .next (s₀.ends (
      let s : State := s₀.begin t
      let d : Nat := d.val
      let cell : Nat := cell.val
      let x := s.district d
      let run := Tab.get {} x.running cell
      if run.stage = 0 then s
      else
        let key := timeKey cell (run.stage - 1)
        let took := tileTime run s.now
        let late := run.deadline < run.since + took
        let misses := Tab.get 0 x.cellMiss cell + b2n late
        let left := Tab.set {} x.running cell {}
        let s := s.setDistrict d { x with
          running := left, clockStopped := x.clockStopped || (s.modes.critical && left = [])
          times := Tab.set [] x.times key ((took :: Tab.get [] x.times key).take 256)
          cellMiss := Tab.set 0 x.cellMiss cell misses
          misses := sat 16 (x.misses + b2n late) }
        if storeError then retireCell d cell 1 s else if 3 ≤ misses then retireCell d cell 0 s else s))) ∧
  (∀ (t : Nat) (s₀ : State), exec (.routeChangeDone t) s₀ = .next (s₀.ends (
      let s : State := s₀.begin t
      match s.teller.change with
      | none => s
      | some x =>
        let s := modTeller (fun y => { y with change := none }) (s.setRoute x.port x.dest)
        let s := match (s.pmap x.port).lost, stationOf x.port s with
          | true, some k => startPort k false s x.port
          | _, _ => clearHistory x.port s
        let s := modPmap x.port (fun m => { m with lost := false }) s
        let s := takeRoute x.cause (modPort x.port (fun p => { p with rerouting := false }) s)
        let s := raise (194 + 4 * x.source) s
        let s := if 12 ≤ x.dest then raise (194 + 4 * x.dest) s else s
        let s := journal 0x0A00 (0x10 + x.port) 93 (le 1 x.port ++ le 1 x.source ++ le 1 x.dest ++ le 1 x.cause) s
        let s := drainFront x.port 256 s
        let s := finishOne 0x0A04 (fun _ => x.cause = 0) stDone (le 1 x.dest ++ zeros 3) s
        let s := s.teller.moves.foldl startMove (modTeller (fun z => { z with moves := [] }) s)
        if (s.district x.dest).failed then moveAway x.port 1 s else s))) ∧
  (∀ (t : Nat) (d : Fin 16) (bad : List (Fin 64)) (s₀ : State), exec (.districtReady t d bad) s₀ = .next (s₀.ends (
      let s : State := s₀.begin t
      let d : Nat := d.val
      let bad : List Nat := (bad.map (·.val))
      let was := (s.district d).resetting
      if !(was || (s.district d).waking || (s.district d).untested) then s
      else
        let s := modDistrict d (fun x => { x with
          resetting := false, waking := false, gated := false
          failed := x.failed && !was
          retired := if x.untested then bad.dedup.filter (· < 64) else if was then x.retired.filter bad.contains else x.retired
          untested := false
          temp := nth 0 s.teller.dies (dieOf d) * 2 ^ 16 }) s
        let s := raise (195 + 4 * d) s
        let s := if was then finishOne 0x0105 (fun x => x.args.block = 0x20 + d) stDone [] s else s
        match servedPort d s with
        | some n => drainFront n 256 s
        | none => s))) ∧
  (∀ (t : Nat) (d : Fin 16) (s₀ : State), exec (.dvfsStepDone t d) s₀ = .next (s₀.ends (
      let s : State := s₀.begin t
      let d : Nat := d.val
      let settling := (if dieOf d = 0 then s.modes.vidRaised0 else s.modes.vidRaised1).isSome
      modDistrict d (fun x => match x.stepTo with
        | some p => if x.running ≠ [] || (settling && x.point < p) then x else { x with point := p, stepTo := none }
        | none => x) s))) ∧
  (∀ (t : Nat) (d : Fin 16) (s₀ : State), exec (.districtFault t d) s₀ = .next (s₀.ends (
      let s : State := s₀.begin t
      let d : Nat := d.val
      failDistrict d true s))) ∧
  (∀ (t : Nat) (c : Fin 8) (rank : Fin 2) (took : Fin 1501) (drift : Nat) (s₀ : State), exec (.retrainSliceGrant t c rank took drift) s₀ = .next (s₀.ends (
      let s : State := s₀.begin t
      let c : Nat := c.val
      let rank : Nat := rank.val
      let took : Nat := took.val
      if channelWorks c s && (s.dramCh c).due.getLsbD rank && elapsed 20000 s.teller.sliceAt s.now then
        let s := sliceRun c rank took drift s
        { s with teller := { s.teller with sliceAt := some (s.dramCh c).sliceUntil } }
      else s))) ∧
  (∀ (t : Nat) (c : Fin 8) (reads : Bool) (s₀ : State), exec (.refreshDue t c reads) s₀ = .next (s₀.ends (
      let s : State := s₀.begin t
      let c : Nat := c.val
      let x := s.dramCh c
      if !channelWorks c s then s
      else if (x.readsQueued || reads) && x.owed < s.dram.set.postponeMax then
        let full := x.owed + 1 = s.dram.set.postponeMax && elapsed 1000000000 x.limitAt s.now
        raiseIf full 386 (s.setDramCh c { x with
          owed := x.owed + 1, owedPeak := max x.owedPeak (x.owed + 1), limitAt := if full then some s.now else x.limitAt })
      else s.setDramCh c x.closeRows))) ∧
  (∀ (t : Nat) (c : Fin 8) (levels : List Nat) (s₀ : State), exec (.refreshMr4Poll t c levels) s₀ = .next (s₀.ends (
      let s : State := s₀.begin t
      let c : Nat := c.val
      let level := levels.foldl max 0
      if channelWorks c s && elapsed 16000000 (s.dramCh c).mr4At s.now then
        raiseIf ((s.dramCh c).interval < level) 387 (modDramCh c (fun x => { x with interval := level, mr4At := some s.now }) s)
      else s))) ∧
  (∀ (t : Nat) (c : Fin 8) (s₀ : State), exec (.refreshMakeup t c) s₀ = .next (s₀.ends (
      let s : State := s₀.begin t
      let c : Nat := c.val
      let x := s.dramCh c
      if channelWorks c s && !x.readsQueued && x.readsEnd + 100 ≤ s.now then s.setDramCh c x.madeUp else s))) ∧
  (∀ (t : Nat) (c : Fin 8) (rank : Fin 2) (s₀ : State), exec (.retrainDue t c rank) s₀ = .next (s₀.ends (
      let s : State := s₀.begin t
      let c : Nat := c.val
      let rank : Nat := rank.val
      let r := Tab.get {} (s.dramCh c).ranks rank
      let due := r.sliceAt + 1000000 * s.dram.set.retrainMs ≤ s.now || 80 ≤ (hubTemp s - r.temp).natAbs
      if channelWorks c s && rank < Config.dramRanks && due then
        modDramCh c (fun x => { x with due := x.due ||| BitVec.ofNat 2 (2 ^ rank) }) s
      else s))) ∧
  (∀ (t : Nat) (c : Fin 8) (s₀ : State), exec (.eccWriteback t c) s₀ = .next (s₀.ends (
      let s : State := s₀.begin t
      let c : Nat := c.val
      match (s.dramCh c).writebacks with
      | a :: rest =>
        if channelWorks c s && !(s.dramCh c).readsQueued then
          askDram true a 64 1 (modDramCh c (fun x => { x with writebacks := rest }) s)
        else s
      | [] => s))) ∧
  (∀ (t : Nat) (errors : List (BitVec 40)) (s₀ : State), exec (.scrubRead t errors) s₀ = .next (s₀.ends (
      let s : State := s₀.begin t
      let a := s.dram.scrubAt
      let c := dramChannel a
      if s.dram.set.scrubHours = 0 || s.mode = .sentry || workHeld 3 s || !channelWorks c s || (s.dramCh c).readsQueued || s.now < s.dram.scrubFrom then s
      else
        let s := (readBurst a 2 errors (askDram false a 64 2 s)).2
        let last := Config.dramCapacity ≤ a + 64
        raiseIf last 390 (modDram (fun d => { d with
          scrubAt := if last then 0 else a + 64, scrubFrom := if last then max s.now (d.scrubFrom + scrubPeriod s) else d.scrubFrom }) s))))

/-- The events of compression, the vault and the journal (chapter 20, chapter 21, chapter 22). Whatever the state and the operands, exec
answers the next state written out here: the event's own effect where its conditions hold, and otherwise only the time that has passed;
then the step ends. COMP_JOB_DONE (R438), VAULT_MOUNT_DONE (R448), VAULT_REPLAY_DONE (R448), VAULT_OBJECT_COMMIT (R447),
VAULT_PROGRAM_FAIL (R452), VAULT_CHECKPOINT (R448), VAULT_SCRUB_DUE (R456), VAULT_READ_DISTURB (R455), JOURNAL_SUPPRESS_TIMER (R470),
JOURNAL_SPILL (R475). -/
def Obligations.StorageEvents : Prop :=
  (∀ (t : Nat) (e : Fin 4) (x : ReadErrors) (s₀ : State), exec (.compJobDone t e x) s₀ = .next (s₀.ends (
      let s : State := s₀.begin t
      let e : Nat := e.val
      let burst : Nat := x.burst
      let errors : List (BitVec 40) := x.errors
      match (if s.modes.pause then none else (s.engine e).job) with
      | none => s
      | some j =>
        match (compJobs s).find? fun x => x.args.tag = j.cmd && x.args.src = j.src && j.user = 0 with
        | none => s
        | some x =>
          let p := jobP x
          let s := (jobReads p j.part).foldl (fun s r => askDram false r.1 r.2 1 s) s
          let o := match burstAt (jobReads p j.part) burst with
            | some a => readBurst a 1 errors s
            | none => (ReadOutcome.clean, s)
          let s := o.2
          let hwFault := match o.1 with
            | .uncorrectable _ => true
            | _ => false
          let r := runPart p j.part hwFault s
          let s : State := { s with sys := { s.sys with free := s.sys.free + 1 } }
          let s := endOnEngine e r (askDram true (jobDst p + j.part * jobDstBytes p) r.out.length 1 s)
          if jobParts p = 1 then endJob x p r s else endPart x p j.part r s))) ∧
  (∀ (t : Nat) (bad : Nat) (s₀ : State), exec (.vaultMountDone t bad) s₀ = .next (s₀.ends (
      let s : State := s₀.begin t
      if s.vault.mounted || s.vault.replaying then s else vaultMounted bad s))) ∧
  (∀ (t : Nat) (bad : Nat) (s₀ : State), exec (.vaultReplayDone t bad) s₀ = .next (s₀.ends (
      let s : State := s₀.begin t
      if s.vault.replaying then vaultMounted bad s else s))) ∧
  (∀ (t : Nat) (fill : Nat) (s₀ : State), exec (.vaultObjectCommit t fill) s₀ = .next (s₀.ends (
      let s : State := s₀.begin t
      if !s.vault.mounted then s
      else match fwWriteNext s, nextWaiting s with
      | some w, _ => fwWritePart w s
      | none, none => s
      | none, some o =>
        let crop := o.kind = .dayRecord && 128 < o.bytes.length
        if crop && !userHolds 2 0 s then s else
        let s := objectCommit o fill s
        if crop then compRelease 2 0 (some (o.bytes.length - 128, o.stored - 128)) s
        else if o.kind = .baseSet then
          (List.range 12).foldl (fun s n =>
            if (s.photo n).selMode = 0 && (s.port n).info ≠ [] && u64 (s.port n).info 8 = o.key then followCamera n o.key s else s) s
        else s))) ∧
  (∀ (t : Nat) (b : Nat) (channel : Nat) (target : Nat) (lun : Nat) (plane : Nat) (s₀ : State), exec (.vaultProgramFail t b channel target lun plane) s₀ = .next (s₀.ends (
      let s : State := s₀.begin t
      if !s.vault.mounted then s
      else
        let s := modSuperblock b (fun x => { x with bad := x.bad + 1 }) s
        let s := modVault (fun v => { v with growBad := sat 32 (v.growBad + 1) }) s
        let s := journal 0x0E00 0 121 (le 1 channel ++ le 1 target ++ le 1 lun ++ le 1 plane ++ le 4 b) s
        checkSpare (raiseGrown s)))) ∧
  (∀ (t : Nat) (s₀ : State), exec (.vaultCheckpoint t) s₀ = .next (s₀.ends (
      let s : State := s₀.begin t
      if s.vault.mounted && !s.modes.pause && 2 ^ 30 ≤ s.vault.sinceCheckpoint then writeCheckpoint s else s))) ∧
  (∀ (t : Nat) (b : Nat) (m : MediumRead) (s₀ : State), exec (.vaultScrubDue t b m) s₀ = .next (s₀.ends (
      let s : State := s₀.begin t
      if !s.vault.mounted || s.mode = .sentry || workHeld 3 s || !scrubNext b s then s
      else
        let s := readSuperblock b m s
        let s := modVault (fun v => { v with scrubbed := b :: v.scrubbed.filter (· ≠ b) }) s
        let s := if (s.superblock b).marked then relocate b s else s
        if (s.vault.superblocks.filter fun e => 0 < e.2.filled).all (fun e => s.vault.scrubbed.contains e.1 || !scrubDue e.1 s) then
          raise 438 (modVault (fun v => { v with scrubbed := [] }) s)
        else s))) ∧
  (∀ (t : Nat) (b : Nat) (s₀ : State), exec (.vaultReadDisturb t b) s₀ = .next (s₀.ends (
      let s : State := s₀.begin t
      let x := s.superblock b
      if s.vault.mounted && !workHeld 3 s && (Config.vaultReadLimit ≤ x.reads || x.marked) && 0 < x.filled then relocate b s else s))) ∧
  (∀ (t : Nat) (code : BitVec 16) (s₀ : State), exec (.journalSuppressTimer t code) s₀ = .next (s₀.ends (
      let s : State := s₀.begin t
      let code : Nat := code.toNat
      let b := s.journal.bucket code
      if b.supCount ≠ 0 && b.supLast + 1000000000 ≤ s.chainTime && s.mode ≠ .sentry then reportSuppressed code s else s))) ∧
  (∀ (t : Nat) (s₀ : State), exec (.journalSpill t) s₀ = .next (s₀.ends (
      let s : State := s₀.begin t
      if spillDue s then
        let n := min 16384 ((spillSlots - s.journal.spill.length) / 128 * 128)
        resumeRecording (fitSpill (modJournal (fun j => { j with spill := j.spill ++ j.sram.take n, sram := j.sram.drop n }) s))
      else s)))

/-- The events of the Akeus Chain (chapter 23). Whatever the state and the operands, exec answers the next state written out here: the
event's own effect where its conditions hold, and otherwise only the time that has passed; then the step ends. HEAD_DETECT_TIMER
(R483), ENUM_TOKEN (R484), ENUM_LAST_TIMER (R484), ENUM_DONE (R484), CHAIN_HELLO (R485), CHAIN_COMMAND_FRAME (R492), CHAIN_REPLY_FRAME
(R492), STAGED (R54), COMMIT (R56), ABORT (R56), COMMIT_ACK (R56), LEDGER_FRAME (R493), EVENT_FRAME (R494), CHAIN_ACK (R488), CHAIN_NAK
(R488), CHAIN_ACK_TIMER (R488), PROBE_TIMER (R490), PROBE (R490), PROBE_REPLY (R490), SYNC (R490), CHAIN_RESET_BLOCK (R495),
TIME_UNSYNCED (R490), HEAD_CHAIN_RESET (R495). -/
def Obligations.ChainEvents : Prop :=
  (∀ (t : Nat) (s₀ : State), exec (.headDetectTimer t) s₀ = .next (s₀.ends (
      let s : State := s₀.begin t
      let quiet := (lanesOf 12).all fun l => (s.lane l).state = .off || (s.lane l).state = .detect
      if s.sys.fwRunning && s.mode = .enumerate && s.chain.postcode = 0xFF && quiet && s.chain.since + 20000000 ≤ s.now then
        tookPostcode (modChain (fun c => { c with
          postcode := 0, isHead := true, synced := true, size := 1, headSerial := some Config.serial.toNat, enumerating := true }) s)
      else s))) ∧
  (∀ (t : Nat) (f : ChainFrame) (body : List Byte) (s₀ : State), exec (.enumToken t f body) s₀ = .next (s₀.ends (
      let s : State := s₀.begin t
      receiveFrame f 0x01 body (fun s =>
        let next := u8 body 0
        let headSerial := u64 body 8
        if f.port = .down || s.chain.isHead then frameError s
        else if next ≤ 15 then
          tookPostcode (modLink .up (fun l => { l with carries := true, peer := some (next - 1), wasUp := true })
            (modChain (fun c => { c with postcode := next, headSerial := some headSerial, enumerating := true, mismatch := false }) s))
        else sendEnumDone 16 true (chainMismatch (modChain (fun c => { c with postcode := 0xFF }) s))) s))) ∧
  (∀ (t : Nat) (s₀ : State), exec (.enumLastTimer t) s₀ = .next (s₀.ends (
      let s : State := s₀.begin t
      if s.sys.fwRunning && s.chain.enumerating && s.chain.postcode ≠ 0xFF && !chainActive .down s && s.chain.since + 20000000 ≤ s.now then
        let n := s.chain.postcode + 1
        if s.chain.isHead then enumFinished n s else sendEnumDone n false (enumFinished n s)
      else s))) ∧
  (∀ (t : Nat) (f : ChainFrame) (body : List Byte) (s₀ : State), exec (.enumDone t f body) s₀ = .next (s₀.ends (
      let s : State := s₀.begin t
      receiveFrame f 0x02 body (fun s =>
        let count := u8 body 0
        let tooLong := (u8 body 1).testBit 0
        if f.port = .up then frameError s
        else
          let next := s.chain.postcode + 1
          let s := if next < min count 16 then modLink .down (fun l => { l with carries := true, peer := some next, wasUp := true }) s else s
          let s := enumFinished count s
          if s.chain.isHead then s else sendEnumDone count tooLong s) s))) ∧
  (∀ (t : Nat) (f : ChainFrame) (postcode : Nat) (headSerial : Nat) (s₀ : State), exec (.chainHello t f postcode headSerial) s₀ = .next (s₀.ends (
      let s : State := s₀.begin t
      let p := f.port
      receiveFrame f 0x03 (serialBody postcode headSerial) (fun s =>
        if s.modes.strapHead && p = .up then chainMismatch s
        else if helloFits p postcode headSerial s then
          let back := (s.link p).wasUp && !(s.link p).carries
          let s := modLink p (fun l => { l with carries := true, peer := some postcode, wasUp := true }) s
          let s := raiseIf back 466 s
          if p = .up then drainOutbound 4096 s else s
        else chainMismatch (modLink p (fun l => { l with carries := false }) s)) s))) ∧
  (∀ (t : Nat) (f : ChainFrame) (origin : Nat) (ref : Nat) (packet : List Byte) (s₀ : State), exec (.chainCommandFrame t f origin ref packet) s₀ = .next (s₀.ends (
      let s : State := s₀.begin t
      let body := originBytes origin ref ++ packet
      receiveFrame f 0x10 body (fun s =>
        let p := readPacket (.chain origin ref) packet s
        match f.port with
        | .down =>
          if s.chain.isHead then arrive (commandOf p.1) p.1 p.2 s
          else if s.chain.upLink.carries then sendFrame .up 0x10 f.source f.dest body s
          else answerAbsent .down p.1 p.2 s
        | .up =>
          let on := if f.dest = s.chain.postcode then s
            else if f.dest ≠ 0xFF && !s.chain.downLink.carries then answerAbsent .up p.1 p.2 s
            else sendFrame .down 0x10 f.source f.dest body s
          if f.dest = s.chain.postcode || f.dest = 0xFF then arrive (commandOf p.1) p.1 p.2 on else on) s))) ∧
  (∀ (t : Nat) (f : ChainFrame) (origin : Nat) (ref : Nat) (reply : List Byte) (s₀ : State), exec (.chainReplyFrame t f origin ref reply) s₀ = .next (s₀.ends (
      let s : State := s₀.begin t
      receiveFrame f 0x11 (originBytes origin ref ++ reply) (fun s =>
        let waits := s.sys.started.find? fun x => x.relayed && x.args.tag = u16 reply 0 && originOf x.args s = (origin, ref)
        if f.port = .down && !s.chain.isHead then sendFrame .up 0x11 f.source f.dest (originBytes origin ref ++ reply) s
        else if origin = s.chain.postcode && ref = exportRef then exportStep (u16 reply 2) (u32 reply 20) (reply.drop 16) s
        else match waits with
          | some x => deliverReply x reply s
          | none => if origin = s.chain.postcode then s else sendFrame .down 0x11 f.source f.dest (originBytes origin ref ++ reply) s) s))) ∧
  (∀ (t : Nat) (f : ChainFrame) (origin : Nat) (ref : Nat) (tag : Nat) (status : Nat) (failedBlocks : Nat) (s₀ : State), exec (.staged t f origin ref tag status failedBlocks) s₀ = .next (s₀.ends (
      let s : State := s₀.begin t
      let body := originBytes origin ref ++ le 2 tag ++ le 2 status ++ le 2 failedBlocks ++ zeros 6
      receiveFrame f 0x12 body (fun s =>
        if f.port = .up then s
        else if !s.chain.isHead then sendFrame .up 0x12 f.source f.dest body s
        else match chainCmdNamed origin ref tag s with
          | none => s
          | some c => takeStaged f.source status failedBlocks c s) s))) ∧
  (∀ (t : Nat) (f : ChainFrame) (origin : Nat) (ref : Nat) (tag : Nat) (s₀ : State), exec (.commit t f origin ref tag) s₀ = .next (s₀.ends (
      let s : State := s₀.begin t
      receiveFrame f 0x13 (commitBody origin ref tag) (fun s =>
        if f.port = .down then s
        else
          let s := sendFrame .down 0x13 f.source 0xFF (commitBody origin ref tag) s
          match stagedNamed origin ref tag s with
          | none => s
          | some x => match commandOf x.op with
            | none => dropStaged x.args s
            | some d => commitStaged d x s) s))) ∧
  (∀ (t : Nat) (f : ChainFrame) (origin : Nat) (ref : Nat) (tag : Nat) (s₀ : State), exec (.abort t f origin ref tag) s₀ = .next (s₀.ends (
      let s : State := s₀.begin t
      receiveFrame f 0x14 (commitBody origin ref tag) (fun s =>
        if f.port = .down then s
        else
          let s := sendFrame .down 0x14 f.source 0xFF (commitBody origin ref tag) s
          match stagedNamed origin ref tag s with
          | none => s
          | some x => discardStaged x s) s))) ∧
  (∀ (t : Nat) (f : ChainFrame) (origin : Nat) (ref : Nat) (tag : Nat) (s₀ : State), exec (.commitAck t f origin ref tag) s₀ = .next (s₀.ends (
      let s : State := s₀.begin t
      receiveFrame f 0x15 (commitBody origin ref tag) (fun s =>
        if f.port = .up then s
        else if !s.chain.isHead then sendFrame .up 0x15 f.source f.dest (commitBody origin ref tag) s
        else match chainCmdNamed origin ref tag s with
          | none => s
          | some c =>
            if !c.committed || c.acked.contains f.source then s
            else chainCommitted { c with acked := c.acked ++ [f.source] } s) s))) ∧
  (∀ (t : Nat) (f : ChainFrame) (record : List Byte) (s₀ : State), exec (.ledgerFrame t f record) s₀ = .next (s₀.ends (
      let s : State := s₀.begin t
      receiveFrame f 0x20 record (fun s => if s.chain.isHead then headRecord none record s else queueOutbound f.source record s) s))) ∧
  (∀ (t : Nat) (f : ChainFrame) (slot : Fin 16) (mult : Nat) (hops : Nat) (s₀ : State), exec (.eventFrame t f slot mult hops) s₀ = .next (s₀.ends (
      let s : State := s₀.begin t
      let slot : Nat := slot
      let body := le 1 slot ++ le 1 mult ++ le 1 hops ++ zeros 5
      receiveFrame f 0x30 body (fun s =>
        bridgeArrive slot f.source mult hops (sendFrame f.port.other 0x30 f.source 0xFF body s)) s))) ∧
  (∀ (t : Nat) (port : Option ChainPort) (seq : Fin 256) (s₀ : State), exec (.chainAck t port seq) s₀ = .next (s₀.ends (
      let s : State := s₀.begin t
      let seq : Nat := seq
      match port with
      | some p => chainAck p seq s
      | none => twinAck seq s))) ∧
  (∀ (t : Nat) (port : Option ChainPort) (seq : Fin 256) (s₀ : State), exec (.chainNak t port seq) s₀ = .next (s₀.ends (
      let s : State := s₀.begin t
      let seq : Nat := seq
      match port with
      | some p => chainNak p seq s
      | none => twinNak seq s))) ∧
  (∀ (t : Nat) (port : ChainPort) (s₀ : State), exec (.chainAckTimer t port) s₀ = .next (s₀.ends (
      let s : State := s₀.begin t
      let p : ChainPort := port
      if chainRuns p s && 0 < (s.link p).rxSinceAck && (s.link p).ackAt + 10000 ≤ s.now then sendAck p s else s))) ∧
  (∀ (t : Nat) (s₀ : State), exec (.probeTimer t) s₀ = .next (s₀.ends (
      let s : State := s₀.begin t
      if !chainRuns .down s || !elapsed 1000000 s.chain.probeAt s.now then s
      else
        let t := s.chainTime
        let s := putControl .down 0xC4 true (le 1 s.chain.probeSeq ++ le 6 t)
          (modChain (fun c => { c with probeSeq := (c.probeSeq + 1) % 256, probeT1 := t % 2 ^ 48, probeAt := some s.now }) s)
        if s.chain.delays = [] then s else putControl .down 0xC6 true (le 7 t) s))) ∧
  (∀ (t : Nat) (seq : Fin 256) (_t1 : Nat) (residence : Nat) (s₀ : State), exec (.probe t seq _t1 residence) s₀ = .next (s₀.ends (
      let s : State := s₀.begin t
      let seq : Nat := seq
      if chainRuns .up s then putControl .up 0xC5 true (le 1 seq ++ le 4 residence ++ zeros 2) s else s))) ∧
  (∀ (t : Nat) (seq : Fin 256) (residence : Nat) (s₀ : State), exec (.probeReply t seq residence) s₀ = .next (s₀.ends (
      let s : State := s₀.begin t
      let seq : Nat := seq
      if !chainRuns .down s || (seq + 1) % 256 ≠ s.chain.probeSeq then s
      else
        let round : Nat := (s.chainTime + 2 ^ 48 - s.chain.probeT1) % 2 ^ 48
        let d := (divHalfUp ((round : Int) - (residence : Int)) 2).toNat
        modChain (fun c => { c with delays := (d :: c.delays).take 8, delay := sat 32 (lowerMedian ((d :: c.delays).take 8)) }) s))) ∧
  (∀ (t : Nat) (value : Nat) (d : Nat) (s₀ : State), exec (.sync t value d) s₀ = .next (s₀.ends (
      let s : State := s₀.begin t
      if !chainRuns .up s || s.chain.isHead then s
      else
        let t := s.chainTime
        let due : Nat := t / 2 ^ 56 * 2 ^ 56 + value % 2 ^ 56 + d
        let e := toInt 64 (ofInt 64 ((t : Int) - due))
        let s := modChain (fun c => { c with timeError := e, lastErrors := (e :: c.lastErrors).take 3, lastSync := some s.now }) s
        let s := if 1000 < e.natAbs then modChain (fun c => { c with offset := c.offset - e, slewLeft := 0 }) s
          else if oscillatorHeld s then s
          else modChain (fun c => { c with slewLeft := -e, slewFrom := s.now }) s
        setSynced (s.chain.lastErrors.length = 3 && s.chain.lastErrors.all fun x => x.natAbs ≤ 2) s))) ∧
  (∀ (t : Nat) (port : ChainPort) (s₀ : State), exec (.chainResetBlock t port) s₀ = .next (s₀.ends (
      let s : State := s₀.begin t
      let p : ChainPort := port
      if p = .down || !s.sys.fwRunning then s
      else packageReset .chain 0 0xFF (if chainActive .down s then putControl .down 0xC9 true resetBlock s else s)))) ∧
  (∀ (t : Nat) (s₀ : State), exec (.timeUnsynced t) s₀ = .next (s₀.ends (
      let s : State := s₀.begin t
      if s.chain.synced && !s.chain.isHead && elapsed 10000000 s.chain.lastSync s.now then setSynced false s else s))) ∧
  (∀ (t : Nat) (s₀ : State), exec (.headChainReset t) s₀ = .next (s₀.ends (
      let s : State := s₀.begin t
      match s.chain.resetAt with
      | some u => if u + 20000 ≤ s.now then packageReset .chain 0 0xFF s else s
      | none => s)))

/-- The events of twin operation (chapter 24). Whatever the state and the operands, exec answers the next state written out here: the
event's own effect where its conditions hold, and otherwise only the time that has passed; then the step ends. TWIN_SENSE_FREE (R514),
TWIN_SENSE_HELD (R503), INTERLOCK_TAKE_TIMER (R503), CONTENTION_BACKOFF (R503), HEARTBEAT (R506), HEARTBEAT_SEND (R506), HEARTBEAT_LOSS
(R506), TWIN_HELLO (R506), STATE_FRAME (R507), DIGEST_FRAME (R511), REPLAY_DONE (R512), REPLAY_RESULT_FRAME (R513),
REPLAY_RESULT_TIMEOUT (R513), HANDOVER_FRAME (R519), SPECIMEN_FRAME (R520), TWIN_HOLD_RELEASE (R502). -/
def Obligations.TwinEvents : Prop :=
  (∀ (t : Nat) (s₀ : State), exec (.twinSenseFree t) s₀ = .next (s₀.ends (
      let s : State := s₀.begin t
      if !s.twin.senseHeld then s
      else
        let s := modTwin (fun t => { t with senseHeld := false, stageAt := s.now }) s
        if shadows s && s.twin.takeover = 0 then beginTake 1 s else s))) ∧
  (∀ (t : Nat) (s₀ : State), exec (.twinSenseHeld t) s₀ = .next (s₀.ends (
      let s : State := s₀.begin t
      let s := answerHandover (modTwin (fun t => { t with senseHeld := true }) s)
      if !s.modes.strapTwin then s
      else if s.twin.holding && s.twin.releaseDue.isNone then
        if s.twin.secondary then
          let s := if s.twin.driving then undrive (modTwin (fun t => { t with releaseDue := some s.now }) s)
            else modTwin (fun t => { t with holding := false }) s
          modTwin (fun t => { t with wants := true, stage := 0, backoff := some s.now }) s
        else
          let s := if s.twin.driving then undrive s else s
          modTwin (fun t => { t with wants := true, stage := 3 }) s
      else if s.twin.stage = 1 && s.twin.takeover = 1 then cancelTake s
      else s))) ∧
  (∀ (t : Nat) (s₀ : State), exec (.interlockTakeTimer t) s₀ = .next (s₀.ends (
      let s : State := s₀.begin t
      let t := s.twin
      if !s.modes.strapTwin || t.senseHeld || t.stage = 0 then s
      else if !takeAllowed s then cancelTake s
      else if t.stage = 1 then
        if t.stageAt + 5000 ≤ s.now && t.releaseDue.isNone then
          modTwin (fun t => { t with holding := true, stage := 2, stageAt := s.now }) s
        else s
      else if t.stageAt + 2000 ≤ s.now then taken s
      else s))) ∧
  (∀ (t : Nat) (s₀ : State), exec (.contentionBackoff t) s₀ = .next (s₀.ends (
      let s : State := s₀.begin t
      if s.twin.backoff.any (fun a => a + 1000000 ≤ s.now) then
        modTwin (fun t => { t with backoff := none, stage := if t.wants then 1 else 0 }) s
      else s))) ∧
  (∀ (t : Nat) (role : Fin 256) (counter : Nat) (s₀ : State), exec (.heartbeat t role counter) s₀ = .next (s₀.ends (
      let s : State := s₀.begin t
      let role : Nat := role
      if !twinRuns s then s
      else
        let s := hearRole role (modTwin (fun t => { t with lastBeat := some s.now, theirBeats := wrap 16 counter }) s)
        if s.twin.up then s else sendTwinHello s))) ∧
  (∀ (t : Nat) (s₀ : State), exec (.heartbeatSend t) s₀ = .next (s₀.ends (
      let s : State := s₀.begin t
      if twinRuns s && elapsed 10000 s.twin.beatAt s.now then
        putTwinControl 0xD1 (le 1 s.twin.role.code ++ le 2 s.twin.beats)
          (modTwin (fun t => { t with beats := wrap 16 (t.beats + 1), beatAt := some s.now }) s)
      else s))) ∧
  (∀ (t : Nat) (s₀ : State), exec (.heartbeatLoss t) s₀ = .next (s₀.ends (
      let s : State := s₀.begin t
      if elapsed 30000 s.twin.lastBeat s.now then twinLinkLost s else s))) ∧
  (∀ (t : Nat) (f : TwinFrame) (serial : Nat) (role : Fin 256) (pairPostcode : Fin 256) (digest : Nat) (resv : Nat) (s₀ : State), exec (.twinHello t f serial role pairPostcode digest resv) s₀ = .next (s₀.ends (
      let s : State := s₀.begin t
      let role : Nat := role
      let pairPostcode : Nat := pairPostcode
      receiveTwin f 0x01 (twinHelloBody serial role pairPostcode digest resv) (fun s =>
        let back := !s.twin.up && s.twin.link.wasUp
        let first := !s.twin.up
        let s := modTwin (fun t => { t with
          up := true, helloSeen := true, heldSerial := serial, pairPostcode := pairPostcode, partnerDigest := digest, lastBeat := some s.now
          link := { t.link with peer := some f.source, wasUp := true, carries := true } }) s
        hearRole role (raiseIf back 483 (if first then sendTwinHello s else s))) s))) ∧
  (∀ (t : Nat) (f : TwinFrame) (k : Fin 4) (block : Nat) (part : Nat) (parts : Nat) (x : StatePart) (s₀ : State), exec (.stateFrame t f k block part parts x) s₀ = .next (s₀.ends (
      let s : State := s₀.begin t
      let k : Nat := k
      let bytes : List Byte := x.bytes
      let copy : StationCopy := x.copy
      receiveTwin f 0x02 (le 1 k ++ zeros 3 ++ le 4 block ++ le 2 part ++ le 2 parts ++ zeros 4 ++ bytes) (fun s =>
        if !shadows s then s
        else
          let p := Tab.get (0, 0) s.twin.parts k
          let n := if p.1 = block + 1 then p.2 else 0
          if part ≠ n then s
          else
            let s := modTwin (fun t => { t with parts := Tab.set (0, 0) t.parts k (block + 1, n + 1) }) s
            if n + 1 < parts then s
            else
              let s := takeOffsetsOf k copy (modTwin (fun t => { t with copies := Tab.set (0, {}) t.copies k (block + 1, copy) }) s)
              pumpStation k false 4096 (tryCopy k s)) s))) ∧
  (∀ (t : Nat) (f : TwinFrame) (k : Fin 4) (partialSeen : Bool) (block : Nat) (records : Nat) (digest : Nat) (s₀ : State), exec (.digestFrame t f k partialSeen block records digest) s₀ = .next (s₀.ends (
      let s : State := s₀.begin t
      let k : Nat := k
      let d : BlockDigest := { block := block, records := records, partialView := partialSeen, digest := digest }
      receiveTwin f 0x03 (digestBytes k d) (fun s =>
        if paired s then compareBlock k d.block (modTwin (fun t => { t with theirDigests := addDigest k d t.theirDigests }) s) else s) s))) ∧
  (∀ (t : Nat) (s₀ : State), exec (.replayDone t) s₀ = .next (s₀.ends (
      let s : State := s₀.begin t
      match s.twin.replay.find? (·.own.isNone) with
      | none => s
      | some r =>
        let x := replayResult r s
        let s := modTwin (fun t => { t with replay := t.replay.map fun y => if y = r then { y with own := some x } else y }) s
        tryVerdict r.station r.block (sendTwin 0x04 (replayBody r.station x r.block) s)))) ∧
  (∀ (t : Nat) (f : TwinFrame) (k : Fin 4) (result : Fin 256) (block : Nat) (s₀ : State), exec (.replayResultFrame t f k result block) s₀ = .next (s₀.ends (
      let s : State := s₀.begin t
      let k : Nat := k
      let result : Nat := result
      receiveTwin f 0x04 (replayBody k result block) (takeResult k block result) s))) ∧
  (∀ (t : Nat) (s₀ : State), exec (.replayResultTimeout t) s₀ = .next (s₀.ends (
      let s : State := s₀.begin t
      (s.twin.replay.filter fun r => r.since + 3000000 ≤ s.now).foldl (fun s r => undecided r.station r.block s) s))) ∧
  (∀ (t : Nat) (f : TwinFrame) (k : Fin 4) (block : Nat) (s₀ : State), exec (.handoverFrame t f k block) s₀ = .next (s₀.ends (
      let s : State := s₀.begin t
      let k : Nat := k
      receiveTwin f 0x05 (le 1 k ++ zeros 3 ++ le 4 block) (fun s =>
        if !shadows s then s
        else
          let begun := (s.station k).nextLine.any fun m => 256 * block < m
          modTwin (fun t => { t with handover := some (k, block), handoverBy := 2, handoverNow := t.handoverNow || begun }) s) s))) ∧
  (∀ (t : Nat) (f : TwinFrame) (k : Fin 4) (offset : Nat) (image : List Byte) (s₀ : State), exec (.specimenFrame t f k offset image) s₀ = .next (s₀.ends (
      let s : State := s₀.begin t
      let k : Nat := k
      receiveTwin f 0x06 (le 1 k ++ zeros 7 ++ le 8 offset ++ image) (fun s =>
        if !standby s then s
        else
          let parts := (offset, image) :: (Tab.get [] s.twin.images k).filter fun e => e.1 ≠ offset && offset ≠ 0
          let whole := (sortBy (·.1) parts).foldl (fun acc e => if e.1 = acc.length then acc ++ e.2 else acc) []
          if whole.length < 64 || whole.length < imageLength whole then
            modTwin (fun t => { t with images := Tab.set [] t.images k parts }) s
          else
            let s := modTwin (fun t => { t with images := Tab.set [] t.images k [] }) s
            match readImage whole with
            | some sp => regEnter k (modLearn k (fun l => { l with loaded := some sp }) s)
            | none => s) s))) ∧
  (∀ (t : Nat) (s₀ : State), exec (.twinHoldRelease t) s₀ = .next (s₀.ends (
      let s : State := s₀.begin t
      if s.twin.releaseDue.any (fun a => a + 1000 ≤ s.now) then modTwin (fun t => { t with releaseDue := none, holding := false }) s else s)))

/-- The events of calibration and the pins (chapter 25, chapter 26). Whatever the state and the operands, exec answers the next state
written out here: the event's own effect where its conditions hold, and otherwise only the time that has passed; then the step ends.
CAL_STEP_DONE (R527), CAL_RUN_TIMEOUT (R532), CAL_RECOMPUTE (R526), PERST_N_CHANGE (R547), GPIO_EDGE (R551), GPIO_PULSE_END (R551),
HOST_LINK_UP (R547), VID_SETTLED (R542), TEST_ACCESS_INSTRUCTION (R550). -/
def Obligations.CalibrationAndPinEvents : Prop :=
  (∀ (t : Nat) (calres : Nat) (measured : List (Nat × Nat × Int)) (s₀ : State), exec (.calStepDone t calres measured) s₀ = .next (s₀.ends (
      let s : State := s₀.begin t
      match s.cal.run with
      | none => s
      | some r =>
        match r.steps with
        | [] => s
        | b :: rest =>
          if r.startedAt + 1000000000 ≤ s.now then endRun r stTimedOut s
          else if workHeld 1 s then s
          else if b = 0 && (calres < 4900000 || 5080000 < calres) then endRun r stHwFault (raise 499 s)
          else
            let xs := stepStaged b measured s
            if xs.any (fun e => !targetMet e s) then endRun r stHwFault s
            else
              let drifts := xs.any fun e => calOffsetMax e.1 < 4 * (e.2.2.natAbs : Int)
              let s := raiseIf (drifts && r.drift = 0) 498 s
              let r := { r with staged := r.staged ++ xs, drift := if drifts then r.drift ||| 2 ^ b else r.drift }
              if s.modes.waitingModes ≠ [] || s.modes.trans.isSome then endRun r stAborted s
              else if rest = [] then endRun r stDone s
              else beginStep (modCal (fun c => { c with run := some { r with steps := rest } }) (endStep r s))))) ∧
  (∀ (t : Nat) (s₀ : State), exec (.calRunTimeout t) s₀ = .next (s₀.ends (
      let s : State := s₀.begin t
      match s.cal.run with
      | some r => if r.startedAt + 1000000000 ≤ s.now then endRun r stTimedOut s else s
      | none => s))) ∧
  (∀ (t : Nat) (sentry : Int) (s₀ : State), exec (.calRecompute t sentry) s₀ = .next (s₀.ends (
      let s : State := s₀.begin t
      if !elapsed 100000000 s.cal.recomputedAt s.now then s
      else
        let s := modCal (fun c => { c with sentryTemp := sentry, recomputedAt := some s.now }) s
        steppedItems.foldl (fun s e =>
          modCalItem (calKey e.1 e.2) (fun x => { x with applied := some (stepCode x.applied (calV e.1 e.2 s)) }) s) s))) ∧
  (∀ (t : Nat) (low : Bool) (s₀ : State), exec (.perstNChange t low) s₀ = .next (s₀.ends (
      let s : State := s₀.begin t
      let s : State := { s with modes := { s.modes with perst := low } }
      if low then
        let s := linkDown s
        modHost (fun h => { h with configReady := false, msixTable := [] }) s
      else s))) ∧
  (∀ (t : Nat) (g : Fin 32) (x : GpioLevel) (s₀ : State), exec (.gpioEdge t g x) s₀ = .next (s₀.ends (
      let s : State := s₀.begin t
      let g : Nat := g.val
      let high : Bool := x.high
      let ns : Nat := x.ns
      let x := s.gpio g
      if s.ballsReleased || x.ball = high || ns / 40 * 40 < 1000 * x.filterUs then s
      else
        let s := s.setGpio g { x with ball := high }
        if x.kind ≠ 0 then s
        else
          let s := modElec (fun e => { e with edges := Tab.modify 0 e.edges (g / 8) fun n => (n + 1) % 256 }) s
          if (x.edge.testBit 0 && high) || (x.edge.testBit 1 && !high) then fireChannel x.channel s else s))) ∧
  (∀ (t : Nat) (g : Fin 32) (s₀ : State), exec (.gpioPulseEnd t g) s₀ = .next (s₀.ends (
      let s : State := s₀.begin t
      let g : Nat := g.val
      let x := s.gpio g
      match x.pulseUntil with
      | some u => if u ≤ s.now then s.setGpio g { x with driven := x.level, pulseUntil := none } else s
      | none => s))) ∧
  (∀ (t : Nat) (speed : Fin 6) (width : Fin 9) (payload : Fin 3) (s₀ : State), exec (.hostLinkUp t speed width payload) s₀ = .next (s₀.ends (
      let s : State := s₀.begin t
      let speed : Nat := speed.val
      let width : Nat := width.val
      let payload : Nat := payload.val
      if s.modes.perst || s.mode = .sentry || s.modes.por || s.modes.pinHeld then s
      else modHost (fun h => { h with up := true, configReady := true, speed := speed, width := width, maxPayload := 128 * 2 ^ payload }) s))) ∧
  (∀ (t : Nat) (c : Fin 2) (s₀ : State), exec (.vidSettled t c) s₀ = .next (s₀.ends (
      let s : State := s₀.begin t
      let c : Nat := c.val
      let done := fun (x : Option Nat) => match x with
        | some u => if u + 15000 ≤ s.now then none else x
        | none => none
      if c = 0 then { s with modes := { s.modes with vidRaised0 := done s.modes.vidRaised0 } }
      else { s with modes := { s.modes with vidRaised1 := done s.modes.vidRaised1 } }))) ∧
  (∀ (t : Nat) (ins : TapInstr) (s₀ : State), exec (.testAccessInstruction t ins) s₀ = .next (s₀.ends (
      let s : State := s₀.begin t
      let i : TapInstr := ins
      let taken := match i with
        | .other _ => if s.sys.grantDebug then i else .bypass
        | _ => i
      let s := modElec (fun e => { e with tap := taken }) s
      if taken = .idcode then send .bus 3 1 (le 4 0x112967AB) s else s)))
end

