-- ==== Sys2Proof/Laws/Bits.lean ====
section
/-!
SUPPORT. Sys2Proof/Laws/Bits.lean: little-endian fields within a run of bytes, and 48-bit positions.
-/
namespace Sys2Proof.Machine

@[simp] theorem le_length (n x : Nat) : (le n x).length = n := by
  induction n generalizing x with
  | zero => rfl
  | succ n ih => simp [le, ih]

/-- The number that its bytes spell. -/
theorem ofLe_le (n x : Nat) : ofLe (le n x) = x % 256 ^ n := by
  induction n generalizing x with
  | zero => simp [le, ofLe, Nat.mod_one]
  | succ n ih =>
    rw [le, ofLe, ih]
    have := Nat.mod_mul (x := x) (a := 256) (b := 256 ^ n)
    rw [Nat.pow_succ', this]
    simp

/-- A field that starts where the bytes before it end. -/
theorem fld_append (n x : Nat) (p q : List Byte) : fld n (p ++ (le n x ++ q)) p.length = x % 256 ^ n := by
  unfold fld
  rw [List.drop_left, List.take_append_of_le_length (by rw [le_length]), List.take_of_length_le (by rw [le_length]), ofLe_le]

/-- A signed 48-bit value differs from its integer by a multiple of 2^48, and lies in its range. -/
theorem toInt48 (z : Int) : ∃ k : Int, toInt 48 (z % ((2 ^ 48 : Nat) : Int)).toNat = z + k * 281474976710656 ∧
    -140737488355328 ≤ z + k * 281474976710656 ∧ z + k * 281474976710656 < 140737488355328 := by
  unfold toInt
  norm_num
  split
  · refine ⟨-(z / 281474976710656), ?_, ?_, ?_⟩ <;> omega
  · refine ⟨-(z / 281474976710656) - 1, ?_, ?_, ?_⟩ <;> omega

/-- Wrapping is done once. -/
theorem pos48_idem (x : Int) : pos48 (pos48 x) = pos48 x := by
  obtain ⟨k, h, h1, h2⟩ := toInt48 x
  obtain ⟨j, g, g1, g2⟩ := toInt48 (x + k * 281474976710656)
  simp only [pos48, wrapInt]
  rw [h, g]; omega

end Sys2Proof.Machine
end

