-- ==== Sys2Proof/Laws/Tables.lean ====
section
/-!
SUPPORT. Sys2Proof/Laws/Tables.lean: the laws of sparse tables and byte memories: read after write, a write elsewhere, and the canonical
form, which every operation keeps.
-/
namespace Sys2Proof.Machine

variable {α : Type}

/-- What a table reads at an index is its default or an entry. -/
theorem Tab.get_default_or_entry (d : α) (t : Tab α) (i : Nat) : Tab.get d t i = d ∨ (i, Tab.get d t i) ∈ t := by
  induction t with
  | nil => exact .inl rfl
  | cons e r ih =>
    obtain ⟨j, x⟩ := e
    by_cases h : i = j
    · subst h; simp [Tab.get]
    · simp only [Tab.get, h, if_false]
      exact ih.imp id fun h => List.mem_cons_of_mem _ h

/-- A property of the default and of every entry holds of what a table reads. -/
theorem Tab.get_of_all {p : α → Prop} {d : α} {t : Tab α} (hd : p d) (ht : ∀ e ∈ t, p e.2) (i : Nat) : p (Tab.get d t i) := by
  rcases Tab.get_default_or_entry d t i with h | h
  · rwa [h]
  · exact ht _ h

/-- Read after writing an entry. -/
theorem Tab.get_put (d : α) (t : Tab α) (i : Nat) (x : α) (k : Nat) :
    Tab.get d (Tab.put t i x) k = if k = i then x else Tab.get d t k := by
  induction t with
  | nil => by_cases h : k = i <;> simp [Tab.put, Tab.get, h]
  | cons e r ih =>
    obtain ⟨j, y⟩ := e
    simp only [Tab.put]
    split
    · rename_i h; subst h; by_cases hk : k = i <;> simp [Tab.get, hk]
    · split
      · by_cases hk : k = i <;> simp [Tab.get, hk]
      · rename_i h h2
        by_cases hk : k = j
        · have : k ≠ i := by omega
          simp [Tab.get, hk, Ne.symm h]
        · simp [Tab.get, hk, ih]

theorem Tab.rising_tail {e : Nat × α} {r : Tab α} (h : Tab.rising (e :: r) = true) : Tab.rising r = true := by
  cases r with
  | nil => rfl
  | cons f r => obtain ⟨i, _⟩ := e; obtain ⟨j, y⟩ := f; simp only [Tab.rising, Bool.and_eq_true] at h; exact h.2

/-- In a rising table every later index lies above the first. -/
theorem Tab.rising_head_lt {i : Nat} {x : α} {r : Tab α} (h : Tab.rising ((i, x) :: r) = true) : ∀ e ∈ r, i < e.1 := by
  induction r generalizing i x with
  | nil => simp
  | cons f r ih =>
    obtain ⟨j, y⟩ := f
    simp only [Tab.rising, Bool.and_eq_true, decide_eq_true_eq] at h
    intro e he
    rcases List.mem_cons.1 he with rfl | he
    · exact h.1
    · exact lt_trans h.1 (ih h.2 e he)

theorem Tab.rising_cons {i : Nat} {x : α} {r : Tab α} (hr : Tab.rising r = true) (h : ∀ e ∈ r, i < e.1) :
    Tab.rising ((i, x) :: r) = true := by
  cases r with
  | nil => rfl
  | cons f r => obtain ⟨j, y⟩ := f; simp only [Tab.rising, Bool.and_eq_true, decide_eq_true_eq]; exact ⟨h (j, y) (by simp), hr⟩

/-- Read after clearing an entry. -/
theorem Tab.get_clear (d : α) (t : Tab α) (i k : Nat) :
    Tab.get d (Tab.clear t i) k = if k = i then d else Tab.get d t k := by
  induction t with
  | nil => simp [Tab.clear, Tab.get]
  | cons e r ih =>
    obtain ⟨j, y⟩ := e
    by_cases h : i = j
    · subst h
      simp only [Tab.clear, if_true, ih, Tab.get]
      by_cases hk : k = i <;> simp [hk]
    · simp only [Tab.clear, h, if_false, Tab.get, ih]
      by_cases hk : k = j
      · have : k ≠ i := by omega
        simp [hk, Ne.symm h]
      · simp [hk]

theorem Tab.mem_clear {t : Tab α} {i : Nat} {e : Nat × α} (h : e ∈ Tab.clear t i) : e ∈ t := by
  induction t with
  | nil => exact h
  | cons f r ih =>
    obtain ⟨j, y⟩ := f
    simp only [Tab.clear] at h
    split at h
    · exact List.mem_cons_of_mem _ (ih h)
    · rcases List.mem_cons.1 h with rfl | h
      · exact List.mem_cons_self
      · exact List.mem_cons_of_mem _ (ih h)

theorem Tab.mem_put {t : Tab α} {i : Nat} {x : α} {e : Nat × α} (h : e ∈ Tab.put t i x) : e = (i, x) ∨ e ∈ t := by
  induction t with
  | nil => simpa [Tab.put] using h
  | cons f r ih =>
    obtain ⟨j, y⟩ := f
    simp only [Tab.put] at h
    split at h
    · rcases List.mem_cons.1 h with h | h
      · exact .inl h
      · exact .inr (List.mem_cons_of_mem _ h)
    · split at h
      · rcases List.mem_cons.1 h with h | h
        · exact .inl h
        · exact .inr h
      · rcases List.mem_cons.1 h with h | h
        · exact .inr (h ▸ List.mem_cons_self)
        · rcases ih h with h | h
          · exact .inl h
          · exact .inr (List.mem_cons_of_mem _ h)

theorem Tab.rising_clear {t : Tab α} (ht : Tab.rising t = true) (i : Nat) : Tab.rising (Tab.clear t i) = true := by
  induction t with
  | nil => rfl
  | cons f r ih =>
    obtain ⟨j, y⟩ := f
    simp only [Tab.clear]
    split
    · exact ih (Tab.rising_tail ht)
    · exact Tab.rising_cons (ih (Tab.rising_tail ht)) fun e he => Tab.rising_head_lt ht e (Tab.mem_clear he)

theorem Tab.rising_put {t : Tab α} (ht : Tab.rising t = true) (i : Nat) (x : α) : Tab.rising (Tab.put t i x) = true := by
  induction t with
  | nil => rfl
  | cons f r ih =>
    obtain ⟨j, y⟩ := f
    simp only [Tab.put]
    split
    · rename_i h; subst h
      exact Tab.rising_cons (Tab.rising_tail ht) fun e he => Tab.rising_head_lt ht e he
    · split
      · rename_i h
        refine Tab.rising_cons ht fun e he => ?_
        rcases List.mem_cons.1 he with rfl | he
        · exact h
        · exact lt_trans h (Tab.rising_head_lt ht e he)
      · refine Tab.rising_cons (ih (Tab.rising_tail ht)) fun e he => ?_
        rcases Tab.mem_put he with rfl | he
        · show j < i; omega
        · exact Tab.rising_head_lt ht e he

/-! ### Setting an entry -/

variable [DecidableEq α]

/-- Read after write, whatever the table. -/
@[simp] theorem Tab.get_set (d : α) (t : Tab α) (i : Nat) (x : α) (k : Nat) :
    Tab.get d (Tab.set d t i x) k = if k = i then x else Tab.get d t k := by
  unfold Tab.set
  split
  · rename_i h; subst h; exact Tab.get_clear _ t i k
  · exact Tab.get_put d t i x k

/-- A write leaves every other index, whatever the defaults there. -/
theorem Tab.get_set_ne {i k : Nat} (h : k ≠ i) (d d' : α) (t : Tab α) (x : α) : Tab.get d' (Tab.set d t i x) k = Tab.get d' t k := by
  unfold Tab.set
  split
  · simp [Tab.get_clear, h]
  · simp [Tab.get_put, h]

/-- Every entry after a write is the written one or was there before. -/
theorem Tab.mem_set {d : α} {t : Tab α} {i : Nat} {x : α} {e : Nat × α} (h : e ∈ Tab.set d t i x) : e = (i, x) ∨ e ∈ t := by
  unfold Tab.set at h
  split at h
  · exact .inr (Tab.mem_clear h)
  · exact Tab.mem_put h

/-- A write keeps the canonical form. -/
theorem Tab.wf_set {d : Nat → α} {t : Tab α} (ht : Tab.wf d t = true) (i : Nat) (x : α) :
    Tab.wf d (Tab.set (d i) t i x) = true := by
  simp only [Tab.wf, Bool.and_eq_true, List.all_eq_true, decide_eq_true_eq] at ht ⊢
  unfold Tab.set
  split
  · exact ⟨Tab.rising_clear ht.1 i, fun e he => ht.2 e (Tab.mem_clear he)⟩
  · rename_i h
    refine ⟨Tab.rising_put ht.1 i x, fun e he => ?_⟩
    rcases Tab.mem_put he with rfl | he
    · exact h
    · exact ht.2 e he

/-! ### Memories -/

/-- Read after write. -/
theorem Mem.read_write (m : Mem) (a : Nat) (b : Byte) (k : Nat) :
    (m.write a b).read k = if k = a then b else m.read k := Tab.get_set _ m a b k

theorem Mem.wf_write {m : Mem} (h : m.wf = true) (a : Nat) (b : Byte) : (m.write a b).wf = true := Tab.wf_set h a b

theorem Mem.wf_writeN {m : Mem} (h : m.wf = true) (a : Nat) (bs : List Byte) : (Mem.writeN m a bs).wf = true := by
  induction bs generalizing m a with
  | nil => exact h
  | cons b bs ih => exact ih (Mem.wf_write h a b) (a + 1)

/-- A byte outside the written ones reads as before. -/
theorem Mem.read_writeN_outside (m : Mem) (a : Nat) (bs : List Byte) {k : Nat} (hk : k < a ∨ a + bs.length ≤ k) :
    (Mem.writeN m a bs).read k = m.read k := by
  induction bs generalizing m a with
  | nil => rfl
  | cons b bs ih =>
    simp only [List.length_cons] at hk
    rw [Mem.writeN, ih _ (a + 1) (by omega), Mem.read_write]
    simp; omega

/-- The written bytes are read back. -/
theorem Mem.readN_writeN (m : Mem) (a : Nat) (bs : List Byte) : Mem.readN (Mem.writeN m a bs) a bs.length = bs := by
  induction bs generalizing m a with
  | nil => rfl
  | cons b bs ih =>
    simp only [Mem.writeN, List.length_cons, Mem.readN]
    rw [ih _ (a + 1), Mem.read_writeN_outside _ (a + 1) bs (.inl (by omega)), Mem.read_write]
    simp

theorem Mem.wf_writeAll {m : Mem} (h : m.wf = true) (ws : List (Nat × Byte)) : (Mem.writeAll m ws).wf = true := by
  unfold Mem.writeAll
  induction ws generalizing m with
  | nil => exact h
  | cons w ws ih => exact ih (Mem.wf_write h w.1 w.2)

end Sys2Proof.Machine
end

