-- ==== Sys2Proof/Laws/Dram.lean ====
section
/-!
SUPPORT. Sys2Proof/Laws/Dram.lean: what the DRAM's queues can do as time passes, once for all: the channels keep everything but their queues
and what serving them counts (`DramCh.rest`).
-/
namespace Sys2Proof.Machine

/-! ### A table changed throughout -/

theorem Tab.mem_remap {α : Type} [DecidableEq α] {d : Nat → α} {f : α → α} {t : Tab α} {e : Nat × α} (h : e ∈ Tab.remap d f t) :
    ∃ x, (e.1, x) ∈ t := by
  obtain ⟨g, hg, he⟩ := List.mem_filterMap.1 h
  split at he
  · cases he
  · cases he; exact ⟨g.2, hg⟩

theorem Tab.rising_remap {α : Type} [DecidableEq α] {d : Nat → α} {f : α → α} {t : Tab α} (ht : Tab.rising t = true) :
    Tab.rising (Tab.remap d f t) = true := by
  induction t with
  | nil => rfl
  | cons e r ih =>
    obtain ⟨i, x⟩ := e
    have hr := ih (Tab.rising_tail ht)
    unfold Tab.remap at hr ⊢
    rw [List.filterMap_cons]
    dsimp only
    split
    · exact hr
    · rename_i h
      split at h
      · cases h
      · cases h
        refine Tab.rising_cons hr fun g hg => ?_
        obtain ⟨y, hy⟩ := Tab.mem_remap (d := d) (f := f) hg
        exact Tab.rising_head_lt ht (g.1, y) hy

/-- A change of every entry shows at every index, where it leaves the default as it is. -/
theorem Tab.get_remap {α : Type} [DecidableEq α] {d : α} {f : α → α} {t : Tab α} (hd : f d = d) (ht : Tab.rising t = true) (k : Nat) :
    Tab.get d (Tab.remap (fun _ => d) f t) k = f (Tab.get d t k) := by
  induction t with
  | nil => exact hd.symm
  | cons e r ih =>
    obtain ⟨i, x⟩ := e
    have hr := ih (Tab.rising_tail ht)
    have hk : k = i → Tab.get d (Tab.remap (fun _ => d) f r) k = d := fun h => by
      rcases Tab.get_default_or_entry d (Tab.remap (fun _ => d) f r) k with g | g
      · exact g
      · obtain ⟨y, hy⟩ := Tab.mem_remap g
        have := Tab.rising_head_lt ht _ hy
        simp only at this
        omega
    unfold Tab.remap at hr hk ⊢
    rw [List.filterMap_cons]
    dsimp only
    by_cases h : k = i
    · simp only [Tab.get, h, if_true]
      split
      · rename_i g
        split at g
        · rename_i gx; rw [gx, ← h]; exact hk h
        · cases g
      · rename_i g
        split at g
        · cases g
        · cases g; simp [Tab.get]
    · simp only [Tab.get, h, if_false]
      split
      · exact hr
      · rename_i g
        split at g
        · cases g
        · cases g; simp only [Tab.get, h, if_false]; exact hr

/-! ### The queues -/

theorem activate_rest (set : DramSet) (i a : Nat) (x : DramCh) : (x.activate set i a).rest = x.rest := by
  unfold DramCh.activate
  dsimp only
  split <;> rfl

theorem serve_rest (set : DramSet) (t i : Nat) (x : DramCh) : (x.serve set t i).rest = x.rest := by
  unfold DramCh.serve
  split
  · rfl
  · exact activate_rest ..

/-- d' is d but for the queues of its channels. -/
structure Queues (d d' : Dram) : Prop where
  still : { d' with chs := [], demand := [], slot := 0 } = { d with chs := [], demand := [], slot := 0 }
  rising : Tab.rising d.chs = true → Tab.rising d'.chs = true
  rest : Tab.rising d.chs = true → ∀ c, (Tab.get {} d'.chs c).rest = (Tab.get {} d.chs c).rest

theorem Queues.refl (d : Dram) : Queues d d := ⟨rfl, id, fun _ _ => rfl⟩

theorem Queues.trans {a b c : Dram} (h : Queues a b) (g : Queues b c) : Queues a c :=
  ⟨g.still.trans h.still, fun x => g.rising (h.rising x), fun x n => (g.rest (h.rising x) n).trans (h.rest x n)⟩

/-- A channel's queues change. -/
theorem queues_modify {c : Nat} {f : DramCh → DramCh} (hf : ∀ x, (f x).rest = x.rest) (d : Dram) (w : List DramSpan) (n : Nat) :
    Queues d { d with chs := Tab.modify {} d.chs c f, demand := w, slot := n } where
  still := rfl
  rising := fun h => by
    show Tab.rising (Tab.set _ _ _ _) = true
    unfold Tab.set
    split
    · exact Tab.rising_clear h c
    · exact Tab.rising_put h c _
  rest := fun _ k => by
    show (Tab.get {} (Tab.set {} d.chs c (f (Tab.get {} d.chs c))) k).rest = _
    rw [Tab.get_set]
    split
    · rename_i h; subst h; exact hf _
    · rfl

theorem queues_enqueue (now n : Nat) (d : Dram) : Queues d (Dram.enqueue now n d) := by
  induction n generalizing d with
  | zero => exact Queues.refl d
  | succ n ih =>
    unfold Dram.enqueue
    split
    · exact Queues.refl d
    · dsimp only
      split
      · refine Queues.trans ?_ (ih _)
        exact ⟨rfl, id, fun _ _ => rfl⟩
      · split
        · exact Queues.refl d
        · refine Queues.trans ?_ (ih _)
          refine queues_modify ?_ d _ d.slot
          intro y
          rfl

theorem queues_slotServed (t : Nat) (d : Dram) : Queues d (d.slotServed t) where
  still := rfl
  rising := fun h => by
    unfold Dram.slotServed
    dsimp only
    exact Tab.rising_remap h
  rest := fun h k => by
    unfold Dram.slotServed
    dsimp only
    rw [Tab.get_remap (by rfl) h]
    split
    · rfl
    · rw [serve_rest, serve_rest]

theorem queues_slots (n b : Nat) (d : Dram) : Queues d (Dram.slots b n d) := by
  induction n generalizing b d with
  | zero => exact Queues.refl d
  | succ n ih =>
    unfold Dram.slots
    dsimp only
    split
    · exact Queues.refl d
    · refine Queues.trans ?_ (ih _ _)
      refine ((queues_enqueue (b * 1000 / Config.dramRate) admitFuel d).trans (queues_slotServed (b * 1000 / Config.dramRate) _)).trans ?_
      exact ⟨rfl, id, fun _ _ => rfl⟩

/-- As time passes the DRAM's queues work, and nothing else of the controller changes. -/
theorem queues_advance (a b : Nat) (d : Dram) : Queues d (d.advance a b) := by
  unfold Dram.advance
  dsimp only
  split
  · exact Queues.refl d
  · have h := queues_slots (min ((b * Config.dramRate / 1000 + 15 - max d.slot (a * Config.dramRate / 1000)) / 16) (64 * d.waiting))
      (max d.slot (a * Config.dramRate / 1000)) d
    exact ⟨rfl, h.rising, h.rest⟩

end Sys2Proof.Machine
end

