-- ==== Sys2Proof/Laws/Lanes.lean ====
section
/-!
SUPPORT. Sys2Proof/Laws/Lanes.lean: what sending blocks on the lanes can do, once for all: the lanes' transmitters and the order of striping,
what is sent, and the free values drawn.
-/
namespace Sys2Proof.Machine

/-- t is s but for the lanes, what is sent and the free values drawn. -/
def OnlyLanes (s t : State) : Prop := ∃ l b f, t = { s with lanes := l, sent := b, sys := { s.sys with free := f } }

theorem OnlyLanes.refl (s : State) : OnlyLanes s s := ⟨s.lanes, s.sent, s.sys.free, rfl⟩

theorem OnlyLanes.trans {s t u : State} (h : OnlyLanes s t) (g : OnlyLanes t u) : OnlyLanes s u := by
  obtain ⟨l, b, f, rfl⟩ := h
  obtain ⟨l', b', f', rfl⟩ := g
  exact ⟨l', b', f', rfl⟩

/-- What sending blocks leaves of the lanes: the known links, and every lane but for its scrambler and its injections. -/
structure Sending (s t : State) : Prop where
  only : OnlyLanes s t
  up : t.lanes.up = s.lanes.up
  lit : t.lanes.lit = s.lanes.lit
  work : { t.lanes with lanes := [], rows := [] } = { s.lanes with lanes := [], rows := [] }
  rest : ∀ l, (t.lane l).rest = (s.lane l).rest
  due : (∀ e ∈ s.lanes.lanes, e.2.calDue = false) → ∀ e ∈ t.lanes.lanes, e.2.calDue = false

theorem Sending.refl (s : State) : Sending s s := ⟨OnlyLanes.refl s, rfl, rfl, rfl, fun _ => rfl, id⟩

theorem Sending.trans {s t u : State} (h : Sending s t) (g : Sending t u) : Sending s u :=
  ⟨h.only.trans g.only, g.up.trans h.up, g.lit.trans h.lit, g.work.trans h.work, fun l => (g.rest l).trans (h.rest l), fun x => g.due (h.due x)⟩

theorem setLane_lane (l : Nat) (x : Lane) (s : State) (k : Nat) : (s.setLane l x).lane k = if k = l then x else s.lane k := by
  unfold State.lane State.setLane
  by_cases h : k = l
  · subst h; simp
  · rw [if_neg h]; exact Tab.get_set_ne h ..

/-- A lane changes in its scrambler and its injections only. -/
theorem sending_setLane {l : Nat} {y : Lane} {s : State} (hy : y.rest = (s.lane l).rest) : Sending s (s.setLane l y) where
  only := ⟨_, s.sent, s.sys.free, rfl⟩
  up := rfl
  lit := rfl
  work := rfl
  rest := fun k => by
    rw [setLane_lane]
    split
    · rename_i h; subst h; exact hy
    · rfl
  due := fun h e he => by
    rcases Tab.mem_set he with rfl | he
    · exact (congrArg Lane.calDue hy).trans (Tab.get_of_all (p := fun x : Lane => x.calDue = false) rfl h l)
    · exact h e he

theorem sending_send (k : SentKind) (d c : Nat) (b : List Byte) (s : State) : Sending s (send k d c b s) :=
  ⟨⟨s.lanes, _, s.sys.free, rfl⟩, rfl, rfl, rfl, fun _ => rfl, id⟩

theorem sending_drawFree (n : Nat) (s : State) : Sending s (s.drawFree n).2 := ⟨⟨s.lanes, s.sent, _, rfl⟩, rfl, rfl, rfl, fun _ => rfl, id⟩

theorem sending_sendBlock (l : Nat) (c : Bool) (p : List Byte) (s : State) : Sending s (sendBlock l c p s) := by
  unfold sendBlock
  dsimp only
  split
  · exact Sending.refl s
  · refine Sending.trans ?_ (sending_send ..)
    have hf : ∀ b : Bool, Sending s (if b = true then s.drawFree 64 else (0, s)).2 ∧
        (if b = true then s.drawFree 64 else (0, s)).2.lane l = s.lane l := fun b => by
      cases b
      · exact ⟨Sending.refl s, rfl⟩
      · exact ⟨sending_drawFree 64 s, rfl⟩
    refine (hf _).1.trans (sending_setLane ?_)
    rw [(hf _).2]
    rfl

theorem sending_sendLayer (g : Nat) (bs : List (Bool × List Byte)) (s : State) : Sending s (sendLayer g bs s) := by
  unfold sendLayer
  split
  · rename_i h
    clear h
    induction bs generalizing s with
    | nil => exact Sending.refl s
    | cons b bs ih =>
      rw [List.foldl_cons]
      refine Sending.trans ?_ (ih _)
      refine Sending.trans (t := { s with lanes := { s.lanes with rows := _ } }) ?_ (sending_sendBlock ..)
      exact ⟨⟨_, s.sent, s.sys.free, rfl⟩, rfl, rfl, rfl, fun _ => rfl, id⟩
  · exact Sending.refl s

theorem sending_sendControl (l t : Nat) (p : List Byte) (s : State) : Sending s (sendControl l t p s) := sending_sendBlock ..

/-- The links of the groups are as they were. -/
theorem Sending.groupLink {s t : State} (h : Sending s t) (g : Nat) : groupLink g t = groupLink g s := by
  have hs : ∀ l, (t.lane l).state = (s.lane l).state := fun l => by
    show (t.lane l).rest.state = (s.lane l).rest.state
    rw [h.rest]
  unfold Machine.groupLink
  simp only [hs]

/-! ### A lane that enters a state -/

theorem only_foldl {α : Type} {f : State → α → State} (hf : ∀ s x, OnlyLanes s (f s x)) (xs : List α) (s : State) :
    OnlyLanes s (xs.foldl f s) := by
  induction xs generalizing s with
  | nil => exact OnlyLanes.refl s
  | cons x xs ih => exact (hf s x).trans (ih _)

theorem only_setLane (l : Nat) (x : Lane) (s : State) : OnlyLanes s (s.setLane l x) := ⟨_, s.sent, s.sys.free, rfl⟩

theorem only_sendRow (g t : Nat) (p : Nat → List Byte) (s : State) : OnlyLanes s (sendRow g t p s) :=
  only_foldl (fun _ _ => (sending_sendControl ..).only) _ s

theorem only_sendAlign (g : Nat) (s : State) : OnlyLanes s (sendAlign g s) :=
  OnlyLanes.trans (t := setMarks g _ s) ⟨_, s.sent, s.sys.free, rfl⟩ (only_sendRow ..)

theorem only_sendSpaced (l n t : Nat) (p : List Byte) (s : State) : OnlyLanes s (sendSpaced l n t p s) := by
  unfold sendSpaced
  dsimp only
  refine OnlyLanes.trans ?_ (sending_sendControl ..).only
  split
  · exact (only_setLane ..).trans (sending_sendControl ..).only
  · exact OnlyLanes.refl s

theorem only_sendDue (l : Nat) (s : State) : OnlyLanes s (sendDue l s) := by
  unfold sendDue
  dsimp only
  split <;> first | exact (sending_sendControl ..).only | exact only_sendSpaced .. | exact OnlyLanes.refl s

theorem only_enterLane (l : Nat) (st : LaneState) (f : Lane → Lane) (s : State) : OnlyLanes s (enterLane l st f s) :=
  (only_setLane ..).trans (only_sendDue ..)

theorem only_darkenLane (dark : Bool) (l : Nat) (s : State) : OnlyLanes s (darkenLane dark l s) := by
  unfold darkenLane
  dsimp only
  split
  · exact (only_setLane ..).trans (only_enterLane ..)
  · split
    · exact (only_setLane ..).trans (only_enterLane ..)
    · exact only_setLane ..

/-- Darkening or lighting the sensor lanes touches the lanes, what is sent and the free values only (R96, R114). -/
theorem darkenSensors_only (dark : Bool) (s : State) : OnlyLanes s (darkenSensors dark s) := by
  unfold darkenSensors
  refine only_foldl (fun s g => ?_) _ s
  dsimp only
  have h := only_foldl (fun s l => only_darkenLane dark l s) (lanesOf g) s
  split
  · exact ((h.trans (only_sendRow ..)).trans (only_sendAlign ..)).trans (only_sendRow ..)
  · exact h

end Sys2Proof.Machine
end

