-- ==== Sys2Proof/Laws/State.lean ====
section
/-!
SUPPORT. Sys2Proof/Laws/State.lean: what each update of State leaves: one lemma for every update and every field it does not touch, and what
a table reads at the index that was written and at the others.
-/
namespace Sys2Proof.Machine

/-! ### modSys -/

@[simp] theorem modSys_sys (f : Sys → Sys) (s : State) : (modSys f s).sys = f s.sys := rfl
@[simp] theorem modSys_modes (f : Sys → Sys) (s : State) : (modSys f s).modes = s.modes := rfl
@[simp] theorem modSys_frame (f : Sys → Sys) (s : State) : (modSys f s).frame = s.frame := rfl
@[simp] theorem modSys_host (f : Sys → Sys) (s : State) : (modSys f s).host = s.host := rfl
@[simp] theorem modSys_journal (f : Sys → Sys) (s : State) : (modSys f s).journal = s.journal := rfl
@[simp] theorem modSys_lanes (f : Sys → Sys) (s : State) : (modSys f s).lanes = s.lanes := rfl
@[simp] theorem modSys_ports (f : Sys → Sys) (s : State) : (modSys f s).ports = s.ports := rfl
@[simp] theorem modSys_photos (f : Sys → Sys) (s : State) : (modSys f s).photos = s.photos := rfl
@[simp] theorem modSys_pos (f : Sys → Sys) (s : State) : (modSys f s).pos = s.pos := rfl
@[simp] theorem modSys_grids (f : Sys → Sys) (s : State) : (modSys f s).grids = s.grids := rfl
@[simp] theorem modSys_ress (f : Sys → Sys) (s : State) : (modSys f s).ress = s.ress := rfl
@[simp] theorem modSys_maps (f : Sys → Sys) (s : State) : (modSys f s).maps = s.maps := rfl
@[simp] theorem modSys_stations (f : Sys → Sys) (s : State) : (modSys f s).stations = s.stations := rfl
@[simp] theorem modSys_outlets (f : Sys → Sys) (s : State) : (modSys f s).outlets = s.outlets := rfl
@[simp] theorem modSys_learns (f : Sys → Sys) (s : State) : (modSys f s).learns = s.learns := rfl
@[simp] theorem modSys_regs (f : Sys → Sys) (s : State) : (modSys f s).regs = s.regs := rfl
@[simp] theorem modSys_segs (f : Sys → Sys) (s : State) : (modSys f s).segs = s.segs := rfl
@[simp] theorem modSys_ledger (f : Sys → Sys) (s : State) : (modSys f s).ledger = s.ledger := rfl
@[simp] theorem modSys_look (f : Sys → Sys) (s : State) : (modSys f s).look = s.look := rfl
@[simp] theorem modSys_frank (f : Sys → Sys) (s : State) : (modSys f s).frank = s.frank := rfl
@[simp] theorem modSys_teller (f : Sys → Sys) (s : State) : (modSys f s).teller = s.teller := rfl
@[simp] theorem modSys_dram (f : Sys → Sys) (s : State) : (modSys f s).dram = s.dram := rfl
@[simp] theorem modSys_comp (f : Sys → Sys) (s : State) : (modSys f s).comp = s.comp := rfl
@[simp] theorem modSys_vault (f : Sys → Sys) (s : State) : (modSys f s).vault = s.vault := rfl
@[simp] theorem modSys_chain (f : Sys → Sys) (s : State) : (modSys f s).chain = s.chain := rfl
@[simp] theorem modSys_twin (f : Sys → Sys) (s : State) : (modSys f s).twin = s.twin := rfl
@[simp] theorem modSys_cal (f : Sys → Sys) (s : State) : (modSys f s).cal = s.cal := rfl
@[simp] theorem modSys_elec (f : Sys → Sys) (s : State) : (modSys f s).elec = s.elec := rfl
@[simp] theorem modSys_dramMem (f : Sys → Sys) (s : State) : (modSys f s).dramMem = s.dramMem := rfl
@[simp] theorem modSys_hostMem (f : Sys → Sys) (s : State) : (modSys f s).hostMem = s.hostMem := rfl
@[simp] theorem modSys_now (f : Sys → Sys) (s : State) : (modSys f s).now = s.now := rfl
@[simp] theorem modSys_sent (f : Sys → Sys) (s : State) : (modSys f s).sent = s.sent := rfl
@[simp] theorem modSys_pending (f : Sys → Sys) (s : State) : (modSys f s).pending = s.pending := rfl

/-! ### modCal -/

@[simp] theorem modCal_cal (f : Cal → Cal) (s : State) : (modCal f s).cal = f s.cal := rfl
@[simp] theorem modCal_sys (f : Cal → Cal) (s : State) : (modCal f s).sys = s.sys := rfl
@[simp] theorem modCal_modes (f : Cal → Cal) (s : State) : (modCal f s).modes = s.modes := rfl
@[simp] theorem modCal_frame (f : Cal → Cal) (s : State) : (modCal f s).frame = s.frame := rfl
@[simp] theorem modCal_host (f : Cal → Cal) (s : State) : (modCal f s).host = s.host := rfl
@[simp] theorem modCal_journal (f : Cal → Cal) (s : State) : (modCal f s).journal = s.journal := rfl
@[simp] theorem modCal_lanes (f : Cal → Cal) (s : State) : (modCal f s).lanes = s.lanes := rfl
@[simp] theorem modCal_ports (f : Cal → Cal) (s : State) : (modCal f s).ports = s.ports := rfl
@[simp] theorem modCal_photos (f : Cal → Cal) (s : State) : (modCal f s).photos = s.photos := rfl
@[simp] theorem modCal_pos (f : Cal → Cal) (s : State) : (modCal f s).pos = s.pos := rfl
@[simp] theorem modCal_grids (f : Cal → Cal) (s : State) : (modCal f s).grids = s.grids := rfl
@[simp] theorem modCal_ress (f : Cal → Cal) (s : State) : (modCal f s).ress = s.ress := rfl
@[simp] theorem modCal_maps (f : Cal → Cal) (s : State) : (modCal f s).maps = s.maps := rfl
@[simp] theorem modCal_stations (f : Cal → Cal) (s : State) : (modCal f s).stations = s.stations := rfl
@[simp] theorem modCal_outlets (f : Cal → Cal) (s : State) : (modCal f s).outlets = s.outlets := rfl
@[simp] theorem modCal_learns (f : Cal → Cal) (s : State) : (modCal f s).learns = s.learns := rfl
@[simp] theorem modCal_regs (f : Cal → Cal) (s : State) : (modCal f s).regs = s.regs := rfl
@[simp] theorem modCal_segs (f : Cal → Cal) (s : State) : (modCal f s).segs = s.segs := rfl
@[simp] theorem modCal_ledger (f : Cal → Cal) (s : State) : (modCal f s).ledger = s.ledger := rfl
@[simp] theorem modCal_look (f : Cal → Cal) (s : State) : (modCal f s).look = s.look := rfl
@[simp] theorem modCal_frank (f : Cal → Cal) (s : State) : (modCal f s).frank = s.frank := rfl
@[simp] theorem modCal_teller (f : Cal → Cal) (s : State) : (modCal f s).teller = s.teller := rfl
@[simp] theorem modCal_dram (f : Cal → Cal) (s : State) : (modCal f s).dram = s.dram := rfl
@[simp] theorem modCal_comp (f : Cal → Cal) (s : State) : (modCal f s).comp = s.comp := rfl
@[simp] theorem modCal_vault (f : Cal → Cal) (s : State) : (modCal f s).vault = s.vault := rfl
@[simp] theorem modCal_chain (f : Cal → Cal) (s : State) : (modCal f s).chain = s.chain := rfl
@[simp] theorem modCal_twin (f : Cal → Cal) (s : State) : (modCal f s).twin = s.twin := rfl
@[simp] theorem modCal_elec (f : Cal → Cal) (s : State) : (modCal f s).elec = s.elec := rfl
@[simp] theorem modCal_dramMem (f : Cal → Cal) (s : State) : (modCal f s).dramMem = s.dramMem := rfl
@[simp] theorem modCal_hostMem (f : Cal → Cal) (s : State) : (modCal f s).hostMem = s.hostMem := rfl
@[simp] theorem modCal_now (f : Cal → Cal) (s : State) : (modCal f s).now = s.now := rfl
@[simp] theorem modCal_sent (f : Cal → Cal) (s : State) : (modCal f s).sent = s.sent := rfl
@[simp] theorem modCal_pending (f : Cal → Cal) (s : State) : (modCal f s).pending = s.pending := rfl

/-! ### modChain -/

@[simp] theorem modChain_chain (f : Chain → Chain) (s : State) : (modChain f s).chain = f s.chain := rfl
@[simp] theorem modChain_sys (f : Chain → Chain) (s : State) : (modChain f s).sys = s.sys := rfl
@[simp] theorem modChain_modes (f : Chain → Chain) (s : State) : (modChain f s).modes = s.modes := rfl
@[simp] theorem modChain_frame (f : Chain → Chain) (s : State) : (modChain f s).frame = s.frame := rfl
@[simp] theorem modChain_host (f : Chain → Chain) (s : State) : (modChain f s).host = s.host := rfl
@[simp] theorem modChain_journal (f : Chain → Chain) (s : State) : (modChain f s).journal = s.journal := rfl
@[simp] theorem modChain_lanes (f : Chain → Chain) (s : State) : (modChain f s).lanes = s.lanes := rfl
@[simp] theorem modChain_ports (f : Chain → Chain) (s : State) : (modChain f s).ports = s.ports := rfl
@[simp] theorem modChain_photos (f : Chain → Chain) (s : State) : (modChain f s).photos = s.photos := rfl
@[simp] theorem modChain_pos (f : Chain → Chain) (s : State) : (modChain f s).pos = s.pos := rfl
@[simp] theorem modChain_grids (f : Chain → Chain) (s : State) : (modChain f s).grids = s.grids := rfl
@[simp] theorem modChain_ress (f : Chain → Chain) (s : State) : (modChain f s).ress = s.ress := rfl
@[simp] theorem modChain_maps (f : Chain → Chain) (s : State) : (modChain f s).maps = s.maps := rfl
@[simp] theorem modChain_stations (f : Chain → Chain) (s : State) : (modChain f s).stations = s.stations := rfl
@[simp] theorem modChain_outlets (f : Chain → Chain) (s : State) : (modChain f s).outlets = s.outlets := rfl
@[simp] theorem modChain_learns (f : Chain → Chain) (s : State) : (modChain f s).learns = s.learns := rfl
@[simp] theorem modChain_regs (f : Chain → Chain) (s : State) : (modChain f s).regs = s.regs := rfl
@[simp] theorem modChain_segs (f : Chain → Chain) (s : State) : (modChain f s).segs = s.segs := rfl
@[simp] theorem modChain_ledger (f : Chain → Chain) (s : State) : (modChain f s).ledger = s.ledger := rfl
@[simp] theorem modChain_look (f : Chain → Chain) (s : State) : (modChain f s).look = s.look := rfl
@[simp] theorem modChain_frank (f : Chain → Chain) (s : State) : (modChain f s).frank = s.frank := rfl
@[simp] theorem modChain_teller (f : Chain → Chain) (s : State) : (modChain f s).teller = s.teller := rfl
@[simp] theorem modChain_dram (f : Chain → Chain) (s : State) : (modChain f s).dram = s.dram := rfl
@[simp] theorem modChain_comp (f : Chain → Chain) (s : State) : (modChain f s).comp = s.comp := rfl
@[simp] theorem modChain_vault (f : Chain → Chain) (s : State) : (modChain f s).vault = s.vault := rfl
@[simp] theorem modChain_twin (f : Chain → Chain) (s : State) : (modChain f s).twin = s.twin := rfl
@[simp] theorem modChain_cal (f : Chain → Chain) (s : State) : (modChain f s).cal = s.cal := rfl
@[simp] theorem modChain_elec (f : Chain → Chain) (s : State) : (modChain f s).elec = s.elec := rfl
@[simp] theorem modChain_dramMem (f : Chain → Chain) (s : State) : (modChain f s).dramMem = s.dramMem := rfl
@[simp] theorem modChain_hostMem (f : Chain → Chain) (s : State) : (modChain f s).hostMem = s.hostMem := rfl
@[simp] theorem modChain_now (f : Chain → Chain) (s : State) : (modChain f s).now = s.now := rfl
@[simp] theorem modChain_sent (f : Chain → Chain) (s : State) : (modChain f s).sent = s.sent := rfl
@[simp] theorem modChain_pending (f : Chain → Chain) (s : State) : (modChain f s).pending = s.pending := rfl

/-! ### modComp -/

@[simp] theorem modComp_comp (f : Comp → Comp) (s : State) : (modComp f s).comp = f s.comp := rfl
@[simp] theorem modComp_sys (f : Comp → Comp) (s : State) : (modComp f s).sys = s.sys := rfl
@[simp] theorem modComp_modes (f : Comp → Comp) (s : State) : (modComp f s).modes = s.modes := rfl
@[simp] theorem modComp_frame (f : Comp → Comp) (s : State) : (modComp f s).frame = s.frame := rfl
@[simp] theorem modComp_host (f : Comp → Comp) (s : State) : (modComp f s).host = s.host := rfl
@[simp] theorem modComp_journal (f : Comp → Comp) (s : State) : (modComp f s).journal = s.journal := rfl
@[simp] theorem modComp_lanes (f : Comp → Comp) (s : State) : (modComp f s).lanes = s.lanes := rfl
@[simp] theorem modComp_ports (f : Comp → Comp) (s : State) : (modComp f s).ports = s.ports := rfl
@[simp] theorem modComp_photos (f : Comp → Comp) (s : State) : (modComp f s).photos = s.photos := rfl
@[simp] theorem modComp_pos (f : Comp → Comp) (s : State) : (modComp f s).pos = s.pos := rfl
@[simp] theorem modComp_grids (f : Comp → Comp) (s : State) : (modComp f s).grids = s.grids := rfl
@[simp] theorem modComp_ress (f : Comp → Comp) (s : State) : (modComp f s).ress = s.ress := rfl
@[simp] theorem modComp_maps (f : Comp → Comp) (s : State) : (modComp f s).maps = s.maps := rfl
@[simp] theorem modComp_stations (f : Comp → Comp) (s : State) : (modComp f s).stations = s.stations := rfl
@[simp] theorem modComp_outlets (f : Comp → Comp) (s : State) : (modComp f s).outlets = s.outlets := rfl
@[simp] theorem modComp_learns (f : Comp → Comp) (s : State) : (modComp f s).learns = s.learns := rfl
@[simp] theorem modComp_regs (f : Comp → Comp) (s : State) : (modComp f s).regs = s.regs := rfl
@[simp] theorem modComp_segs (f : Comp → Comp) (s : State) : (modComp f s).segs = s.segs := rfl
@[simp] theorem modComp_ledger (f : Comp → Comp) (s : State) : (modComp f s).ledger = s.ledger := rfl
@[simp] theorem modComp_look (f : Comp → Comp) (s : State) : (modComp f s).look = s.look := rfl
@[simp] theorem modComp_frank (f : Comp → Comp) (s : State) : (modComp f s).frank = s.frank := rfl
@[simp] theorem modComp_teller (f : Comp → Comp) (s : State) : (modComp f s).teller = s.teller := rfl
@[simp] theorem modComp_dram (f : Comp → Comp) (s : State) : (modComp f s).dram = s.dram := rfl
@[simp] theorem modComp_vault (f : Comp → Comp) (s : State) : (modComp f s).vault = s.vault := rfl
@[simp] theorem modComp_chain (f : Comp → Comp) (s : State) : (modComp f s).chain = s.chain := rfl
@[simp] theorem modComp_twin (f : Comp → Comp) (s : State) : (modComp f s).twin = s.twin := rfl
@[simp] theorem modComp_cal (f : Comp → Comp) (s : State) : (modComp f s).cal = s.cal := rfl
@[simp] theorem modComp_elec (f : Comp → Comp) (s : State) : (modComp f s).elec = s.elec := rfl
@[simp] theorem modComp_dramMem (f : Comp → Comp) (s : State) : (modComp f s).dramMem = s.dramMem := rfl
@[simp] theorem modComp_hostMem (f : Comp → Comp) (s : State) : (modComp f s).hostMem = s.hostMem := rfl
@[simp] theorem modComp_now (f : Comp → Comp) (s : State) : (modComp f s).now = s.now := rfl
@[simp] theorem modComp_sent (f : Comp → Comp) (s : State) : (modComp f s).sent = s.sent := rfl
@[simp] theorem modComp_pending (f : Comp → Comp) (s : State) : (modComp f s).pending = s.pending := rfl

/-! ### modDram -/

@[simp] theorem modDram_dram (f : Dram → Dram) (s : State) : (modDram f s).dram = f s.dram := rfl
@[simp] theorem modDram_sys (f : Dram → Dram) (s : State) : (modDram f s).sys = s.sys := rfl
@[simp] theorem modDram_modes (f : Dram → Dram) (s : State) : (modDram f s).modes = s.modes := rfl
@[simp] theorem modDram_frame (f : Dram → Dram) (s : State) : (modDram f s).frame = s.frame := rfl
@[simp] theorem modDram_host (f : Dram → Dram) (s : State) : (modDram f s).host = s.host := rfl
@[simp] theorem modDram_journal (f : Dram → Dram) (s : State) : (modDram f s).journal = s.journal := rfl
@[simp] theorem modDram_lanes (f : Dram → Dram) (s : State) : (modDram f s).lanes = s.lanes := rfl
@[simp] theorem modDram_ports (f : Dram → Dram) (s : State) : (modDram f s).ports = s.ports := rfl
@[simp] theorem modDram_photos (f : Dram → Dram) (s : State) : (modDram f s).photos = s.photos := rfl
@[simp] theorem modDram_pos (f : Dram → Dram) (s : State) : (modDram f s).pos = s.pos := rfl
@[simp] theorem modDram_grids (f : Dram → Dram) (s : State) : (modDram f s).grids = s.grids := rfl
@[simp] theorem modDram_ress (f : Dram → Dram) (s : State) : (modDram f s).ress = s.ress := rfl
@[simp] theorem modDram_maps (f : Dram → Dram) (s : State) : (modDram f s).maps = s.maps := rfl
@[simp] theorem modDram_stations (f : Dram → Dram) (s : State) : (modDram f s).stations = s.stations := rfl
@[simp] theorem modDram_outlets (f : Dram → Dram) (s : State) : (modDram f s).outlets = s.outlets := rfl
@[simp] theorem modDram_learns (f : Dram → Dram) (s : State) : (modDram f s).learns = s.learns := rfl
@[simp] theorem modDram_regs (f : Dram → Dram) (s : State) : (modDram f s).regs = s.regs := rfl
@[simp] theorem modDram_segs (f : Dram → Dram) (s : State) : (modDram f s).segs = s.segs := rfl
@[simp] theorem modDram_ledger (f : Dram → Dram) (s : State) : (modDram f s).ledger = s.ledger := rfl
@[simp] theorem modDram_look (f : Dram → Dram) (s : State) : (modDram f s).look = s.look := rfl
@[simp] theorem modDram_frank (f : Dram → Dram) (s : State) : (modDram f s).frank = s.frank := rfl
@[simp] theorem modDram_teller (f : Dram → Dram) (s : State) : (modDram f s).teller = s.teller := rfl
@[simp] theorem modDram_comp (f : Dram → Dram) (s : State) : (modDram f s).comp = s.comp := rfl
@[simp] theorem modDram_vault (f : Dram → Dram) (s : State) : (modDram f s).vault = s.vault := rfl
@[simp] theorem modDram_chain (f : Dram → Dram) (s : State) : (modDram f s).chain = s.chain := rfl
@[simp] theorem modDram_twin (f : Dram → Dram) (s : State) : (modDram f s).twin = s.twin := rfl
@[simp] theorem modDram_cal (f : Dram → Dram) (s : State) : (modDram f s).cal = s.cal := rfl
@[simp] theorem modDram_elec (f : Dram → Dram) (s : State) : (modDram f s).elec = s.elec := rfl
@[simp] theorem modDram_dramMem (f : Dram → Dram) (s : State) : (modDram f s).dramMem = s.dramMem := rfl
@[simp] theorem modDram_hostMem (f : Dram → Dram) (s : State) : (modDram f s).hostMem = s.hostMem := rfl
@[simp] theorem modDram_now (f : Dram → Dram) (s : State) : (modDram f s).now = s.now := rfl
@[simp] theorem modDram_sent (f : Dram → Dram) (s : State) : (modDram f s).sent = s.sent := rfl
@[simp] theorem modDram_pending (f : Dram → Dram) (s : State) : (modDram f s).pending = s.pending := rfl

/-! ### modFrame -/

@[simp] theorem modFrame_frame (f : Frame → Frame) (s : State) : (modFrame f s).frame = f s.frame := rfl
@[simp] theorem modFrame_sys (f : Frame → Frame) (s : State) : (modFrame f s).sys = s.sys := rfl
@[simp] theorem modFrame_modes (f : Frame → Frame) (s : State) : (modFrame f s).modes = s.modes := rfl
@[simp] theorem modFrame_host (f : Frame → Frame) (s : State) : (modFrame f s).host = s.host := rfl
@[simp] theorem modFrame_journal (f : Frame → Frame) (s : State) : (modFrame f s).journal = s.journal := rfl
@[simp] theorem modFrame_lanes (f : Frame → Frame) (s : State) : (modFrame f s).lanes = s.lanes := rfl
@[simp] theorem modFrame_ports (f : Frame → Frame) (s : State) : (modFrame f s).ports = s.ports := rfl
@[simp] theorem modFrame_photos (f : Frame → Frame) (s : State) : (modFrame f s).photos = s.photos := rfl
@[simp] theorem modFrame_pos (f : Frame → Frame) (s : State) : (modFrame f s).pos = s.pos := rfl
@[simp] theorem modFrame_grids (f : Frame → Frame) (s : State) : (modFrame f s).grids = s.grids := rfl
@[simp] theorem modFrame_ress (f : Frame → Frame) (s : State) : (modFrame f s).ress = s.ress := rfl
@[simp] theorem modFrame_maps (f : Frame → Frame) (s : State) : (modFrame f s).maps = s.maps := rfl
@[simp] theorem modFrame_stations (f : Frame → Frame) (s : State) : (modFrame f s).stations = s.stations := rfl
@[simp] theorem modFrame_outlets (f : Frame → Frame) (s : State) : (modFrame f s).outlets = s.outlets := rfl
@[simp] theorem modFrame_learns (f : Frame → Frame) (s : State) : (modFrame f s).learns = s.learns := rfl
@[simp] theorem modFrame_regs (f : Frame → Frame) (s : State) : (modFrame f s).regs = s.regs := rfl
@[simp] theorem modFrame_segs (f : Frame → Frame) (s : State) : (modFrame f s).segs = s.segs := rfl
@[simp] theorem modFrame_ledger (f : Frame → Frame) (s : State) : (modFrame f s).ledger = s.ledger := rfl
@[simp] theorem modFrame_look (f : Frame → Frame) (s : State) : (modFrame f s).look = s.look := rfl
@[simp] theorem modFrame_frank (f : Frame → Frame) (s : State) : (modFrame f s).frank = s.frank := rfl
@[simp] theorem modFrame_teller (f : Frame → Frame) (s : State) : (modFrame f s).teller = s.teller := rfl
@[simp] theorem modFrame_dram (f : Frame → Frame) (s : State) : (modFrame f s).dram = s.dram := rfl
@[simp] theorem modFrame_comp (f : Frame → Frame) (s : State) : (modFrame f s).comp = s.comp := rfl
@[simp] theorem modFrame_vault (f : Frame → Frame) (s : State) : (modFrame f s).vault = s.vault := rfl
@[simp] theorem modFrame_chain (f : Frame → Frame) (s : State) : (modFrame f s).chain = s.chain := rfl
@[simp] theorem modFrame_twin (f : Frame → Frame) (s : State) : (modFrame f s).twin = s.twin := rfl
@[simp] theorem modFrame_cal (f : Frame → Frame) (s : State) : (modFrame f s).cal = s.cal := rfl
@[simp] theorem modFrame_elec (f : Frame → Frame) (s : State) : (modFrame f s).elec = s.elec := rfl
@[simp] theorem modFrame_dramMem (f : Frame → Frame) (s : State) : (modFrame f s).dramMem = s.dramMem := rfl
@[simp] theorem modFrame_hostMem (f : Frame → Frame) (s : State) : (modFrame f s).hostMem = s.hostMem := rfl
@[simp] theorem modFrame_now (f : Frame → Frame) (s : State) : (modFrame f s).now = s.now := rfl
@[simp] theorem modFrame_sent (f : Frame → Frame) (s : State) : (modFrame f s).sent = s.sent := rfl
@[simp] theorem modFrame_pending (f : Frame → Frame) (s : State) : (modFrame f s).pending = s.pending := rfl

/-! ### modFrank -/

@[simp] theorem modFrank_frank (f : Frank → Frank) (s : State) : (modFrank f s).frank = f s.frank := rfl
@[simp] theorem modFrank_sys (f : Frank → Frank) (s : State) : (modFrank f s).sys = s.sys := rfl
@[simp] theorem modFrank_modes (f : Frank → Frank) (s : State) : (modFrank f s).modes = s.modes := rfl
@[simp] theorem modFrank_frame (f : Frank → Frank) (s : State) : (modFrank f s).frame = s.frame := rfl
@[simp] theorem modFrank_host (f : Frank → Frank) (s : State) : (modFrank f s).host = s.host := rfl
@[simp] theorem modFrank_journal (f : Frank → Frank) (s : State) : (modFrank f s).journal = s.journal := rfl
@[simp] theorem modFrank_lanes (f : Frank → Frank) (s : State) : (modFrank f s).lanes = s.lanes := rfl
@[simp] theorem modFrank_ports (f : Frank → Frank) (s : State) : (modFrank f s).ports = s.ports := rfl
@[simp] theorem modFrank_photos (f : Frank → Frank) (s : State) : (modFrank f s).photos = s.photos := rfl
@[simp] theorem modFrank_pos (f : Frank → Frank) (s : State) : (modFrank f s).pos = s.pos := rfl
@[simp] theorem modFrank_grids (f : Frank → Frank) (s : State) : (modFrank f s).grids = s.grids := rfl
@[simp] theorem modFrank_ress (f : Frank → Frank) (s : State) : (modFrank f s).ress = s.ress := rfl
@[simp] theorem modFrank_maps (f : Frank → Frank) (s : State) : (modFrank f s).maps = s.maps := rfl
@[simp] theorem modFrank_stations (f : Frank → Frank) (s : State) : (modFrank f s).stations = s.stations := rfl
@[simp] theorem modFrank_outlets (f : Frank → Frank) (s : State) : (modFrank f s).outlets = s.outlets := rfl
@[simp] theorem modFrank_learns (f : Frank → Frank) (s : State) : (modFrank f s).learns = s.learns := rfl
@[simp] theorem modFrank_regs (f : Frank → Frank) (s : State) : (modFrank f s).regs = s.regs := rfl
@[simp] theorem modFrank_segs (f : Frank → Frank) (s : State) : (modFrank f s).segs = s.segs := rfl
@[simp] theorem modFrank_ledger (f : Frank → Frank) (s : State) : (modFrank f s).ledger = s.ledger := rfl
@[simp] theorem modFrank_look (f : Frank → Frank) (s : State) : (modFrank f s).look = s.look := rfl
@[simp] theorem modFrank_teller (f : Frank → Frank) (s : State) : (modFrank f s).teller = s.teller := rfl
@[simp] theorem modFrank_dram (f : Frank → Frank) (s : State) : (modFrank f s).dram = s.dram := rfl
@[simp] theorem modFrank_comp (f : Frank → Frank) (s : State) : (modFrank f s).comp = s.comp := rfl
@[simp] theorem modFrank_vault (f : Frank → Frank) (s : State) : (modFrank f s).vault = s.vault := rfl
@[simp] theorem modFrank_chain (f : Frank → Frank) (s : State) : (modFrank f s).chain = s.chain := rfl
@[simp] theorem modFrank_twin (f : Frank → Frank) (s : State) : (modFrank f s).twin = s.twin := rfl
@[simp] theorem modFrank_cal (f : Frank → Frank) (s : State) : (modFrank f s).cal = s.cal := rfl
@[simp] theorem modFrank_elec (f : Frank → Frank) (s : State) : (modFrank f s).elec = s.elec := rfl
@[simp] theorem modFrank_dramMem (f : Frank → Frank) (s : State) : (modFrank f s).dramMem = s.dramMem := rfl
@[simp] theorem modFrank_hostMem (f : Frank → Frank) (s : State) : (modFrank f s).hostMem = s.hostMem := rfl
@[simp] theorem modFrank_now (f : Frank → Frank) (s : State) : (modFrank f s).now = s.now := rfl
@[simp] theorem modFrank_sent (f : Frank → Frank) (s : State) : (modFrank f s).sent = s.sent := rfl
@[simp] theorem modFrank_pending (f : Frank → Frank) (s : State) : (modFrank f s).pending = s.pending := rfl

/-! ### modHost -/

@[simp] theorem modHost_host (f : HostLink → HostLink) (s : State) : (modHost f s).host = f s.host := rfl
@[simp] theorem modHost_sys (f : HostLink → HostLink) (s : State) : (modHost f s).sys = s.sys := rfl
@[simp] theorem modHost_modes (f : HostLink → HostLink) (s : State) : (modHost f s).modes = s.modes := rfl
@[simp] theorem modHost_frame (f : HostLink → HostLink) (s : State) : (modHost f s).frame = s.frame := rfl
@[simp] theorem modHost_journal (f : HostLink → HostLink) (s : State) : (modHost f s).journal = s.journal := rfl
@[simp] theorem modHost_lanes (f : HostLink → HostLink) (s : State) : (modHost f s).lanes = s.lanes := rfl
@[simp] theorem modHost_ports (f : HostLink → HostLink) (s : State) : (modHost f s).ports = s.ports := rfl
@[simp] theorem modHost_photos (f : HostLink → HostLink) (s : State) : (modHost f s).photos = s.photos := rfl
@[simp] theorem modHost_pos (f : HostLink → HostLink) (s : State) : (modHost f s).pos = s.pos := rfl
@[simp] theorem modHost_grids (f : HostLink → HostLink) (s : State) : (modHost f s).grids = s.grids := rfl
@[simp] theorem modHost_ress (f : HostLink → HostLink) (s : State) : (modHost f s).ress = s.ress := rfl
@[simp] theorem modHost_maps (f : HostLink → HostLink) (s : State) : (modHost f s).maps = s.maps := rfl
@[simp] theorem modHost_stations (f : HostLink → HostLink) (s : State) : (modHost f s).stations = s.stations := rfl
@[simp] theorem modHost_outlets (f : HostLink → HostLink) (s : State) : (modHost f s).outlets = s.outlets := rfl
@[simp] theorem modHost_learns (f : HostLink → HostLink) (s : State) : (modHost f s).learns = s.learns := rfl
@[simp] theorem modHost_regs (f : HostLink → HostLink) (s : State) : (modHost f s).regs = s.regs := rfl
@[simp] theorem modHost_segs (f : HostLink → HostLink) (s : State) : (modHost f s).segs = s.segs := rfl
@[simp] theorem modHost_ledger (f : HostLink → HostLink) (s : State) : (modHost f s).ledger = s.ledger := rfl
@[simp] theorem modHost_look (f : HostLink → HostLink) (s : State) : (modHost f s).look = s.look := rfl
@[simp] theorem modHost_frank (f : HostLink → HostLink) (s : State) : (modHost f s).frank = s.frank := rfl
@[simp] theorem modHost_teller (f : HostLink → HostLink) (s : State) : (modHost f s).teller = s.teller := rfl
@[simp] theorem modHost_dram (f : HostLink → HostLink) (s : State) : (modHost f s).dram = s.dram := rfl
@[simp] theorem modHost_comp (f : HostLink → HostLink) (s : State) : (modHost f s).comp = s.comp := rfl
@[simp] theorem modHost_vault (f : HostLink → HostLink) (s : State) : (modHost f s).vault = s.vault := rfl
@[simp] theorem modHost_chain (f : HostLink → HostLink) (s : State) : (modHost f s).chain = s.chain := rfl
@[simp] theorem modHost_twin (f : HostLink → HostLink) (s : State) : (modHost f s).twin = s.twin := rfl
@[simp] theorem modHost_cal (f : HostLink → HostLink) (s : State) : (modHost f s).cal = s.cal := rfl
@[simp] theorem modHost_elec (f : HostLink → HostLink) (s : State) : (modHost f s).elec = s.elec := rfl
@[simp] theorem modHost_dramMem (f : HostLink → HostLink) (s : State) : (modHost f s).dramMem = s.dramMem := rfl
@[simp] theorem modHost_hostMem (f : HostLink → HostLink) (s : State) : (modHost f s).hostMem = s.hostMem := rfl
@[simp] theorem modHost_now (f : HostLink → HostLink) (s : State) : (modHost f s).now = s.now := rfl
@[simp] theorem modHost_sent (f : HostLink → HostLink) (s : State) : (modHost f s).sent = s.sent := rfl
@[simp] theorem modHost_pending (f : HostLink → HostLink) (s : State) : (modHost f s).pending = s.pending := rfl

/-! ### modTwin -/

@[simp] theorem modTwin_twin (f : Twin → Twin) (s : State) : (modTwin f s).twin = f s.twin := rfl
@[simp] theorem modTwin_sys (f : Twin → Twin) (s : State) : (modTwin f s).sys = s.sys := rfl
@[simp] theorem modTwin_modes (f : Twin → Twin) (s : State) : (modTwin f s).modes = s.modes := rfl
@[simp] theorem modTwin_frame (f : Twin → Twin) (s : State) : (modTwin f s).frame = s.frame := rfl
@[simp] theorem modTwin_host (f : Twin → Twin) (s : State) : (modTwin f s).host = s.host := rfl
@[simp] theorem modTwin_journal (f : Twin → Twin) (s : State) : (modTwin f s).journal = s.journal := rfl
@[simp] theorem modTwin_lanes (f : Twin → Twin) (s : State) : (modTwin f s).lanes = s.lanes := rfl
@[simp] theorem modTwin_ports (f : Twin → Twin) (s : State) : (modTwin f s).ports = s.ports := rfl
@[simp] theorem modTwin_photos (f : Twin → Twin) (s : State) : (modTwin f s).photos = s.photos := rfl
@[simp] theorem modTwin_pos (f : Twin → Twin) (s : State) : (modTwin f s).pos = s.pos := rfl
@[simp] theorem modTwin_grids (f : Twin → Twin) (s : State) : (modTwin f s).grids = s.grids := rfl
@[simp] theorem modTwin_ress (f : Twin → Twin) (s : State) : (modTwin f s).ress = s.ress := rfl
@[simp] theorem modTwin_maps (f : Twin → Twin) (s : State) : (modTwin f s).maps = s.maps := rfl
@[simp] theorem modTwin_stations (f : Twin → Twin) (s : State) : (modTwin f s).stations = s.stations := rfl
@[simp] theorem modTwin_outlets (f : Twin → Twin) (s : State) : (modTwin f s).outlets = s.outlets := rfl
@[simp] theorem modTwin_learns (f : Twin → Twin) (s : State) : (modTwin f s).learns = s.learns := rfl
@[simp] theorem modTwin_regs (f : Twin → Twin) (s : State) : (modTwin f s).regs = s.regs := rfl
@[simp] theorem modTwin_segs (f : Twin → Twin) (s : State) : (modTwin f s).segs = s.segs := rfl
@[simp] theorem modTwin_ledger (f : Twin → Twin) (s : State) : (modTwin f s).ledger = s.ledger := rfl
@[simp] theorem modTwin_look (f : Twin → Twin) (s : State) : (modTwin f s).look = s.look := rfl
@[simp] theorem modTwin_frank (f : Twin → Twin) (s : State) : (modTwin f s).frank = s.frank := rfl
@[simp] theorem modTwin_teller (f : Twin → Twin) (s : State) : (modTwin f s).teller = s.teller := rfl
@[simp] theorem modTwin_dram (f : Twin → Twin) (s : State) : (modTwin f s).dram = s.dram := rfl
@[simp] theorem modTwin_comp (f : Twin → Twin) (s : State) : (modTwin f s).comp = s.comp := rfl
@[simp] theorem modTwin_vault (f : Twin → Twin) (s : State) : (modTwin f s).vault = s.vault := rfl
@[simp] theorem modTwin_chain (f : Twin → Twin) (s : State) : (modTwin f s).chain = s.chain := rfl
@[simp] theorem modTwin_cal (f : Twin → Twin) (s : State) : (modTwin f s).cal = s.cal := rfl
@[simp] theorem modTwin_elec (f : Twin → Twin) (s : State) : (modTwin f s).elec = s.elec := rfl
@[simp] theorem modTwin_dramMem (f : Twin → Twin) (s : State) : (modTwin f s).dramMem = s.dramMem := rfl
@[simp] theorem modTwin_hostMem (f : Twin → Twin) (s : State) : (modTwin f s).hostMem = s.hostMem := rfl
@[simp] theorem modTwin_now (f : Twin → Twin) (s : State) : (modTwin f s).now = s.now := rfl
@[simp] theorem modTwin_sent (f : Twin → Twin) (s : State) : (modTwin f s).sent = s.sent := rfl
@[simp] theorem modTwin_pending (f : Twin → Twin) (s : State) : (modTwin f s).pending = s.pending := rfl

/-! ### modModes -/

@[simp] theorem modModes_modes (f : Modes → Modes) (s : State) : (modModes f s).modes = f s.modes := rfl
@[simp] theorem modModes_sys (f : Modes → Modes) (s : State) : (modModes f s).sys = s.sys := rfl
@[simp] theorem modModes_frame (f : Modes → Modes) (s : State) : (modModes f s).frame = s.frame := rfl
@[simp] theorem modModes_host (f : Modes → Modes) (s : State) : (modModes f s).host = s.host := rfl
@[simp] theorem modModes_journal (f : Modes → Modes) (s : State) : (modModes f s).journal = s.journal := rfl
@[simp] theorem modModes_lanes (f : Modes → Modes) (s : State) : (modModes f s).lanes = s.lanes := rfl
@[simp] theorem modModes_ports (f : Modes → Modes) (s : State) : (modModes f s).ports = s.ports := rfl
@[simp] theorem modModes_photos (f : Modes → Modes) (s : State) : (modModes f s).photos = s.photos := rfl
@[simp] theorem modModes_pos (f : Modes → Modes) (s : State) : (modModes f s).pos = s.pos := rfl
@[simp] theorem modModes_grids (f : Modes → Modes) (s : State) : (modModes f s).grids = s.grids := rfl
@[simp] theorem modModes_ress (f : Modes → Modes) (s : State) : (modModes f s).ress = s.ress := rfl
@[simp] theorem modModes_maps (f : Modes → Modes) (s : State) : (modModes f s).maps = s.maps := rfl
@[simp] theorem modModes_stations (f : Modes → Modes) (s : State) : (modModes f s).stations = s.stations := rfl
@[simp] theorem modModes_outlets (f : Modes → Modes) (s : State) : (modModes f s).outlets = s.outlets := rfl
@[simp] theorem modModes_learns (f : Modes → Modes) (s : State) : (modModes f s).learns = s.learns := rfl
@[simp] theorem modModes_regs (f : Modes → Modes) (s : State) : (modModes f s).regs = s.regs := rfl
@[simp] theorem modModes_segs (f : Modes → Modes) (s : State) : (modModes f s).segs = s.segs := rfl
@[simp] theorem modModes_ledger (f : Modes → Modes) (s : State) : (modModes f s).ledger = s.ledger := rfl
@[simp] theorem modModes_look (f : Modes → Modes) (s : State) : (modModes f s).look = s.look := rfl
@[simp] theorem modModes_frank (f : Modes → Modes) (s : State) : (modModes f s).frank = s.frank := rfl
@[simp] theorem modModes_teller (f : Modes → Modes) (s : State) : (modModes f s).teller = s.teller := rfl
@[simp] theorem modModes_dram (f : Modes → Modes) (s : State) : (modModes f s).dram = s.dram := rfl
@[simp] theorem modModes_comp (f : Modes → Modes) (s : State) : (modModes f s).comp = s.comp := rfl
@[simp] theorem modModes_vault (f : Modes → Modes) (s : State) : (modModes f s).vault = s.vault := rfl
@[simp] theorem modModes_chain (f : Modes → Modes) (s : State) : (modModes f s).chain = s.chain := rfl
@[simp] theorem modModes_twin (f : Modes → Modes) (s : State) : (modModes f s).twin = s.twin := rfl
@[simp] theorem modModes_cal (f : Modes → Modes) (s : State) : (modModes f s).cal = s.cal := rfl
@[simp] theorem modModes_elec (f : Modes → Modes) (s : State) : (modModes f s).elec = s.elec := rfl
@[simp] theorem modModes_dramMem (f : Modes → Modes) (s : State) : (modModes f s).dramMem = s.dramMem := rfl
@[simp] theorem modModes_hostMem (f : Modes → Modes) (s : State) : (modModes f s).hostMem = s.hostMem := rfl
@[simp] theorem modModes_now (f : Modes → Modes) (s : State) : (modModes f s).now = s.now := rfl
@[simp] theorem modModes_sent (f : Modes → Modes) (s : State) : (modModes f s).sent = s.sent := rfl
@[simp] theorem modModes_pending (f : Modes → Modes) (s : State) : (modModes f s).pending = s.pending := rfl

/-! ### modJournal -/

@[simp] theorem modJournal_journal (f : Journal → Journal) (s : State) : (modJournal f s).journal = f s.journal := rfl
@[simp] theorem modJournal_sys (f : Journal → Journal) (s : State) : (modJournal f s).sys = s.sys := rfl
@[simp] theorem modJournal_modes (f : Journal → Journal) (s : State) : (modJournal f s).modes = s.modes := rfl
@[simp] theorem modJournal_frame (f : Journal → Journal) (s : State) : (modJournal f s).frame = s.frame := rfl
@[simp] theorem modJournal_host (f : Journal → Journal) (s : State) : (modJournal f s).host = s.host := rfl
@[simp] theorem modJournal_lanes (f : Journal → Journal) (s : State) : (modJournal f s).lanes = s.lanes := rfl
@[simp] theorem modJournal_ports (f : Journal → Journal) (s : State) : (modJournal f s).ports = s.ports := rfl
@[simp] theorem modJournal_photos (f : Journal → Journal) (s : State) : (modJournal f s).photos = s.photos := rfl
@[simp] theorem modJournal_pos (f : Journal → Journal) (s : State) : (modJournal f s).pos = s.pos := rfl
@[simp] theorem modJournal_grids (f : Journal → Journal) (s : State) : (modJournal f s).grids = s.grids := rfl
@[simp] theorem modJournal_ress (f : Journal → Journal) (s : State) : (modJournal f s).ress = s.ress := rfl
@[simp] theorem modJournal_maps (f : Journal → Journal) (s : State) : (modJournal f s).maps = s.maps := rfl
@[simp] theorem modJournal_stations (f : Journal → Journal) (s : State) : (modJournal f s).stations = s.stations := rfl
@[simp] theorem modJournal_outlets (f : Journal → Journal) (s : State) : (modJournal f s).outlets = s.outlets := rfl
@[simp] theorem modJournal_learns (f : Journal → Journal) (s : State) : (modJournal f s).learns = s.learns := rfl
@[simp] theorem modJournal_regs (f : Journal → Journal) (s : State) : (modJournal f s).regs = s.regs := rfl
@[simp] theorem modJournal_segs (f : Journal → Journal) (s : State) : (modJournal f s).segs = s.segs := rfl
@[simp] theorem modJournal_ledger (f : Journal → Journal) (s : State) : (modJournal f s).ledger = s.ledger := rfl
@[simp] theorem modJournal_look (f : Journal → Journal) (s : State) : (modJournal f s).look = s.look := rfl
@[simp] theorem modJournal_frank (f : Journal → Journal) (s : State) : (modJournal f s).frank = s.frank := rfl
@[simp] theorem modJournal_teller (f : Journal → Journal) (s : State) : (modJournal f s).teller = s.teller := rfl
@[simp] theorem modJournal_dram (f : Journal → Journal) (s : State) : (modJournal f s).dram = s.dram := rfl
@[simp] theorem modJournal_comp (f : Journal → Journal) (s : State) : (modJournal f s).comp = s.comp := rfl
@[simp] theorem modJournal_vault (f : Journal → Journal) (s : State) : (modJournal f s).vault = s.vault := rfl
@[simp] theorem modJournal_chain (f : Journal → Journal) (s : State) : (modJournal f s).chain = s.chain := rfl
@[simp] theorem modJournal_twin (f : Journal → Journal) (s : State) : (modJournal f s).twin = s.twin := rfl
@[simp] theorem modJournal_cal (f : Journal → Journal) (s : State) : (modJournal f s).cal = s.cal := rfl
@[simp] theorem modJournal_elec (f : Journal → Journal) (s : State) : (modJournal f s).elec = s.elec := rfl
@[simp] theorem modJournal_dramMem (f : Journal → Journal) (s : State) : (modJournal f s).dramMem = s.dramMem := rfl
@[simp] theorem modJournal_hostMem (f : Journal → Journal) (s : State) : (modJournal f s).hostMem = s.hostMem := rfl
@[simp] theorem modJournal_now (f : Journal → Journal) (s : State) : (modJournal f s).now = s.now := rfl
@[simp] theorem modJournal_sent (f : Journal → Journal) (s : State) : (modJournal f s).sent = s.sent := rfl
@[simp] theorem modJournal_pending (f : Journal → Journal) (s : State) : (modJournal f s).pending = s.pending := rfl

/-! ### modLedger -/

@[simp] theorem modLedger_ledger (f : Ledger → Ledger) (s : State) : (modLedger f s).ledger = f s.ledger := rfl
@[simp] theorem modLedger_sys (f : Ledger → Ledger) (s : State) : (modLedger f s).sys = s.sys := rfl
@[simp] theorem modLedger_modes (f : Ledger → Ledger) (s : State) : (modLedger f s).modes = s.modes := rfl
@[simp] theorem modLedger_frame (f : Ledger → Ledger) (s : State) : (modLedger f s).frame = s.frame := rfl
@[simp] theorem modLedger_host (f : Ledger → Ledger) (s : State) : (modLedger f s).host = s.host := rfl
@[simp] theorem modLedger_journal (f : Ledger → Ledger) (s : State) : (modLedger f s).journal = s.journal := rfl
@[simp] theorem modLedger_lanes (f : Ledger → Ledger) (s : State) : (modLedger f s).lanes = s.lanes := rfl
@[simp] theorem modLedger_ports (f : Ledger → Ledger) (s : State) : (modLedger f s).ports = s.ports := rfl
@[simp] theorem modLedger_photos (f : Ledger → Ledger) (s : State) : (modLedger f s).photos = s.photos := rfl
@[simp] theorem modLedger_pos (f : Ledger → Ledger) (s : State) : (modLedger f s).pos = s.pos := rfl
@[simp] theorem modLedger_grids (f : Ledger → Ledger) (s : State) : (modLedger f s).grids = s.grids := rfl
@[simp] theorem modLedger_ress (f : Ledger → Ledger) (s : State) : (modLedger f s).ress = s.ress := rfl
@[simp] theorem modLedger_maps (f : Ledger → Ledger) (s : State) : (modLedger f s).maps = s.maps := rfl
@[simp] theorem modLedger_stations (f : Ledger → Ledger) (s : State) : (modLedger f s).stations = s.stations := rfl
@[simp] theorem modLedger_outlets (f : Ledger → Ledger) (s : State) : (modLedger f s).outlets = s.outlets := rfl
@[simp] theorem modLedger_learns (f : Ledger → Ledger) (s : State) : (modLedger f s).learns = s.learns := rfl
@[simp] theorem modLedger_regs (f : Ledger → Ledger) (s : State) : (modLedger f s).regs = s.regs := rfl
@[simp] theorem modLedger_segs (f : Ledger → Ledger) (s : State) : (modLedger f s).segs = s.segs := rfl
@[simp] theorem modLedger_look (f : Ledger → Ledger) (s : State) : (modLedger f s).look = s.look := rfl
@[simp] theorem modLedger_frank (f : Ledger → Ledger) (s : State) : (modLedger f s).frank = s.frank := rfl
@[simp] theorem modLedger_teller (f : Ledger → Ledger) (s : State) : (modLedger f s).teller = s.teller := rfl
@[simp] theorem modLedger_dram (f : Ledger → Ledger) (s : State) : (modLedger f s).dram = s.dram := rfl
@[simp] theorem modLedger_comp (f : Ledger → Ledger) (s : State) : (modLedger f s).comp = s.comp := rfl
@[simp] theorem modLedger_vault (f : Ledger → Ledger) (s : State) : (modLedger f s).vault = s.vault := rfl
@[simp] theorem modLedger_chain (f : Ledger → Ledger) (s : State) : (modLedger f s).chain = s.chain := rfl
@[simp] theorem modLedger_twin (f : Ledger → Ledger) (s : State) : (modLedger f s).twin = s.twin := rfl
@[simp] theorem modLedger_cal (f : Ledger → Ledger) (s : State) : (modLedger f s).cal = s.cal := rfl
@[simp] theorem modLedger_elec (f : Ledger → Ledger) (s : State) : (modLedger f s).elec = s.elec := rfl
@[simp] theorem modLedger_dramMem (f : Ledger → Ledger) (s : State) : (modLedger f s).dramMem = s.dramMem := rfl
@[simp] theorem modLedger_hostMem (f : Ledger → Ledger) (s : State) : (modLedger f s).hostMem = s.hostMem := rfl
@[simp] theorem modLedger_now (f : Ledger → Ledger) (s : State) : (modLedger f s).now = s.now := rfl
@[simp] theorem modLedger_sent (f : Ledger → Ledger) (s : State) : (modLedger f s).sent = s.sent := rfl
@[simp] theorem modLedger_pending (f : Ledger → Ledger) (s : State) : (modLedger f s).pending = s.pending := rfl

/-! ### modElec -/

@[simp] theorem modElec_elec (f : Elec → Elec) (s : State) : (modElec f s).elec = f s.elec := rfl
@[simp] theorem modElec_sys (f : Elec → Elec) (s : State) : (modElec f s).sys = s.sys := rfl
@[simp] theorem modElec_modes (f : Elec → Elec) (s : State) : (modElec f s).modes = s.modes := rfl
@[simp] theorem modElec_frame (f : Elec → Elec) (s : State) : (modElec f s).frame = s.frame := rfl
@[simp] theorem modElec_host (f : Elec → Elec) (s : State) : (modElec f s).host = s.host := rfl
@[simp] theorem modElec_journal (f : Elec → Elec) (s : State) : (modElec f s).journal = s.journal := rfl
@[simp] theorem modElec_lanes (f : Elec → Elec) (s : State) : (modElec f s).lanes = s.lanes := rfl
@[simp] theorem modElec_ports (f : Elec → Elec) (s : State) : (modElec f s).ports = s.ports := rfl
@[simp] theorem modElec_photos (f : Elec → Elec) (s : State) : (modElec f s).photos = s.photos := rfl
@[simp] theorem modElec_pos (f : Elec → Elec) (s : State) : (modElec f s).pos = s.pos := rfl
@[simp] theorem modElec_grids (f : Elec → Elec) (s : State) : (modElec f s).grids = s.grids := rfl
@[simp] theorem modElec_ress (f : Elec → Elec) (s : State) : (modElec f s).ress = s.ress := rfl
@[simp] theorem modElec_maps (f : Elec → Elec) (s : State) : (modElec f s).maps = s.maps := rfl
@[simp] theorem modElec_stations (f : Elec → Elec) (s : State) : (modElec f s).stations = s.stations := rfl
@[simp] theorem modElec_outlets (f : Elec → Elec) (s : State) : (modElec f s).outlets = s.outlets := rfl
@[simp] theorem modElec_learns (f : Elec → Elec) (s : State) : (modElec f s).learns = s.learns := rfl
@[simp] theorem modElec_regs (f : Elec → Elec) (s : State) : (modElec f s).regs = s.regs := rfl
@[simp] theorem modElec_segs (f : Elec → Elec) (s : State) : (modElec f s).segs = s.segs := rfl
@[simp] theorem modElec_ledger (f : Elec → Elec) (s : State) : (modElec f s).ledger = s.ledger := rfl
@[simp] theorem modElec_look (f : Elec → Elec) (s : State) : (modElec f s).look = s.look := rfl
@[simp] theorem modElec_frank (f : Elec → Elec) (s : State) : (modElec f s).frank = s.frank := rfl
@[simp] theorem modElec_teller (f : Elec → Elec) (s : State) : (modElec f s).teller = s.teller := rfl
@[simp] theorem modElec_dram (f : Elec → Elec) (s : State) : (modElec f s).dram = s.dram := rfl
@[simp] theorem modElec_comp (f : Elec → Elec) (s : State) : (modElec f s).comp = s.comp := rfl
@[simp] theorem modElec_vault (f : Elec → Elec) (s : State) : (modElec f s).vault = s.vault := rfl
@[simp] theorem modElec_chain (f : Elec → Elec) (s : State) : (modElec f s).chain = s.chain := rfl
@[simp] theorem modElec_twin (f : Elec → Elec) (s : State) : (modElec f s).twin = s.twin := rfl
@[simp] theorem modElec_cal (f : Elec → Elec) (s : State) : (modElec f s).cal = s.cal := rfl
@[simp] theorem modElec_dramMem (f : Elec → Elec) (s : State) : (modElec f s).dramMem = s.dramMem := rfl
@[simp] theorem modElec_hostMem (f : Elec → Elec) (s : State) : (modElec f s).hostMem = s.hostMem := rfl
@[simp] theorem modElec_now (f : Elec → Elec) (s : State) : (modElec f s).now = s.now := rfl
@[simp] theorem modElec_sent (f : Elec → Elec) (s : State) : (modElec f s).sent = s.sent := rfl
@[simp] theorem modElec_pending (f : Elec → Elec) (s : State) : (modElec f s).pending = s.pending := rfl

/-! ### modLook -/

@[simp] theorem modLook_look (f : Look → Look) (s : State) : (modLook f s).look = f s.look := rfl
@[simp] theorem modLook_sys (f : Look → Look) (s : State) : (modLook f s).sys = s.sys := rfl
@[simp] theorem modLook_modes (f : Look → Look) (s : State) : (modLook f s).modes = s.modes := rfl
@[simp] theorem modLook_frame (f : Look → Look) (s : State) : (modLook f s).frame = s.frame := rfl
@[simp] theorem modLook_host (f : Look → Look) (s : State) : (modLook f s).host = s.host := rfl
@[simp] theorem modLook_journal (f : Look → Look) (s : State) : (modLook f s).journal = s.journal := rfl
@[simp] theorem modLook_lanes (f : Look → Look) (s : State) : (modLook f s).lanes = s.lanes := rfl
@[simp] theorem modLook_ports (f : Look → Look) (s : State) : (modLook f s).ports = s.ports := rfl
@[simp] theorem modLook_photos (f : Look → Look) (s : State) : (modLook f s).photos = s.photos := rfl
@[simp] theorem modLook_pos (f : Look → Look) (s : State) : (modLook f s).pos = s.pos := rfl
@[simp] theorem modLook_grids (f : Look → Look) (s : State) : (modLook f s).grids = s.grids := rfl
@[simp] theorem modLook_ress (f : Look → Look) (s : State) : (modLook f s).ress = s.ress := rfl
@[simp] theorem modLook_maps (f : Look → Look) (s : State) : (modLook f s).maps = s.maps := rfl
@[simp] theorem modLook_stations (f : Look → Look) (s : State) : (modLook f s).stations = s.stations := rfl
@[simp] theorem modLook_outlets (f : Look → Look) (s : State) : (modLook f s).outlets = s.outlets := rfl
@[simp] theorem modLook_learns (f : Look → Look) (s : State) : (modLook f s).learns = s.learns := rfl
@[simp] theorem modLook_regs (f : Look → Look) (s : State) : (modLook f s).regs = s.regs := rfl
@[simp] theorem modLook_segs (f : Look → Look) (s : State) : (modLook f s).segs = s.segs := rfl
@[simp] theorem modLook_ledger (f : Look → Look) (s : State) : (modLook f s).ledger = s.ledger := rfl
@[simp] theorem modLook_frank (f : Look → Look) (s : State) : (modLook f s).frank = s.frank := rfl
@[simp] theorem modLook_teller (f : Look → Look) (s : State) : (modLook f s).teller = s.teller := rfl
@[simp] theorem modLook_dram (f : Look → Look) (s : State) : (modLook f s).dram = s.dram := rfl
@[simp] theorem modLook_comp (f : Look → Look) (s : State) : (modLook f s).comp = s.comp := rfl
@[simp] theorem modLook_vault (f : Look → Look) (s : State) : (modLook f s).vault = s.vault := rfl
@[simp] theorem modLook_chain (f : Look → Look) (s : State) : (modLook f s).chain = s.chain := rfl
@[simp] theorem modLook_twin (f : Look → Look) (s : State) : (modLook f s).twin = s.twin := rfl
@[simp] theorem modLook_cal (f : Look → Look) (s : State) : (modLook f s).cal = s.cal := rfl
@[simp] theorem modLook_elec (f : Look → Look) (s : State) : (modLook f s).elec = s.elec := rfl
@[simp] theorem modLook_dramMem (f : Look → Look) (s : State) : (modLook f s).dramMem = s.dramMem := rfl
@[simp] theorem modLook_hostMem (f : Look → Look) (s : State) : (modLook f s).hostMem = s.hostMem := rfl
@[simp] theorem modLook_now (f : Look → Look) (s : State) : (modLook f s).now = s.now := rfl
@[simp] theorem modLook_sent (f : Look → Look) (s : State) : (modLook f s).sent = s.sent := rfl
@[simp] theorem modLook_pending (f : Look → Look) (s : State) : (modLook f s).pending = s.pending := rfl

/-! ### modTeller -/

@[simp] theorem modTeller_teller (f : Teller → Teller) (s : State) : (modTeller f s).teller = f s.teller := rfl
@[simp] theorem modTeller_sys (f : Teller → Teller) (s : State) : (modTeller f s).sys = s.sys := rfl
@[simp] theorem modTeller_modes (f : Teller → Teller) (s : State) : (modTeller f s).modes = s.modes := rfl
@[simp] theorem modTeller_frame (f : Teller → Teller) (s : State) : (modTeller f s).frame = s.frame := rfl
@[simp] theorem modTeller_host (f : Teller → Teller) (s : State) : (modTeller f s).host = s.host := rfl
@[simp] theorem modTeller_journal (f : Teller → Teller) (s : State) : (modTeller f s).journal = s.journal := rfl
@[simp] theorem modTeller_lanes (f : Teller → Teller) (s : State) : (modTeller f s).lanes = s.lanes := rfl
@[simp] theorem modTeller_ports (f : Teller → Teller) (s : State) : (modTeller f s).ports = s.ports := rfl
@[simp] theorem modTeller_photos (f : Teller → Teller) (s : State) : (modTeller f s).photos = s.photos := rfl
@[simp] theorem modTeller_pos (f : Teller → Teller) (s : State) : (modTeller f s).pos = s.pos := rfl
@[simp] theorem modTeller_grids (f : Teller → Teller) (s : State) : (modTeller f s).grids = s.grids := rfl
@[simp] theorem modTeller_ress (f : Teller → Teller) (s : State) : (modTeller f s).ress = s.ress := rfl
@[simp] theorem modTeller_maps (f : Teller → Teller) (s : State) : (modTeller f s).maps = s.maps := rfl
@[simp] theorem modTeller_stations (f : Teller → Teller) (s : State) : (modTeller f s).stations = s.stations := rfl
@[simp] theorem modTeller_outlets (f : Teller → Teller) (s : State) : (modTeller f s).outlets = s.outlets := rfl
@[simp] theorem modTeller_learns (f : Teller → Teller) (s : State) : (modTeller f s).learns = s.learns := rfl
@[simp] theorem modTeller_regs (f : Teller → Teller) (s : State) : (modTeller f s).regs = s.regs := rfl
@[simp] theorem modTeller_segs (f : Teller → Teller) (s : State) : (modTeller f s).segs = s.segs := rfl
@[simp] theorem modTeller_ledger (f : Teller → Teller) (s : State) : (modTeller f s).ledger = s.ledger := rfl
@[simp] theorem modTeller_look (f : Teller → Teller) (s : State) : (modTeller f s).look = s.look := rfl
@[simp] theorem modTeller_frank (f : Teller → Teller) (s : State) : (modTeller f s).frank = s.frank := rfl
@[simp] theorem modTeller_dram (f : Teller → Teller) (s : State) : (modTeller f s).dram = s.dram := rfl
@[simp] theorem modTeller_comp (f : Teller → Teller) (s : State) : (modTeller f s).comp = s.comp := rfl
@[simp] theorem modTeller_vault (f : Teller → Teller) (s : State) : (modTeller f s).vault = s.vault := rfl
@[simp] theorem modTeller_chain (f : Teller → Teller) (s : State) : (modTeller f s).chain = s.chain := rfl
@[simp] theorem modTeller_twin (f : Teller → Teller) (s : State) : (modTeller f s).twin = s.twin := rfl
@[simp] theorem modTeller_cal (f : Teller → Teller) (s : State) : (modTeller f s).cal = s.cal := rfl
@[simp] theorem modTeller_elec (f : Teller → Teller) (s : State) : (modTeller f s).elec = s.elec := rfl
@[simp] theorem modTeller_dramMem (f : Teller → Teller) (s : State) : (modTeller f s).dramMem = s.dramMem := rfl
@[simp] theorem modTeller_hostMem (f : Teller → Teller) (s : State) : (modTeller f s).hostMem = s.hostMem := rfl
@[simp] theorem modTeller_now (f : Teller → Teller) (s : State) : (modTeller f s).now = s.now := rfl
@[simp] theorem modTeller_sent (f : Teller → Teller) (s : State) : (modTeller f s).sent = s.sent := rfl
@[simp] theorem modTeller_pending (f : Teller → Teller) (s : State) : (modTeller f s).pending = s.pending := rfl

/-! ### modVault -/

@[simp] theorem modVault_vault (f : Vault → Vault) (s : State) : (modVault f s).vault = f s.vault := rfl
@[simp] theorem modVault_sys (f : Vault → Vault) (s : State) : (modVault f s).sys = s.sys := rfl
@[simp] theorem modVault_modes (f : Vault → Vault) (s : State) : (modVault f s).modes = s.modes := rfl
@[simp] theorem modVault_frame (f : Vault → Vault) (s : State) : (modVault f s).frame = s.frame := rfl
@[simp] theorem modVault_host (f : Vault → Vault) (s : State) : (modVault f s).host = s.host := rfl
@[simp] theorem modVault_journal (f : Vault → Vault) (s : State) : (modVault f s).journal = s.journal := rfl
@[simp] theorem modVault_lanes (f : Vault → Vault) (s : State) : (modVault f s).lanes = s.lanes := rfl
@[simp] theorem modVault_ports (f : Vault → Vault) (s : State) : (modVault f s).ports = s.ports := rfl
@[simp] theorem modVault_photos (f : Vault → Vault) (s : State) : (modVault f s).photos = s.photos := rfl
@[simp] theorem modVault_pos (f : Vault → Vault) (s : State) : (modVault f s).pos = s.pos := rfl
@[simp] theorem modVault_grids (f : Vault → Vault) (s : State) : (modVault f s).grids = s.grids := rfl
@[simp] theorem modVault_ress (f : Vault → Vault) (s : State) : (modVault f s).ress = s.ress := rfl
@[simp] theorem modVault_maps (f : Vault → Vault) (s : State) : (modVault f s).maps = s.maps := rfl
@[simp] theorem modVault_stations (f : Vault → Vault) (s : State) : (modVault f s).stations = s.stations := rfl
@[simp] theorem modVault_outlets (f : Vault → Vault) (s : State) : (modVault f s).outlets = s.outlets := rfl
@[simp] theorem modVault_learns (f : Vault → Vault) (s : State) : (modVault f s).learns = s.learns := rfl
@[simp] theorem modVault_regs (f : Vault → Vault) (s : State) : (modVault f s).regs = s.regs := rfl
@[simp] theorem modVault_segs (f : Vault → Vault) (s : State) : (modVault f s).segs = s.segs := rfl
@[simp] theorem modVault_ledger (f : Vault → Vault) (s : State) : (modVault f s).ledger = s.ledger := rfl
@[simp] theorem modVault_look (f : Vault → Vault) (s : State) : (modVault f s).look = s.look := rfl
@[simp] theorem modVault_frank (f : Vault → Vault) (s : State) : (modVault f s).frank = s.frank := rfl
@[simp] theorem modVault_teller (f : Vault → Vault) (s : State) : (modVault f s).teller = s.teller := rfl
@[simp] theorem modVault_dram (f : Vault → Vault) (s : State) : (modVault f s).dram = s.dram := rfl
@[simp] theorem modVault_comp (f : Vault → Vault) (s : State) : (modVault f s).comp = s.comp := rfl
@[simp] theorem modVault_chain (f : Vault → Vault) (s : State) : (modVault f s).chain = s.chain := rfl
@[simp] theorem modVault_twin (f : Vault → Vault) (s : State) : (modVault f s).twin = s.twin := rfl
@[simp] theorem modVault_cal (f : Vault → Vault) (s : State) : (modVault f s).cal = s.cal := rfl
@[simp] theorem modVault_elec (f : Vault → Vault) (s : State) : (modVault f s).elec = s.elec := rfl
@[simp] theorem modVault_dramMem (f : Vault → Vault) (s : State) : (modVault f s).dramMem = s.dramMem := rfl
@[simp] theorem modVault_hostMem (f : Vault → Vault) (s : State) : (modVault f s).hostMem = s.hostMem := rfl
@[simp] theorem modVault_now (f : Vault → Vault) (s : State) : (modVault f s).now = s.now := rfl
@[simp] theorem modVault_sent (f : Vault → Vault) (s : State) : (modVault f s).sent = s.sent := rfl
@[simp] theorem modVault_pending (f : Vault → Vault) (s : State) : (modVault f s).pending = s.pending := rfl

/-! ### setLane -/

@[simp] theorem setLane_sys (n : Nat) (x : Lane) (s : State) : (s.setLane n x).sys = s.sys := rfl
@[simp] theorem setLane_modes (n : Nat) (x : Lane) (s : State) : (s.setLane n x).modes = s.modes := rfl
@[simp] theorem setLane_frame (n : Nat) (x : Lane) (s : State) : (s.setLane n x).frame = s.frame := rfl
@[simp] theorem setLane_host (n : Nat) (x : Lane) (s : State) : (s.setLane n x).host = s.host := rfl
@[simp] theorem setLane_journal (n : Nat) (x : Lane) (s : State) : (s.setLane n x).journal = s.journal := rfl
@[simp] theorem setLane_ports (n : Nat) (x : Lane) (s : State) : (s.setLane n x).ports = s.ports := rfl
@[simp] theorem setLane_photos (n : Nat) (x : Lane) (s : State) : (s.setLane n x).photos = s.photos := rfl
@[simp] theorem setLane_pos (n : Nat) (x : Lane) (s : State) : (s.setLane n x).pos = s.pos := rfl
@[simp] theorem setLane_grids (n : Nat) (x : Lane) (s : State) : (s.setLane n x).grids = s.grids := rfl
@[simp] theorem setLane_ress (n : Nat) (x : Lane) (s : State) : (s.setLane n x).ress = s.ress := rfl
@[simp] theorem setLane_maps (n : Nat) (x : Lane) (s : State) : (s.setLane n x).maps = s.maps := rfl
@[simp] theorem setLane_stations (n : Nat) (x : Lane) (s : State) : (s.setLane n x).stations = s.stations := rfl
@[simp] theorem setLane_outlets (n : Nat) (x : Lane) (s : State) : (s.setLane n x).outlets = s.outlets := rfl
@[simp] theorem setLane_learns (n : Nat) (x : Lane) (s : State) : (s.setLane n x).learns = s.learns := rfl
@[simp] theorem setLane_regs (n : Nat) (x : Lane) (s : State) : (s.setLane n x).regs = s.regs := rfl
@[simp] theorem setLane_segs (n : Nat) (x : Lane) (s : State) : (s.setLane n x).segs = s.segs := rfl
@[simp] theorem setLane_ledger (n : Nat) (x : Lane) (s : State) : (s.setLane n x).ledger = s.ledger := rfl
@[simp] theorem setLane_look (n : Nat) (x : Lane) (s : State) : (s.setLane n x).look = s.look := rfl
@[simp] theorem setLane_frank (n : Nat) (x : Lane) (s : State) : (s.setLane n x).frank = s.frank := rfl
@[simp] theorem setLane_teller (n : Nat) (x : Lane) (s : State) : (s.setLane n x).teller = s.teller := rfl
@[simp] theorem setLane_dram (n : Nat) (x : Lane) (s : State) : (s.setLane n x).dram = s.dram := rfl
@[simp] theorem setLane_comp (n : Nat) (x : Lane) (s : State) : (s.setLane n x).comp = s.comp := rfl
@[simp] theorem setLane_vault (n : Nat) (x : Lane) (s : State) : (s.setLane n x).vault = s.vault := rfl
@[simp] theorem setLane_chain (n : Nat) (x : Lane) (s : State) : (s.setLane n x).chain = s.chain := rfl
@[simp] theorem setLane_twin (n : Nat) (x : Lane) (s : State) : (s.setLane n x).twin = s.twin := rfl
@[simp] theorem setLane_cal (n : Nat) (x : Lane) (s : State) : (s.setLane n x).cal = s.cal := rfl
@[simp] theorem setLane_elec (n : Nat) (x : Lane) (s : State) : (s.setLane n x).elec = s.elec := rfl
@[simp] theorem setLane_dramMem (n : Nat) (x : Lane) (s : State) : (s.setLane n x).dramMem = s.dramMem := rfl
@[simp] theorem setLane_hostMem (n : Nat) (x : Lane) (s : State) : (s.setLane n x).hostMem = s.hostMem := rfl
@[simp] theorem setLane_now (n : Nat) (x : Lane) (s : State) : (s.setLane n x).now = s.now := rfl
@[simp] theorem setLane_sent (n : Nat) (x : Lane) (s : State) : (s.setLane n x).sent = s.sent := rfl
@[simp] theorem setLane_pending (n : Nat) (x : Lane) (s : State) : (s.setLane n x).pending = s.pending := rfl
@[simp] theorem lane_setLane (n : Nat) (x : Lane) (s : State) : (s.setLane n x).lane n = x := by
  simp [State.setLane, State.lane]
theorem lane_setLane_ne (n : Nat) (x : Lane) (s : State) {k : Nat} (h : k ≠ n) : (s.setLane n x).lane k = s.lane k := by
  simp [State.setLane, State.lane, Tab.get_set_ne h]

/-! ### setBox -/

@[simp] theorem setBox_sys (n : Nat) (x : Mailbox) (s : State) : (s.setBox n x).sys = s.sys := rfl
@[simp] theorem setBox_modes (n : Nat) (x : Mailbox) (s : State) : (s.setBox n x).modes = s.modes := rfl
@[simp] theorem setBox_frame (n : Nat) (x : Mailbox) (s : State) : (s.setBox n x).frame = s.frame := rfl
@[simp] theorem setBox_journal (n : Nat) (x : Mailbox) (s : State) : (s.setBox n x).journal = s.journal := rfl
@[simp] theorem setBox_lanes (n : Nat) (x : Mailbox) (s : State) : (s.setBox n x).lanes = s.lanes := rfl
@[simp] theorem setBox_ports (n : Nat) (x : Mailbox) (s : State) : (s.setBox n x).ports = s.ports := rfl
@[simp] theorem setBox_photos (n : Nat) (x : Mailbox) (s : State) : (s.setBox n x).photos = s.photos := rfl
@[simp] theorem setBox_pos (n : Nat) (x : Mailbox) (s : State) : (s.setBox n x).pos = s.pos := rfl
@[simp] theorem setBox_grids (n : Nat) (x : Mailbox) (s : State) : (s.setBox n x).grids = s.grids := rfl
@[simp] theorem setBox_ress (n : Nat) (x : Mailbox) (s : State) : (s.setBox n x).ress = s.ress := rfl
@[simp] theorem setBox_maps (n : Nat) (x : Mailbox) (s : State) : (s.setBox n x).maps = s.maps := rfl
@[simp] theorem setBox_stations (n : Nat) (x : Mailbox) (s : State) : (s.setBox n x).stations = s.stations := rfl
@[simp] theorem setBox_outlets (n : Nat) (x : Mailbox) (s : State) : (s.setBox n x).outlets = s.outlets := rfl
@[simp] theorem setBox_learns (n : Nat) (x : Mailbox) (s : State) : (s.setBox n x).learns = s.learns := rfl
@[simp] theorem setBox_regs (n : Nat) (x : Mailbox) (s : State) : (s.setBox n x).regs = s.regs := rfl
@[simp] theorem setBox_segs (n : Nat) (x : Mailbox) (s : State) : (s.setBox n x).segs = s.segs := rfl
@[simp] theorem setBox_ledger (n : Nat) (x : Mailbox) (s : State) : (s.setBox n x).ledger = s.ledger := rfl
@[simp] theorem setBox_look (n : Nat) (x : Mailbox) (s : State) : (s.setBox n x).look = s.look := rfl
@[simp] theorem setBox_frank (n : Nat) (x : Mailbox) (s : State) : (s.setBox n x).frank = s.frank := rfl
@[simp] theorem setBox_teller (n : Nat) (x : Mailbox) (s : State) : (s.setBox n x).teller = s.teller := rfl
@[simp] theorem setBox_dram (n : Nat) (x : Mailbox) (s : State) : (s.setBox n x).dram = s.dram := rfl
@[simp] theorem setBox_comp (n : Nat) (x : Mailbox) (s : State) : (s.setBox n x).comp = s.comp := rfl
@[simp] theorem setBox_vault (n : Nat) (x : Mailbox) (s : State) : (s.setBox n x).vault = s.vault := rfl
@[simp] theorem setBox_chain (n : Nat) (x : Mailbox) (s : State) : (s.setBox n x).chain = s.chain := rfl
@[simp] theorem setBox_twin (n : Nat) (x : Mailbox) (s : State) : (s.setBox n x).twin = s.twin := rfl
@[simp] theorem setBox_cal (n : Nat) (x : Mailbox) (s : State) : (s.setBox n x).cal = s.cal := rfl
@[simp] theorem setBox_elec (n : Nat) (x : Mailbox) (s : State) : (s.setBox n x).elec = s.elec := rfl
@[simp] theorem setBox_dramMem (n : Nat) (x : Mailbox) (s : State) : (s.setBox n x).dramMem = s.dramMem := rfl
@[simp] theorem setBox_hostMem (n : Nat) (x : Mailbox) (s : State) : (s.setBox n x).hostMem = s.hostMem := rfl
@[simp] theorem setBox_now (n : Nat) (x : Mailbox) (s : State) : (s.setBox n x).now = s.now := rfl
@[simp] theorem setBox_sent (n : Nat) (x : Mailbox) (s : State) : (s.setBox n x).sent = s.sent := rfl
@[simp] theorem setBox_pending (n : Nat) (x : Mailbox) (s : State) : (s.setBox n x).pending = s.pending := rfl
@[simp] theorem box_setBox (n : Nat) (x : Mailbox) (s : State) : (s.setBox n x).box n = x := by
  simp [State.setBox, State.box]
theorem box_setBox_ne (n : Nat) (x : Mailbox) (s : State) {k : Nat} (h : k ≠ n) : (s.setBox n x).box k = s.box k := by
  simp [State.setBox, State.box, Tab.get_set_ne h]

/-! ### setChannel -/

@[simp] theorem setChannel_sys (n : Nat) (x : Channel) (s : State) : (s.setChannel n x).sys = s.sys := rfl
@[simp] theorem setChannel_modes (n : Nat) (x : Channel) (s : State) : (s.setChannel n x).modes = s.modes := rfl
@[simp] theorem setChannel_host (n : Nat) (x : Channel) (s : State) : (s.setChannel n x).host = s.host := rfl
@[simp] theorem setChannel_journal (n : Nat) (x : Channel) (s : State) : (s.setChannel n x).journal = s.journal := rfl
@[simp] theorem setChannel_lanes (n : Nat) (x : Channel) (s : State) : (s.setChannel n x).lanes = s.lanes := rfl
@[simp] theorem setChannel_ports (n : Nat) (x : Channel) (s : State) : (s.setChannel n x).ports = s.ports := rfl
@[simp] theorem setChannel_photos (n : Nat) (x : Channel) (s : State) : (s.setChannel n x).photos = s.photos := rfl
@[simp] theorem setChannel_pos (n : Nat) (x : Channel) (s : State) : (s.setChannel n x).pos = s.pos := rfl
@[simp] theorem setChannel_grids (n : Nat) (x : Channel) (s : State) : (s.setChannel n x).grids = s.grids := rfl
@[simp] theorem setChannel_ress (n : Nat) (x : Channel) (s : State) : (s.setChannel n x).ress = s.ress := rfl
@[simp] theorem setChannel_maps (n : Nat) (x : Channel) (s : State) : (s.setChannel n x).maps = s.maps := rfl
@[simp] theorem setChannel_stations (n : Nat) (x : Channel) (s : State) : (s.setChannel n x).stations = s.stations := rfl
@[simp] theorem setChannel_outlets (n : Nat) (x : Channel) (s : State) : (s.setChannel n x).outlets = s.outlets := rfl
@[simp] theorem setChannel_learns (n : Nat) (x : Channel) (s : State) : (s.setChannel n x).learns = s.learns := rfl
@[simp] theorem setChannel_regs (n : Nat) (x : Channel) (s : State) : (s.setChannel n x).regs = s.regs := rfl
@[simp] theorem setChannel_segs (n : Nat) (x : Channel) (s : State) : (s.setChannel n x).segs = s.segs := rfl
@[simp] theorem setChannel_ledger (n : Nat) (x : Channel) (s : State) : (s.setChannel n x).ledger = s.ledger := rfl
@[simp] theorem setChannel_look (n : Nat) (x : Channel) (s : State) : (s.setChannel n x).look = s.look := rfl
@[simp] theorem setChannel_frank (n : Nat) (x : Channel) (s : State) : (s.setChannel n x).frank = s.frank := rfl
@[simp] theorem setChannel_teller (n : Nat) (x : Channel) (s : State) : (s.setChannel n x).teller = s.teller := rfl
@[simp] theorem setChannel_dram (n : Nat) (x : Channel) (s : State) : (s.setChannel n x).dram = s.dram := rfl
@[simp] theorem setChannel_comp (n : Nat) (x : Channel) (s : State) : (s.setChannel n x).comp = s.comp := rfl
@[simp] theorem setChannel_vault (n : Nat) (x : Channel) (s : State) : (s.setChannel n x).vault = s.vault := rfl
@[simp] theorem setChannel_chain (n : Nat) (x : Channel) (s : State) : (s.setChannel n x).chain = s.chain := rfl
@[simp] theorem setChannel_twin (n : Nat) (x : Channel) (s : State) : (s.setChannel n x).twin = s.twin := rfl
@[simp] theorem setChannel_cal (n : Nat) (x : Channel) (s : State) : (s.setChannel n x).cal = s.cal := rfl
@[simp] theorem setChannel_elec (n : Nat) (x : Channel) (s : State) : (s.setChannel n x).elec = s.elec := rfl
@[simp] theorem setChannel_dramMem (n : Nat) (x : Channel) (s : State) : (s.setChannel n x).dramMem = s.dramMem := rfl
@[simp] theorem setChannel_hostMem (n : Nat) (x : Channel) (s : State) : (s.setChannel n x).hostMem = s.hostMem := rfl
@[simp] theorem setChannel_now (n : Nat) (x : Channel) (s : State) : (s.setChannel n x).now = s.now := rfl
@[simp] theorem setChannel_sent (n : Nat) (x : Channel) (s : State) : (s.setChannel n x).sent = s.sent := rfl
@[simp] theorem setChannel_pending (n : Nat) (x : Channel) (s : State) : (s.setChannel n x).pending = s.pending := rfl
@[simp] theorem channel_setChannel (n : Nat) (x : Channel) (s : State) : (s.setChannel n x).channel n = x := by
  simp [State.setChannel, State.channel]
theorem channel_setChannel_ne (n : Nat) (x : Channel) (s : State) {k : Nat} (h : k ≠ n) : (s.setChannel n x).channel k = s.channel k := by
  simp [State.setChannel, State.channel, Tab.get_set_ne h]

/-! ### setInput -/

@[simp] theorem setInput_sys (n : Nat) (x : TaskInput) (s : State) : (s.setInput n x).sys = s.sys := rfl
@[simp] theorem setInput_modes (n : Nat) (x : TaskInput) (s : State) : (s.setInput n x).modes = s.modes := rfl
@[simp] theorem setInput_host (n : Nat) (x : TaskInput) (s : State) : (s.setInput n x).host = s.host := rfl
@[simp] theorem setInput_journal (n : Nat) (x : TaskInput) (s : State) : (s.setInput n x).journal = s.journal := rfl
@[simp] theorem setInput_lanes (n : Nat) (x : TaskInput) (s : State) : (s.setInput n x).lanes = s.lanes := rfl
@[simp] theorem setInput_ports (n : Nat) (x : TaskInput) (s : State) : (s.setInput n x).ports = s.ports := rfl
@[simp] theorem setInput_photos (n : Nat) (x : TaskInput) (s : State) : (s.setInput n x).photos = s.photos := rfl
@[simp] theorem setInput_pos (n : Nat) (x : TaskInput) (s : State) : (s.setInput n x).pos = s.pos := rfl
@[simp] theorem setInput_grids (n : Nat) (x : TaskInput) (s : State) : (s.setInput n x).grids = s.grids := rfl
@[simp] theorem setInput_ress (n : Nat) (x : TaskInput) (s : State) : (s.setInput n x).ress = s.ress := rfl
@[simp] theorem setInput_maps (n : Nat) (x : TaskInput) (s : State) : (s.setInput n x).maps = s.maps := rfl
@[simp] theorem setInput_stations (n : Nat) (x : TaskInput) (s : State) : (s.setInput n x).stations = s.stations := rfl
@[simp] theorem setInput_outlets (n : Nat) (x : TaskInput) (s : State) : (s.setInput n x).outlets = s.outlets := rfl
@[simp] theorem setInput_learns (n : Nat) (x : TaskInput) (s : State) : (s.setInput n x).learns = s.learns := rfl
@[simp] theorem setInput_regs (n : Nat) (x : TaskInput) (s : State) : (s.setInput n x).regs = s.regs := rfl
@[simp] theorem setInput_segs (n : Nat) (x : TaskInput) (s : State) : (s.setInput n x).segs = s.segs := rfl
@[simp] theorem setInput_ledger (n : Nat) (x : TaskInput) (s : State) : (s.setInput n x).ledger = s.ledger := rfl
@[simp] theorem setInput_look (n : Nat) (x : TaskInput) (s : State) : (s.setInput n x).look = s.look := rfl
@[simp] theorem setInput_frank (n : Nat) (x : TaskInput) (s : State) : (s.setInput n x).frank = s.frank := rfl
@[simp] theorem setInput_teller (n : Nat) (x : TaskInput) (s : State) : (s.setInput n x).teller = s.teller := rfl
@[simp] theorem setInput_dram (n : Nat) (x : TaskInput) (s : State) : (s.setInput n x).dram = s.dram := rfl
@[simp] theorem setInput_comp (n : Nat) (x : TaskInput) (s : State) : (s.setInput n x).comp = s.comp := rfl
@[simp] theorem setInput_vault (n : Nat) (x : TaskInput) (s : State) : (s.setInput n x).vault = s.vault := rfl
@[simp] theorem setInput_chain (n : Nat) (x : TaskInput) (s : State) : (s.setInput n x).chain = s.chain := rfl
@[simp] theorem setInput_twin (n : Nat) (x : TaskInput) (s : State) : (s.setInput n x).twin = s.twin := rfl
@[simp] theorem setInput_cal (n : Nat) (x : TaskInput) (s : State) : (s.setInput n x).cal = s.cal := rfl
@[simp] theorem setInput_elec (n : Nat) (x : TaskInput) (s : State) : (s.setInput n x).elec = s.elec := rfl
@[simp] theorem setInput_dramMem (n : Nat) (x : TaskInput) (s : State) : (s.setInput n x).dramMem = s.dramMem := rfl
@[simp] theorem setInput_hostMem (n : Nat) (x : TaskInput) (s : State) : (s.setInput n x).hostMem = s.hostMem := rfl
@[simp] theorem setInput_now (n : Nat) (x : TaskInput) (s : State) : (s.setInput n x).now = s.now := rfl
@[simp] theorem setInput_sent (n : Nat) (x : TaskInput) (s : State) : (s.setInput n x).sent = s.sent := rfl
@[simp] theorem setInput_pending (n : Nat) (x : TaskInput) (s : State) : (s.setInput n x).pending = s.pending := rfl
@[simp] theorem input_setInput (n : Nat) (x : TaskInput) (s : State) : (s.setInput n x).input n = x := by
  simp [State.setInput, State.input]
theorem input_setInput_ne (n : Nat) (x : TaskInput) (s : State) {k : Nat} (h : k ≠ n) : (s.setInput n x).input k = s.input k := by
  simp [State.setInput, State.input, Tab.get_set_ne h]

/-! ### setBridge -/

@[simp] theorem setBridge_sys (n : Nat) (x : Bridge) (s : State) : (s.setBridge n x).sys = s.sys := rfl
@[simp] theorem setBridge_modes (n : Nat) (x : Bridge) (s : State) : (s.setBridge n x).modes = s.modes := rfl
@[simp] theorem setBridge_host (n : Nat) (x : Bridge) (s : State) : (s.setBridge n x).host = s.host := rfl
@[simp] theorem setBridge_journal (n : Nat) (x : Bridge) (s : State) : (s.setBridge n x).journal = s.journal := rfl
@[simp] theorem setBridge_lanes (n : Nat) (x : Bridge) (s : State) : (s.setBridge n x).lanes = s.lanes := rfl
@[simp] theorem setBridge_ports (n : Nat) (x : Bridge) (s : State) : (s.setBridge n x).ports = s.ports := rfl
@[simp] theorem setBridge_photos (n : Nat) (x : Bridge) (s : State) : (s.setBridge n x).photos = s.photos := rfl
@[simp] theorem setBridge_pos (n : Nat) (x : Bridge) (s : State) : (s.setBridge n x).pos = s.pos := rfl
@[simp] theorem setBridge_grids (n : Nat) (x : Bridge) (s : State) : (s.setBridge n x).grids = s.grids := rfl
@[simp] theorem setBridge_ress (n : Nat) (x : Bridge) (s : State) : (s.setBridge n x).ress = s.ress := rfl
@[simp] theorem setBridge_maps (n : Nat) (x : Bridge) (s : State) : (s.setBridge n x).maps = s.maps := rfl
@[simp] theorem setBridge_stations (n : Nat) (x : Bridge) (s : State) : (s.setBridge n x).stations = s.stations := rfl
@[simp] theorem setBridge_outlets (n : Nat) (x : Bridge) (s : State) : (s.setBridge n x).outlets = s.outlets := rfl
@[simp] theorem setBridge_learns (n : Nat) (x : Bridge) (s : State) : (s.setBridge n x).learns = s.learns := rfl
@[simp] theorem setBridge_regs (n : Nat) (x : Bridge) (s : State) : (s.setBridge n x).regs = s.regs := rfl
@[simp] theorem setBridge_segs (n : Nat) (x : Bridge) (s : State) : (s.setBridge n x).segs = s.segs := rfl
@[simp] theorem setBridge_ledger (n : Nat) (x : Bridge) (s : State) : (s.setBridge n x).ledger = s.ledger := rfl
@[simp] theorem setBridge_look (n : Nat) (x : Bridge) (s : State) : (s.setBridge n x).look = s.look := rfl
@[simp] theorem setBridge_frank (n : Nat) (x : Bridge) (s : State) : (s.setBridge n x).frank = s.frank := rfl
@[simp] theorem setBridge_teller (n : Nat) (x : Bridge) (s : State) : (s.setBridge n x).teller = s.teller := rfl
@[simp] theorem setBridge_dram (n : Nat) (x : Bridge) (s : State) : (s.setBridge n x).dram = s.dram := rfl
@[simp] theorem setBridge_comp (n : Nat) (x : Bridge) (s : State) : (s.setBridge n x).comp = s.comp := rfl
@[simp] theorem setBridge_vault (n : Nat) (x : Bridge) (s : State) : (s.setBridge n x).vault = s.vault := rfl
@[simp] theorem setBridge_chain (n : Nat) (x : Bridge) (s : State) : (s.setBridge n x).chain = s.chain := rfl
@[simp] theorem setBridge_twin (n : Nat) (x : Bridge) (s : State) : (s.setBridge n x).twin = s.twin := rfl
@[simp] theorem setBridge_cal (n : Nat) (x : Bridge) (s : State) : (s.setBridge n x).cal = s.cal := rfl
@[simp] theorem setBridge_elec (n : Nat) (x : Bridge) (s : State) : (s.setBridge n x).elec = s.elec := rfl
@[simp] theorem setBridge_dramMem (n : Nat) (x : Bridge) (s : State) : (s.setBridge n x).dramMem = s.dramMem := rfl
@[simp] theorem setBridge_hostMem (n : Nat) (x : Bridge) (s : State) : (s.setBridge n x).hostMem = s.hostMem := rfl
@[simp] theorem setBridge_now (n : Nat) (x : Bridge) (s : State) : (s.setBridge n x).now = s.now := rfl
@[simp] theorem setBridge_sent (n : Nat) (x : Bridge) (s : State) : (s.setBridge n x).sent = s.sent := rfl
@[simp] theorem setBridge_pending (n : Nat) (x : Bridge) (s : State) : (s.setBridge n x).pending = s.pending := rfl

/-! ### setPort -/

@[simp] theorem setPort_sys (n : Nat) (x : Port) (s : State) : (s.setPort n x).sys = s.sys := rfl
@[simp] theorem setPort_modes (n : Nat) (x : Port) (s : State) : (s.setPort n x).modes = s.modes := rfl
@[simp] theorem setPort_frame (n : Nat) (x : Port) (s : State) : (s.setPort n x).frame = s.frame := rfl
@[simp] theorem setPort_host (n : Nat) (x : Port) (s : State) : (s.setPort n x).host = s.host := rfl
@[simp] theorem setPort_journal (n : Nat) (x : Port) (s : State) : (s.setPort n x).journal = s.journal := rfl
@[simp] theorem setPort_lanes (n : Nat) (x : Port) (s : State) : (s.setPort n x).lanes = s.lanes := rfl
@[simp] theorem setPort_photos (n : Nat) (x : Port) (s : State) : (s.setPort n x).photos = s.photos := rfl
@[simp] theorem setPort_pos (n : Nat) (x : Port) (s : State) : (s.setPort n x).pos = s.pos := rfl
@[simp] theorem setPort_grids (n : Nat) (x : Port) (s : State) : (s.setPort n x).grids = s.grids := rfl
@[simp] theorem setPort_ress (n : Nat) (x : Port) (s : State) : (s.setPort n x).ress = s.ress := rfl
@[simp] theorem setPort_maps (n : Nat) (x : Port) (s : State) : (s.setPort n x).maps = s.maps := rfl
@[simp] theorem setPort_stations (n : Nat) (x : Port) (s : State) : (s.setPort n x).stations = s.stations := rfl
@[simp] theorem setPort_outlets (n : Nat) (x : Port) (s : State) : (s.setPort n x).outlets = s.outlets := rfl
@[simp] theorem setPort_learns (n : Nat) (x : Port) (s : State) : (s.setPort n x).learns = s.learns := rfl
@[simp] theorem setPort_regs (n : Nat) (x : Port) (s : State) : (s.setPort n x).regs = s.regs := rfl
@[simp] theorem setPort_segs (n : Nat) (x : Port) (s : State) : (s.setPort n x).segs = s.segs := rfl
@[simp] theorem setPort_ledger (n : Nat) (x : Port) (s : State) : (s.setPort n x).ledger = s.ledger := rfl
@[simp] theorem setPort_look (n : Nat) (x : Port) (s : State) : (s.setPort n x).look = s.look := rfl
@[simp] theorem setPort_frank (n : Nat) (x : Port) (s : State) : (s.setPort n x).frank = s.frank := rfl
@[simp] theorem setPort_teller (n : Nat) (x : Port) (s : State) : (s.setPort n x).teller = s.teller := rfl
@[simp] theorem setPort_dram (n : Nat) (x : Port) (s : State) : (s.setPort n x).dram = s.dram := rfl
@[simp] theorem setPort_comp (n : Nat) (x : Port) (s : State) : (s.setPort n x).comp = s.comp := rfl
@[simp] theorem setPort_vault (n : Nat) (x : Port) (s : State) : (s.setPort n x).vault = s.vault := rfl
@[simp] theorem setPort_chain (n : Nat) (x : Port) (s : State) : (s.setPort n x).chain = s.chain := rfl
@[simp] theorem setPort_twin (n : Nat) (x : Port) (s : State) : (s.setPort n x).twin = s.twin := rfl
@[simp] theorem setPort_cal (n : Nat) (x : Port) (s : State) : (s.setPort n x).cal = s.cal := rfl
@[simp] theorem setPort_elec (n : Nat) (x : Port) (s : State) : (s.setPort n x).elec = s.elec := rfl
@[simp] theorem setPort_dramMem (n : Nat) (x : Port) (s : State) : (s.setPort n x).dramMem = s.dramMem := rfl
@[simp] theorem setPort_hostMem (n : Nat) (x : Port) (s : State) : (s.setPort n x).hostMem = s.hostMem := rfl
@[simp] theorem setPort_now (n : Nat) (x : Port) (s : State) : (s.setPort n x).now = s.now := rfl
@[simp] theorem setPort_sent (n : Nat) (x : Port) (s : State) : (s.setPort n x).sent = s.sent := rfl
@[simp] theorem setPort_pending (n : Nat) (x : Port) (s : State) : (s.setPort n x).pending = s.pending := rfl
@[simp] theorem port_setPort (n : Nat) (x : Port) (s : State) : (s.setPort n x).port n = x := by
  simp [State.setPort, State.port]
theorem port_setPort_ne (n : Nat) (x : Port) (s : State) {k : Nat} (h : k ≠ n) : (s.setPort n x).port k = s.port k := by
  simp [State.setPort, State.port, Tab.get_set_ne h]

/-! ### setPhoto -/

@[simp] theorem setPhoto_sys (n : Nat) (x : Photo) (s : State) : (s.setPhoto n x).sys = s.sys := rfl
@[simp] theorem setPhoto_modes (n : Nat) (x : Photo) (s : State) : (s.setPhoto n x).modes = s.modes := rfl
@[simp] theorem setPhoto_frame (n : Nat) (x : Photo) (s : State) : (s.setPhoto n x).frame = s.frame := rfl
@[simp] theorem setPhoto_host (n : Nat) (x : Photo) (s : State) : (s.setPhoto n x).host = s.host := rfl
@[simp] theorem setPhoto_journal (n : Nat) (x : Photo) (s : State) : (s.setPhoto n x).journal = s.journal := rfl
@[simp] theorem setPhoto_lanes (n : Nat) (x : Photo) (s : State) : (s.setPhoto n x).lanes = s.lanes := rfl
@[simp] theorem setPhoto_ports (n : Nat) (x : Photo) (s : State) : (s.setPhoto n x).ports = s.ports := rfl
@[simp] theorem setPhoto_pos (n : Nat) (x : Photo) (s : State) : (s.setPhoto n x).pos = s.pos := rfl
@[simp] theorem setPhoto_grids (n : Nat) (x : Photo) (s : State) : (s.setPhoto n x).grids = s.grids := rfl
@[simp] theorem setPhoto_ress (n : Nat) (x : Photo) (s : State) : (s.setPhoto n x).ress = s.ress := rfl
@[simp] theorem setPhoto_maps (n : Nat) (x : Photo) (s : State) : (s.setPhoto n x).maps = s.maps := rfl
@[simp] theorem setPhoto_stations (n : Nat) (x : Photo) (s : State) : (s.setPhoto n x).stations = s.stations := rfl
@[simp] theorem setPhoto_outlets (n : Nat) (x : Photo) (s : State) : (s.setPhoto n x).outlets = s.outlets := rfl
@[simp] theorem setPhoto_learns (n : Nat) (x : Photo) (s : State) : (s.setPhoto n x).learns = s.learns := rfl
@[simp] theorem setPhoto_regs (n : Nat) (x : Photo) (s : State) : (s.setPhoto n x).regs = s.regs := rfl
@[simp] theorem setPhoto_segs (n : Nat) (x : Photo) (s : State) : (s.setPhoto n x).segs = s.segs := rfl
@[simp] theorem setPhoto_ledger (n : Nat) (x : Photo) (s : State) : (s.setPhoto n x).ledger = s.ledger := rfl
@[simp] theorem setPhoto_look (n : Nat) (x : Photo) (s : State) : (s.setPhoto n x).look = s.look := rfl
@[simp] theorem setPhoto_frank (n : Nat) (x : Photo) (s : State) : (s.setPhoto n x).frank = s.frank := rfl
@[simp] theorem setPhoto_teller (n : Nat) (x : Photo) (s : State) : (s.setPhoto n x).teller = s.teller := rfl
@[simp] theorem setPhoto_dram (n : Nat) (x : Photo) (s : State) : (s.setPhoto n x).dram = s.dram := rfl
@[simp] theorem setPhoto_comp (n : Nat) (x : Photo) (s : State) : (s.setPhoto n x).comp = s.comp := rfl
@[simp] theorem setPhoto_vault (n : Nat) (x : Photo) (s : State) : (s.setPhoto n x).vault = s.vault := rfl
@[simp] theorem setPhoto_chain (n : Nat) (x : Photo) (s : State) : (s.setPhoto n x).chain = s.chain := rfl
@[simp] theorem setPhoto_twin (n : Nat) (x : Photo) (s : State) : (s.setPhoto n x).twin = s.twin := rfl
@[simp] theorem setPhoto_cal (n : Nat) (x : Photo) (s : State) : (s.setPhoto n x).cal = s.cal := rfl
@[simp] theorem setPhoto_elec (n : Nat) (x : Photo) (s : State) : (s.setPhoto n x).elec = s.elec := rfl
@[simp] theorem setPhoto_dramMem (n : Nat) (x : Photo) (s : State) : (s.setPhoto n x).dramMem = s.dramMem := rfl
@[simp] theorem setPhoto_hostMem (n : Nat) (x : Photo) (s : State) : (s.setPhoto n x).hostMem = s.hostMem := rfl
@[simp] theorem setPhoto_now (n : Nat) (x : Photo) (s : State) : (s.setPhoto n x).now = s.now := rfl
@[simp] theorem setPhoto_sent (n : Nat) (x : Photo) (s : State) : (s.setPhoto n x).sent = s.sent := rfl
@[simp] theorem setPhoto_pending (n : Nat) (x : Photo) (s : State) : (s.setPhoto n x).pending = s.pending := rfl
@[simp] theorem photo_setPhoto (n : Nat) (x : Photo) (s : State) : (s.setPhoto n x).photo n = x := by
  simp [State.setPhoto, State.photo]
theorem photo_setPhoto_ne (n : Nat) (x : Photo) (s : State) {k : Nat} (h : k ≠ n) : (s.setPhoto n x).photo k = s.photo k := by
  simp [State.setPhoto, State.photo, Tab.get_set_ne h]

/-! ### setEncoder -/

@[simp] theorem setEncoder_sys (n : Nat) (x : Encoder) (s : State) : (s.setEncoder n x).sys = s.sys := rfl
@[simp] theorem setEncoder_modes (n : Nat) (x : Encoder) (s : State) : (s.setEncoder n x).modes = s.modes := rfl
@[simp] theorem setEncoder_frame (n : Nat) (x : Encoder) (s : State) : (s.setEncoder n x).frame = s.frame := rfl
@[simp] theorem setEncoder_host (n : Nat) (x : Encoder) (s : State) : (s.setEncoder n x).host = s.host := rfl
@[simp] theorem setEncoder_journal (n : Nat) (x : Encoder) (s : State) : (s.setEncoder n x).journal = s.journal := rfl
@[simp] theorem setEncoder_lanes (n : Nat) (x : Encoder) (s : State) : (s.setEncoder n x).lanes = s.lanes := rfl
@[simp] theorem setEncoder_ports (n : Nat) (x : Encoder) (s : State) : (s.setEncoder n x).ports = s.ports := rfl
@[simp] theorem setEncoder_photos (n : Nat) (x : Encoder) (s : State) : (s.setEncoder n x).photos = s.photos := rfl
@[simp] theorem setEncoder_grids (n : Nat) (x : Encoder) (s : State) : (s.setEncoder n x).grids = s.grids := rfl
@[simp] theorem setEncoder_ress (n : Nat) (x : Encoder) (s : State) : (s.setEncoder n x).ress = s.ress := rfl
@[simp] theorem setEncoder_maps (n : Nat) (x : Encoder) (s : State) : (s.setEncoder n x).maps = s.maps := rfl
@[simp] theorem setEncoder_stations (n : Nat) (x : Encoder) (s : State) : (s.setEncoder n x).stations = s.stations := rfl
@[simp] theorem setEncoder_outlets (n : Nat) (x : Encoder) (s : State) : (s.setEncoder n x).outlets = s.outlets := rfl
@[simp] theorem setEncoder_learns (n : Nat) (x : Encoder) (s : State) : (s.setEncoder n x).learns = s.learns := rfl
@[simp] theorem setEncoder_regs (n : Nat) (x : Encoder) (s : State) : (s.setEncoder n x).regs = s.regs := rfl
@[simp] theorem setEncoder_segs (n : Nat) (x : Encoder) (s : State) : (s.setEncoder n x).segs = s.segs := rfl
@[simp] theorem setEncoder_ledger (n : Nat) (x : Encoder) (s : State) : (s.setEncoder n x).ledger = s.ledger := rfl
@[simp] theorem setEncoder_look (n : Nat) (x : Encoder) (s : State) : (s.setEncoder n x).look = s.look := rfl
@[simp] theorem setEncoder_frank (n : Nat) (x : Encoder) (s : State) : (s.setEncoder n x).frank = s.frank := rfl
@[simp] theorem setEncoder_teller (n : Nat) (x : Encoder) (s : State) : (s.setEncoder n x).teller = s.teller := rfl
@[simp] theorem setEncoder_dram (n : Nat) (x : Encoder) (s : State) : (s.setEncoder n x).dram = s.dram := rfl
@[simp] theorem setEncoder_comp (n : Nat) (x : Encoder) (s : State) : (s.setEncoder n x).comp = s.comp := rfl
@[simp] theorem setEncoder_vault (n : Nat) (x : Encoder) (s : State) : (s.setEncoder n x).vault = s.vault := rfl
@[simp] theorem setEncoder_chain (n : Nat) (x : Encoder) (s : State) : (s.setEncoder n x).chain = s.chain := rfl
@[simp] theorem setEncoder_twin (n : Nat) (x : Encoder) (s : State) : (s.setEncoder n x).twin = s.twin := rfl
@[simp] theorem setEncoder_cal (n : Nat) (x : Encoder) (s : State) : (s.setEncoder n x).cal = s.cal := rfl
@[simp] theorem setEncoder_elec (n : Nat) (x : Encoder) (s : State) : (s.setEncoder n x).elec = s.elec := rfl
@[simp] theorem setEncoder_dramMem (n : Nat) (x : Encoder) (s : State) : (s.setEncoder n x).dramMem = s.dramMem := rfl
@[simp] theorem setEncoder_hostMem (n : Nat) (x : Encoder) (s : State) : (s.setEncoder n x).hostMem = s.hostMem := rfl
@[simp] theorem setEncoder_now (n : Nat) (x : Encoder) (s : State) : (s.setEncoder n x).now = s.now := rfl
@[simp] theorem setEncoder_sent (n : Nat) (x : Encoder) (s : State) : (s.setEncoder n x).sent = s.sent := rfl
@[simp] theorem setEncoder_pending (n : Nat) (x : Encoder) (s : State) : (s.setEncoder n x).pending = s.pending := rfl
@[simp] theorem encoder_setEncoder (n : Nat) (x : Encoder) (s : State) : (s.setEncoder n x).encoder n = x := by
  simp [State.setEncoder, State.encoder]
theorem encoder_setEncoder_ne (n : Nat) (x : Encoder) (s : State) {k : Nat} (h : k ≠ n) : (s.setEncoder n x).encoder k = s.encoder k := by
  simp [State.setEncoder, State.encoder, Tab.get_set_ne h]

/-! ### setLatch -/

@[simp] theorem setLatch_sys (n : Nat) (x : Latch) (s : State) : (s.setLatch n x).sys = s.sys := rfl
@[simp] theorem setLatch_modes (n : Nat) (x : Latch) (s : State) : (s.setLatch n x).modes = s.modes := rfl
@[simp] theorem setLatch_frame (n : Nat) (x : Latch) (s : State) : (s.setLatch n x).frame = s.frame := rfl
@[simp] theorem setLatch_host (n : Nat) (x : Latch) (s : State) : (s.setLatch n x).host = s.host := rfl
@[simp] theorem setLatch_journal (n : Nat) (x : Latch) (s : State) : (s.setLatch n x).journal = s.journal := rfl
@[simp] theorem setLatch_lanes (n : Nat) (x : Latch) (s : State) : (s.setLatch n x).lanes = s.lanes := rfl
@[simp] theorem setLatch_ports (n : Nat) (x : Latch) (s : State) : (s.setLatch n x).ports = s.ports := rfl
@[simp] theorem setLatch_photos (n : Nat) (x : Latch) (s : State) : (s.setLatch n x).photos = s.photos := rfl
@[simp] theorem setLatch_grids (n : Nat) (x : Latch) (s : State) : (s.setLatch n x).grids = s.grids := rfl
@[simp] theorem setLatch_ress (n : Nat) (x : Latch) (s : State) : (s.setLatch n x).ress = s.ress := rfl
@[simp] theorem setLatch_maps (n : Nat) (x : Latch) (s : State) : (s.setLatch n x).maps = s.maps := rfl
@[simp] theorem setLatch_stations (n : Nat) (x : Latch) (s : State) : (s.setLatch n x).stations = s.stations := rfl
@[simp] theorem setLatch_outlets (n : Nat) (x : Latch) (s : State) : (s.setLatch n x).outlets = s.outlets := rfl
@[simp] theorem setLatch_learns (n : Nat) (x : Latch) (s : State) : (s.setLatch n x).learns = s.learns := rfl
@[simp] theorem setLatch_regs (n : Nat) (x : Latch) (s : State) : (s.setLatch n x).regs = s.regs := rfl
@[simp] theorem setLatch_segs (n : Nat) (x : Latch) (s : State) : (s.setLatch n x).segs = s.segs := rfl
@[simp] theorem setLatch_ledger (n : Nat) (x : Latch) (s : State) : (s.setLatch n x).ledger = s.ledger := rfl
@[simp] theorem setLatch_look (n : Nat) (x : Latch) (s : State) : (s.setLatch n x).look = s.look := rfl
@[simp] theorem setLatch_frank (n : Nat) (x : Latch) (s : State) : (s.setLatch n x).frank = s.frank := rfl
@[simp] theorem setLatch_teller (n : Nat) (x : Latch) (s : State) : (s.setLatch n x).teller = s.teller := rfl
@[simp] theorem setLatch_dram (n : Nat) (x : Latch) (s : State) : (s.setLatch n x).dram = s.dram := rfl
@[simp] theorem setLatch_comp (n : Nat) (x : Latch) (s : State) : (s.setLatch n x).comp = s.comp := rfl
@[simp] theorem setLatch_vault (n : Nat) (x : Latch) (s : State) : (s.setLatch n x).vault = s.vault := rfl
@[simp] theorem setLatch_chain (n : Nat) (x : Latch) (s : State) : (s.setLatch n x).chain = s.chain := rfl
@[simp] theorem setLatch_twin (n : Nat) (x : Latch) (s : State) : (s.setLatch n x).twin = s.twin := rfl
@[simp] theorem setLatch_cal (n : Nat) (x : Latch) (s : State) : (s.setLatch n x).cal = s.cal := rfl
@[simp] theorem setLatch_elec (n : Nat) (x : Latch) (s : State) : (s.setLatch n x).elec = s.elec := rfl
@[simp] theorem setLatch_dramMem (n : Nat) (x : Latch) (s : State) : (s.setLatch n x).dramMem = s.dramMem := rfl
@[simp] theorem setLatch_hostMem (n : Nat) (x : Latch) (s : State) : (s.setLatch n x).hostMem = s.hostMem := rfl
@[simp] theorem setLatch_now (n : Nat) (x : Latch) (s : State) : (s.setLatch n x).now = s.now := rfl
@[simp] theorem setLatch_sent (n : Nat) (x : Latch) (s : State) : (s.setLatch n x).sent = s.sent := rfl
@[simp] theorem setLatch_pending (n : Nat) (x : Latch) (s : State) : (s.setLatch n x).pending = s.pending := rfl
@[simp] theorem latch_setLatch (n : Nat) (x : Latch) (s : State) : (s.setLatch n x).latch n = x := by
  simp [State.setLatch, State.latch]
theorem latch_setLatch_ne (n : Nat) (x : Latch) (s : State) {k : Nat} (h : k ≠ n) : (s.setLatch n x).latch k = s.latch k := by
  simp [State.setLatch, State.latch, Tab.get_set_ne h]

/-! ### setCompare -/

@[simp] theorem setCompare_sys (n : Nat) (x : Compare) (s : State) : (s.setCompare n x).sys = s.sys := rfl
@[simp] theorem setCompare_modes (n : Nat) (x : Compare) (s : State) : (s.setCompare n x).modes = s.modes := rfl
@[simp] theorem setCompare_frame (n : Nat) (x : Compare) (s : State) : (s.setCompare n x).frame = s.frame := rfl
@[simp] theorem setCompare_host (n : Nat) (x : Compare) (s : State) : (s.setCompare n x).host = s.host := rfl
@[simp] theorem setCompare_journal (n : Nat) (x : Compare) (s : State) : (s.setCompare n x).journal = s.journal := rfl
@[simp] theorem setCompare_lanes (n : Nat) (x : Compare) (s : State) : (s.setCompare n x).lanes = s.lanes := rfl
@[simp] theorem setCompare_ports (n : Nat) (x : Compare) (s : State) : (s.setCompare n x).ports = s.ports := rfl
@[simp] theorem setCompare_photos (n : Nat) (x : Compare) (s : State) : (s.setCompare n x).photos = s.photos := rfl
@[simp] theorem setCompare_grids (n : Nat) (x : Compare) (s : State) : (s.setCompare n x).grids = s.grids := rfl
@[simp] theorem setCompare_ress (n : Nat) (x : Compare) (s : State) : (s.setCompare n x).ress = s.ress := rfl
@[simp] theorem setCompare_maps (n : Nat) (x : Compare) (s : State) : (s.setCompare n x).maps = s.maps := rfl
@[simp] theorem setCompare_stations (n : Nat) (x : Compare) (s : State) : (s.setCompare n x).stations = s.stations := rfl
@[simp] theorem setCompare_outlets (n : Nat) (x : Compare) (s : State) : (s.setCompare n x).outlets = s.outlets := rfl
@[simp] theorem setCompare_learns (n : Nat) (x : Compare) (s : State) : (s.setCompare n x).learns = s.learns := rfl
@[simp] theorem setCompare_regs (n : Nat) (x : Compare) (s : State) : (s.setCompare n x).regs = s.regs := rfl
@[simp] theorem setCompare_segs (n : Nat) (x : Compare) (s : State) : (s.setCompare n x).segs = s.segs := rfl
@[simp] theorem setCompare_ledger (n : Nat) (x : Compare) (s : State) : (s.setCompare n x).ledger = s.ledger := rfl
@[simp] theorem setCompare_look (n : Nat) (x : Compare) (s : State) : (s.setCompare n x).look = s.look := rfl
@[simp] theorem setCompare_frank (n : Nat) (x : Compare) (s : State) : (s.setCompare n x).frank = s.frank := rfl
@[simp] theorem setCompare_teller (n : Nat) (x : Compare) (s : State) : (s.setCompare n x).teller = s.teller := rfl
@[simp] theorem setCompare_dram (n : Nat) (x : Compare) (s : State) : (s.setCompare n x).dram = s.dram := rfl
@[simp] theorem setCompare_comp (n : Nat) (x : Compare) (s : State) : (s.setCompare n x).comp = s.comp := rfl
@[simp] theorem setCompare_vault (n : Nat) (x : Compare) (s : State) : (s.setCompare n x).vault = s.vault := rfl
@[simp] theorem setCompare_chain (n : Nat) (x : Compare) (s : State) : (s.setCompare n x).chain = s.chain := rfl
@[simp] theorem setCompare_twin (n : Nat) (x : Compare) (s : State) : (s.setCompare n x).twin = s.twin := rfl
@[simp] theorem setCompare_cal (n : Nat) (x : Compare) (s : State) : (s.setCompare n x).cal = s.cal := rfl
@[simp] theorem setCompare_elec (n : Nat) (x : Compare) (s : State) : (s.setCompare n x).elec = s.elec := rfl
@[simp] theorem setCompare_dramMem (n : Nat) (x : Compare) (s : State) : (s.setCompare n x).dramMem = s.dramMem := rfl
@[simp] theorem setCompare_hostMem (n : Nat) (x : Compare) (s : State) : (s.setCompare n x).hostMem = s.hostMem := rfl
@[simp] theorem setCompare_now (n : Nat) (x : Compare) (s : State) : (s.setCompare n x).now = s.now := rfl
@[simp] theorem setCompare_sent (n : Nat) (x : Compare) (s : State) : (s.setCompare n x).sent = s.sent := rfl
@[simp] theorem setCompare_pending (n : Nat) (x : Compare) (s : State) : (s.setCompare n x).pending = s.pending := rfl
@[simp] theorem compare_setCompare (n : Nat) (x : Compare) (s : State) : (s.setCompare n x).compare n = x := by
  simp [State.setCompare, State.compare]
theorem compare_setCompare_ne (n : Nat) (x : Compare) (s : State) {k : Nat} (h : k ≠ n) : (s.setCompare n x).compare k = s.compare k := by
  simp [State.setCompare, State.compare, Tab.get_set_ne h]

/-! ### setGrid -/

@[simp] theorem setGrid_sys (n : Nat) (x : Grid) (s : State) : (s.setGrid n x).sys = s.sys := rfl
@[simp] theorem setGrid_modes (n : Nat) (x : Grid) (s : State) : (s.setGrid n x).modes = s.modes := rfl
@[simp] theorem setGrid_frame (n : Nat) (x : Grid) (s : State) : (s.setGrid n x).frame = s.frame := rfl
@[simp] theorem setGrid_host (n : Nat) (x : Grid) (s : State) : (s.setGrid n x).host = s.host := rfl
@[simp] theorem setGrid_journal (n : Nat) (x : Grid) (s : State) : (s.setGrid n x).journal = s.journal := rfl
@[simp] theorem setGrid_lanes (n : Nat) (x : Grid) (s : State) : (s.setGrid n x).lanes = s.lanes := rfl
@[simp] theorem setGrid_ports (n : Nat) (x : Grid) (s : State) : (s.setGrid n x).ports = s.ports := rfl
@[simp] theorem setGrid_photos (n : Nat) (x : Grid) (s : State) : (s.setGrid n x).photos = s.photos := rfl
@[simp] theorem setGrid_pos (n : Nat) (x : Grid) (s : State) : (s.setGrid n x).pos = s.pos := rfl
@[simp] theorem setGrid_ress (n : Nat) (x : Grid) (s : State) : (s.setGrid n x).ress = s.ress := rfl
@[simp] theorem setGrid_maps (n : Nat) (x : Grid) (s : State) : (s.setGrid n x).maps = s.maps := rfl
@[simp] theorem setGrid_stations (n : Nat) (x : Grid) (s : State) : (s.setGrid n x).stations = s.stations := rfl
@[simp] theorem setGrid_outlets (n : Nat) (x : Grid) (s : State) : (s.setGrid n x).outlets = s.outlets := rfl
@[simp] theorem setGrid_learns (n : Nat) (x : Grid) (s : State) : (s.setGrid n x).learns = s.learns := rfl
@[simp] theorem setGrid_regs (n : Nat) (x : Grid) (s : State) : (s.setGrid n x).regs = s.regs := rfl
@[simp] theorem setGrid_segs (n : Nat) (x : Grid) (s : State) : (s.setGrid n x).segs = s.segs := rfl
@[simp] theorem setGrid_ledger (n : Nat) (x : Grid) (s : State) : (s.setGrid n x).ledger = s.ledger := rfl
@[simp] theorem setGrid_look (n : Nat) (x : Grid) (s : State) : (s.setGrid n x).look = s.look := rfl
@[simp] theorem setGrid_frank (n : Nat) (x : Grid) (s : State) : (s.setGrid n x).frank = s.frank := rfl
@[simp] theorem setGrid_teller (n : Nat) (x : Grid) (s : State) : (s.setGrid n x).teller = s.teller := rfl
@[simp] theorem setGrid_dram (n : Nat) (x : Grid) (s : State) : (s.setGrid n x).dram = s.dram := rfl
@[simp] theorem setGrid_comp (n : Nat) (x : Grid) (s : State) : (s.setGrid n x).comp = s.comp := rfl
@[simp] theorem setGrid_vault (n : Nat) (x : Grid) (s : State) : (s.setGrid n x).vault = s.vault := rfl
@[simp] theorem setGrid_chain (n : Nat) (x : Grid) (s : State) : (s.setGrid n x).chain = s.chain := rfl
@[simp] theorem setGrid_twin (n : Nat) (x : Grid) (s : State) : (s.setGrid n x).twin = s.twin := rfl
@[simp] theorem setGrid_cal (n : Nat) (x : Grid) (s : State) : (s.setGrid n x).cal = s.cal := rfl
@[simp] theorem setGrid_elec (n : Nat) (x : Grid) (s : State) : (s.setGrid n x).elec = s.elec := rfl
@[simp] theorem setGrid_dramMem (n : Nat) (x : Grid) (s : State) : (s.setGrid n x).dramMem = s.dramMem := rfl
@[simp] theorem setGrid_hostMem (n : Nat) (x : Grid) (s : State) : (s.setGrid n x).hostMem = s.hostMem := rfl
@[simp] theorem setGrid_now (n : Nat) (x : Grid) (s : State) : (s.setGrid n x).now = s.now := rfl
@[simp] theorem setGrid_sent (n : Nat) (x : Grid) (s : State) : (s.setGrid n x).sent = s.sent := rfl
@[simp] theorem setGrid_pending (n : Nat) (x : Grid) (s : State) : (s.setGrid n x).pending = s.pending := rfl
@[simp] theorem grid_setGrid (n : Nat) (x : Grid) (s : State) : (s.setGrid n x).grid n = x := by
  simp [State.setGrid, State.grid]
theorem grid_setGrid_ne (n : Nat) (x : Grid) (s : State) {k : Nat} (h : k ≠ n) : (s.setGrid n x).grid k = s.grid k := by
  simp [State.setGrid, State.grid, Tab.get_set_ne h]

/-! ### setRes -/

@[simp] theorem setRes_sys (n : Nat) (x : PortRes) (s : State) : (s.setRes n x).sys = s.sys := rfl
@[simp] theorem setRes_modes (n : Nat) (x : PortRes) (s : State) : (s.setRes n x).modes = s.modes := rfl
@[simp] theorem setRes_frame (n : Nat) (x : PortRes) (s : State) : (s.setRes n x).frame = s.frame := rfl
@[simp] theorem setRes_host (n : Nat) (x : PortRes) (s : State) : (s.setRes n x).host = s.host := rfl
@[simp] theorem setRes_journal (n : Nat) (x : PortRes) (s : State) : (s.setRes n x).journal = s.journal := rfl
@[simp] theorem setRes_lanes (n : Nat) (x : PortRes) (s : State) : (s.setRes n x).lanes = s.lanes := rfl
@[simp] theorem setRes_ports (n : Nat) (x : PortRes) (s : State) : (s.setRes n x).ports = s.ports := rfl
@[simp] theorem setRes_photos (n : Nat) (x : PortRes) (s : State) : (s.setRes n x).photos = s.photos := rfl
@[simp] theorem setRes_pos (n : Nat) (x : PortRes) (s : State) : (s.setRes n x).pos = s.pos := rfl
@[simp] theorem setRes_grids (n : Nat) (x : PortRes) (s : State) : (s.setRes n x).grids = s.grids := rfl
@[simp] theorem setRes_maps (n : Nat) (x : PortRes) (s : State) : (s.setRes n x).maps = s.maps := rfl
@[simp] theorem setRes_stations (n : Nat) (x : PortRes) (s : State) : (s.setRes n x).stations = s.stations := rfl
@[simp] theorem setRes_outlets (n : Nat) (x : PortRes) (s : State) : (s.setRes n x).outlets = s.outlets := rfl
@[simp] theorem setRes_learns (n : Nat) (x : PortRes) (s : State) : (s.setRes n x).learns = s.learns := rfl
@[simp] theorem setRes_regs (n : Nat) (x : PortRes) (s : State) : (s.setRes n x).regs = s.regs := rfl
@[simp] theorem setRes_segs (n : Nat) (x : PortRes) (s : State) : (s.setRes n x).segs = s.segs := rfl
@[simp] theorem setRes_ledger (n : Nat) (x : PortRes) (s : State) : (s.setRes n x).ledger = s.ledger := rfl
@[simp] theorem setRes_look (n : Nat) (x : PortRes) (s : State) : (s.setRes n x).look = s.look := rfl
@[simp] theorem setRes_frank (n : Nat) (x : PortRes) (s : State) : (s.setRes n x).frank = s.frank := rfl
@[simp] theorem setRes_teller (n : Nat) (x : PortRes) (s : State) : (s.setRes n x).teller = s.teller := rfl
@[simp] theorem setRes_dram (n : Nat) (x : PortRes) (s : State) : (s.setRes n x).dram = s.dram := rfl
@[simp] theorem setRes_comp (n : Nat) (x : PortRes) (s : State) : (s.setRes n x).comp = s.comp := rfl
@[simp] theorem setRes_vault (n : Nat) (x : PortRes) (s : State) : (s.setRes n x).vault = s.vault := rfl
@[simp] theorem setRes_chain (n : Nat) (x : PortRes) (s : State) : (s.setRes n x).chain = s.chain := rfl
@[simp] theorem setRes_twin (n : Nat) (x : PortRes) (s : State) : (s.setRes n x).twin = s.twin := rfl
@[simp] theorem setRes_cal (n : Nat) (x : PortRes) (s : State) : (s.setRes n x).cal = s.cal := rfl
@[simp] theorem setRes_elec (n : Nat) (x : PortRes) (s : State) : (s.setRes n x).elec = s.elec := rfl
@[simp] theorem setRes_dramMem (n : Nat) (x : PortRes) (s : State) : (s.setRes n x).dramMem = s.dramMem := rfl
@[simp] theorem setRes_hostMem (n : Nat) (x : PortRes) (s : State) : (s.setRes n x).hostMem = s.hostMem := rfl
@[simp] theorem setRes_now (n : Nat) (x : PortRes) (s : State) : (s.setRes n x).now = s.now := rfl
@[simp] theorem setRes_sent (n : Nat) (x : PortRes) (s : State) : (s.setRes n x).sent = s.sent := rfl
@[simp] theorem setRes_pending (n : Nat) (x : PortRes) (s : State) : (s.setRes n x).pending = s.pending := rfl
@[simp] theorem res_setRes (n : Nat) (x : PortRes) (s : State) : (s.setRes n x).res n = x := by
  simp [State.setRes, State.res]
theorem res_setRes_ne (n : Nat) (x : PortRes) (s : State) {k : Nat} (h : k ≠ n) : (s.setRes n x).res k = s.res k := by
  simp [State.setRes, State.res, Tab.get_set_ne h]

/-! ### setPmap -/

@[simp] theorem setPmap_sys (n : Nat) (x : PortMap) (s : State) : (s.setPmap n x).sys = s.sys := rfl
@[simp] theorem setPmap_modes (n : Nat) (x : PortMap) (s : State) : (s.setPmap n x).modes = s.modes := rfl
@[simp] theorem setPmap_frame (n : Nat) (x : PortMap) (s : State) : (s.setPmap n x).frame = s.frame := rfl
@[simp] theorem setPmap_host (n : Nat) (x : PortMap) (s : State) : (s.setPmap n x).host = s.host := rfl
@[simp] theorem setPmap_journal (n : Nat) (x : PortMap) (s : State) : (s.setPmap n x).journal = s.journal := rfl
@[simp] theorem setPmap_lanes (n : Nat) (x : PortMap) (s : State) : (s.setPmap n x).lanes = s.lanes := rfl
@[simp] theorem setPmap_ports (n : Nat) (x : PortMap) (s : State) : (s.setPmap n x).ports = s.ports := rfl
@[simp] theorem setPmap_photos (n : Nat) (x : PortMap) (s : State) : (s.setPmap n x).photos = s.photos := rfl
@[simp] theorem setPmap_pos (n : Nat) (x : PortMap) (s : State) : (s.setPmap n x).pos = s.pos := rfl
@[simp] theorem setPmap_grids (n : Nat) (x : PortMap) (s : State) : (s.setPmap n x).grids = s.grids := rfl
@[simp] theorem setPmap_ress (n : Nat) (x : PortMap) (s : State) : (s.setPmap n x).ress = s.ress := rfl
@[simp] theorem setPmap_stations (n : Nat) (x : PortMap) (s : State) : (s.setPmap n x).stations = s.stations := rfl
@[simp] theorem setPmap_outlets (n : Nat) (x : PortMap) (s : State) : (s.setPmap n x).outlets = s.outlets := rfl
@[simp] theorem setPmap_learns (n : Nat) (x : PortMap) (s : State) : (s.setPmap n x).learns = s.learns := rfl
@[simp] theorem setPmap_regs (n : Nat) (x : PortMap) (s : State) : (s.setPmap n x).regs = s.regs := rfl
@[simp] theorem setPmap_segs (n : Nat) (x : PortMap) (s : State) : (s.setPmap n x).segs = s.segs := rfl
@[simp] theorem setPmap_ledger (n : Nat) (x : PortMap) (s : State) : (s.setPmap n x).ledger = s.ledger := rfl
@[simp] theorem setPmap_look (n : Nat) (x : PortMap) (s : State) : (s.setPmap n x).look = s.look := rfl
@[simp] theorem setPmap_frank (n : Nat) (x : PortMap) (s : State) : (s.setPmap n x).frank = s.frank := rfl
@[simp] theorem setPmap_teller (n : Nat) (x : PortMap) (s : State) : (s.setPmap n x).teller = s.teller := rfl
@[simp] theorem setPmap_dram (n : Nat) (x : PortMap) (s : State) : (s.setPmap n x).dram = s.dram := rfl
@[simp] theorem setPmap_comp (n : Nat) (x : PortMap) (s : State) : (s.setPmap n x).comp = s.comp := rfl
@[simp] theorem setPmap_vault (n : Nat) (x : PortMap) (s : State) : (s.setPmap n x).vault = s.vault := rfl
@[simp] theorem setPmap_chain (n : Nat) (x : PortMap) (s : State) : (s.setPmap n x).chain = s.chain := rfl
@[simp] theorem setPmap_twin (n : Nat) (x : PortMap) (s : State) : (s.setPmap n x).twin = s.twin := rfl
@[simp] theorem setPmap_cal (n : Nat) (x : PortMap) (s : State) : (s.setPmap n x).cal = s.cal := rfl
@[simp] theorem setPmap_elec (n : Nat) (x : PortMap) (s : State) : (s.setPmap n x).elec = s.elec := rfl
@[simp] theorem setPmap_dramMem (n : Nat) (x : PortMap) (s : State) : (s.setPmap n x).dramMem = s.dramMem := rfl
@[simp] theorem setPmap_hostMem (n : Nat) (x : PortMap) (s : State) : (s.setPmap n x).hostMem = s.hostMem := rfl
@[simp] theorem setPmap_now (n : Nat) (x : PortMap) (s : State) : (s.setPmap n x).now = s.now := rfl
@[simp] theorem setPmap_sent (n : Nat) (x : PortMap) (s : State) : (s.setPmap n x).sent = s.sent := rfl
@[simp] theorem setPmap_pending (n : Nat) (x : PortMap) (s : State) : (s.setPmap n x).pending = s.pending := rfl
@[simp] theorem pmap_setPmap (n : Nat) (x : PortMap) (s : State) : (s.setPmap n x).pmap n = x := by
  simp [State.setPmap, State.pmap]
theorem pmap_setPmap_ne (n : Nat) (x : PortMap) (s : State) {k : Nat} (h : k ≠ n) : (s.setPmap n x).pmap k = s.pmap k := by
  simp [State.setPmap, State.pmap, Tab.get_set_ne h]

/-! ### setStation -/

@[simp] theorem setStation_sys (n : Nat) (x : Station) (s : State) : (s.setStation n x).sys = s.sys := rfl
@[simp] theorem setStation_modes (n : Nat) (x : Station) (s : State) : (s.setStation n x).modes = s.modes := rfl
@[simp] theorem setStation_frame (n : Nat) (x : Station) (s : State) : (s.setStation n x).frame = s.frame := rfl
@[simp] theorem setStation_host (n : Nat) (x : Station) (s : State) : (s.setStation n x).host = s.host := rfl
@[simp] theorem setStation_journal (n : Nat) (x : Station) (s : State) : (s.setStation n x).journal = s.journal := rfl
@[simp] theorem setStation_lanes (n : Nat) (x : Station) (s : State) : (s.setStation n x).lanes = s.lanes := rfl
@[simp] theorem setStation_ports (n : Nat) (x : Station) (s : State) : (s.setStation n x).ports = s.ports := rfl
@[simp] theorem setStation_photos (n : Nat) (x : Station) (s : State) : (s.setStation n x).photos = s.photos := rfl
@[simp] theorem setStation_pos (n : Nat) (x : Station) (s : State) : (s.setStation n x).pos = s.pos := rfl
@[simp] theorem setStation_grids (n : Nat) (x : Station) (s : State) : (s.setStation n x).grids = s.grids := rfl
@[simp] theorem setStation_ress (n : Nat) (x : Station) (s : State) : (s.setStation n x).ress = s.ress := rfl
@[simp] theorem setStation_maps (n : Nat) (x : Station) (s : State) : (s.setStation n x).maps = s.maps := rfl
@[simp] theorem setStation_outlets (n : Nat) (x : Station) (s : State) : (s.setStation n x).outlets = s.outlets := rfl
@[simp] theorem setStation_learns (n : Nat) (x : Station) (s : State) : (s.setStation n x).learns = s.learns := rfl
@[simp] theorem setStation_regs (n : Nat) (x : Station) (s : State) : (s.setStation n x).regs = s.regs := rfl
@[simp] theorem setStation_segs (n : Nat) (x : Station) (s : State) : (s.setStation n x).segs = s.segs := rfl
@[simp] theorem setStation_ledger (n : Nat) (x : Station) (s : State) : (s.setStation n x).ledger = s.ledger := rfl
@[simp] theorem setStation_look (n : Nat) (x : Station) (s : State) : (s.setStation n x).look = s.look := rfl
@[simp] theorem setStation_frank (n : Nat) (x : Station) (s : State) : (s.setStation n x).frank = s.frank := rfl
@[simp] theorem setStation_teller (n : Nat) (x : Station) (s : State) : (s.setStation n x).teller = s.teller := rfl
@[simp] theorem setStation_dram (n : Nat) (x : Station) (s : State) : (s.setStation n x).dram = s.dram := rfl
@[simp] theorem setStation_comp (n : Nat) (x : Station) (s : State) : (s.setStation n x).comp = s.comp := rfl
@[simp] theorem setStation_vault (n : Nat) (x : Station) (s : State) : (s.setStation n x).vault = s.vault := rfl
@[simp] theorem setStation_chain (n : Nat) (x : Station) (s : State) : (s.setStation n x).chain = s.chain := rfl
@[simp] theorem setStation_twin (n : Nat) (x : Station) (s : State) : (s.setStation n x).twin = s.twin := rfl
@[simp] theorem setStation_cal (n : Nat) (x : Station) (s : State) : (s.setStation n x).cal = s.cal := rfl
@[simp] theorem setStation_elec (n : Nat) (x : Station) (s : State) : (s.setStation n x).elec = s.elec := rfl
@[simp] theorem setStation_dramMem (n : Nat) (x : Station) (s : State) : (s.setStation n x).dramMem = s.dramMem := rfl
@[simp] theorem setStation_hostMem (n : Nat) (x : Station) (s : State) : (s.setStation n x).hostMem = s.hostMem := rfl
@[simp] theorem setStation_now (n : Nat) (x : Station) (s : State) : (s.setStation n x).now = s.now := rfl
@[simp] theorem setStation_sent (n : Nat) (x : Station) (s : State) : (s.setStation n x).sent = s.sent := rfl
@[simp] theorem setStation_pending (n : Nat) (x : Station) (s : State) : (s.setStation n x).pending = s.pending := rfl
@[simp] theorem station_setStation (n : Nat) (x : Station) (s : State) : (s.setStation n x).station n = x := by
  simp [State.setStation, State.station]
theorem station_setStation_ne (n : Nat) (x : Station) (s : State) {k : Nat} (h : k ≠ n) : (s.setStation n x).station k = s.station k := by
  simp [State.setStation, State.station, Tab.get_set_ne h]

/-! ### setOutlet -/

@[simp] theorem setOutlet_sys (n : Nat) (x : Outlet) (s : State) : (s.setOutlet n x).sys = s.sys := rfl
@[simp] theorem setOutlet_modes (n : Nat) (x : Outlet) (s : State) : (s.setOutlet n x).modes = s.modes := rfl
@[simp] theorem setOutlet_frame (n : Nat) (x : Outlet) (s : State) : (s.setOutlet n x).frame = s.frame := rfl
@[simp] theorem setOutlet_host (n : Nat) (x : Outlet) (s : State) : (s.setOutlet n x).host = s.host := rfl
@[simp] theorem setOutlet_journal (n : Nat) (x : Outlet) (s : State) : (s.setOutlet n x).journal = s.journal := rfl
@[simp] theorem setOutlet_lanes (n : Nat) (x : Outlet) (s : State) : (s.setOutlet n x).lanes = s.lanes := rfl
@[simp] theorem setOutlet_ports (n : Nat) (x : Outlet) (s : State) : (s.setOutlet n x).ports = s.ports := rfl
@[simp] theorem setOutlet_photos (n : Nat) (x : Outlet) (s : State) : (s.setOutlet n x).photos = s.photos := rfl
@[simp] theorem setOutlet_pos (n : Nat) (x : Outlet) (s : State) : (s.setOutlet n x).pos = s.pos := rfl
@[simp] theorem setOutlet_grids (n : Nat) (x : Outlet) (s : State) : (s.setOutlet n x).grids = s.grids := rfl
@[simp] theorem setOutlet_ress (n : Nat) (x : Outlet) (s : State) : (s.setOutlet n x).ress = s.ress := rfl
@[simp] theorem setOutlet_maps (n : Nat) (x : Outlet) (s : State) : (s.setOutlet n x).maps = s.maps := rfl
@[simp] theorem setOutlet_stations (n : Nat) (x : Outlet) (s : State) : (s.setOutlet n x).stations = s.stations := rfl
@[simp] theorem setOutlet_learns (n : Nat) (x : Outlet) (s : State) : (s.setOutlet n x).learns = s.learns := rfl
@[simp] theorem setOutlet_regs (n : Nat) (x : Outlet) (s : State) : (s.setOutlet n x).regs = s.regs := rfl
@[simp] theorem setOutlet_segs (n : Nat) (x : Outlet) (s : State) : (s.setOutlet n x).segs = s.segs := rfl
@[simp] theorem setOutlet_ledger (n : Nat) (x : Outlet) (s : State) : (s.setOutlet n x).ledger = s.ledger := rfl
@[simp] theorem setOutlet_look (n : Nat) (x : Outlet) (s : State) : (s.setOutlet n x).look = s.look := rfl
@[simp] theorem setOutlet_frank (n : Nat) (x : Outlet) (s : State) : (s.setOutlet n x).frank = s.frank := rfl
@[simp] theorem setOutlet_teller (n : Nat) (x : Outlet) (s : State) : (s.setOutlet n x).teller = s.teller := rfl
@[simp] theorem setOutlet_dram (n : Nat) (x : Outlet) (s : State) : (s.setOutlet n x).dram = s.dram := rfl
@[simp] theorem setOutlet_comp (n : Nat) (x : Outlet) (s : State) : (s.setOutlet n x).comp = s.comp := rfl
@[simp] theorem setOutlet_vault (n : Nat) (x : Outlet) (s : State) : (s.setOutlet n x).vault = s.vault := rfl
@[simp] theorem setOutlet_chain (n : Nat) (x : Outlet) (s : State) : (s.setOutlet n x).chain = s.chain := rfl
@[simp] theorem setOutlet_twin (n : Nat) (x : Outlet) (s : State) : (s.setOutlet n x).twin = s.twin := rfl
@[simp] theorem setOutlet_cal (n : Nat) (x : Outlet) (s : State) : (s.setOutlet n x).cal = s.cal := rfl
@[simp] theorem setOutlet_elec (n : Nat) (x : Outlet) (s : State) : (s.setOutlet n x).elec = s.elec := rfl
@[simp] theorem setOutlet_dramMem (n : Nat) (x : Outlet) (s : State) : (s.setOutlet n x).dramMem = s.dramMem := rfl
@[simp] theorem setOutlet_hostMem (n : Nat) (x : Outlet) (s : State) : (s.setOutlet n x).hostMem = s.hostMem := rfl
@[simp] theorem setOutlet_now (n : Nat) (x : Outlet) (s : State) : (s.setOutlet n x).now = s.now := rfl
@[simp] theorem setOutlet_sent (n : Nat) (x : Outlet) (s : State) : (s.setOutlet n x).sent = s.sent := rfl
@[simp] theorem setOutlet_pending (n : Nat) (x : Outlet) (s : State) : (s.setOutlet n x).pending = s.pending := rfl
@[simp] theorem outlet_setOutlet (n : Nat) (x : Outlet) (s : State) : (s.setOutlet n x).outlet n = x := by
  simp [State.setOutlet, State.outlet]
theorem outlet_setOutlet_ne (n : Nat) (x : Outlet) (s : State) {k : Nat} (h : k ≠ n) : (s.setOutlet n x).outlet k = s.outlet k := by
  simp [State.setOutlet, State.outlet, Tab.get_set_ne h]

/-! ### setLearn -/

@[simp] theorem setLearn_sys (n : Nat) (x : Learn) (s : State) : (s.setLearn n x).sys = s.sys := rfl
@[simp] theorem setLearn_modes (n : Nat) (x : Learn) (s : State) : (s.setLearn n x).modes = s.modes := rfl
@[simp] theorem setLearn_frame (n : Nat) (x : Learn) (s : State) : (s.setLearn n x).frame = s.frame := rfl
@[simp] theorem setLearn_host (n : Nat) (x : Learn) (s : State) : (s.setLearn n x).host = s.host := rfl
@[simp] theorem setLearn_journal (n : Nat) (x : Learn) (s : State) : (s.setLearn n x).journal = s.journal := rfl
@[simp] theorem setLearn_lanes (n : Nat) (x : Learn) (s : State) : (s.setLearn n x).lanes = s.lanes := rfl
@[simp] theorem setLearn_ports (n : Nat) (x : Learn) (s : State) : (s.setLearn n x).ports = s.ports := rfl
@[simp] theorem setLearn_photos (n : Nat) (x : Learn) (s : State) : (s.setLearn n x).photos = s.photos := rfl
@[simp] theorem setLearn_pos (n : Nat) (x : Learn) (s : State) : (s.setLearn n x).pos = s.pos := rfl
@[simp] theorem setLearn_grids (n : Nat) (x : Learn) (s : State) : (s.setLearn n x).grids = s.grids := rfl
@[simp] theorem setLearn_ress (n : Nat) (x : Learn) (s : State) : (s.setLearn n x).ress = s.ress := rfl
@[simp] theorem setLearn_maps (n : Nat) (x : Learn) (s : State) : (s.setLearn n x).maps = s.maps := rfl
@[simp] theorem setLearn_stations (n : Nat) (x : Learn) (s : State) : (s.setLearn n x).stations = s.stations := rfl
@[simp] theorem setLearn_outlets (n : Nat) (x : Learn) (s : State) : (s.setLearn n x).outlets = s.outlets := rfl
@[simp] theorem setLearn_regs (n : Nat) (x : Learn) (s : State) : (s.setLearn n x).regs = s.regs := rfl
@[simp] theorem setLearn_segs (n : Nat) (x : Learn) (s : State) : (s.setLearn n x).segs = s.segs := rfl
@[simp] theorem setLearn_ledger (n : Nat) (x : Learn) (s : State) : (s.setLearn n x).ledger = s.ledger := rfl
@[simp] theorem setLearn_look (n : Nat) (x : Learn) (s : State) : (s.setLearn n x).look = s.look := rfl
@[simp] theorem setLearn_frank (n : Nat) (x : Learn) (s : State) : (s.setLearn n x).frank = s.frank := rfl
@[simp] theorem setLearn_teller (n : Nat) (x : Learn) (s : State) : (s.setLearn n x).teller = s.teller := rfl
@[simp] theorem setLearn_dram (n : Nat) (x : Learn) (s : State) : (s.setLearn n x).dram = s.dram := rfl
@[simp] theorem setLearn_comp (n : Nat) (x : Learn) (s : State) : (s.setLearn n x).comp = s.comp := rfl
@[simp] theorem setLearn_vault (n : Nat) (x : Learn) (s : State) : (s.setLearn n x).vault = s.vault := rfl
@[simp] theorem setLearn_chain (n : Nat) (x : Learn) (s : State) : (s.setLearn n x).chain = s.chain := rfl
@[simp] theorem setLearn_twin (n : Nat) (x : Learn) (s : State) : (s.setLearn n x).twin = s.twin := rfl
@[simp] theorem setLearn_cal (n : Nat) (x : Learn) (s : State) : (s.setLearn n x).cal = s.cal := rfl
@[simp] theorem setLearn_elec (n : Nat) (x : Learn) (s : State) : (s.setLearn n x).elec = s.elec := rfl
@[simp] theorem setLearn_dramMem (n : Nat) (x : Learn) (s : State) : (s.setLearn n x).dramMem = s.dramMem := rfl
@[simp] theorem setLearn_hostMem (n : Nat) (x : Learn) (s : State) : (s.setLearn n x).hostMem = s.hostMem := rfl
@[simp] theorem setLearn_now (n : Nat) (x : Learn) (s : State) : (s.setLearn n x).now = s.now := rfl
@[simp] theorem setLearn_sent (n : Nat) (x : Learn) (s : State) : (s.setLearn n x).sent = s.sent := rfl
@[simp] theorem setLearn_pending (n : Nat) (x : Learn) (s : State) : (s.setLearn n x).pending = s.pending := rfl
@[simp] theorem learn_setLearn (n : Nat) (x : Learn) (s : State) : (s.setLearn n x).learn n = x := by
  simp [State.setLearn, State.learn]
theorem learn_setLearn_ne (n : Nat) (x : Learn) (s : State) {k : Nat} (h : k ≠ n) : (s.setLearn n x).learn k = s.learn k := by
  simp [State.setLearn, State.learn, Tab.get_set_ne h]

/-! ### setReg -/

@[simp] theorem setReg_sys (n : Nat) (x : Reg) (s : State) : (s.setReg n x).sys = s.sys := rfl
@[simp] theorem setReg_modes (n : Nat) (x : Reg) (s : State) : (s.setReg n x).modes = s.modes := rfl
@[simp] theorem setReg_frame (n : Nat) (x : Reg) (s : State) : (s.setReg n x).frame = s.frame := rfl
@[simp] theorem setReg_host (n : Nat) (x : Reg) (s : State) : (s.setReg n x).host = s.host := rfl
@[simp] theorem setReg_journal (n : Nat) (x : Reg) (s : State) : (s.setReg n x).journal = s.journal := rfl
@[simp] theorem setReg_lanes (n : Nat) (x : Reg) (s : State) : (s.setReg n x).lanes = s.lanes := rfl
@[simp] theorem setReg_ports (n : Nat) (x : Reg) (s : State) : (s.setReg n x).ports = s.ports := rfl
@[simp] theorem setReg_photos (n : Nat) (x : Reg) (s : State) : (s.setReg n x).photos = s.photos := rfl
@[simp] theorem setReg_pos (n : Nat) (x : Reg) (s : State) : (s.setReg n x).pos = s.pos := rfl
@[simp] theorem setReg_grids (n : Nat) (x : Reg) (s : State) : (s.setReg n x).grids = s.grids := rfl
@[simp] theorem setReg_ress (n : Nat) (x : Reg) (s : State) : (s.setReg n x).ress = s.ress := rfl
@[simp] theorem setReg_maps (n : Nat) (x : Reg) (s : State) : (s.setReg n x).maps = s.maps := rfl
@[simp] theorem setReg_stations (n : Nat) (x : Reg) (s : State) : (s.setReg n x).stations = s.stations := rfl
@[simp] theorem setReg_outlets (n : Nat) (x : Reg) (s : State) : (s.setReg n x).outlets = s.outlets := rfl
@[simp] theorem setReg_learns (n : Nat) (x : Reg) (s : State) : (s.setReg n x).learns = s.learns := rfl
@[simp] theorem setReg_segs (n : Nat) (x : Reg) (s : State) : (s.setReg n x).segs = s.segs := rfl
@[simp] theorem setReg_ledger (n : Nat) (x : Reg) (s : State) : (s.setReg n x).ledger = s.ledger := rfl
@[simp] theorem setReg_look (n : Nat) (x : Reg) (s : State) : (s.setReg n x).look = s.look := rfl
@[simp] theorem setReg_frank (n : Nat) (x : Reg) (s : State) : (s.setReg n x).frank = s.frank := rfl
@[simp] theorem setReg_teller (n : Nat) (x : Reg) (s : State) : (s.setReg n x).teller = s.teller := rfl
@[simp] theorem setReg_dram (n : Nat) (x : Reg) (s : State) : (s.setReg n x).dram = s.dram := rfl
@[simp] theorem setReg_comp (n : Nat) (x : Reg) (s : State) : (s.setReg n x).comp = s.comp := rfl
@[simp] theorem setReg_vault (n : Nat) (x : Reg) (s : State) : (s.setReg n x).vault = s.vault := rfl
@[simp] theorem setReg_chain (n : Nat) (x : Reg) (s : State) : (s.setReg n x).chain = s.chain := rfl
@[simp] theorem setReg_twin (n : Nat) (x : Reg) (s : State) : (s.setReg n x).twin = s.twin := rfl
@[simp] theorem setReg_cal (n : Nat) (x : Reg) (s : State) : (s.setReg n x).cal = s.cal := rfl
@[simp] theorem setReg_elec (n : Nat) (x : Reg) (s : State) : (s.setReg n x).elec = s.elec := rfl
@[simp] theorem setReg_dramMem (n : Nat) (x : Reg) (s : State) : (s.setReg n x).dramMem = s.dramMem := rfl
@[simp] theorem setReg_hostMem (n : Nat) (x : Reg) (s : State) : (s.setReg n x).hostMem = s.hostMem := rfl
@[simp] theorem setReg_now (n : Nat) (x : Reg) (s : State) : (s.setReg n x).now = s.now := rfl
@[simp] theorem setReg_sent (n : Nat) (x : Reg) (s : State) : (s.setReg n x).sent = s.sent := rfl
@[simp] theorem setReg_pending (n : Nat) (x : Reg) (s : State) : (s.setReg n x).pending = s.pending := rfl
@[simp] theorem reg_setReg (n : Nat) (x : Reg) (s : State) : (s.setReg n x).reg n = x := by
  simp [State.setReg, State.reg]
theorem reg_setReg_ne (n : Nat) (x : Reg) (s : State) {k : Nat} (h : k ≠ n) : (s.setReg n x).reg k = s.reg k := by
  simp [State.setReg, State.reg, Tab.get_set_ne h]

/-! ### setSeg -/

@[simp] theorem setSeg_sys (n : Nat) (x : Seg) (s : State) : (s.setSeg n x).sys = s.sys := rfl
@[simp] theorem setSeg_modes (n : Nat) (x : Seg) (s : State) : (s.setSeg n x).modes = s.modes := rfl
@[simp] theorem setSeg_frame (n : Nat) (x : Seg) (s : State) : (s.setSeg n x).frame = s.frame := rfl
@[simp] theorem setSeg_host (n : Nat) (x : Seg) (s : State) : (s.setSeg n x).host = s.host := rfl
@[simp] theorem setSeg_journal (n : Nat) (x : Seg) (s : State) : (s.setSeg n x).journal = s.journal := rfl
@[simp] theorem setSeg_lanes (n : Nat) (x : Seg) (s : State) : (s.setSeg n x).lanes = s.lanes := rfl
@[simp] theorem setSeg_ports (n : Nat) (x : Seg) (s : State) : (s.setSeg n x).ports = s.ports := rfl
@[simp] theorem setSeg_photos (n : Nat) (x : Seg) (s : State) : (s.setSeg n x).photos = s.photos := rfl
@[simp] theorem setSeg_pos (n : Nat) (x : Seg) (s : State) : (s.setSeg n x).pos = s.pos := rfl
@[simp] theorem setSeg_grids (n : Nat) (x : Seg) (s : State) : (s.setSeg n x).grids = s.grids := rfl
@[simp] theorem setSeg_ress (n : Nat) (x : Seg) (s : State) : (s.setSeg n x).ress = s.ress := rfl
@[simp] theorem setSeg_maps (n : Nat) (x : Seg) (s : State) : (s.setSeg n x).maps = s.maps := rfl
@[simp] theorem setSeg_stations (n : Nat) (x : Seg) (s : State) : (s.setSeg n x).stations = s.stations := rfl
@[simp] theorem setSeg_outlets (n : Nat) (x : Seg) (s : State) : (s.setSeg n x).outlets = s.outlets := rfl
@[simp] theorem setSeg_learns (n : Nat) (x : Seg) (s : State) : (s.setSeg n x).learns = s.learns := rfl
@[simp] theorem setSeg_regs (n : Nat) (x : Seg) (s : State) : (s.setSeg n x).regs = s.regs := rfl
@[simp] theorem setSeg_ledger (n : Nat) (x : Seg) (s : State) : (s.setSeg n x).ledger = s.ledger := rfl
@[simp] theorem setSeg_look (n : Nat) (x : Seg) (s : State) : (s.setSeg n x).look = s.look := rfl
@[simp] theorem setSeg_frank (n : Nat) (x : Seg) (s : State) : (s.setSeg n x).frank = s.frank := rfl
@[simp] theorem setSeg_teller (n : Nat) (x : Seg) (s : State) : (s.setSeg n x).teller = s.teller := rfl
@[simp] theorem setSeg_dram (n : Nat) (x : Seg) (s : State) : (s.setSeg n x).dram = s.dram := rfl
@[simp] theorem setSeg_comp (n : Nat) (x : Seg) (s : State) : (s.setSeg n x).comp = s.comp := rfl
@[simp] theorem setSeg_vault (n : Nat) (x : Seg) (s : State) : (s.setSeg n x).vault = s.vault := rfl
@[simp] theorem setSeg_chain (n : Nat) (x : Seg) (s : State) : (s.setSeg n x).chain = s.chain := rfl
@[simp] theorem setSeg_twin (n : Nat) (x : Seg) (s : State) : (s.setSeg n x).twin = s.twin := rfl
@[simp] theorem setSeg_cal (n : Nat) (x : Seg) (s : State) : (s.setSeg n x).cal = s.cal := rfl
@[simp] theorem setSeg_elec (n : Nat) (x : Seg) (s : State) : (s.setSeg n x).elec = s.elec := rfl
@[simp] theorem setSeg_dramMem (n : Nat) (x : Seg) (s : State) : (s.setSeg n x).dramMem = s.dramMem := rfl
@[simp] theorem setSeg_hostMem (n : Nat) (x : Seg) (s : State) : (s.setSeg n x).hostMem = s.hostMem := rfl
@[simp] theorem setSeg_now (n : Nat) (x : Seg) (s : State) : (s.setSeg n x).now = s.now := rfl
@[simp] theorem setSeg_sent (n : Nat) (x : Seg) (s : State) : (s.setSeg n x).sent = s.sent := rfl
@[simp] theorem setSeg_pending (n : Nat) (x : Seg) (s : State) : (s.setSeg n x).pending = s.pending := rfl
@[simp] theorem seg_setSeg (n : Nat) (x : Seg) (s : State) : (s.setSeg n x).seg n = x := by
  simp [State.setSeg, State.seg]
theorem seg_setSeg_ne (n : Nat) (x : Seg) (s : State) {k : Nat} (h : k ≠ n) : (s.setSeg n x).seg k = s.seg k := by
  simp [State.setSeg, State.seg, Tab.get_set_ne h]

/-! ### setDistrict -/

@[simp] theorem setDistrict_sys (n : Nat) (x : District) (s : State) : (s.setDistrict n x).sys = s.sys := rfl
@[simp] theorem setDistrict_modes (n : Nat) (x : District) (s : State) : (s.setDistrict n x).modes = s.modes := rfl
@[simp] theorem setDistrict_frame (n : Nat) (x : District) (s : State) : (s.setDistrict n x).frame = s.frame := rfl
@[simp] theorem setDistrict_host (n : Nat) (x : District) (s : State) : (s.setDistrict n x).host = s.host := rfl
@[simp] theorem setDistrict_journal (n : Nat) (x : District) (s : State) : (s.setDistrict n x).journal = s.journal := rfl
@[simp] theorem setDistrict_lanes (n : Nat) (x : District) (s : State) : (s.setDistrict n x).lanes = s.lanes := rfl
@[simp] theorem setDistrict_ports (n : Nat) (x : District) (s : State) : (s.setDistrict n x).ports = s.ports := rfl
@[simp] theorem setDistrict_photos (n : Nat) (x : District) (s : State) : (s.setDistrict n x).photos = s.photos := rfl
@[simp] theorem setDistrict_pos (n : Nat) (x : District) (s : State) : (s.setDistrict n x).pos = s.pos := rfl
@[simp] theorem setDistrict_grids (n : Nat) (x : District) (s : State) : (s.setDistrict n x).grids = s.grids := rfl
@[simp] theorem setDistrict_ress (n : Nat) (x : District) (s : State) : (s.setDistrict n x).ress = s.ress := rfl
@[simp] theorem setDistrict_maps (n : Nat) (x : District) (s : State) : (s.setDistrict n x).maps = s.maps := rfl
@[simp] theorem setDistrict_stations (n : Nat) (x : District) (s : State) : (s.setDistrict n x).stations = s.stations := rfl
@[simp] theorem setDistrict_outlets (n : Nat) (x : District) (s : State) : (s.setDistrict n x).outlets = s.outlets := rfl
@[simp] theorem setDistrict_learns (n : Nat) (x : District) (s : State) : (s.setDistrict n x).learns = s.learns := rfl
@[simp] theorem setDistrict_regs (n : Nat) (x : District) (s : State) : (s.setDistrict n x).regs = s.regs := rfl
@[simp] theorem setDistrict_segs (n : Nat) (x : District) (s : State) : (s.setDistrict n x).segs = s.segs := rfl
@[simp] theorem setDistrict_ledger (n : Nat) (x : District) (s : State) : (s.setDistrict n x).ledger = s.ledger := rfl
@[simp] theorem setDistrict_look (n : Nat) (x : District) (s : State) : (s.setDistrict n x).look = s.look := rfl
@[simp] theorem setDistrict_frank (n : Nat) (x : District) (s : State) : (s.setDistrict n x).frank = s.frank := rfl
@[simp] theorem setDistrict_dram (n : Nat) (x : District) (s : State) : (s.setDistrict n x).dram = s.dram := rfl
@[simp] theorem setDistrict_comp (n : Nat) (x : District) (s : State) : (s.setDistrict n x).comp = s.comp := rfl
@[simp] theorem setDistrict_vault (n : Nat) (x : District) (s : State) : (s.setDistrict n x).vault = s.vault := rfl
@[simp] theorem setDistrict_chain (n : Nat) (x : District) (s : State) : (s.setDistrict n x).chain = s.chain := rfl
@[simp] theorem setDistrict_twin (n : Nat) (x : District) (s : State) : (s.setDistrict n x).twin = s.twin := rfl
@[simp] theorem setDistrict_cal (n : Nat) (x : District) (s : State) : (s.setDistrict n x).cal = s.cal := rfl
@[simp] theorem setDistrict_elec (n : Nat) (x : District) (s : State) : (s.setDistrict n x).elec = s.elec := rfl
@[simp] theorem setDistrict_dramMem (n : Nat) (x : District) (s : State) : (s.setDistrict n x).dramMem = s.dramMem := rfl
@[simp] theorem setDistrict_hostMem (n : Nat) (x : District) (s : State) : (s.setDistrict n x).hostMem = s.hostMem := rfl
@[simp] theorem setDistrict_now (n : Nat) (x : District) (s : State) : (s.setDistrict n x).now = s.now := rfl
@[simp] theorem setDistrict_sent (n : Nat) (x : District) (s : State) : (s.setDistrict n x).sent = s.sent := rfl
@[simp] theorem setDistrict_pending (n : Nat) (x : District) (s : State) : (s.setDistrict n x).pending = s.pending := rfl
@[simp] theorem district_setDistrict (n : Nat) (x : District) (s : State) : (s.setDistrict n x).district n = x := by
  simp [State.setDistrict, State.district]
theorem district_setDistrict_ne (n : Nat) (x : District) (s : State) {k : Nat} (h : k ≠ n) : (s.setDistrict n x).district k = s.district k := by
  simp [State.setDistrict, State.district, Tab.get_set_ne h]

/-! ### setDecl -/

@[simp] theorem setDecl_sys (n : Nat) (x : StationDecl) (s : State) : (s.setDecl n x).sys = s.sys := rfl
@[simp] theorem setDecl_modes (n : Nat) (x : StationDecl) (s : State) : (s.setDecl n x).modes = s.modes := rfl
@[simp] theorem setDecl_frame (n : Nat) (x : StationDecl) (s : State) : (s.setDecl n x).frame = s.frame := rfl
@[simp] theorem setDecl_host (n : Nat) (x : StationDecl) (s : State) : (s.setDecl n x).host = s.host := rfl
@[simp] theorem setDecl_journal (n : Nat) (x : StationDecl) (s : State) : (s.setDecl n x).journal = s.journal := rfl
@[simp] theorem setDecl_lanes (n : Nat) (x : StationDecl) (s : State) : (s.setDecl n x).lanes = s.lanes := rfl
@[simp] theorem setDecl_ports (n : Nat) (x : StationDecl) (s : State) : (s.setDecl n x).ports = s.ports := rfl
@[simp] theorem setDecl_photos (n : Nat) (x : StationDecl) (s : State) : (s.setDecl n x).photos = s.photos := rfl
@[simp] theorem setDecl_pos (n : Nat) (x : StationDecl) (s : State) : (s.setDecl n x).pos = s.pos := rfl
@[simp] theorem setDecl_grids (n : Nat) (x : StationDecl) (s : State) : (s.setDecl n x).grids = s.grids := rfl
@[simp] theorem setDecl_ress (n : Nat) (x : StationDecl) (s : State) : (s.setDecl n x).ress = s.ress := rfl
@[simp] theorem setDecl_maps (n : Nat) (x : StationDecl) (s : State) : (s.setDecl n x).maps = s.maps := rfl
@[simp] theorem setDecl_stations (n : Nat) (x : StationDecl) (s : State) : (s.setDecl n x).stations = s.stations := rfl
@[simp] theorem setDecl_outlets (n : Nat) (x : StationDecl) (s : State) : (s.setDecl n x).outlets = s.outlets := rfl
@[simp] theorem setDecl_learns (n : Nat) (x : StationDecl) (s : State) : (s.setDecl n x).learns = s.learns := rfl
@[simp] theorem setDecl_regs (n : Nat) (x : StationDecl) (s : State) : (s.setDecl n x).regs = s.regs := rfl
@[simp] theorem setDecl_segs (n : Nat) (x : StationDecl) (s : State) : (s.setDecl n x).segs = s.segs := rfl
@[simp] theorem setDecl_ledger (n : Nat) (x : StationDecl) (s : State) : (s.setDecl n x).ledger = s.ledger := rfl
@[simp] theorem setDecl_look (n : Nat) (x : StationDecl) (s : State) : (s.setDecl n x).look = s.look := rfl
@[simp] theorem setDecl_frank (n : Nat) (x : StationDecl) (s : State) : (s.setDecl n x).frank = s.frank := rfl
@[simp] theorem setDecl_dram (n : Nat) (x : StationDecl) (s : State) : (s.setDecl n x).dram = s.dram := rfl
@[simp] theorem setDecl_comp (n : Nat) (x : StationDecl) (s : State) : (s.setDecl n x).comp = s.comp := rfl
@[simp] theorem setDecl_vault (n : Nat) (x : StationDecl) (s : State) : (s.setDecl n x).vault = s.vault := rfl
@[simp] theorem setDecl_chain (n : Nat) (x : StationDecl) (s : State) : (s.setDecl n x).chain = s.chain := rfl
@[simp] theorem setDecl_twin (n : Nat) (x : StationDecl) (s : State) : (s.setDecl n x).twin = s.twin := rfl
@[simp] theorem setDecl_cal (n : Nat) (x : StationDecl) (s : State) : (s.setDecl n x).cal = s.cal := rfl
@[simp] theorem setDecl_elec (n : Nat) (x : StationDecl) (s : State) : (s.setDecl n x).elec = s.elec := rfl
@[simp] theorem setDecl_dramMem (n : Nat) (x : StationDecl) (s : State) : (s.setDecl n x).dramMem = s.dramMem := rfl
@[simp] theorem setDecl_hostMem (n : Nat) (x : StationDecl) (s : State) : (s.setDecl n x).hostMem = s.hostMem := rfl
@[simp] theorem setDecl_now (n : Nat) (x : StationDecl) (s : State) : (s.setDecl n x).now = s.now := rfl
@[simp] theorem setDecl_sent (n : Nat) (x : StationDecl) (s : State) : (s.setDecl n x).sent = s.sent := rfl
@[simp] theorem setDecl_pending (n : Nat) (x : StationDecl) (s : State) : (s.setDecl n x).pending = s.pending := rfl
@[simp] theorem decl_setDecl (n : Nat) (x : StationDecl) (s : State) : (s.setDecl n x).decl n = x := by
  simp [State.setDecl, State.decl]
theorem decl_setDecl_ne (n : Nat) (x : StationDecl) (s : State) {k : Nat} (h : k ≠ n) : (s.setDecl n x).decl k = s.decl k := by
  simp [State.setDecl, State.decl, Tab.get_set_ne h]

/-! ### setSuperblock -/

@[simp] theorem setSuperblock_sys (n : Nat) (x : Superblock) (s : State) : (s.setSuperblock n x).sys = s.sys := rfl
@[simp] theorem setSuperblock_modes (n : Nat) (x : Superblock) (s : State) : (s.setSuperblock n x).modes = s.modes := rfl
@[simp] theorem setSuperblock_frame (n : Nat) (x : Superblock) (s : State) : (s.setSuperblock n x).frame = s.frame := rfl
@[simp] theorem setSuperblock_host (n : Nat) (x : Superblock) (s : State) : (s.setSuperblock n x).host = s.host := rfl
@[simp] theorem setSuperblock_journal (n : Nat) (x : Superblock) (s : State) : (s.setSuperblock n x).journal = s.journal := rfl
@[simp] theorem setSuperblock_lanes (n : Nat) (x : Superblock) (s : State) : (s.setSuperblock n x).lanes = s.lanes := rfl
@[simp] theorem setSuperblock_ports (n : Nat) (x : Superblock) (s : State) : (s.setSuperblock n x).ports = s.ports := rfl
@[simp] theorem setSuperblock_photos (n : Nat) (x : Superblock) (s : State) : (s.setSuperblock n x).photos = s.photos := rfl
@[simp] theorem setSuperblock_pos (n : Nat) (x : Superblock) (s : State) : (s.setSuperblock n x).pos = s.pos := rfl
@[simp] theorem setSuperblock_grids (n : Nat) (x : Superblock) (s : State) : (s.setSuperblock n x).grids = s.grids := rfl
@[simp] theorem setSuperblock_ress (n : Nat) (x : Superblock) (s : State) : (s.setSuperblock n x).ress = s.ress := rfl
@[simp] theorem setSuperblock_maps (n : Nat) (x : Superblock) (s : State) : (s.setSuperblock n x).maps = s.maps := rfl
@[simp] theorem setSuperblock_stations (n : Nat) (x : Superblock) (s : State) : (s.setSuperblock n x).stations = s.stations := rfl
@[simp] theorem setSuperblock_outlets (n : Nat) (x : Superblock) (s : State) : (s.setSuperblock n x).outlets = s.outlets := rfl
@[simp] theorem setSuperblock_learns (n : Nat) (x : Superblock) (s : State) : (s.setSuperblock n x).learns = s.learns := rfl
@[simp] theorem setSuperblock_regs (n : Nat) (x : Superblock) (s : State) : (s.setSuperblock n x).regs = s.regs := rfl
@[simp] theorem setSuperblock_segs (n : Nat) (x : Superblock) (s : State) : (s.setSuperblock n x).segs = s.segs := rfl
@[simp] theorem setSuperblock_ledger (n : Nat) (x : Superblock) (s : State) : (s.setSuperblock n x).ledger = s.ledger := rfl
@[simp] theorem setSuperblock_look (n : Nat) (x : Superblock) (s : State) : (s.setSuperblock n x).look = s.look := rfl
@[simp] theorem setSuperblock_frank (n : Nat) (x : Superblock) (s : State) : (s.setSuperblock n x).frank = s.frank := rfl
@[simp] theorem setSuperblock_teller (n : Nat) (x : Superblock) (s : State) : (s.setSuperblock n x).teller = s.teller := rfl
@[simp] theorem setSuperblock_dram (n : Nat) (x : Superblock) (s : State) : (s.setSuperblock n x).dram = s.dram := rfl
@[simp] theorem setSuperblock_comp (n : Nat) (x : Superblock) (s : State) : (s.setSuperblock n x).comp = s.comp := rfl
@[simp] theorem setSuperblock_chain (n : Nat) (x : Superblock) (s : State) : (s.setSuperblock n x).chain = s.chain := rfl
@[simp] theorem setSuperblock_twin (n : Nat) (x : Superblock) (s : State) : (s.setSuperblock n x).twin = s.twin := rfl
@[simp] theorem setSuperblock_cal (n : Nat) (x : Superblock) (s : State) : (s.setSuperblock n x).cal = s.cal := rfl
@[simp] theorem setSuperblock_elec (n : Nat) (x : Superblock) (s : State) : (s.setSuperblock n x).elec = s.elec := rfl
@[simp] theorem setSuperblock_dramMem (n : Nat) (x : Superblock) (s : State) : (s.setSuperblock n x).dramMem = s.dramMem := rfl
@[simp] theorem setSuperblock_hostMem (n : Nat) (x : Superblock) (s : State) : (s.setSuperblock n x).hostMem = s.hostMem := rfl
@[simp] theorem setSuperblock_now (n : Nat) (x : Superblock) (s : State) : (s.setSuperblock n x).now = s.now := rfl
@[simp] theorem setSuperblock_sent (n : Nat) (x : Superblock) (s : State) : (s.setSuperblock n x).sent = s.sent := rfl
@[simp] theorem setSuperblock_pending (n : Nat) (x : Superblock) (s : State) : (s.setSuperblock n x).pending = s.pending := rfl
@[simp] theorem superblock_setSuperblock (n : Nat) (x : Superblock) (s : State) : (s.setSuperblock n x).superblock n = x := by
  simp [State.setSuperblock, State.superblock]
theorem superblock_setSuperblock_ne (n : Nat) (x : Superblock) (s : State) {k : Nat} (h : k ≠ n) : (s.setSuperblock n x).superblock k = s.superblock k := by
  simp [State.setSuperblock, State.superblock, Tab.get_set_ne h]

/-! ### setFwSlot -/

@[simp] theorem setFwSlot_sys (n : Nat) (x : FwSlot) (s : State) : (s.setFwSlot n x).sys = s.sys := rfl
@[simp] theorem setFwSlot_modes (n : Nat) (x : FwSlot) (s : State) : (s.setFwSlot n x).modes = s.modes := rfl
@[simp] theorem setFwSlot_frame (n : Nat) (x : FwSlot) (s : State) : (s.setFwSlot n x).frame = s.frame := rfl
@[simp] theorem setFwSlot_host (n : Nat) (x : FwSlot) (s : State) : (s.setFwSlot n x).host = s.host := rfl
@[simp] theorem setFwSlot_journal (n : Nat) (x : FwSlot) (s : State) : (s.setFwSlot n x).journal = s.journal := rfl
@[simp] theorem setFwSlot_lanes (n : Nat) (x : FwSlot) (s : State) : (s.setFwSlot n x).lanes = s.lanes := rfl
@[simp] theorem setFwSlot_ports (n : Nat) (x : FwSlot) (s : State) : (s.setFwSlot n x).ports = s.ports := rfl
@[simp] theorem setFwSlot_photos (n : Nat) (x : FwSlot) (s : State) : (s.setFwSlot n x).photos = s.photos := rfl
@[simp] theorem setFwSlot_pos (n : Nat) (x : FwSlot) (s : State) : (s.setFwSlot n x).pos = s.pos := rfl
@[simp] theorem setFwSlot_grids (n : Nat) (x : FwSlot) (s : State) : (s.setFwSlot n x).grids = s.grids := rfl
@[simp] theorem setFwSlot_ress (n : Nat) (x : FwSlot) (s : State) : (s.setFwSlot n x).ress = s.ress := rfl
@[simp] theorem setFwSlot_maps (n : Nat) (x : FwSlot) (s : State) : (s.setFwSlot n x).maps = s.maps := rfl
@[simp] theorem setFwSlot_stations (n : Nat) (x : FwSlot) (s : State) : (s.setFwSlot n x).stations = s.stations := rfl
@[simp] theorem setFwSlot_outlets (n : Nat) (x : FwSlot) (s : State) : (s.setFwSlot n x).outlets = s.outlets := rfl
@[simp] theorem setFwSlot_learns (n : Nat) (x : FwSlot) (s : State) : (s.setFwSlot n x).learns = s.learns := rfl
@[simp] theorem setFwSlot_regs (n : Nat) (x : FwSlot) (s : State) : (s.setFwSlot n x).regs = s.regs := rfl
@[simp] theorem setFwSlot_segs (n : Nat) (x : FwSlot) (s : State) : (s.setFwSlot n x).segs = s.segs := rfl
@[simp] theorem setFwSlot_ledger (n : Nat) (x : FwSlot) (s : State) : (s.setFwSlot n x).ledger = s.ledger := rfl
@[simp] theorem setFwSlot_look (n : Nat) (x : FwSlot) (s : State) : (s.setFwSlot n x).look = s.look := rfl
@[simp] theorem setFwSlot_frank (n : Nat) (x : FwSlot) (s : State) : (s.setFwSlot n x).frank = s.frank := rfl
@[simp] theorem setFwSlot_teller (n : Nat) (x : FwSlot) (s : State) : (s.setFwSlot n x).teller = s.teller := rfl
@[simp] theorem setFwSlot_dram (n : Nat) (x : FwSlot) (s : State) : (s.setFwSlot n x).dram = s.dram := rfl
@[simp] theorem setFwSlot_comp (n : Nat) (x : FwSlot) (s : State) : (s.setFwSlot n x).comp = s.comp := rfl
@[simp] theorem setFwSlot_chain (n : Nat) (x : FwSlot) (s : State) : (s.setFwSlot n x).chain = s.chain := rfl
@[simp] theorem setFwSlot_twin (n : Nat) (x : FwSlot) (s : State) : (s.setFwSlot n x).twin = s.twin := rfl
@[simp] theorem setFwSlot_cal (n : Nat) (x : FwSlot) (s : State) : (s.setFwSlot n x).cal = s.cal := rfl
@[simp] theorem setFwSlot_elec (n : Nat) (x : FwSlot) (s : State) : (s.setFwSlot n x).elec = s.elec := rfl
@[simp] theorem setFwSlot_dramMem (n : Nat) (x : FwSlot) (s : State) : (s.setFwSlot n x).dramMem = s.dramMem := rfl
@[simp] theorem setFwSlot_hostMem (n : Nat) (x : FwSlot) (s : State) : (s.setFwSlot n x).hostMem = s.hostMem := rfl
@[simp] theorem setFwSlot_now (n : Nat) (x : FwSlot) (s : State) : (s.setFwSlot n x).now = s.now := rfl
@[simp] theorem setFwSlot_sent (n : Nat) (x : FwSlot) (s : State) : (s.setFwSlot n x).sent = s.sent := rfl
@[simp] theorem setFwSlot_pending (n : Nat) (x : FwSlot) (s : State) : (s.setFwSlot n x).pending = s.pending := rfl
@[simp] theorem fwSlot_setFwSlot (n : Nat) (x : FwSlot) (s : State) : (s.setFwSlot n x).fwSlot n = x := by
  simp [State.setFwSlot, State.fwSlot]
theorem fwSlot_setFwSlot_ne (n : Nat) (x : FwSlot) (s : State) {k : Nat} (h : k ≠ n) : (s.setFwSlot n x).fwSlot k = s.fwSlot k := by
  simp [State.setFwSlot, State.fwSlot, Tab.get_set_ne h]

/-! ### setEngine -/

@[simp] theorem setEngine_sys (n : Nat) (x : Engine) (s : State) : (s.setEngine n x).sys = s.sys := rfl
@[simp] theorem setEngine_modes (n : Nat) (x : Engine) (s : State) : (s.setEngine n x).modes = s.modes := rfl
@[simp] theorem setEngine_frame (n : Nat) (x : Engine) (s : State) : (s.setEngine n x).frame = s.frame := rfl
@[simp] theorem setEngine_host (n : Nat) (x : Engine) (s : State) : (s.setEngine n x).host = s.host := rfl
@[simp] theorem setEngine_journal (n : Nat) (x : Engine) (s : State) : (s.setEngine n x).journal = s.journal := rfl
@[simp] theorem setEngine_lanes (n : Nat) (x : Engine) (s : State) : (s.setEngine n x).lanes = s.lanes := rfl
@[simp] theorem setEngine_ports (n : Nat) (x : Engine) (s : State) : (s.setEngine n x).ports = s.ports := rfl
@[simp] theorem setEngine_photos (n : Nat) (x : Engine) (s : State) : (s.setEngine n x).photos = s.photos := rfl
@[simp] theorem setEngine_pos (n : Nat) (x : Engine) (s : State) : (s.setEngine n x).pos = s.pos := rfl
@[simp] theorem setEngine_grids (n : Nat) (x : Engine) (s : State) : (s.setEngine n x).grids = s.grids := rfl
@[simp] theorem setEngine_ress (n : Nat) (x : Engine) (s : State) : (s.setEngine n x).ress = s.ress := rfl
@[simp] theorem setEngine_maps (n : Nat) (x : Engine) (s : State) : (s.setEngine n x).maps = s.maps := rfl
@[simp] theorem setEngine_stations (n : Nat) (x : Engine) (s : State) : (s.setEngine n x).stations = s.stations := rfl
@[simp] theorem setEngine_outlets (n : Nat) (x : Engine) (s : State) : (s.setEngine n x).outlets = s.outlets := rfl
@[simp] theorem setEngine_learns (n : Nat) (x : Engine) (s : State) : (s.setEngine n x).learns = s.learns := rfl
@[simp] theorem setEngine_regs (n : Nat) (x : Engine) (s : State) : (s.setEngine n x).regs = s.regs := rfl
@[simp] theorem setEngine_segs (n : Nat) (x : Engine) (s : State) : (s.setEngine n x).segs = s.segs := rfl
@[simp] theorem setEngine_ledger (n : Nat) (x : Engine) (s : State) : (s.setEngine n x).ledger = s.ledger := rfl
@[simp] theorem setEngine_look (n : Nat) (x : Engine) (s : State) : (s.setEngine n x).look = s.look := rfl
@[simp] theorem setEngine_frank (n : Nat) (x : Engine) (s : State) : (s.setEngine n x).frank = s.frank := rfl
@[simp] theorem setEngine_teller (n : Nat) (x : Engine) (s : State) : (s.setEngine n x).teller = s.teller := rfl
@[simp] theorem setEngine_dram (n : Nat) (x : Engine) (s : State) : (s.setEngine n x).dram = s.dram := rfl
@[simp] theorem setEngine_vault (n : Nat) (x : Engine) (s : State) : (s.setEngine n x).vault = s.vault := rfl
@[simp] theorem setEngine_chain (n : Nat) (x : Engine) (s : State) : (s.setEngine n x).chain = s.chain := rfl
@[simp] theorem setEngine_twin (n : Nat) (x : Engine) (s : State) : (s.setEngine n x).twin = s.twin := rfl
@[simp] theorem setEngine_cal (n : Nat) (x : Engine) (s : State) : (s.setEngine n x).cal = s.cal := rfl
@[simp] theorem setEngine_elec (n : Nat) (x : Engine) (s : State) : (s.setEngine n x).elec = s.elec := rfl
@[simp] theorem setEngine_dramMem (n : Nat) (x : Engine) (s : State) : (s.setEngine n x).dramMem = s.dramMem := rfl
@[simp] theorem setEngine_hostMem (n : Nat) (x : Engine) (s : State) : (s.setEngine n x).hostMem = s.hostMem := rfl
@[simp] theorem setEngine_now (n : Nat) (x : Engine) (s : State) : (s.setEngine n x).now = s.now := rfl
@[simp] theorem setEngine_sent (n : Nat) (x : Engine) (s : State) : (s.setEngine n x).sent = s.sent := rfl
@[simp] theorem setEngine_pending (n : Nat) (x : Engine) (s : State) : (s.setEngine n x).pending = s.pending := rfl
@[simp] theorem engine_setEngine (n : Nat) (x : Engine) (s : State) : (s.setEngine n x).engine n = x := by
  simp [State.setEngine, State.engine]
theorem engine_setEngine_ne (n : Nat) (x : Engine) (s : State) {k : Nat} (h : k ≠ n) : (s.setEngine n x).engine k = s.engine k := by
  simp [State.setEngine, State.engine, Tab.get_set_ne h]

/-! ### setStLedger -/

@[simp] theorem setStLedger_sys (n : Nat) (x : StLedger) (s : State) : (s.setStLedger n x).sys = s.sys := rfl
@[simp] theorem setStLedger_modes (n : Nat) (x : StLedger) (s : State) : (s.setStLedger n x).modes = s.modes := rfl
@[simp] theorem setStLedger_frame (n : Nat) (x : StLedger) (s : State) : (s.setStLedger n x).frame = s.frame := rfl
@[simp] theorem setStLedger_host (n : Nat) (x : StLedger) (s : State) : (s.setStLedger n x).host = s.host := rfl
@[simp] theorem setStLedger_journal (n : Nat) (x : StLedger) (s : State) : (s.setStLedger n x).journal = s.journal := rfl
@[simp] theorem setStLedger_lanes (n : Nat) (x : StLedger) (s : State) : (s.setStLedger n x).lanes = s.lanes := rfl
@[simp] theorem setStLedger_ports (n : Nat) (x : StLedger) (s : State) : (s.setStLedger n x).ports = s.ports := rfl
@[simp] theorem setStLedger_photos (n : Nat) (x : StLedger) (s : State) : (s.setStLedger n x).photos = s.photos := rfl
@[simp] theorem setStLedger_pos (n : Nat) (x : StLedger) (s : State) : (s.setStLedger n x).pos = s.pos := rfl
@[simp] theorem setStLedger_grids (n : Nat) (x : StLedger) (s : State) : (s.setStLedger n x).grids = s.grids := rfl
@[simp] theorem setStLedger_ress (n : Nat) (x : StLedger) (s : State) : (s.setStLedger n x).ress = s.ress := rfl
@[simp] theorem setStLedger_maps (n : Nat) (x : StLedger) (s : State) : (s.setStLedger n x).maps = s.maps := rfl
@[simp] theorem setStLedger_stations (n : Nat) (x : StLedger) (s : State) : (s.setStLedger n x).stations = s.stations := rfl
@[simp] theorem setStLedger_outlets (n : Nat) (x : StLedger) (s : State) : (s.setStLedger n x).outlets = s.outlets := rfl
@[simp] theorem setStLedger_learns (n : Nat) (x : StLedger) (s : State) : (s.setStLedger n x).learns = s.learns := rfl
@[simp] theorem setStLedger_regs (n : Nat) (x : StLedger) (s : State) : (s.setStLedger n x).regs = s.regs := rfl
@[simp] theorem setStLedger_segs (n : Nat) (x : StLedger) (s : State) : (s.setStLedger n x).segs = s.segs := rfl
@[simp] theorem setStLedger_look (n : Nat) (x : StLedger) (s : State) : (s.setStLedger n x).look = s.look := rfl
@[simp] theorem setStLedger_frank (n : Nat) (x : StLedger) (s : State) : (s.setStLedger n x).frank = s.frank := rfl
@[simp] theorem setStLedger_teller (n : Nat) (x : StLedger) (s : State) : (s.setStLedger n x).teller = s.teller := rfl
@[simp] theorem setStLedger_dram (n : Nat) (x : StLedger) (s : State) : (s.setStLedger n x).dram = s.dram := rfl
@[simp] theorem setStLedger_comp (n : Nat) (x : StLedger) (s : State) : (s.setStLedger n x).comp = s.comp := rfl
@[simp] theorem setStLedger_vault (n : Nat) (x : StLedger) (s : State) : (s.setStLedger n x).vault = s.vault := rfl
@[simp] theorem setStLedger_chain (n : Nat) (x : StLedger) (s : State) : (s.setStLedger n x).chain = s.chain := rfl
@[simp] theorem setStLedger_twin (n : Nat) (x : StLedger) (s : State) : (s.setStLedger n x).twin = s.twin := rfl
@[simp] theorem setStLedger_cal (n : Nat) (x : StLedger) (s : State) : (s.setStLedger n x).cal = s.cal := rfl
@[simp] theorem setStLedger_elec (n : Nat) (x : StLedger) (s : State) : (s.setStLedger n x).elec = s.elec := rfl
@[simp] theorem setStLedger_dramMem (n : Nat) (x : StLedger) (s : State) : (s.setStLedger n x).dramMem = s.dramMem := rfl
@[simp] theorem setStLedger_hostMem (n : Nat) (x : StLedger) (s : State) : (s.setStLedger n x).hostMem = s.hostMem := rfl
@[simp] theorem setStLedger_now (n : Nat) (x : StLedger) (s : State) : (s.setStLedger n x).now = s.now := rfl
@[simp] theorem setStLedger_sent (n : Nat) (x : StLedger) (s : State) : (s.setStLedger n x).sent = s.sent := rfl
@[simp] theorem setStLedger_pending (n : Nat) (x : StLedger) (s : State) : (s.setStLedger n x).pending = s.pending := rfl
@[simp] theorem stLedger_setStLedger (n : Nat) (x : StLedger) (s : State) : (s.setStLedger n x).stLedger n = x := by
  simp [State.setStLedger, State.stLedger]
theorem stLedger_setStLedger_ne (n : Nat) (x : StLedger) (s : State) {k : Nat} (h : k ≠ n) : (s.setStLedger n x).stLedger k = s.stLedger k := by
  simp [State.setStLedger, State.stLedger, Tab.get_set_ne h]

/-! ### setOutRule -/

@[simp] theorem setOutRule_sys (n : Nat) (x : OutRule) (s : State) : (s.setOutRule n x).sys = s.sys := rfl
@[simp] theorem setOutRule_modes (n : Nat) (x : OutRule) (s : State) : (s.setOutRule n x).modes = s.modes := rfl
@[simp] theorem setOutRule_frame (n : Nat) (x : OutRule) (s : State) : (s.setOutRule n x).frame = s.frame := rfl
@[simp] theorem setOutRule_host (n : Nat) (x : OutRule) (s : State) : (s.setOutRule n x).host = s.host := rfl
@[simp] theorem setOutRule_journal (n : Nat) (x : OutRule) (s : State) : (s.setOutRule n x).journal = s.journal := rfl
@[simp] theorem setOutRule_lanes (n : Nat) (x : OutRule) (s : State) : (s.setOutRule n x).lanes = s.lanes := rfl
@[simp] theorem setOutRule_ports (n : Nat) (x : OutRule) (s : State) : (s.setOutRule n x).ports = s.ports := rfl
@[simp] theorem setOutRule_photos (n : Nat) (x : OutRule) (s : State) : (s.setOutRule n x).photos = s.photos := rfl
@[simp] theorem setOutRule_pos (n : Nat) (x : OutRule) (s : State) : (s.setOutRule n x).pos = s.pos := rfl
@[simp] theorem setOutRule_grids (n : Nat) (x : OutRule) (s : State) : (s.setOutRule n x).grids = s.grids := rfl
@[simp] theorem setOutRule_ress (n : Nat) (x : OutRule) (s : State) : (s.setOutRule n x).ress = s.ress := rfl
@[simp] theorem setOutRule_maps (n : Nat) (x : OutRule) (s : State) : (s.setOutRule n x).maps = s.maps := rfl
@[simp] theorem setOutRule_stations (n : Nat) (x : OutRule) (s : State) : (s.setOutRule n x).stations = s.stations := rfl
@[simp] theorem setOutRule_outlets (n : Nat) (x : OutRule) (s : State) : (s.setOutRule n x).outlets = s.outlets := rfl
@[simp] theorem setOutRule_learns (n : Nat) (x : OutRule) (s : State) : (s.setOutRule n x).learns = s.learns := rfl
@[simp] theorem setOutRule_regs (n : Nat) (x : OutRule) (s : State) : (s.setOutRule n x).regs = s.regs := rfl
@[simp] theorem setOutRule_segs (n : Nat) (x : OutRule) (s : State) : (s.setOutRule n x).segs = s.segs := rfl
@[simp] theorem setOutRule_look (n : Nat) (x : OutRule) (s : State) : (s.setOutRule n x).look = s.look := rfl
@[simp] theorem setOutRule_frank (n : Nat) (x : OutRule) (s : State) : (s.setOutRule n x).frank = s.frank := rfl
@[simp] theorem setOutRule_teller (n : Nat) (x : OutRule) (s : State) : (s.setOutRule n x).teller = s.teller := rfl
@[simp] theorem setOutRule_dram (n : Nat) (x : OutRule) (s : State) : (s.setOutRule n x).dram = s.dram := rfl
@[simp] theorem setOutRule_comp (n : Nat) (x : OutRule) (s : State) : (s.setOutRule n x).comp = s.comp := rfl
@[simp] theorem setOutRule_vault (n : Nat) (x : OutRule) (s : State) : (s.setOutRule n x).vault = s.vault := rfl
@[simp] theorem setOutRule_chain (n : Nat) (x : OutRule) (s : State) : (s.setOutRule n x).chain = s.chain := rfl
@[simp] theorem setOutRule_twin (n : Nat) (x : OutRule) (s : State) : (s.setOutRule n x).twin = s.twin := rfl
@[simp] theorem setOutRule_cal (n : Nat) (x : OutRule) (s : State) : (s.setOutRule n x).cal = s.cal := rfl
@[simp] theorem setOutRule_elec (n : Nat) (x : OutRule) (s : State) : (s.setOutRule n x).elec = s.elec := rfl
@[simp] theorem setOutRule_dramMem (n : Nat) (x : OutRule) (s : State) : (s.setOutRule n x).dramMem = s.dramMem := rfl
@[simp] theorem setOutRule_hostMem (n : Nat) (x : OutRule) (s : State) : (s.setOutRule n x).hostMem = s.hostMem := rfl
@[simp] theorem setOutRule_now (n : Nat) (x : OutRule) (s : State) : (s.setOutRule n x).now = s.now := rfl
@[simp] theorem setOutRule_sent (n : Nat) (x : OutRule) (s : State) : (s.setOutRule n x).sent = s.sent := rfl
@[simp] theorem setOutRule_pending (n : Nat) (x : OutRule) (s : State) : (s.setOutRule n x).pending = s.pending := rfl
@[simp] theorem outRule_setOutRule (n : Nat) (x : OutRule) (s : State) : (s.setOutRule n x).outRule n = x := by
  simp [State.setOutRule, State.outRule]
theorem outRule_setOutRule_ne (n : Nat) (x : OutRule) (s : State) {k : Nat} (h : k ≠ n) : (s.setOutRule n x).outRule k = s.outRule k := by
  simp [State.setOutRule, State.outRule, Tab.get_set_ne h]

/-! ### setRuleGates -/

@[simp] theorem setRuleGates_sys (n : Nat) (x : RuleGates) (s : State) : (s.setRuleGates n x).sys = s.sys := rfl
@[simp] theorem setRuleGates_modes (n : Nat) (x : RuleGates) (s : State) : (s.setRuleGates n x).modes = s.modes := rfl
@[simp] theorem setRuleGates_frame (n : Nat) (x : RuleGates) (s : State) : (s.setRuleGates n x).frame = s.frame := rfl
@[simp] theorem setRuleGates_host (n : Nat) (x : RuleGates) (s : State) : (s.setRuleGates n x).host = s.host := rfl
@[simp] theorem setRuleGates_journal (n : Nat) (x : RuleGates) (s : State) : (s.setRuleGates n x).journal = s.journal := rfl
@[simp] theorem setRuleGates_lanes (n : Nat) (x : RuleGates) (s : State) : (s.setRuleGates n x).lanes = s.lanes := rfl
@[simp] theorem setRuleGates_ports (n : Nat) (x : RuleGates) (s : State) : (s.setRuleGates n x).ports = s.ports := rfl
@[simp] theorem setRuleGates_photos (n : Nat) (x : RuleGates) (s : State) : (s.setRuleGates n x).photos = s.photos := rfl
@[simp] theorem setRuleGates_pos (n : Nat) (x : RuleGates) (s : State) : (s.setRuleGates n x).pos = s.pos := rfl
@[simp] theorem setRuleGates_grids (n : Nat) (x : RuleGates) (s : State) : (s.setRuleGates n x).grids = s.grids := rfl
@[simp] theorem setRuleGates_ress (n : Nat) (x : RuleGates) (s : State) : (s.setRuleGates n x).ress = s.ress := rfl
@[simp] theorem setRuleGates_maps (n : Nat) (x : RuleGates) (s : State) : (s.setRuleGates n x).maps = s.maps := rfl
@[simp] theorem setRuleGates_stations (n : Nat) (x : RuleGates) (s : State) : (s.setRuleGates n x).stations = s.stations := rfl
@[simp] theorem setRuleGates_outlets (n : Nat) (x : RuleGates) (s : State) : (s.setRuleGates n x).outlets = s.outlets := rfl
@[simp] theorem setRuleGates_learns (n : Nat) (x : RuleGates) (s : State) : (s.setRuleGates n x).learns = s.learns := rfl
@[simp] theorem setRuleGates_regs (n : Nat) (x : RuleGates) (s : State) : (s.setRuleGates n x).regs = s.regs := rfl
@[simp] theorem setRuleGates_segs (n : Nat) (x : RuleGates) (s : State) : (s.setRuleGates n x).segs = s.segs := rfl
@[simp] theorem setRuleGates_look (n : Nat) (x : RuleGates) (s : State) : (s.setRuleGates n x).look = s.look := rfl
@[simp] theorem setRuleGates_frank (n : Nat) (x : RuleGates) (s : State) : (s.setRuleGates n x).frank = s.frank := rfl
@[simp] theorem setRuleGates_teller (n : Nat) (x : RuleGates) (s : State) : (s.setRuleGates n x).teller = s.teller := rfl
@[simp] theorem setRuleGates_dram (n : Nat) (x : RuleGates) (s : State) : (s.setRuleGates n x).dram = s.dram := rfl
@[simp] theorem setRuleGates_comp (n : Nat) (x : RuleGates) (s : State) : (s.setRuleGates n x).comp = s.comp := rfl
@[simp] theorem setRuleGates_vault (n : Nat) (x : RuleGates) (s : State) : (s.setRuleGates n x).vault = s.vault := rfl
@[simp] theorem setRuleGates_chain (n : Nat) (x : RuleGates) (s : State) : (s.setRuleGates n x).chain = s.chain := rfl
@[simp] theorem setRuleGates_twin (n : Nat) (x : RuleGates) (s : State) : (s.setRuleGates n x).twin = s.twin := rfl
@[simp] theorem setRuleGates_cal (n : Nat) (x : RuleGates) (s : State) : (s.setRuleGates n x).cal = s.cal := rfl
@[simp] theorem setRuleGates_elec (n : Nat) (x : RuleGates) (s : State) : (s.setRuleGates n x).elec = s.elec := rfl
@[simp] theorem setRuleGates_dramMem (n : Nat) (x : RuleGates) (s : State) : (s.setRuleGates n x).dramMem = s.dramMem := rfl
@[simp] theorem setRuleGates_hostMem (n : Nat) (x : RuleGates) (s : State) : (s.setRuleGates n x).hostMem = s.hostMem := rfl
@[simp] theorem setRuleGates_now (n : Nat) (x : RuleGates) (s : State) : (s.setRuleGates n x).now = s.now := rfl
@[simp] theorem setRuleGates_sent (n : Nat) (x : RuleGates) (s : State) : (s.setRuleGates n x).sent = s.sent := rfl
@[simp] theorem setRuleGates_pending (n : Nat) (x : RuleGates) (s : State) : (s.setRuleGates n x).pending = s.pending := rfl
@[simp] theorem ruleGates_setRuleGates (n : Nat) (x : RuleGates) (s : State) : (s.setRuleGates n x).ruleGates n = x := by
  simp [State.setRuleGates, State.ruleGates]
theorem ruleGates_setRuleGates_ne (n : Nat) (x : RuleGates) (s : State) {k : Nat} (h : k ≠ n) : (s.setRuleGates n x).ruleGates k = s.ruleGates k := by
  simp [State.setRuleGates, State.ruleGates, Tab.get_set_ne h]

/-! ### setStLook -/

@[simp] theorem setStLook_sys (n : Nat) (x : StLook) (s : State) : (s.setStLook n x).sys = s.sys := rfl
@[simp] theorem setStLook_modes (n : Nat) (x : StLook) (s : State) : (s.setStLook n x).modes = s.modes := rfl
@[simp] theorem setStLook_frame (n : Nat) (x : StLook) (s : State) : (s.setStLook n x).frame = s.frame := rfl
@[simp] theorem setStLook_host (n : Nat) (x : StLook) (s : State) : (s.setStLook n x).host = s.host := rfl
@[simp] theorem setStLook_journal (n : Nat) (x : StLook) (s : State) : (s.setStLook n x).journal = s.journal := rfl
@[simp] theorem setStLook_lanes (n : Nat) (x : StLook) (s : State) : (s.setStLook n x).lanes = s.lanes := rfl
@[simp] theorem setStLook_ports (n : Nat) (x : StLook) (s : State) : (s.setStLook n x).ports = s.ports := rfl
@[simp] theorem setStLook_photos (n : Nat) (x : StLook) (s : State) : (s.setStLook n x).photos = s.photos := rfl
@[simp] theorem setStLook_pos (n : Nat) (x : StLook) (s : State) : (s.setStLook n x).pos = s.pos := rfl
@[simp] theorem setStLook_grids (n : Nat) (x : StLook) (s : State) : (s.setStLook n x).grids = s.grids := rfl
@[simp] theorem setStLook_ress (n : Nat) (x : StLook) (s : State) : (s.setStLook n x).ress = s.ress := rfl
@[simp] theorem setStLook_maps (n : Nat) (x : StLook) (s : State) : (s.setStLook n x).maps = s.maps := rfl
@[simp] theorem setStLook_stations (n : Nat) (x : StLook) (s : State) : (s.setStLook n x).stations = s.stations := rfl
@[simp] theorem setStLook_outlets (n : Nat) (x : StLook) (s : State) : (s.setStLook n x).outlets = s.outlets := rfl
@[simp] theorem setStLook_learns (n : Nat) (x : StLook) (s : State) : (s.setStLook n x).learns = s.learns := rfl
@[simp] theorem setStLook_regs (n : Nat) (x : StLook) (s : State) : (s.setStLook n x).regs = s.regs := rfl
@[simp] theorem setStLook_segs (n : Nat) (x : StLook) (s : State) : (s.setStLook n x).segs = s.segs := rfl
@[simp] theorem setStLook_ledger (n : Nat) (x : StLook) (s : State) : (s.setStLook n x).ledger = s.ledger := rfl
@[simp] theorem setStLook_frank (n : Nat) (x : StLook) (s : State) : (s.setStLook n x).frank = s.frank := rfl
@[simp] theorem setStLook_teller (n : Nat) (x : StLook) (s : State) : (s.setStLook n x).teller = s.teller := rfl
@[simp] theorem setStLook_dram (n : Nat) (x : StLook) (s : State) : (s.setStLook n x).dram = s.dram := rfl
@[simp] theorem setStLook_comp (n : Nat) (x : StLook) (s : State) : (s.setStLook n x).comp = s.comp := rfl
@[simp] theorem setStLook_vault (n : Nat) (x : StLook) (s : State) : (s.setStLook n x).vault = s.vault := rfl
@[simp] theorem setStLook_chain (n : Nat) (x : StLook) (s : State) : (s.setStLook n x).chain = s.chain := rfl
@[simp] theorem setStLook_twin (n : Nat) (x : StLook) (s : State) : (s.setStLook n x).twin = s.twin := rfl
@[simp] theorem setStLook_cal (n : Nat) (x : StLook) (s : State) : (s.setStLook n x).cal = s.cal := rfl
@[simp] theorem setStLook_elec (n : Nat) (x : StLook) (s : State) : (s.setStLook n x).elec = s.elec := rfl
@[simp] theorem setStLook_dramMem (n : Nat) (x : StLook) (s : State) : (s.setStLook n x).dramMem = s.dramMem := rfl
@[simp] theorem setStLook_hostMem (n : Nat) (x : StLook) (s : State) : (s.setStLook n x).hostMem = s.hostMem := rfl
@[simp] theorem setStLook_now (n : Nat) (x : StLook) (s : State) : (s.setStLook n x).now = s.now := rfl
@[simp] theorem setStLook_sent (n : Nat) (x : StLook) (s : State) : (s.setStLook n x).sent = s.sent := rfl
@[simp] theorem setStLook_pending (n : Nat) (x : StLook) (s : State) : (s.setStLook n x).pending = s.pending := rfl
@[simp] theorem stLook_setStLook (n : Nat) (x : StLook) (s : State) : (s.setStLook n x).stLook n = x := by
  simp [State.setStLook, State.stLook]
theorem stLook_setStLook_ne (n : Nat) (x : StLook) (s : State) {k : Nat} (h : k ≠ n) : (s.setStLook n x).stLook k = s.stLook k := by
  simp [State.setStLook, State.stLook, Tab.get_set_ne h]

/-! ### setHead -/

@[simp] theorem setHead_sys (n : Nat) (x : Head) (s : State) : (s.setHead n x).sys = s.sys := rfl
@[simp] theorem setHead_modes (n : Nat) (x : Head) (s : State) : (s.setHead n x).modes = s.modes := rfl
@[simp] theorem setHead_frame (n : Nat) (x : Head) (s : State) : (s.setHead n x).frame = s.frame := rfl
@[simp] theorem setHead_host (n : Nat) (x : Head) (s : State) : (s.setHead n x).host = s.host := rfl
@[simp] theorem setHead_journal (n : Nat) (x : Head) (s : State) : (s.setHead n x).journal = s.journal := rfl
@[simp] theorem setHead_lanes (n : Nat) (x : Head) (s : State) : (s.setHead n x).lanes = s.lanes := rfl
@[simp] theorem setHead_ports (n : Nat) (x : Head) (s : State) : (s.setHead n x).ports = s.ports := rfl
@[simp] theorem setHead_photos (n : Nat) (x : Head) (s : State) : (s.setHead n x).photos = s.photos := rfl
@[simp] theorem setHead_pos (n : Nat) (x : Head) (s : State) : (s.setHead n x).pos = s.pos := rfl
@[simp] theorem setHead_grids (n : Nat) (x : Head) (s : State) : (s.setHead n x).grids = s.grids := rfl
@[simp] theorem setHead_ress (n : Nat) (x : Head) (s : State) : (s.setHead n x).ress = s.ress := rfl
@[simp] theorem setHead_maps (n : Nat) (x : Head) (s : State) : (s.setHead n x).maps = s.maps := rfl
@[simp] theorem setHead_stations (n : Nat) (x : Head) (s : State) : (s.setHead n x).stations = s.stations := rfl
@[simp] theorem setHead_outlets (n : Nat) (x : Head) (s : State) : (s.setHead n x).outlets = s.outlets := rfl
@[simp] theorem setHead_learns (n : Nat) (x : Head) (s : State) : (s.setHead n x).learns = s.learns := rfl
@[simp] theorem setHead_regs (n : Nat) (x : Head) (s : State) : (s.setHead n x).regs = s.regs := rfl
@[simp] theorem setHead_segs (n : Nat) (x : Head) (s : State) : (s.setHead n x).segs = s.segs := rfl
@[simp] theorem setHead_ledger (n : Nat) (x : Head) (s : State) : (s.setHead n x).ledger = s.ledger := rfl
@[simp] theorem setHead_look (n : Nat) (x : Head) (s : State) : (s.setHead n x).look = s.look := rfl
@[simp] theorem setHead_teller (n : Nat) (x : Head) (s : State) : (s.setHead n x).teller = s.teller := rfl
@[simp] theorem setHead_dram (n : Nat) (x : Head) (s : State) : (s.setHead n x).dram = s.dram := rfl
@[simp] theorem setHead_comp (n : Nat) (x : Head) (s : State) : (s.setHead n x).comp = s.comp := rfl
@[simp] theorem setHead_vault (n : Nat) (x : Head) (s : State) : (s.setHead n x).vault = s.vault := rfl
@[simp] theorem setHead_chain (n : Nat) (x : Head) (s : State) : (s.setHead n x).chain = s.chain := rfl
@[simp] theorem setHead_twin (n : Nat) (x : Head) (s : State) : (s.setHead n x).twin = s.twin := rfl
@[simp] theorem setHead_cal (n : Nat) (x : Head) (s : State) : (s.setHead n x).cal = s.cal := rfl
@[simp] theorem setHead_elec (n : Nat) (x : Head) (s : State) : (s.setHead n x).elec = s.elec := rfl
@[simp] theorem setHead_dramMem (n : Nat) (x : Head) (s : State) : (s.setHead n x).dramMem = s.dramMem := rfl
@[simp] theorem setHead_hostMem (n : Nat) (x : Head) (s : State) : (s.setHead n x).hostMem = s.hostMem := rfl
@[simp] theorem setHead_now (n : Nat) (x : Head) (s : State) : (s.setHead n x).now = s.now := rfl
@[simp] theorem setHead_sent (n : Nat) (x : Head) (s : State) : (s.setHead n x).sent = s.sent := rfl
@[simp] theorem setHead_pending (n : Nat) (x : Head) (s : State) : (s.setHead n x).pending = s.pending := rfl
@[simp] theorem head_setHead (n : Nat) (x : Head) (s : State) : (s.setHead n x).head n = x := by
  simp [State.setHead, State.head]
theorem head_setHead_ne (n : Nat) (x : Head) (s : State) {k : Nat} (h : k ≠ n) : (s.setHead n x).head k = s.head k := by
  simp [State.setHead, State.head, Tab.get_set_ne h]

/-! ### setDramCh -/

@[simp] theorem setDramCh_sys (n : Nat) (x : DramCh) (s : State) : (s.setDramCh n x).sys = s.sys := rfl
@[simp] theorem setDramCh_modes (n : Nat) (x : DramCh) (s : State) : (s.setDramCh n x).modes = s.modes := rfl
@[simp] theorem setDramCh_frame (n : Nat) (x : DramCh) (s : State) : (s.setDramCh n x).frame = s.frame := rfl
@[simp] theorem setDramCh_host (n : Nat) (x : DramCh) (s : State) : (s.setDramCh n x).host = s.host := rfl
@[simp] theorem setDramCh_journal (n : Nat) (x : DramCh) (s : State) : (s.setDramCh n x).journal = s.journal := rfl
@[simp] theorem setDramCh_lanes (n : Nat) (x : DramCh) (s : State) : (s.setDramCh n x).lanes = s.lanes := rfl
@[simp] theorem setDramCh_ports (n : Nat) (x : DramCh) (s : State) : (s.setDramCh n x).ports = s.ports := rfl
@[simp] theorem setDramCh_photos (n : Nat) (x : DramCh) (s : State) : (s.setDramCh n x).photos = s.photos := rfl
@[simp] theorem setDramCh_pos (n : Nat) (x : DramCh) (s : State) : (s.setDramCh n x).pos = s.pos := rfl
@[simp] theorem setDramCh_grids (n : Nat) (x : DramCh) (s : State) : (s.setDramCh n x).grids = s.grids := rfl
@[simp] theorem setDramCh_ress (n : Nat) (x : DramCh) (s : State) : (s.setDramCh n x).ress = s.ress := rfl
@[simp] theorem setDramCh_maps (n : Nat) (x : DramCh) (s : State) : (s.setDramCh n x).maps = s.maps := rfl
@[simp] theorem setDramCh_stations (n : Nat) (x : DramCh) (s : State) : (s.setDramCh n x).stations = s.stations := rfl
@[simp] theorem setDramCh_outlets (n : Nat) (x : DramCh) (s : State) : (s.setDramCh n x).outlets = s.outlets := rfl
@[simp] theorem setDramCh_learns (n : Nat) (x : DramCh) (s : State) : (s.setDramCh n x).learns = s.learns := rfl
@[simp] theorem setDramCh_regs (n : Nat) (x : DramCh) (s : State) : (s.setDramCh n x).regs = s.regs := rfl
@[simp] theorem setDramCh_segs (n : Nat) (x : DramCh) (s : State) : (s.setDramCh n x).segs = s.segs := rfl
@[simp] theorem setDramCh_ledger (n : Nat) (x : DramCh) (s : State) : (s.setDramCh n x).ledger = s.ledger := rfl
@[simp] theorem setDramCh_look (n : Nat) (x : DramCh) (s : State) : (s.setDramCh n x).look = s.look := rfl
@[simp] theorem setDramCh_frank (n : Nat) (x : DramCh) (s : State) : (s.setDramCh n x).frank = s.frank := rfl
@[simp] theorem setDramCh_teller (n : Nat) (x : DramCh) (s : State) : (s.setDramCh n x).teller = s.teller := rfl
@[simp] theorem setDramCh_comp (n : Nat) (x : DramCh) (s : State) : (s.setDramCh n x).comp = s.comp := rfl
@[simp] theorem setDramCh_vault (n : Nat) (x : DramCh) (s : State) : (s.setDramCh n x).vault = s.vault := rfl
@[simp] theorem setDramCh_chain (n : Nat) (x : DramCh) (s : State) : (s.setDramCh n x).chain = s.chain := rfl
@[simp] theorem setDramCh_twin (n : Nat) (x : DramCh) (s : State) : (s.setDramCh n x).twin = s.twin := rfl
@[simp] theorem setDramCh_cal (n : Nat) (x : DramCh) (s : State) : (s.setDramCh n x).cal = s.cal := rfl
@[simp] theorem setDramCh_elec (n : Nat) (x : DramCh) (s : State) : (s.setDramCh n x).elec = s.elec := rfl
@[simp] theorem setDramCh_dramMem (n : Nat) (x : DramCh) (s : State) : (s.setDramCh n x).dramMem = s.dramMem := rfl
@[simp] theorem setDramCh_hostMem (n : Nat) (x : DramCh) (s : State) : (s.setDramCh n x).hostMem = s.hostMem := rfl
@[simp] theorem setDramCh_now (n : Nat) (x : DramCh) (s : State) : (s.setDramCh n x).now = s.now := rfl
@[simp] theorem setDramCh_sent (n : Nat) (x : DramCh) (s : State) : (s.setDramCh n x).sent = s.sent := rfl
@[simp] theorem setDramCh_pending (n : Nat) (x : DramCh) (s : State) : (s.setDramCh n x).pending = s.pending := rfl
@[simp] theorem dramCh_setDramCh (n : Nat) (x : DramCh) (s : State) : (s.setDramCh n x).dramCh n = x := by
  simp [State.setDramCh, State.dramCh]
theorem dramCh_setDramCh_ne (n : Nat) (x : DramCh) (s : State) {k : Nat} (h : k ≠ n) : (s.setDramCh n x).dramCh k = s.dramCh k := by
  simp [State.setDramCh, State.dramCh, Tab.get_set_ne h]

/-! ### setCalItem -/

@[simp] theorem setCalItem_sys (n : Nat) (x : CalItem) (s : State) : (s.setCalItem n x).sys = s.sys := rfl
@[simp] theorem setCalItem_modes (n : Nat) (x : CalItem) (s : State) : (s.setCalItem n x).modes = s.modes := rfl
@[simp] theorem setCalItem_frame (n : Nat) (x : CalItem) (s : State) : (s.setCalItem n x).frame = s.frame := rfl
@[simp] theorem setCalItem_host (n : Nat) (x : CalItem) (s : State) : (s.setCalItem n x).host = s.host := rfl
@[simp] theorem setCalItem_journal (n : Nat) (x : CalItem) (s : State) : (s.setCalItem n x).journal = s.journal := rfl
@[simp] theorem setCalItem_lanes (n : Nat) (x : CalItem) (s : State) : (s.setCalItem n x).lanes = s.lanes := rfl
@[simp] theorem setCalItem_ports (n : Nat) (x : CalItem) (s : State) : (s.setCalItem n x).ports = s.ports := rfl
@[simp] theorem setCalItem_photos (n : Nat) (x : CalItem) (s : State) : (s.setCalItem n x).photos = s.photos := rfl
@[simp] theorem setCalItem_pos (n : Nat) (x : CalItem) (s : State) : (s.setCalItem n x).pos = s.pos := rfl
@[simp] theorem setCalItem_grids (n : Nat) (x : CalItem) (s : State) : (s.setCalItem n x).grids = s.grids := rfl
@[simp] theorem setCalItem_ress (n : Nat) (x : CalItem) (s : State) : (s.setCalItem n x).ress = s.ress := rfl
@[simp] theorem setCalItem_maps (n : Nat) (x : CalItem) (s : State) : (s.setCalItem n x).maps = s.maps := rfl
@[simp] theorem setCalItem_stations (n : Nat) (x : CalItem) (s : State) : (s.setCalItem n x).stations = s.stations := rfl
@[simp] theorem setCalItem_outlets (n : Nat) (x : CalItem) (s : State) : (s.setCalItem n x).outlets = s.outlets := rfl
@[simp] theorem setCalItem_learns (n : Nat) (x : CalItem) (s : State) : (s.setCalItem n x).learns = s.learns := rfl
@[simp] theorem setCalItem_regs (n : Nat) (x : CalItem) (s : State) : (s.setCalItem n x).regs = s.regs := rfl
@[simp] theorem setCalItem_segs (n : Nat) (x : CalItem) (s : State) : (s.setCalItem n x).segs = s.segs := rfl
@[simp] theorem setCalItem_ledger (n : Nat) (x : CalItem) (s : State) : (s.setCalItem n x).ledger = s.ledger := rfl
@[simp] theorem setCalItem_look (n : Nat) (x : CalItem) (s : State) : (s.setCalItem n x).look = s.look := rfl
@[simp] theorem setCalItem_frank (n : Nat) (x : CalItem) (s : State) : (s.setCalItem n x).frank = s.frank := rfl
@[simp] theorem setCalItem_teller (n : Nat) (x : CalItem) (s : State) : (s.setCalItem n x).teller = s.teller := rfl
@[simp] theorem setCalItem_dram (n : Nat) (x : CalItem) (s : State) : (s.setCalItem n x).dram = s.dram := rfl
@[simp] theorem setCalItem_comp (n : Nat) (x : CalItem) (s : State) : (s.setCalItem n x).comp = s.comp := rfl
@[simp] theorem setCalItem_vault (n : Nat) (x : CalItem) (s : State) : (s.setCalItem n x).vault = s.vault := rfl
@[simp] theorem setCalItem_chain (n : Nat) (x : CalItem) (s : State) : (s.setCalItem n x).chain = s.chain := rfl
@[simp] theorem setCalItem_twin (n : Nat) (x : CalItem) (s : State) : (s.setCalItem n x).twin = s.twin := rfl
@[simp] theorem setCalItem_elec (n : Nat) (x : CalItem) (s : State) : (s.setCalItem n x).elec = s.elec := rfl
@[simp] theorem setCalItem_dramMem (n : Nat) (x : CalItem) (s : State) : (s.setCalItem n x).dramMem = s.dramMem := rfl
@[simp] theorem setCalItem_hostMem (n : Nat) (x : CalItem) (s : State) : (s.setCalItem n x).hostMem = s.hostMem := rfl
@[simp] theorem setCalItem_now (n : Nat) (x : CalItem) (s : State) : (s.setCalItem n x).now = s.now := rfl
@[simp] theorem setCalItem_sent (n : Nat) (x : CalItem) (s : State) : (s.setCalItem n x).sent = s.sent := rfl
@[simp] theorem setCalItem_pending (n : Nat) (x : CalItem) (s : State) : (s.setCalItem n x).pending = s.pending := rfl
@[simp] theorem calItem_setCalItem (n : Nat) (x : CalItem) (s : State) : (s.setCalItem n x).calItem n = x := by
  simp [State.setCalItem, State.calItem]
theorem calItem_setCalItem_ne (n : Nat) (x : CalItem) (s : State) {k : Nat} (h : k ≠ n) : (s.setCalItem n x).calItem k = s.calItem k := by
  simp [State.setCalItem, State.calItem, Tab.get_set_ne h]

/-! ### setGpio -/

@[simp] theorem setGpio_sys (n : Nat) (x : Gpio) (s : State) : (s.setGpio n x).sys = s.sys := rfl
@[simp] theorem setGpio_modes (n : Nat) (x : Gpio) (s : State) : (s.setGpio n x).modes = s.modes := rfl
@[simp] theorem setGpio_frame (n : Nat) (x : Gpio) (s : State) : (s.setGpio n x).frame = s.frame := rfl
@[simp] theorem setGpio_host (n : Nat) (x : Gpio) (s : State) : (s.setGpio n x).host = s.host := rfl
@[simp] theorem setGpio_journal (n : Nat) (x : Gpio) (s : State) : (s.setGpio n x).journal = s.journal := rfl
@[simp] theorem setGpio_lanes (n : Nat) (x : Gpio) (s : State) : (s.setGpio n x).lanes = s.lanes := rfl
@[simp] theorem setGpio_ports (n : Nat) (x : Gpio) (s : State) : (s.setGpio n x).ports = s.ports := rfl
@[simp] theorem setGpio_photos (n : Nat) (x : Gpio) (s : State) : (s.setGpio n x).photos = s.photos := rfl
@[simp] theorem setGpio_pos (n : Nat) (x : Gpio) (s : State) : (s.setGpio n x).pos = s.pos := rfl
@[simp] theorem setGpio_grids (n : Nat) (x : Gpio) (s : State) : (s.setGpio n x).grids = s.grids := rfl
@[simp] theorem setGpio_ress (n : Nat) (x : Gpio) (s : State) : (s.setGpio n x).ress = s.ress := rfl
@[simp] theorem setGpio_maps (n : Nat) (x : Gpio) (s : State) : (s.setGpio n x).maps = s.maps := rfl
@[simp] theorem setGpio_stations (n : Nat) (x : Gpio) (s : State) : (s.setGpio n x).stations = s.stations := rfl
@[simp] theorem setGpio_outlets (n : Nat) (x : Gpio) (s : State) : (s.setGpio n x).outlets = s.outlets := rfl
@[simp] theorem setGpio_learns (n : Nat) (x : Gpio) (s : State) : (s.setGpio n x).learns = s.learns := rfl
@[simp] theorem setGpio_regs (n : Nat) (x : Gpio) (s : State) : (s.setGpio n x).regs = s.regs := rfl
@[simp] theorem setGpio_segs (n : Nat) (x : Gpio) (s : State) : (s.setGpio n x).segs = s.segs := rfl
@[simp] theorem setGpio_ledger (n : Nat) (x : Gpio) (s : State) : (s.setGpio n x).ledger = s.ledger := rfl
@[simp] theorem setGpio_look (n : Nat) (x : Gpio) (s : State) : (s.setGpio n x).look = s.look := rfl
@[simp] theorem setGpio_frank (n : Nat) (x : Gpio) (s : State) : (s.setGpio n x).frank = s.frank := rfl
@[simp] theorem setGpio_teller (n : Nat) (x : Gpio) (s : State) : (s.setGpio n x).teller = s.teller := rfl
@[simp] theorem setGpio_dram (n : Nat) (x : Gpio) (s : State) : (s.setGpio n x).dram = s.dram := rfl
@[simp] theorem setGpio_comp (n : Nat) (x : Gpio) (s : State) : (s.setGpio n x).comp = s.comp := rfl
@[simp] theorem setGpio_vault (n : Nat) (x : Gpio) (s : State) : (s.setGpio n x).vault = s.vault := rfl
@[simp] theorem setGpio_chain (n : Nat) (x : Gpio) (s : State) : (s.setGpio n x).chain = s.chain := rfl
@[simp] theorem setGpio_twin (n : Nat) (x : Gpio) (s : State) : (s.setGpio n x).twin = s.twin := rfl
@[simp] theorem setGpio_cal (n : Nat) (x : Gpio) (s : State) : (s.setGpio n x).cal = s.cal := rfl
@[simp] theorem setGpio_dramMem (n : Nat) (x : Gpio) (s : State) : (s.setGpio n x).dramMem = s.dramMem := rfl
@[simp] theorem setGpio_hostMem (n : Nat) (x : Gpio) (s : State) : (s.setGpio n x).hostMem = s.hostMem := rfl
@[simp] theorem setGpio_now (n : Nat) (x : Gpio) (s : State) : (s.setGpio n x).now = s.now := rfl
@[simp] theorem setGpio_sent (n : Nat) (x : Gpio) (s : State) : (s.setGpio n x).sent = s.sent := rfl
@[simp] theorem setGpio_pending (n : Nat) (x : Gpio) (s : State) : (s.setGpio n x).pending = s.pending := rfl
@[simp] theorem gpio_setGpio (n : Nat) (x : Gpio) (s : State) : (s.setGpio n x).gpio n = x := by
  simp [State.setGpio, State.gpio]
theorem gpio_setGpio_ne (n : Nat) (x : Gpio) (s : State) {k : Nat} (h : k ≠ n) : (s.setGpio n x).gpio k = s.gpio k := by
  simp [State.setGpio, State.gpio, Tab.get_set_ne h]

/-! ### setRoute -/

@[simp] theorem setRoute_sys (n d : Nat) (s : State) : (s.setRoute n d).sys = s.sys := rfl
@[simp] theorem setRoute_modes (n d : Nat) (s : State) : (s.setRoute n d).modes = s.modes := rfl
@[simp] theorem setRoute_frame (n d : Nat) (s : State) : (s.setRoute n d).frame = s.frame := rfl
@[simp] theorem setRoute_host (n d : Nat) (s : State) : (s.setRoute n d).host = s.host := rfl
@[simp] theorem setRoute_journal (n d : Nat) (s : State) : (s.setRoute n d).journal = s.journal := rfl
@[simp] theorem setRoute_lanes (n d : Nat) (s : State) : (s.setRoute n d).lanes = s.lanes := rfl
@[simp] theorem setRoute_ports (n d : Nat) (s : State) : (s.setRoute n d).ports = s.ports := rfl
@[simp] theorem setRoute_photos (n d : Nat) (s : State) : (s.setRoute n d).photos = s.photos := rfl
@[simp] theorem setRoute_pos (n d : Nat) (s : State) : (s.setRoute n d).pos = s.pos := rfl
@[simp] theorem setRoute_grids (n d : Nat) (s : State) : (s.setRoute n d).grids = s.grids := rfl
@[simp] theorem setRoute_ress (n d : Nat) (s : State) : (s.setRoute n d).ress = s.ress := rfl
@[simp] theorem setRoute_maps (n d : Nat) (s : State) : (s.setRoute n d).maps = s.maps := rfl
@[simp] theorem setRoute_stations (n d : Nat) (s : State) : (s.setRoute n d).stations = s.stations := rfl
@[simp] theorem setRoute_outlets (n d : Nat) (s : State) : (s.setRoute n d).outlets = s.outlets := rfl
@[simp] theorem setRoute_learns (n d : Nat) (s : State) : (s.setRoute n d).learns = s.learns := rfl
@[simp] theorem setRoute_regs (n d : Nat) (s : State) : (s.setRoute n d).regs = s.regs := rfl
@[simp] theorem setRoute_segs (n d : Nat) (s : State) : (s.setRoute n d).segs = s.segs := rfl
@[simp] theorem setRoute_ledger (n d : Nat) (s : State) : (s.setRoute n d).ledger = s.ledger := rfl
@[simp] theorem setRoute_look (n d : Nat) (s : State) : (s.setRoute n d).look = s.look := rfl
@[simp] theorem setRoute_frank (n d : Nat) (s : State) : (s.setRoute n d).frank = s.frank := rfl
@[simp] theorem setRoute_dram (n d : Nat) (s : State) : (s.setRoute n d).dram = s.dram := rfl
@[simp] theorem setRoute_comp (n d : Nat) (s : State) : (s.setRoute n d).comp = s.comp := rfl
@[simp] theorem setRoute_vault (n d : Nat) (s : State) : (s.setRoute n d).vault = s.vault := rfl
@[simp] theorem setRoute_chain (n d : Nat) (s : State) : (s.setRoute n d).chain = s.chain := rfl
@[simp] theorem setRoute_twin (n d : Nat) (s : State) : (s.setRoute n d).twin = s.twin := rfl
@[simp] theorem setRoute_cal (n d : Nat) (s : State) : (s.setRoute n d).cal = s.cal := rfl
@[simp] theorem setRoute_elec (n d : Nat) (s : State) : (s.setRoute n d).elec = s.elec := rfl
@[simp] theorem setRoute_dramMem (n d : Nat) (s : State) : (s.setRoute n d).dramMem = s.dramMem := rfl
@[simp] theorem setRoute_hostMem (n d : Nat) (s : State) : (s.setRoute n d).hostMem = s.hostMem := rfl
@[simp] theorem setRoute_now (n d : Nat) (s : State) : (s.setRoute n d).now = s.now := rfl
@[simp] theorem setRoute_sent (n d : Nat) (s : State) : (s.setRoute n d).sent = s.sent := rfl
@[simp] theorem setRoute_pending (n d : Nat) (s : State) : (s.setRoute n d).pending = s.pending := rfl

/-! ### A unit changed is a unit set -/

@[simp] theorem modChannel_eq (n : Nat) (f : Channel → Channel) (s : State) : modChannel n f s = s.setChannel n (f (s.channel n)) := rfl
@[simp] theorem modInput_eq (n : Nat) (f : TaskInput → TaskInput) (s : State) : modInput n f s = s.setInput n (f (s.input n)) := rfl
@[simp] theorem modBox_eq (n : Nat) (f : Mailbox → Mailbox) (s : State) : modBox n f s = s.setBox n (f (s.box n)) := rfl
@[simp] theorem modCourier_eq (n : Nat) (f : CourierCh → CourierCh) (s : State) : modCourier n f s = s.setCourier n (f (s.courier n)) := rfl
@[simp] theorem modLane_eq (n : Nat) (f : Lane → Lane) (s : State) : modLane n f s = s.setLane n (f (s.lane n)) := rfl
@[simp] theorem modPort_eq (n : Nat) (f : Port → Port) (s : State) : modPort n f s = s.setPort n (f (s.port n)) := rfl
@[simp] theorem modPhoto_eq (n : Nat) (f : Photo → Photo) (s : State) : modPhoto n f s = s.setPhoto n (f (s.photo n)) := rfl
@[simp] theorem modEncoder_eq (n : Nat) (f : Encoder → Encoder) (s : State) : modEncoder n f s = s.setEncoder n (f (s.encoder n)) := rfl
@[simp] theorem modLatch_eq (n : Nat) (f : Latch → Latch) (s : State) : modLatch n f s = s.setLatch n (f (s.latch n)) := rfl
@[simp] theorem modCompare_eq (n : Nat) (f : Compare → Compare) (s : State) : modCompare n f s = s.setCompare n (f (s.compare n)) := rfl
@[simp] theorem modGrid_eq (n : Nat) (f : Grid → Grid) (s : State) : modGrid n f s = s.setGrid n (f (s.grid n)) := rfl
@[simp] theorem modRes_eq (n : Nat) (f : PortRes → PortRes) (s : State) : modRes n f s = s.setRes n (f (s.res n)) := rfl
@[simp] theorem modPmap_eq (n : Nat) (f : PortMap → PortMap) (s : State) : modPmap n f s = s.setPmap n (f (s.pmap n)) := rfl
@[simp] theorem modStation_eq (n : Nat) (f : Station → Station) (s : State) : modStation n f s = s.setStation n (f (s.station n)) := rfl
@[simp] theorem modOutlet_eq (n : Nat) (f : Outlet → Outlet) (s : State) : modOutlet n f s = s.setOutlet n (f (s.outlet n)) := rfl
@[simp] theorem modLearn_eq (n : Nat) (f : Learn → Learn) (s : State) : modLearn n f s = s.setLearn n (f (s.learn n)) := rfl
@[simp] theorem modReg_eq (n : Nat) (f : Reg → Reg) (s : State) : modReg n f s = s.setReg n (f (s.reg n)) := rfl
@[simp] theorem modSeg_eq (n : Nat) (f : Seg → Seg) (s : State) : modSeg n f s = s.setSeg n (f (s.seg n)) := rfl
@[simp] theorem modDistrict_eq (n : Nat) (f : District → District) (s : State) : modDistrict n f s = s.setDistrict n (f (s.district n)) := rfl
@[simp] theorem modDecl_eq (n : Nat) (f : StationDecl → StationDecl) (s : State) : modDecl n f s = s.setDecl n (f (s.decl n)) := rfl
@[simp] theorem modSuperblock_eq (n : Nat) (f : Superblock → Superblock) (s : State) : modSuperblock n f s = s.setSuperblock n (f (s.superblock n)) := rfl
@[simp] theorem modFwSlot_eq (n : Nat) (f : FwSlot → FwSlot) (s : State) : modFwSlot n f s = s.setFwSlot n (f (s.fwSlot n)) := rfl
@[simp] theorem modEngine_eq (n : Nat) (f : Engine → Engine) (s : State) : modEngine n f s = s.setEngine n (f (s.engine n)) := rfl
@[simp] theorem modStLedger_eq (n : Nat) (f : StLedger → StLedger) (s : State) : modStLedger n f s = s.setStLedger n (f (s.stLedger n)) := rfl
@[simp] theorem modOutRule_eq (n : Nat) (f : OutRule → OutRule) (s : State) : modOutRule n f s = s.setOutRule n (f (s.outRule n)) := rfl
@[simp] theorem modRuleGates_eq (n : Nat) (f : RuleGates → RuleGates) (s : State) : modRuleGates n f s = s.setRuleGates n (f (s.ruleGates n)) := rfl
@[simp] theorem modStLook_eq (n : Nat) (f : StLook → StLook) (s : State) : modStLook n f s = s.setStLook n (f (s.stLook n)) := rfl
@[simp] theorem modHead_eq (n : Nat) (f : Head → Head) (s : State) : modHead n f s = s.setHead n (f (s.head n)) := rfl
@[simp] theorem modDramCh_eq (n : Nat) (f : DramCh → DramCh) (s : State) : modDramCh n f s = s.setDramCh n (f (s.dramCh n)) := rfl
@[simp] theorem modCalItem_eq (n : Nat) (f : CalItem → CalItem) (s : State) : modCalItem n f s = s.setCalItem n (f (s.calItem n)) := rfl
@[simp] theorem modGpio_eq (n : Nat) (f : Gpio → Gpio) (s : State) : modGpio n f s = s.setGpio n (f (s.gpio n)) := rfl

/-! ### Raising an event, recording an entry, sending -/

@[simp] theorem raise_sys (src : Nat) (s : State) : (raise src s).sys = s.sys := rfl
@[simp] theorem raise_modes (src : Nat) (s : State) : (raise src s).modes = s.modes := rfl
@[simp] theorem raise_host (src : Nat) (s : State) : (raise src s).host = s.host := rfl
@[simp] theorem raise_journal (src : Nat) (s : State) : (raise src s).journal = s.journal := rfl
@[simp] theorem raise_lanes (src : Nat) (s : State) : (raise src s).lanes = s.lanes := rfl
@[simp] theorem raise_ports (src : Nat) (s : State) : (raise src s).ports = s.ports := rfl
@[simp] theorem raise_photos (src : Nat) (s : State) : (raise src s).photos = s.photos := rfl
@[simp] theorem raise_pos (src : Nat) (s : State) : (raise src s).pos = s.pos := rfl
@[simp] theorem raise_grids (src : Nat) (s : State) : (raise src s).grids = s.grids := rfl
@[simp] theorem raise_ress (src : Nat) (s : State) : (raise src s).ress = s.ress := rfl
@[simp] theorem raise_maps (src : Nat) (s : State) : (raise src s).maps = s.maps := rfl
@[simp] theorem raise_stations (src : Nat) (s : State) : (raise src s).stations = s.stations := rfl
@[simp] theorem raise_outlets (src : Nat) (s : State) : (raise src s).outlets = s.outlets := rfl
@[simp] theorem raise_learns (src : Nat) (s : State) : (raise src s).learns = s.learns := rfl
@[simp] theorem raise_regs (src : Nat) (s : State) : (raise src s).regs = s.regs := rfl
@[simp] theorem raise_segs (src : Nat) (s : State) : (raise src s).segs = s.segs := rfl
@[simp] theorem raise_ledger (src : Nat) (s : State) : (raise src s).ledger = s.ledger := rfl
@[simp] theorem raise_look (src : Nat) (s : State) : (raise src s).look = s.look := rfl
@[simp] theorem raise_frank (src : Nat) (s : State) : (raise src s).frank = s.frank := rfl
@[simp] theorem raise_teller (src : Nat) (s : State) : (raise src s).teller = s.teller := rfl
@[simp] theorem raise_dram (src : Nat) (s : State) : (raise src s).dram = s.dram := rfl
@[simp] theorem raise_comp (src : Nat) (s : State) : (raise src s).comp = s.comp := rfl
@[simp] theorem raise_vault (src : Nat) (s : State) : (raise src s).vault = s.vault := rfl
@[simp] theorem raise_chain (src : Nat) (s : State) : (raise src s).chain = s.chain := rfl
@[simp] theorem raise_twin (src : Nat) (s : State) : (raise src s).twin = s.twin := rfl
@[simp] theorem raise_cal (src : Nat) (s : State) : (raise src s).cal = s.cal := rfl
@[simp] theorem raise_elec (src : Nat) (s : State) : (raise src s).elec = s.elec := rfl
@[simp] theorem raise_dramMem (src : Nat) (s : State) : (raise src s).dramMem = s.dramMem := rfl
@[simp] theorem raise_hostMem (src : Nat) (s : State) : (raise src s).hostMem = s.hostMem := rfl
@[simp] theorem raise_now (src : Nat) (s : State) : (raise src s).now = s.now := rfl
@[simp] theorem raise_sent (src : Nat) (s : State) : (raise src s).sent = s.sent := rfl
@[simp] theorem raise_pending (src : Nat) (s : State) : (raise src s).pending = s.pending := rfl
@[simp] theorem journal_sys (c b d : Nat) (x : List Byte) (s : State) : (journal c b d x s).sys = s.sys := rfl
@[simp] theorem journal_modes (c b d : Nat) (x : List Byte) (s : State) : (journal c b d x s).modes = s.modes := rfl
@[simp] theorem journal_frame (c b d : Nat) (x : List Byte) (s : State) : (journal c b d x s).frame = s.frame := rfl
@[simp] theorem journal_host (c b d : Nat) (x : List Byte) (s : State) : (journal c b d x s).host = s.host := rfl
@[simp] theorem journal_lanes (c b d : Nat) (x : List Byte) (s : State) : (journal c b d x s).lanes = s.lanes := rfl
@[simp] theorem journal_ports (c b d : Nat) (x : List Byte) (s : State) : (journal c b d x s).ports = s.ports := rfl
@[simp] theorem journal_photos (c b d : Nat) (x : List Byte) (s : State) : (journal c b d x s).photos = s.photos := rfl
@[simp] theorem journal_pos (c b d : Nat) (x : List Byte) (s : State) : (journal c b d x s).pos = s.pos := rfl
@[simp] theorem journal_grids (c b d : Nat) (x : List Byte) (s : State) : (journal c b d x s).grids = s.grids := rfl
@[simp] theorem journal_ress (c b d : Nat) (x : List Byte) (s : State) : (journal c b d x s).ress = s.ress := rfl
@[simp] theorem journal_maps (c b d : Nat) (x : List Byte) (s : State) : (journal c b d x s).maps = s.maps := rfl
@[simp] theorem journal_stations (c b d : Nat) (x : List Byte) (s : State) : (journal c b d x s).stations = s.stations := rfl
@[simp] theorem journal_outlets (c b d : Nat) (x : List Byte) (s : State) : (journal c b d x s).outlets = s.outlets := rfl
@[simp] theorem journal_learns (c b d : Nat) (x : List Byte) (s : State) : (journal c b d x s).learns = s.learns := rfl
@[simp] theorem journal_regs (c b d : Nat) (x : List Byte) (s : State) : (journal c b d x s).regs = s.regs := rfl
@[simp] theorem journal_segs (c b d : Nat) (x : List Byte) (s : State) : (journal c b d x s).segs = s.segs := rfl
@[simp] theorem journal_ledger (c b d : Nat) (x : List Byte) (s : State) : (journal c b d x s).ledger = s.ledger := rfl
@[simp] theorem journal_look (c b d : Nat) (x : List Byte) (s : State) : (journal c b d x s).look = s.look := rfl
@[simp] theorem journal_frank (c b d : Nat) (x : List Byte) (s : State) : (journal c b d x s).frank = s.frank := rfl
@[simp] theorem journal_teller (c b d : Nat) (x : List Byte) (s : State) : (journal c b d x s).teller = s.teller := rfl
@[simp] theorem journal_dram (c b d : Nat) (x : List Byte) (s : State) : (journal c b d x s).dram = s.dram := rfl
@[simp] theorem journal_comp (c b d : Nat) (x : List Byte) (s : State) : (journal c b d x s).comp = s.comp := rfl
@[simp] theorem journal_vault (c b d : Nat) (x : List Byte) (s : State) : (journal c b d x s).vault = s.vault := rfl
@[simp] theorem journal_chain (c b d : Nat) (x : List Byte) (s : State) : (journal c b d x s).chain = s.chain := rfl
@[simp] theorem journal_twin (c b d : Nat) (x : List Byte) (s : State) : (journal c b d x s).twin = s.twin := rfl
@[simp] theorem journal_cal (c b d : Nat) (x : List Byte) (s : State) : (journal c b d x s).cal = s.cal := rfl
@[simp] theorem journal_elec (c b d : Nat) (x : List Byte) (s : State) : (journal c b d x s).elec = s.elec := rfl
@[simp] theorem journal_dramMem (c b d : Nat) (x : List Byte) (s : State) : (journal c b d x s).dramMem = s.dramMem := rfl
@[simp] theorem journal_hostMem (c b d : Nat) (x : List Byte) (s : State) : (journal c b d x s).hostMem = s.hostMem := rfl
@[simp] theorem journal_now (c b d : Nat) (x : List Byte) (s : State) : (journal c b d x s).now = s.now := rfl
@[simp] theorem journal_sent (c b d : Nat) (x : List Byte) (s : State) : (journal c b d x s).sent = s.sent := rfl
@[simp] theorem journal_pending (c b d : Nat) (x : List Byte) (s : State) : (journal c b d x s).pending = s.pending := rfl
@[simp] theorem send_sys (k : SentKind) (d c : Nat) (b : List Byte) (s : State) : (send k d c b s).sys = s.sys := rfl
@[simp] theorem send_modes (k : SentKind) (d c : Nat) (b : List Byte) (s : State) : (send k d c b s).modes = s.modes := rfl
@[simp] theorem send_frame (k : SentKind) (d c : Nat) (b : List Byte) (s : State) : (send k d c b s).frame = s.frame := rfl
@[simp] theorem send_host (k : SentKind) (d c : Nat) (b : List Byte) (s : State) : (send k d c b s).host = s.host := rfl
@[simp] theorem send_journal (k : SentKind) (d c : Nat) (b : List Byte) (s : State) : (send k d c b s).journal = s.journal := rfl
@[simp] theorem send_lanes (k : SentKind) (d c : Nat) (b : List Byte) (s : State) : (send k d c b s).lanes = s.lanes := rfl
@[simp] theorem send_ports (k : SentKind) (d c : Nat) (b : List Byte) (s : State) : (send k d c b s).ports = s.ports := rfl
@[simp] theorem send_photos (k : SentKind) (d c : Nat) (b : List Byte) (s : State) : (send k d c b s).photos = s.photos := rfl
@[simp] theorem send_pos (k : SentKind) (d c : Nat) (b : List Byte) (s : State) : (send k d c b s).pos = s.pos := rfl
@[simp] theorem send_grids (k : SentKind) (d c : Nat) (b : List Byte) (s : State) : (send k d c b s).grids = s.grids := rfl
@[simp] theorem send_ress (k : SentKind) (d c : Nat) (b : List Byte) (s : State) : (send k d c b s).ress = s.ress := rfl
@[simp] theorem send_maps (k : SentKind) (d c : Nat) (b : List Byte) (s : State) : (send k d c b s).maps = s.maps := rfl
@[simp] theorem send_stations (k : SentKind) (d c : Nat) (b : List Byte) (s : State) : (send k d c b s).stations = s.stations := rfl
@[simp] theorem send_outlets (k : SentKind) (d c : Nat) (b : List Byte) (s : State) : (send k d c b s).outlets = s.outlets := rfl
@[simp] theorem send_learns (k : SentKind) (d c : Nat) (b : List Byte) (s : State) : (send k d c b s).learns = s.learns := rfl
@[simp] theorem send_regs (k : SentKind) (d c : Nat) (b : List Byte) (s : State) : (send k d c b s).regs = s.regs := rfl
@[simp] theorem send_segs (k : SentKind) (d c : Nat) (b : List Byte) (s : State) : (send k d c b s).segs = s.segs := rfl
@[simp] theorem send_ledger (k : SentKind) (d c : Nat) (b : List Byte) (s : State) : (send k d c b s).ledger = s.ledger := rfl
@[simp] theorem send_look (k : SentKind) (d c : Nat) (b : List Byte) (s : State) : (send k d c b s).look = s.look := rfl
@[simp] theorem send_frank (k : SentKind) (d c : Nat) (b : List Byte) (s : State) : (send k d c b s).frank = s.frank := rfl
@[simp] theorem send_teller (k : SentKind) (d c : Nat) (b : List Byte) (s : State) : (send k d c b s).teller = s.teller := rfl
@[simp] theorem send_dram (k : SentKind) (d c : Nat) (b : List Byte) (s : State) : (send k d c b s).dram = s.dram := rfl
@[simp] theorem send_comp (k : SentKind) (d c : Nat) (b : List Byte) (s : State) : (send k d c b s).comp = s.comp := rfl
@[simp] theorem send_vault (k : SentKind) (d c : Nat) (b : List Byte) (s : State) : (send k d c b s).vault = s.vault := rfl
@[simp] theorem send_chain (k : SentKind) (d c : Nat) (b : List Byte) (s : State) : (send k d c b s).chain = s.chain := rfl
@[simp] theorem send_twin (k : SentKind) (d c : Nat) (b : List Byte) (s : State) : (send k d c b s).twin = s.twin := rfl
@[simp] theorem send_cal (k : SentKind) (d c : Nat) (b : List Byte) (s : State) : (send k d c b s).cal = s.cal := rfl
@[simp] theorem send_elec (k : SentKind) (d c : Nat) (b : List Byte) (s : State) : (send k d c b s).elec = s.elec := rfl
@[simp] theorem send_dramMem (k : SentKind) (d c : Nat) (b : List Byte) (s : State) : (send k d c b s).dramMem = s.dramMem := rfl
@[simp] theorem send_hostMem (k : SentKind) (d c : Nat) (b : List Byte) (s : State) : (send k d c b s).hostMem = s.hostMem := rfl
@[simp] theorem send_now (k : SentKind) (d c : Nat) (b : List Byte) (s : State) : (send k d c b s).now = s.now := rfl
@[simp] theorem send_pending (k : SentKind) (d c : Nat) (b : List Byte) (s : State) : (send k d c b s).pending = s.pending := rfl

end Sys2Proof.Machine
end

