-- ==== Sys2Proof/Laws/Ops.lean ====
section
/-!
SUPPORT. Sys2Proof/Laws/Ops.lean: what the beginning of a step, the host's own writes and the judgement of the compare units can do, once
for all.
-/
namespace Sys2Proof.Machine

/-- A step begins: the time, the messages sent, the frame's clock, the chain's slew and the DRAM's queues; nothing else. -/
theorem begin_eq (t : Nat) (s : State) :
    ∃ c f, s.begin t = { s with now := max s.now t, sent := [], frame := f, chain := c, dram := s.dram.advance s.now (max s.now t) } := by
  unfold State.begin State.slew
  dsimp only
  split
  · exact ⟨_, _, rfl⟩
  · exact ⟨_, _, rfl⟩

/-- The host's own writes touch host memory only. -/
theorem hostWrites_eq (ws : List HostWrite) (s : State) : ∃ m, hostWrites ws s = { s with hostMem := m } := by
  unfold hostWrites
  induction ws generalizing s with
  | nil => exact ⟨s.hostMem, rfl⟩
  | cons w ws ih => rw [List.foldl_cons]; obtain ⟨m, h⟩ := ih (s.writeHost w.1 w.2); exact ⟨m, h⟩

/-- What judging the compare units leaves: the counters and the mode registers. -/
def SameCounts (s t : State) : Prop := t.pos.encoders = s.pos.encoders ∧ t.modes = s.modes

/-- A unit that fires leaves them. -/
theorem fireUnit_counts (c q : Nat) (r l : Bool) (k : Nat) (s : State) : SameCounts s (fireUnit c q r l k s) := ⟨rfl, rfl⟩

theorem fireDue_counts (c : Nat) (l : Bool) (f k : Nat) (s : State) : SameCounts s (fireDue c l f k s) := by
  induction f generalizing k s with
  | zero => exact ⟨rfl, rfl⟩
  | succ n ih =>
    unfold fireDue
    dsimp only
    split
    · exact ⟨rfl, rfl⟩
    · split
      · exact ⟨(ih ..).1.trans (fireUnit_counts ..).1, (ih ..).2.trans (fireUnit_counts ..).2⟩
      · exact ⟨rfl, rfl⟩

/-- Judging the compare units leaves the counters and the mode registers. -/
theorem judgeCompares_counts (q : Nat) (l : Bool) (s : State) : SameCounts s (judgeCompares q l s) := by
  unfold judgeCompares
  split
  · exact ⟨rfl, rfl⟩
  · generalize List.range 16 = xs
    induction xs generalizing s with
    | nil => exact ⟨rfl, rfl⟩
    | cons x xs ih =>
      rename_i h
      rw [List.foldl_cons]
      have hx : SameCounts s (if (s.compare x).encoder = q then fireDue x l 32 0 s else s) := by
        split
        · exact fireDue_counts ..
        · exact ⟨rfl, rfl⟩
      have hm : ¬ (if (s.compare x).encoder = q then fireDue x l 32 0 s else s).mode = .sentry := by
        show ¬ Modes.mode (State.modes _) = _
        rw [hx.2]; exact h
      exact ⟨(ih _ hm).1.trans hx.1, (ih _ hm).2.trans hx.2⟩

end Sys2Proof.Machine
end

