-- ==== Sys2Proof/Laws/Settle.lean ====
section
/-!
SUPPORT. Sys2Proof/Laws/Settle.lean: what settling a calm state does, once for all (`settle_calm`): the journal takes what arose, what was
raised reaches nobody, and nothing else changes.
-/
namespace Sys2Proof.Machine

/-! ### The sorting frame with no channel that listens -/

/-- No channel listens to a source. -/
def Deaf (s : State) : Prop := ∀ e ∈ s.frame.channels, e.2.producerEn = false

theorem Deaf.channel {s : State} (h : Deaf s) (c : Nat) : (s.channel c).producerEn = false :=
  Tab.get_of_all (p := fun x : Channel => x.producerEn = false) rfl h c

theorem channelsFed_deaf {s : State} (h : Deaf s) (src : Nat) : channelsFed src s = [] := by
  simp [channelsFed, Deaf.channel h]

theorem dropHops_deaf {s : State} (h : Deaf s) (clock : Nat) (r : Raised) : dropHops clock s r = s := by
  simp [dropHops, channelsFed_deaf h]

theorem foldl_dropHops_deaf {s : State} (h : Deaf s) (clock : Nat) (rs : List Raised) : rs.foldl (dropHops clock) s = s := by
  induction rs with
  | nil => rfl
  | cons r rs ih => rw [List.foldl_cons, dropHops_deaf h, ih]

theorem touched_deaf {s : State} (h : Deaf s) {rs : List Raised} (hr : ∀ r ∈ rs, r.chan = none) : touched rs s = [] := by
  simp only [touched, List.filter_eq_nil_iff, List.any_eq_true]
  rintro c - ⟨r, hm, hc⟩
  simp [hr r hm, Deaf.channel h] at hc

/-- What a clock leaves and what it takes comes to no channel of its own if nothing raised does. -/
theorem splitRaised_sources (a : Nat) {rs : List Raised} (h : ∀ r ∈ rs, r.chan = none) :
    (∀ r ∈ (splitRaised a rs).1, r.chan = none) ∧ ∀ r ∈ (splitRaised a rs).2, r.chan = none := by
  induction rs with
  | nil => simp [splitRaised]
  | cons x rest ih =>
    obtain ⟨h1, h2⟩ := ih fun r hr => h r (List.mem_cons_of_mem _ hr)
    have hx := h x List.mem_cons_self
    simp only [splitRaised]
    split
    · exact ⟨h1, fun r hr => (List.mem_cons.1 hr).elim (fun e => e ▸ hx) (h2 r)⟩
    · split
      · refine ⟨fun r hr => (List.mem_cons.1 hr).elim (fun e => e ▸ hx) fun g => h1 r (List.mem_filter.1 g).1, fun r hr => ?_⟩
        rcases List.mem_append.1 hr with g | g
        · obtain ⟨y, hy, rfl⟩ := List.mem_map.1 g
          exact h1 y (List.mem_filter.1 hy).1
        · exact h2 r g
      · exact ⟨fun r hr => (List.mem_cons.1 hr).elim (fun e => e ▸ hx) (h1 r), h2⟩

theorem splitRaised_length (a : Nat) (rs : List Raised) : (splitRaised a rs).1.length + (splitRaised a rs).2.length = rs.length := by
  induction rs with
  | nil => rfl
  | cons x rest ih =>
    simp only [splitRaised]
    split
    · simp only [List.length_cons]; omega
    · split
      · have h := List.length_eq_length_filter_add (l := (splitRaised a rest).1) x.sameEntry
        simp only [List.length_cons, List.length_append, List.length_map]
        omega
      · simp only [List.length_cons]; omega

theorem splitRaised_takes {a : Nat} {rs : List Raised} (h : ∃ r ∈ rs, r.clock = a) : 0 < (splitRaised a rs).1.length := by
  induction rs with
  | nil => simp at h
  | cons x rest ih =>
    simp only [splitRaised]
    split
    · rename_i hx
      obtain ⟨r, hr, he⟩ := h
      rcases List.mem_cons.1 hr with rfl | hr
      · exact absurd he hx
      · exact ih ⟨r, hr, he⟩
    · split <;> simp

theorem firstClock_of (rs : List Raised) (a : Nat) : (rs.foldl (fun a x => min a x.clock) a = a) ∨
    ∃ r ∈ rs, r.clock = rs.foldl (fun a x => min a x.clock) a := by
  induction rs generalizing a with
  | nil => exact .inl rfl
  | cons x rest ih =>
    rw [List.foldl_cons]
    rcases ih (min a x.clock) with h | ⟨r, hr, he⟩
    · rw [h]
      rcases Nat.le_total a x.clock with g | g
      · exact .inl (Nat.min_eq_left g)
      · exact .inr ⟨x, List.mem_cons_self, (Nat.min_eq_right g).symm⟩
    · exact .inr ⟨r, List.mem_cons_of_mem _ hr, he⟩

/-- The first clock is the clock of something raised. -/
theorem firstClock_mem {rs : List Raised} (h : rs ≠ []) : ∃ r ∈ rs, r.clock = firstClock rs := by
  cases rs with
  | nil => exact absurd rfl h
  | cons x rest =>
    rcases firstClock_of rest x.clock with g | ⟨r, hr, he⟩
    · exact ⟨x, List.mem_cons_self, g.symm⟩
    · exact ⟨r, List.mem_cons_of_mem _ hr, he⟩

/-- A clock of the frame takes at least one raised event. -/
theorem splitRaised_shorter {rs : List Raised} (h : rs ≠ []) : (splitRaised (firstClock rs) rs).2.length < rs.length := by
  have := splitRaised_length (firstClock rs) rs
  have := splitRaised_takes (firstClock_mem h)
  omega

/-- One hop with no channel that listens: what the clock takes is gone, and nothing else changes. -/
theorem frameRound_deaf (task : Nat → Nat → State → State) {s : State} (h : Deaf s) (hr : ∀ r ∈ s.frame.raised, r.chan = none) :
    ∃ rs, frameRound task s = { s with frame := { s.frame with raised := rs } } ∧ (∀ r ∈ rs, r.chan = none) ∧
      (s.frame.raised ≠ [] → rs.length < s.frame.raised.length) := by
  have hs : ∀ f : Frame, f.channels = s.frame.channels → Deaf { s with frame := f } := fun f hf e he => h e (by simpa [hf] using he)
  by_cases hm : s.mode = .sentry
  · refine ⟨[], ?_, by simp, fun hn => by simpa [List.length_pos_iff] using hn⟩
    have hm' : (modFrame (fun f => { f with raised := (splitRaised (firstClock s.frame.raised) s.frame.raised).2 }) s).mode = .sentry := hm
    simp only [frameRound, hm', if_true]
    rfl
  · refine ⟨(splitRaised (firstClock s.frame.raised) s.frame.raised).2, ?_, (splitRaised_sources _ hr).2, splitRaised_shorter⟩
    have hm' : ¬ (modFrame (fun f => { f with raised := (splitRaised (firstClock s.frame.raised) s.frame.raised).2 }) s).mode = .sentry := hm
    have hd : Deaf (modFrame (fun f => { f with raised := (splitRaised (firstClock s.frame.raised) s.frame.raised).2 }) s) := hs _ rfl
    simp only [frameRound, hm', if_false, foldl_dropHops_deaf hd,
      touched_deaf hd (splitRaised_sources _ hr).1]
    rfl

/-- The frame with no channel that listens drops all that is raised. -/
theorem frameRounds_deaf (task : Nat → Nat → State → State) (n : Nat) {s : State} (h : Deaf s) (hr : ∀ r ∈ s.frame.raised, r.chan = none)
    (hn : s.frame.raised.length ≤ n) : frameRounds task n s = s.unheard := by
  induction n generalizing s with
  | zero =>
    have : s.frame.raised = [] := List.length_eq_zero_iff.1 (by omega)
    simp only [frameRounds, State.unheard, ← this]
  | succ n ih =>
    rw [frameRounds]
    split
    · rename_i h0; simp only [State.unheard, ← h0]
    · rename_i h0
      obtain ⟨rs, he, hc, hl⟩ := frameRound_deaf task h hr
      rw [he, ih (s := { s with frame := { s.frame with raised := rs } }) h hc (by have := hl h0; simp only; omega)]
      rfl

/-! ### Recording what arose -/

/-- What recording may change: the journal, and what it raises. -/
structure Recorded (n : Nat) (s t : State) : Prop where
  rest : { t with journal := s.journal, frame := { t.frame with raised := [] } } = { s with frame := { s.frame with raised := [] } }
  raised : ∃ rs, t.frame.raised = s.frame.raised ++ rs ∧ (∀ r ∈ rs, r.chan = none) ∧ rs.length ≤ n
  arising : t.journal.arising = s.journal.arising

theorem Recorded.refl (s : State) : Recorded 0 s s := ⟨rfl, ⟨[], by simp⟩, rfl⟩

theorem Recorded.trans {m n : Nat} {s t u : State} (h : Recorded m s t) (g : Recorded n t u) : Recorded (m + n) s u := by
  obtain ⟨rs, h1, h2, h3⟩ := h.raised
  obtain ⟨qs, g1, g2, g3⟩ := g.raised
  refine ⟨?_, ⟨rs ++ qs, by rw [g1, h1, List.append_assoc], ?_, by simp only [List.length_append]; omega⟩, g.arising.trans h.arising⟩
  · have a := h.rest
    have b := g.rest
    have c : { u with journal := s.journal, frame := { u.frame with raised := [] } }
        = { ({ u with journal := t.journal, frame := { u.frame with raised := [] } } : State) with journal := s.journal } := rfl
    rw [c, b]
    have d : { ({ t with frame := { t.frame with raised := [] } } : State) with journal := s.journal }
        = { t with journal := s.journal, frame := { t.frame with raised := [] } } := rfl
    rw [d, a]
  · intro r hr
    rcases List.mem_append.1 hr with hr | hr
    · exact h2 r hr
    · exact g2 r hr

theorem Recorded.mono {m n : Nat} {s t : State} (h : Recorded m s t) (hn : m ≤ n) : Recorded n s t :=
  ⟨h.rest, by obtain ⟨rs, a, b, c⟩ := h.raised; exact ⟨rs, a, b, by omega⟩, h.arising⟩

theorem recorded_modJournal {f : Journal → Journal} {s : State} (hf : (f s.journal).arising = s.journal.arising) :
    Recorded 0 s (modJournal f s) :=
  ⟨rfl, ⟨[], by simp [modJournal]⟩, hf⟩

theorem recorded_raise (src : Nat) (s : State) : Recorded 1 s (raise src s) :=
  ⟨rfl, ⟨[{ src := src, input := none, clock := s.frame.clock }], rfl, by simp, by simp⟩, rfl⟩

theorem recorded_raiseIf (c : Bool) (src : Nat) (s : State) : Recorded 1 s (raiseIf c src s) := by
  unfold raiseIf
  split
  · exact recorded_raise src s
  · exact (Recorded.refl s).mono (by omega)

theorem recorded_storeEntry (e : JEntry) (s : State) : Recorded 0 s (storeEntry e s) :=
  recorded_modJournal (by dsimp only; split <;> rfl)

theorem recorded_loseEntry (s : State) : Recorded 0 s (loseEntry s) := by
  unfold loseEntry
  exact recorded_modJournal rfl

theorem recorded_fillJournal (s : State) : Recorded 1 s (fillJournal s) := by
  let u := loseEntry (storeEntry (ownEntry 0x0006 s.chainTime [] s) s)
  have a : Recorded (0 + 0) s u := (recorded_storeEntry _ s).trans (recorded_loseEntry _)
  have b : Recorded 0 u (modJournal (fun j => { j with full := true }) u) := recorded_modJournal rfl
  exact (a.trans b).trans (recorded_raise 449 _)

theorem recorded_keepEntry (e : JEntry) (s : State) : Recorded 1 s (keepEntry e s) := by
  unfold keepEntry
  dsimp only
  split
  · exact (recorded_storeEntry e s).mono (by omega)
  · split
    · exact (recorded_loseEntry s).mono (by omega)
    · split
      · exact recorded_fillJournal s
      · exact ((recorded_storeEntry e s).trans (recorded_raiseIf _ 448 _)).mono (by omega)

theorem recorded_reportSuppressed (code : Nat) (s : State) : Recorded 1 s (reportSuppressed code s) := by
  unfold reportSuppressed
  dsimp only
  split
  · exact (Recorded.refl s).mono (by omega)
  · exact (recorded_keepEntry (ownEntry 0x0002 _ _ s) s).trans (n := 0)
      (by unfold modJournal; exact ⟨rfl, ⟨[], by simp⟩, rfl⟩)

theorem recorded_suppressEntry (e : JEntry) (b : Bucket) (s : State) : Recorded 1 s (suppressEntry e b s) := by
  unfold suppressEntry
  dsimp only
  refine Recorded.trans (m := 0) ?_ (recorded_raiseIf _ 450 _)
  exact recorded_modJournal rfl

theorem recorded_recordEntry (s : State) (e : JEntry) : Recorded 2 s (recordEntry s e) := by
  unfold recordEntry
  dsimp only
  split
  · exact (Recorded.refl s).mono (by omega)
  · split
    · exact (recorded_keepEntry e s).mono (by omega)
    · split
      · refine Recorded.trans (m := 1) (Recorded.trans (m := 0) ?_ (recorded_reportSuppressed e.code _)) (recorded_keepEntry e _)
        exact recorded_modJournal rfl
      · exact (recorded_suppressEntry e _ s).mono (by omega)

theorem recorded_foldl {α : Type} {f : State → α → State} {k : Nat} (hf : ∀ s x, Recorded k s (f s x)) (xs : List α) (s : State) :
    Recorded (k * xs.length) s (xs.foldl f s) := by
  induction xs generalizing s with
  | nil => exact Recorded.refl s
  | cons x xs ih =>
    rw [List.foldl_cons]
    exact ((hf s x).trans (ih _)).mono (by simp only [List.length_cons, Nat.mul_succ]; omega)

/-- Recording the entries of a step changes the journal only, raises at most 128 events, and leaves no entry. -/
theorem recordArising_recorded (s : State) :
    Recorded 128 (modJournal (fun j => { j with arising := [] }) s) (recordArising s) := by
  unfold recordArising
  dsimp only
  refine Recorded.mono (Recorded.trans (recorded_foldl recorded_recordEntry _ _) (recorded_foldl (k := 0) ?_ _ _)) ?_
  · intro s _; exact recorded_modJournal rfl
  have := List.length_take_le 64 (sortBy (fun e : JEntry => e.block * 65536 + e.code) s.journal.arising)
  omega

theorem recordArising_arising (s : State) : (recordArising s).journal.arising = [] := (recordArising_recorded s).arising

/-! ### The constituents of a round on a calm state -/

theorem syncGroup_same (g : Nat) (up down : State → State) {s : State} (h : groupLink g s ≠ 0 ↔ s.lanes.up.getLsbD g = true) :
    syncGroup g up down s = s := by
  unfold syncGroup
  rw [if_pos (propext h)]

theorem syncLit_same {n : Nat} {s : State} (h : groupLink n s = 1 ↔ s.lanes.lit.getLsbD n = true) : syncLit n s = s := by
  unfold syncLit
  rw [if_pos (by by_cases g : groupLink n s = 1 <;> simp [g, ← h])]

theorem foldl_same {α : Type} {f : State → α → State} {s : State} {xs : List α} (h : ∀ x ∈ xs, f s x = s) : xs.foldl f s = s := by
  induction xs with
  | nil => rfl
  | cons x xs ih => rw [List.foldl_cons, h x List.mem_cons_self, ih fun y hy => h y (List.mem_cons_of_mem _ hy)]

theorem settleTwin_calm {s : State} (h : Calm s) : settleTwin s = s := by
  rcases h.twin with hs | hq
  · simp [settleTwin, hs]
  · unfold settleTwin
    dsimp only
    rw [syncGroup_same 14 _ _ hq.link]
    have h1 : (s.sys.fwRunning && s.twin.up && decide (s.twin.helloDigest ≠ configDigest s)) = false := by
      by_cases hu : (s.sys.fwRunning && s.twin.up) = true
      · simp [hq.hello hu]
      · rw [Bool.not_eq_true] at hu; rw [hu]; rfl
    have h2 : (decide (s.twin.role = .active) && s.twin.up
        && (decide (s.twin.partnerRole = .syncing) || decide (s.twin.partnerRole = .inSync))) = false := by
      by_cases hr : s.twin.role = .active
      · by_cases hu : s.twin.up = true
        · have := hq.partner hr hu; simp [this.1, this.2]
        · simp [hu]
      · simp [hr]
    simp only [h1, h2, hq.role, decide_false, Bool.false_and, Bool.false_eq_true, if_false, reachSync, hq.sync, takeHandover, hq.handover,
      Bool.not_false, if_true, ite_self]

theorem settleLinks_calm {s : State} (h : Calm s) : settleLinks s = s := by
  have h0 : restLinks s = s := by simp [restLinks, linksRest, h.rest]
  have hp : syncPorts s = s := foldl_same fun n hn => by
    have hn := List.mem_range.1 hn
    rw [syncGroup_same n _ _ (h.links n (by omega))]
    exact syncLit_same (h.lit n hn)
  have ht : settleTwin s = s := settleTwin_calm h
  have ha : applyLanes s = s := by
    have : (s.lanes.lanes.filter fun e => e.2.calDue) = [] := by
      simp only [List.filter_eq_nil_iff]; intro e he; simp [h.codes e he]
    simp [applyLanes, this]
  simp only [settleLinks, h0, hp, syncGroup_same 12 _ _ (h.links 12 (by omega)), syncGroup_same 13 _ _ (h.links 13 (by omega)), ht, ha]

theorem settleModes_calm {s : State} (h : Calm s) : settleModes s = s := by
  have h1 : takeFault s = s := by simp [takeFault, h.fault]
  have h5 : transitionDue s = s := by
    have : transitionEnds s = false := by
      cases hx : s.modes.trans with
      | none => simp [transitionEnds, transitionReady, hx]
      | some x => obtain ⟨h1, h2⟩ := h.transition x hx; simp [transitionEnds, transitionReady, hx, h1, h2]
    simp [transitionDue, this]
  have h6 : railTurn s = s := by
    have : rail1Due s = false ∧ rail2Due s = false := by
      by_cases hw : wantsPower s = true
      · obtain ⟨h1, h2⟩ := h.rising hw
        exact ⟨by rcases h1 with h1 | h1 <;> simp only [rail1Due, h1, Bool.not_true, Bool.and_false, Bool.false_and],
          by rcases h2 with h2 | h2 | h2 <;> simp only [rail2Due, h2, Bool.not_true, Bool.and_false, Bool.false_and]⟩
      · simp [rail1Due, rail2Due, hw]
    simp [railTurn, tryPower, rail1Falls, h.falling, this]
  have h2 : takeWanted s = s := by simp [takeWanted, h.wanted]
  have h3 : runWaitingMode s = s := by simp [runWaitingMode, h.waiting]
  have h4 : followReductions s = s := by
    unfold followReductions
    by_cases hi : s.mode = .inspect
    · simp [hi, h.full hi]
    · by_cases hr : s.mode = .reduced
      · simp [hr, h.reduced hr]
      · simp [hi, hr]
  simp [settleModes, h1, h2, h3, h4, h5, h6]

theorem jobFor_none {s : State} (h : compWaiters s = []) (e : Nat) : jobFor e s = none := by
  unfold jobFor
  rw [h]
  rfl

theorem settleWork_calm {s : State} (h : Calm s) : settleWork s = s := by
  have h1 : takeFirings s = s := by
    simp only [takeFirings, h.firings, List.foldl_nil]
    rw [← h.firings]
  have h2 : (List.range 4).foldl (fun s k => issuePseudos k s) s = s := foldl_same fun k _ => by
    have : (s.reg k).pseudos = [] := Tab.get_of_all (p := fun x : Reg => x.pseudos = []) rfl h.pseudos k
    simp [issuePseudos, this]
  have h3 : compFill s = s := foldl_same fun e _ => by
    simp only [jobFor_none h.jobs]; split <;> rfl
  have h4 : returnJobs s = s := by simp [returnJobs, h.running, sortBy]
  have h5 : releaseJobs s = s := foldl_same fun k _ => by
    have : (s.learn k).released = false := Tab.get_of_all (p := fun x : Learn => x.released = false) rfl h.released k
    simp [this]
  have h6 : noDistrict s = s := by simp [noDistrict, h.queue]
  simp [settleWork, h1, h2, h3, h4, h5, h6]

/-- The VID codes alone change. -/
theorem updateVids_modes (s : State) : ∃ (a b c d : Nat) (x y : Option Nat), updateVids s = { s with modes := { s.modes with
    vid0 := a, vid1 := b, vidOld0 := c, vidOld1 := d, vidRaised0 := x, vidRaised1 := y } } := by
  unfold updateVids
  dsimp only
  split
  · exact ⟨_, _, _, _, _, _, rfl⟩
  · split
    · exact ⟨_, _, _, _, _, _, rfl⟩
    · exact ⟨_, _, _, _, _, _, rfl⟩

/-- The codes follow the districts at once: a second look changes nothing. -/
theorem updateVids_twice (s : State) : updateVids (updateVids s) = updateVids s := by
  by_cases h1 : (!s.sys.fwRunning || decide (s.mode = .sentry)) = true
  · have : updateVids s = s := by unfold updateVids; rw [if_pos h1]
    rw [this, this]
  · by_cases h2 : neededVid 0 s = s.modes.vid0 && neededVid 1 s = s.modes.vid1
    · have : updateVids s = s := by unfold updateVids; rw [if_neg h1]; dsimp only; rw [if_pos h2]
      rw [this, this]
    · have e : updateVids s = { s with modes := { s.modes with
          vidRaised0 := if s.modes.vid0 < neededVid 0 s then some s.now else s.modes.vidRaised0
          vidRaised1 := if s.modes.vid1 < neededVid 1 s then some s.now else s.modes.vidRaised1
          vidOld0 := if s.modes.vid0 < neededVid 0 s then s.modes.vid0 else s.modes.vidOld0
          vidOld1 := if s.modes.vid1 < neededVid 1 s then s.modes.vid1 else s.modes.vidOld1
          vid0 := neededVid 0 s, vid1 := neededVid 1 s } } := by
        conv_lhs => unfold updateVids
        rw [if_neg h1]; dsimp only; rw [if_neg h2]
      generalize hu : updateVids s = u at e
      have hn : ∀ c, neededVid c u = neededVid c s := fun c => by rw [e]; rfl
      have hv0 : u.modes.vid0 = neededVid 0 s := by rw [e]
      have hv1 : u.modes.vid1 = neededVid 1 s := by rw [e]
      unfold updateVids
      dsimp only
      rw [hn, hn, hv0, hv1]
      simp

theorem Calm.updateVids {s : State} (h : Calm s) : Calm (updateVids s) := by
  obtain ⟨_, _, _, _, _, _, e⟩ := updateVids_modes s
  rw [e]
  exact { h with
    twin := h.twin.imp id fun g => { g with } }

/-- A state that differs in the journal and in what is raised only is as calm. -/
theorem Calm.of_recorded {n : Nat} {s t : State} (h : Calm s) (r : Recorded n s t) (hn : t.frame.raised.length ≤ 200)
    (hc : ∀ x ∈ t.frame.raised, x.chan = none) : Calm t := by
  have e : t = { s with journal := t.journal, frame := { s.frame with raised := t.frame.raised } } := by
    have := r.rest
    have h1 : t = { ({ t with journal := s.journal, frame := { t.frame with raised := [] } } : State) with
      journal := t.journal, frame := { t.frame with raised := t.frame.raised } } := rfl
    have h2 : { t.frame with raised := [] } = { s.frame with raised := [] } := congrArg State.frame this
    have h3 : t.frame = { s.frame with raised := t.frame.raised } := by
      have : t.frame = { ({ t.frame with raised := [] } : Frame) with raised := t.frame.raised } := rfl
      rw [this, h2]
    rw [h1, this]
    simp only
    rw [← h3]
  rw [e]
  rw [e] at hn hc
  exact {
    channels := h.channels, raised := hc, few := hn, fault := h.fault, wanted := h.wanted, reset := h.reset, waiting := h.waiting
    transition := h.transition, falling := h.falling, rising := h.rising, rest := h.rest
    full := h.full, reduced := h.reduced, links := h.links, lit := h.lit, codes := h.codes, firings := h.firings, pseudos := h.pseudos
    queue := h.queue, running := h.running, released := h.released, jobs := h.jobs
    twin := h.twin.imp id fun g => {
      link := g.link, hello := g.hello, partner := g.partner, role := g.role, sync := g.sync, handover := g.handover } }

/-! ### Settling -/

theorem unheard_of_nothing {s : State} (h : s.frame.raised = []) : s.unheard = s := by
  unfold State.unheard
  rw [← h]


theorem Calm.deaf {s : State} (h : Calm s) : Deaf s := h.channels

theorem Calm.unheard {s : State} (h : Calm s) : Calm s.unheard :=
  { h with
    raised := by simp [State.unheard], few := by simp [State.unheard]
    twin := h.twin.imp id fun g => {
      link := g.link, hello := g.hello, partner := g.partner, role := g.role, sync := g.sync, handover := g.handover } }

theorem Calm.modJournal {s : State} (h : Calm s) (f : Journal → Journal) : Calm (modJournal f s) :=
  { h with
    twin := h.twin.imp id fun g => {
      link := g.link, hello := g.hello, partner := g.partner, role := g.role, sync := g.sync, handover := g.handover } }

theorem calm_recordArising {s : State} (h : Calm s) (h0 : s.frame.raised = []) : Calm (recordArising s) := by
  have r := recordArising_recorded s
  obtain ⟨rs, e, hc, hl⟩ := r.raised
  have e' : (recordArising s).frame.raised = rs := by rw [e]; simp [Machine.modJournal, h0]
  exact (h.modJournal _).of_recorded r (by rw [e']; omega) (by rw [e']; exact hc)

theorem frameRounds_calm {s : State} (h : Calm s) : frameRounds performTask 256 s = s.unheard :=
  frameRounds_deaf performTask 256 h.deaf h.raised (by have := h.few; omega)

theorem settleRound_calm {s : State} (h : Calm s) : settleRound s = updateVids (recordArising s.unheard) := by
  unfold settleRound
  rw [settleLinks_calm h, settleModes_calm h, settleWork_calm h, frameRounds_calm h]

theorem recordArising_nothing {s : State} (h : s.journal.arising = []) : recordArising s = s := by
  have : modJournal (fun j => { j with arising := [] }) s = s := by
    unfold Machine.modJournal
    rw [← h]
  simp only [recordArising, h, sortBy, List.take_nil, List.drop_nil, List.foldl_nil]
  exact this

theorem unsettled_calm {s : State} (h : Calm s) (ha : s.journal.arising = []) : unsettled s = !s.frame.raised.isEmpty := by
  simp [unsettled, linksRest, h.fault, h.firings, h.wanted, h.rest, ha]

theorem unheard_updateVids (s : State) : (updateVids s).unheard = updateVids s.unheard := by
  by_cases h1 : (!s.sys.fwRunning || decide (s.mode = .sentry)) = true
  · have e1 : updateVids s = s := by unfold updateVids; rw [if_pos h1]
    have e2 : updateVids s.unheard = s.unheard := by unfold updateVids; rw [if_pos (by exact h1)]
    rw [e1, e2]
  · by_cases h2 : neededVid 0 s = s.modes.vid0 && neededVid 1 s = s.modes.vid1
    · have e1 : updateVids s = s := by unfold updateVids; rw [if_neg h1]; dsimp only; rw [if_pos h2]
      have e2 : updateVids s.unheard = s.unheard := by
        unfold updateVids; rw [if_neg (by exact h1)]; dsimp only; exact if_pos h2
      rw [e1, e2]
    · unfold updateVids
      rw [if_neg h1, if_neg (show ¬ (!s.unheard.sys.fwRunning || decide (s.unheard.mode = .sentry)) = true from h1)]
      dsimp only
      rw [if_neg h2, if_neg (show ¬ (decide (neededVid 0 s.unheard = s.unheard.modes.vid0) &&
        decide (neededVid 1 s.unheard = s.unheard.modes.vid1)) = true from h2)]
      rfl

theorem settleRounds_calm (n : Nat) {s : State} (h : Calm s) : settleRounds (n + 2) s = s.settled := by
  have c := (calm_recordArising h.unheard rfl).updateVids
  have a : (updateVids (recordArising s.unheard)).journal.arising = [] := by
    obtain ⟨_, _, _, _, _, _, e⟩ := updateVids_modes (recordArising s.unheard)
    rw [e]; exact recordArising_arising s.unheard
  rw [settleRounds, settleRound_calm h]
  rw [unsettled_calm c a]
  by_cases hr : (updateVids (recordArising s.unheard)).frame.raised = []
  · simp only [hr, List.isEmpty_nil, Bool.not_true, Bool.false_eq_true, if_false]
    exact (unheard_of_nothing hr).symm
  · have hb : (!(updateVids (recordArising s.unheard)).frame.raised.isEmpty) = true := by simpa using hr
    rw [if_pos hb, settleRounds, settleRound_calm c]
    have e : recordArising (updateVids (recordArising s.unheard)).unheard = (updateVids (recordArising s.unheard)).unheard :=
      recordArising_nothing a
    have e2 : updateVids (updateVids (recordArising s.unheard)).unheard = (updateVids (recordArising s.unheard)).unheard := by
      rw [← unheard_updateVids, updateVids_twice]
    rw [e, e2, unsettled_calm c.unheard a]
    rfl

/-- A calm state settles: the journal takes what arose, the VID codes follow, nobody hears what was raised, and nothing else happens. -/
theorem settle_calm {s : State} (h : Calm s) : settle s = s.settled := by
  have c := (calm_recordArising h.unheard rfl).updateVids.unheard
  have hw : s.settled.modes.wanted = none := c.wanted
  have hd : sentryDue s.settled = false := by simp [sentryDue, hw]
  have h2 : enterSentry s.settled = s.settled := by simp [enterSentry, hd]
  have h3 : takeReset s.settled = s.settled := by
    have : s.settled.modes.resetNow = none := c.reset
    simp [takeReset, this]
  unfold settle
  rw [settleRounds_calm 14 h]
  simp only [hd, Bool.false_eq_true, if_false, h2, h3]

/-- A step that leaves a calm state ends with it, settled, and the queue as it was. -/
theorem ends_calm (s : State) {u : State} (h : Calm u) : s.ends u = s.next u := by
  unfold State.ends State.next
  rw [settle_calm h]

end Sys2Proof.Machine
end

