-- ==== Sys2Proof/Laws/Packets.lean ====
section
/-!
SUPPORT. Sys2Proof/Laws/Packets.lean: what a packet does, once for every command (`runCommand_reply` and its neighbours), and that taking
a packet and replying leave a calm state calm.
-/
namespace Sys2Proof.Machine

/-! ### What calm rests on -/

/-- The parts of the lanes that calm rests on are the same. -/
structure SameLanes (s t : State) : Prop where
  up : t.lanes.up = s.lanes.up
  lit : t.lanes.lit = s.lanes.lit
  group : ∀ g, groupLink g t = groupLink g s
  due : (∀ e ∈ s.lanes.lanes, e.2.calDue = false) → ∀ e ∈ t.lanes.lanes, e.2.calDue = false
  rests : t.lanes.rests = s.lanes.rests

theorem SameLanes.refl (s : State) : SameLanes s s := ⟨rfl, rfl, fun _ => rfl, id, rfl⟩

theorem SameLanes.trans {s t u : State} (h : SameLanes s t) (g : SameLanes t u) : SameLanes s u :=
  ⟨g.up.trans h.up, g.lit.trans h.lit, fun n => (g.group n).trans (h.group n), fun x => g.due (h.due x), g.rests.trans h.rests⟩

/-- The parts of the state that calm rests on are the same, but for a twin's. -/
structure SameCore (s t : State) : Prop where
  frame : t.frame.channels = s.frame.channels
  raised : t.frame.raised = s.frame.raised
  modes : t.modes = s.modes
  teller : t.teller = s.teller
  lanes : SameLanes s t
  pos : t.pos = s.pos
  regs : t.regs = s.regs
  look : t.look = s.look
  learns : t.learns = s.learns
  comp : t.comp = s.comp
  vault : t.vault = s.vault
  started : t.sys.started = s.sys.started
  running : t.sys.fwRunning = s.sys.fwRunning

/-- The parts of the state that calm rests on are the same. -/
structure SameWork (s t : State) : Prop extends SameCore s t where
  twin : t.twin = s.twin
  shape : shapingState t = shapingState s
  stations : t.stations = s.stations
  grids : t.grids = s.grids

theorem SameCore.refl (s : State) : SameCore s s := ⟨rfl, rfl, rfl, rfl, SameLanes.refl s, rfl, rfl, rfl, rfl, rfl, rfl, rfl, rfl⟩

theorem SameCore.trans {s t u : State} (h : SameCore s t) (g : SameCore t u) : SameCore s u :=
  ⟨g.frame.trans h.frame, g.raised.trans h.raised, g.modes.trans h.modes, g.teller.trans h.teller, h.lanes.trans g.lanes,
    g.pos.trans h.pos, g.regs.trans h.regs, g.look.trans h.look, g.learns.trans h.learns, g.comp.trans h.comp, g.vault.trans h.vault,
    g.started.trans h.started, g.running.trans h.running⟩

theorem SameWork.refl (s : State) : SameWork s s := ⟨SameCore.refl s, rfl, rfl, rfl, rfl⟩

theorem SameWork.trans {s t u : State} (h : SameWork s t) (g : SameWork t u) : SameWork s u :=
  ⟨h.toSameCore.trans g.toSameCore, g.twin.trans h.twin, g.shape.trans h.shape, g.stations.trans h.stations, g.grids.trans h.grids⟩

/-- What waits for a compression engine is the same. -/
theorem SameCore.waiters {s t : State} (e : SameCore s t) : compWaiters t = compWaiters s := by
  have hu : ∀ user part, userHolds user part t = userHolds user part s := fun _ _ => by unfold userHolds State.engine; rw [e.comp]
  have hl : ∀ part, libraryWaiter part t = libraryWaiter part s := fun _ => by unfold libraryWaiter compHolds; rw [hu]
  have hk : ∀ k, t.learn k = s.learn k := fun _ => by unfold State.learn; rw [e.learns]
  have hp : ∀ x, partsTaken x t = partsTaken x s := fun _ => by unfold partsTaken State.engine; rw [e.comp]
  have hc : commandWaiter t = commandWaiter s := by funext x; unfold commandWaiter; simp only [hp, hk, hl]
  have hf : ∀ op q, findStarted op q t = findStarted op q s := fun _ _ => by unfold findStarted; rw [e.started]
  have hd : dayWaiter t = dayWaiter s := by unfold dayWaiter; rw [hu, e.vault]
  unfold compWaiters
  rw [hc, hd, e.started]
  simp only [hk, hf, hl]

/-- Calm but for the twin. -/
theorem Calm.core {s t : State} (h : Calm s) (e : SameCore s t) (ht : t.modes.strapTwin = false ∨ TwinQuiet t) : Calm t := by
  have hm : t.mode = s.mode := congrArg Modes.mode e.modes
  have hr : reducedNow t = reducedNow s := by unfold reducedNow State.decl; rw [e.teller]
  exact {
    channels := by rw [e.frame]; exact h.channels
    raised := by rw [e.raised]; exact h.raised
    few := by rw [e.raised]; exact h.few
    fault := by rw [e.modes]; exact h.fault
    wanted := by rw [e.modes]; exact h.wanted
    reset := by rw [e.modes]; exact h.reset
    waiting := by rw [e.modes]; exact h.waiting
    transition := by unfold enginesRun; rw [e.modes, e.comp]; exact h.transition
    falling := by rw [e.modes]; exact h.falling
    rising := by unfold wantsPower State.mode; rw [e.modes]; exact h.rising
    rest := e.lanes.rests.trans h.rest
    full := by rw [hm, hr]; exact h.full
    reduced := by rw [hm, hr]; exact h.reduced
    twin := ht
    links := by simp only [e.lanes.group, e.lanes.up]; exact h.links
    lit := by simp only [e.lanes.group, e.lanes.lit]; exact h.lit
    codes := e.lanes.due h.codes
    firings := by rw [e.pos]; exact h.firings
    pseudos := by rw [e.regs]; exact h.pseudos
    queue := by rw [e.look]; exact h.queue
    running := by rw [e.look]; exact h.running
    released := by rw [e.learns]; exact h.released
    jobs := e.waiters.trans h.jobs }

theorem Calm.same {s t : State} (h : Calm s) (e : SameWork s t) : Calm t := by
  have hd : configDigest t = configDigest s := by unfold configDigest; rw [e.shape]
  have hs : syncReached t = syncReached s := by
    unfold syncReached digestsEqual stationsInUse State.station State.grid State.mode; rw [e.modes, e.twin, hd, e.stations, e.grids]
  refine h.core e.toSameCore (h.twin.imp (fun g => by rw [e.modes]; exact g) fun g => ?_)
  exact {
    link := by rw [e.lanes.group, e.lanes.up]; exact g.link
    hello := by rw [e.running, e.twin, hd]; exact g.hello
    partner := by rw [e.twin]; exact g.partner
    role := by rw [e.twin]; exact g.role
    sync := by rw [hs]; exact g.sync
    handover := by rw [e.twin]; exact g.handover }

theorem Solo.core {s t : State} (h : Solo s) (e : SameCore s t) : Solo t :=
  ⟨h.toCalm.core e (.inl (by rw [e.modes]; exact h.alone)), by rw [e.modes]; exact h.alone⟩

theorem Solo.same {s t : State} (h : Solo s) (e : SameWork s t) : Solo t := h.core e.toSameCore

/-! ### The shared operations leave it alone -/

theorem sameWork_begin (t : Nat) (s : State) : SameWork s (s.begin t) := by
  unfold State.begin State.slew
  dsimp only
  split <;> exact ⟨⟨rfl, rfl, rfl, rfl, ⟨rfl, rfl, fun _ => rfl, id, rfl⟩, rfl, rfl, rfl, rfl, rfl, rfl, rfl, rfl⟩, rfl, rfl, rfl, rfl⟩

theorem Calm.begin {s : State} (h : Calm s) (t : Nat) : Calm (s.begin t) := h.same (sameWork_begin t s)

theorem sameWork_writeHost (a : Nat) (bs : List Byte) (s : State) : SameWork s (s.writeHost a bs) :=
  ⟨⟨rfl, rfl, rfl, rfl, ⟨rfl, rfl, fun _ => rfl, id, rfl⟩, rfl, rfl, rfl, rfl, rfl, rfl, rfl, rfl⟩, rfl, rfl, rfl, rfl⟩

theorem sameWork_setBox (m : Nat) (b : Mailbox) (s : State) : SameWork s (s.setBox m b) :=
  ⟨⟨rfl, rfl, rfl, rfl, ⟨rfl, rfl, fun _ => rfl, id, rfl⟩, rfl, rfl, rfl, rfl, rfl, rfl, rfl, rfl⟩, rfl, rfl, rfl, rfl⟩

theorem sameWork_send (k : SentKind) (d c : Nat) (b : List Byte) (s : State) : SameWork s (send k d c b s) :=
  ⟨⟨rfl, rfl, rfl, rfl, ⟨rfl, rfl, fun _ => rfl, id, rfl⟩, rfl, rfl, rfl, rfl, rfl, rfl, rfl, rfl⟩, rfl, rfl, rfl, rfl⟩

theorem sameWork_journal (c b d : Nat) (x : List Byte) (s : State) : SameWork s (journal c b d x s) :=
  ⟨⟨rfl, rfl, rfl, rfl, ⟨rfl, rfl, fun _ => rfl, id, rfl⟩, rfl, rfl, rfl, rfl, rfl, rfl, rfl, rfl⟩, rfl, rfl, rfl, rfl⟩

theorem sameWork_sendMsix (f v : Nat) (s : State) : SameWork s (sendMsix f v s) := by
  unfold sendMsix
  split
  · exact SameWork.refl s
  · split
    · exact SameWork.refl s
    · refine SameWork.trans (t := { s with host := _ }) ?_ (sameWork_send ..)
      exact ⟨⟨rfl, rfl, rfl, rfl, ⟨rfl, rfl, fun _ => rfl, id, rfl⟩, rfl, rfl, rfl, rfl, rfl, rfl, rfl, rfl⟩, rfl, rfl, rfl, rfl⟩

theorem sameWork_writeBack (m n : Nat) (s : State) : SameWork s (writeBack m n s) := by
  unfold writeBack
  dsimp only
  refine (sameWork_writeHost (s.box m).wb (le 4 (s.box m).deviceIndex ++ le 4 (s.box m).dropped) s).trans ?_
  split
  · split
    · exact (sameWork_setBox ..).trans (sameWork_sendMsix ..)
    · exact sameWork_setBox ..
  · exact SameWork.refl _

theorem sameWork_foldl {α : Type} {f : State → α → State} (hf : ∀ s x, SameWork s (f s x)) (xs : List α) (s : State) :
    SameWork s (xs.foldl f s) := by
  induction xs generalizing s with
  | nil => exact SameWork.refl s
  | cons x xs ih => exact (hf s x).trans (ih _)

theorem sameWork_writeEntries (m st : Nat) (bs : List Byte) (s : State) : SameWork s (writeEntries m st bs s) := by
  unfold writeEntries
  exact sameWork_foldl (fun _ _ => sameWork_writeHost ..) _ s

theorem sameWork_pushReply (m : Nat) (e : List Byte) (s : State) : SameWork s (pushReply m e s) := by
  unfold pushReply
  dsimp only
  split
  · exact ((sameWork_setBox ..).trans ((sameWork_writeEntries ..).trans (sameWork_setBox ..))).trans (sameWork_writeBack ..)
  · exact ⟨⟨rfl, rfl, rfl, rfl, ⟨rfl, rfl, fun _ => rfl, id, rfl⟩, rfl, rfl, rfl, rfl, rfl, rfl, rfl, rfl⟩, rfl, rfl, rfl, rfl⟩

theorem sameWork_setLink (p : ChainPort) (l : Link) (s : State) : SameWork s (s.setLink p l) := by
  cases p <;> exact ⟨⟨rfl, rfl, rfl, rfl, ⟨rfl, rfl, fun _ => rfl, id, rfl⟩, rfl, rfl, rfl, rfl, rfl, rfl, rfl, rfl⟩, rfl, rfl, rfl, rfl⟩

/-- Sending blocks changes nothing that calm rests on. -/
theorem Sending.sameWork {s t : State} (h : Sending s t) : SameWork s t := by
  have hl : SameLanes s t := ⟨h.up, h.lit, h.groupLink, h.due, show ({ t.lanes with lanes := [], rows := [] } : Lanes).rests = _ by rw [h.work]⟩
  obtain ⟨l, b, f, rfl⟩ := h.only
  exact ⟨⟨rfl, rfl, rfl, rfl, hl, rfl, rfl, rfl, rfl, rfl, rfl, rfl, rfl⟩, rfl, rfl, rfl, rfl⟩

theorem sameWork_putFrame (p : ChainPort) (x : List Byte) (s : State) : SameWork s (putFrame p x s) :=
  (sending_sendLayer ..).sameWork.trans (sameWork_send ..)

theorem sameWork_sendFrame (p : ChainPort) (k a b : Nat) (x : List Byte) (s : State) : SameWork s (sendFrame p k a b x s) := by
  unfold sendFrame
  dsimp only
  split
  · exact (sameWork_setLink ..).trans (sameWork_putFrame ..)
  · exact SameWork.refl s

theorem sameWork_routeFrame (k a b : Nat) (x : List Byte) (s : State) : SameWork s (routeFrame k a b x s) := by
  unfold routeFrame
  split
  · exact (sameWork_sendFrame ..).trans (sameWork_sendFrame ..)
  · split <;> exact sameWork_sendFrame ..

/-- A change of what a package knows of its sources. -/
theorem sameWork_sys {y : Sys} {s : State} (h : y.started = s.sys.started) (g : y.fwRunning = s.sys.fwRunning) :
    SameWork s { s with sys := y } :=
  ⟨⟨rfl, rfl, rfl, rfl, ⟨rfl, rfl, fun _ => rfl, id, rfl⟩, rfl, rfl, rfl, rfl, rfl, rfl, h, g⟩, rfl, rfl, rfl, rfl⟩

theorem sameWork_modService (f : Service → Service) (s : State) : SameWork s (modService f s) := sameWork_sys rfl rfl

theorem sameWork_putReply (a : Args) (h data : List Byte) (s : State) : SameWork s (putReply a h data s) := by
  unfold putReply
  split
  · refine SameWork.trans ?_ (sameWork_pushReply ..)
    split
    · exact sameWork_writeHost ..
    · exact SameWork.refl s
  · exact sameWork_sys rfl rfl
  · split
    · exact sameWork_routeFrame ..
    · exact sameWork_sendFrame ..

theorem sameWork_countReply (k : Nat) (s : State) : SameWork s (countReply k s) :=
  ⟨⟨rfl, rfl, rfl, rfl, ⟨rfl, rfl, fun _ => rfl, id, rfl⟩, rfl, rfl, rfl, rfl, rfl, rfl, rfl, rfl⟩, rfl, rfl, rfl, rfl⟩

/-- A reply changes nothing that calm rests on. -/
theorem sameWork_sendReply (a : Args) (op st : Nat) (data : List Byte) (s : State) : SameWork s (sendReply a op st data s) := by
  unfold sendReply
  split
  · exact SameWork.refl s
  · have reply : ∀ h, SameWork s (putReply a h data (countReply a.src.index s)) := fun h =>
      (sameWork_countReply a.src.index s).trans (sameWork_putReply a h data _)
    dsimp only
    split
    · exact reply _
    · exact (reply _).trans (sameWork_journal ..)

theorem sameWork_takeEntry (x : Source) (s : State) : SameWork s (takeEntry x s) := by
  unfold takeEntry
  split
  · dsimp only
    split
    · exact (sameWork_setBox ..).trans (sameWork_writeBack ..)
    · exact SameWork.refl s
  · exact SameWork.refl s

theorem sameWork_received (a : Args) (s : State) : SameWork s (received a s) := by
  unfold received
  split
  · exact (sameWork_begin a.t s).trans (sameWork_modService ..)
  · exact (sameWork_begin a.t s).trans (sameWork_takeEntry ..)

theorem Solo.begin {s : State} (h : Solo s) (t : Nat) : Solo (s.begin t) := h.same (sameWork_begin t s)

theorem Solo.received {s : State} (h : Solo s) (a : Args) : Solo (received a s) := h.same (sameWork_received a s)

theorem Solo.sendReply {s : State} (h : Solo s) (a : Args) (op st : Nat) (data : List Byte) : Solo (sendReply a op st data s) :=
  h.same (sameWork_sendReply a op st data s)

theorem Calm.received {s : State} (h : Calm s) (a : Args) : Calm (received a s) := h.same (sameWork_received a s)

theorem Calm.sendReply {s : State} (h : Calm s) (a : Args) (op st : Nat) (data : List Byte) : Calm (sendReply a op st data s) :=
  h.same (sameWork_sendReply a op st data s)

/-! ### What an accepted packet does -/

/-- A delivered packet that waits for no block is held against its own command's checks. -/
theorem runCommand_delivered {d : CommandDef} {a : Args} {s : State} (h : Delivered d.opcode a s = true)
    (hw : mustWait (some d) a (received a s) = false) : runCommand d a s = startKnown d a (received a s) := by
  simp only [Delivered, Bool.and_eq_true, Bool.or_eq_true, decide_eq_true_eq] at h
  obtain ⟨⟨⟨hsrc, hstart⟩, hhead⟩, hpost⟩ := h
  have hrun : runCommand d a s = arrive (some d) d.opcode a (received a s) := by
    unfold runCommand takePacket received
    by_cases hs : a.src = .service
    · simp [hs, hsrc.resolve_left (not_not.mpr hs)]
    · simp [hs]
  have hone : (decide (a.postcode = 0xFF) && decide (1 < (received a s).chain.size)) = false := by
    simp only [Bool.and_eq_false_iff, decide_eq_false_iff_not]; omega
  have hown : (decide (a.postcode < 16) && decide (a.postcode ≠ (received a s).chain.postcode)) = false := by
    simp only [Bool.and_eq_false_iff, decide_eq_false_iff_not]; omega
  rw [hrun, arrive, hstart, hw]
  unfold startPacket
  simp only [ne_eq] at hown
  simp only [Bool.not_false, Bool.and_self, if_true, hhead, ne_eq, not_true, if_false, hone, Bool.false_and, Bool.false_eq_true, hown]

/-- A packet that meets no block held by a started command waits for none. -/
theorem mustWait_prompt {d : CommandDef} {a : Args} {s : State} (h : Prompt d a s = true) : mustWait (some d) a s = false := by
  simp only [Prompt, Bool.or_eq_true, Bool.not_eq_true'] at h
  unfold mustWait
  rcases h with h | h <;> simp [h]

/-- Nor does one that its packet's own checks refuse. -/
theorem mustWait_refused {d : CommandDef} {a : Args} {s : State} (h : packetStatus d a s ≠ stDone) : mustWait (some d) a s = false := by
  unfold mustWait
  simp [h]

/-- Nor does one with CHECK_ONLY. -/
theorem mustWait_checkOnly {d : CommandDef} {a : Args} {s : State} (h : a.checkOnly = true) : mustWait (some d) a s = false := by
  unfold mustWait
  simp [h]

/-- A delivered packet is not chain-wide. -/
theorem delivered_single {op : Nat} {a : Args} {s : State} (h : Delivered op a s = true) :
    (decide (a.postcode = 0xFF) && decide (1 < (received a s).chain.size)) = false := by
  simp only [Delivered, Bool.and_eq_true, Bool.or_eq_true, decide_eq_true_eq] at h
  obtain ⟨-, hpost⟩ := h
  simp only [Bool.and_eq_false_iff, decide_eq_false_iff_not]; omega

/-- A delivered packet that passes the checks of its definition goes on to staging. -/
theorem startKnown_staged {d : CommandDef} {a : Args} {s : State} (h : Delivered d.opcode a s = true)
    (hc : commandStatus d a (received a s) = stDone) (hst : stageStatus (stageAll d a (received a s)) = stDone) :
    startKnown d a (received a s) = commitCommand d a (received a s) := by
  have hexp : exportsAll d a (received a s) = false := by
    unfold exportsAll
    rw [Bool.and_assoc, delivered_single h, Bool.and_false]
  unfold startKnown
  simp only [delivered_single h, hexp, hc, hst, Bool.false_and, Bool.false_eq_true, ne_eq, not_true, if_false, if_true]

/-- An accepted packet reaches its commit. -/
theorem runCommand_accepted {d : CommandDef} {a : Args} {s : State} (h : Accepted d a s = true) :
    runCommand d a s = commitCommand d a (received a s) := by
  simp only [Accepted, Bool.and_eq_true, decide_eq_true_eq, Bool.not_eq_true'] at h
  obtain ⟨⟨⟨⟨hdel, -⟩, hcmd⟩, hstage⟩, hfree⟩ := h
  have hw := mustWait_prompt hfree
  rw [runCommand_delivered hdel hw, startKnown_staged hdel hcmd hstage]

/-- An accepted packet is not CHECK_ONLY. -/
theorem accepted_acts {d : CommandDef} {a : Args} {s : State} (h : Accepted d a s = true) : a.checkOnly = false := by
  simp only [Accepted, Bool.and_eq_true, Bool.not_eq_true'] at h
  exact h.1.1.1.2

/-- An accepted command that ends at once: its own effect, and the one reply. -/
theorem runCommand_reply {d : CommandDef} {a : Args} {s u : State} {data : List Byte} (h : Accepted d a s = true)
    (hc : d.commit (d.call a) (received a s) = .reply data u) :
    runCommand d a s = sendReply a d.opcode stDone (okData a data u) u := by
  have hk := accepted_acts h
  rw [runCommand_accepted h, commitCommand]
  simp only [hc, hk, Bool.false_eq_true, if_false]

/-- An accepted command whose reply comes with a later event: it is outstanding from now on. -/
theorem runCommand_later {d : CommandDef} {a : Args} {s u : State} {note : Nat} (h : Accepted d a s = true)
    (hc : d.commit (d.call a) (received a s) = .later u note) :
    runCommand d a s = beginStarted d a note (received a s) u := by
  have hk := accepted_acts h
  rw [runCommand_accepted h, commitCommand]
  simp only [hc, hk, Bool.false_eq_true, if_false]

/-- An accepted command that ends under a status of its own. -/
theorem runCommand_ended {d : CommandDef} {a : Args} {s u : State} {st : Nat} {data : List Byte} (h : Accepted d a s = true)
    (hc : d.commit (d.call a) (received a s) = .ended st data u) :
    runCommand d a s = sendReply a d.opcode st
      (if st = stDone then okData a data u else if st = stPartial then data else failWhole d.opcode a st u.chain.postcode) u := by
  have hk := accepted_acts h
  rw [runCommand_accepted h, commitCommand]
  simp only [hc, hk, Bool.false_eq_true, if_false]

/-- The step of a command row whose packet is accepted and answered at once. -/
theorem answer_reply {d : CommandDef} {a : Args} {s u : State} {data : List Byte} (h : Accepted d a s = true)
    (hc : d.commit (d.call a) (received a s) = .reply data u) :
    answer s (runCommand d a s) = .next (s.replied a d.opcode data u) := by
  rw [runCommand_reply h hc]; rfl

theorem answer_later {d : CommandDef} {a : Args} {s u : State} {note : Nat} (h : Accepted d a s = true)
    (hc : d.commit (d.call a) (received a s) = .later u note) :
    answer s (runCommand d a s) = .next (s.begun a d u note) := by
  rw [runCommand_later h hc]; rfl

theorem answer_ended {d : CommandDef} {a : Args} {s u : State} {st : Nat} {data : List Byte} (h : Accepted d a s = true)
    (hc : d.commit (d.call a) (received a s) = .ended st data u) :
    answer s (runCommand d a s) = .next (s.concluded a d.opcode st data u) := by
  rw [runCommand_ended h hc]; rfl

/-- An accepted packet whose command finds its refusal only when it commits. -/
theorem runCommand_refused {d : CommandDef} {a : Args} {s : State} {st : Nat} (h : Accepted d a s = true)
    (hc : d.commit (d.call a) (received a s) = .refuse st) (hr : d.onRefusal (d.call a) st (received a s) = received a s) :
    runCommand d a s = sendReply a d.opcode st (failWhole d.opcode a st (received a s).chain.postcode) (received a s) := by
  rw [runCommand_accepted h, commitCommand]
  simp only [hc, hr, ite_self]

theorem answer_refused {d : CommandDef} {a : Args} {s : State} {st : Nat} (h : Accepted d a s = true)
    (hc : d.commit (d.call a) (received a s) = .refuse st) (hr : d.onRefusal (d.call a) st (received a s) = received a s) :
    answer s (runCommand d a s) = .next (s.turnedAway a d.opcode (received a s) st) := by
  rw [runCommand_refused h hc hr]; rfl

/-- What an accepted packet comes to, once for every command: by what its commit answers. -/
theorem answer_commit {d : CommandDef} {a : Args} {s : State} (h : Accepted d a s = true) :
    answer s (runCommand d a s) = .next (d.after a s (d.commit (d.call a) (received a s))) := by
  cases hc : d.commit (d.call a) (received a s) with
  | reply data u => exact answer_reply h hc
  | later u note => exact answer_later h hc
  | ended st data u => exact answer_ended h hc
  | refuse st =>
    have hk := accepted_acts h
    rw [runCommand_accepted h, commitCommand]
    simp only [hc, hk, Bool.false_eq_true, if_false]
    rfl

/-- A commit that asks a condition. -/
theorem after_ite {d : CommandDef} {a : Args} {s u v : State} {P : Prop} [Decidable P] {x y : Result} (h : d.after a s x = u)
    (g : d.after a s y = v) : d.after a s (if P then x else y) = if P then u else v := by
  split <;> assumption

/-- A commit that looks for something. -/
theorem after_option {α : Type} {d : CommandDef} {a : Args} {s u : State} {o : Option α} {x : Result} {f : α → Result} {g : α → State}
    (h : d.after a s x = u) (k : ∀ y, d.after a s (f y) = g y) :
    d.after a s (match o with | none => x | some y => f y) = match o with | none => u | some y => g y := by
  cases o
  · exact h
  · exact k _

end Sys2Proof.Machine
end

