-- ==== Sys2Proof/Laws/Power.lean ====
section
/-!
SUPPORT. Sys2Proof/Laws/Power.lean: what a package reset and the way into SENTRY leave, once for all.
-/
namespace Sys2Proof.Machine

/-- Asserting the enables touches the mode registers only, and none that a reset or a mode change reads. -/
theorem tryPower_modes (s : State) : ∃ m : Modes, tryPower s = { s with modes := m } ∧ m.mode = s.modes.mode ∧
    m.resetNow = s.modes.resetNow ∧ m.wanted = s.modes.wanted ∧ m.lastReset = s.modes.lastReset ∧ m.strapTwin = s.modes.strapTwin := by
  have one : ∀ (c : Bool) (f : Modes → Modes) (t : State), (∃ m : Modes, t = { s with modes := m } ∧ m.mode = s.modes.mode ∧
      m.resetNow = s.modes.resetNow ∧ m.wanted = s.modes.wanted ∧ m.lastReset = s.modes.lastReset ∧ m.strapTwin = s.modes.strapTwin) →
      (∀ m, (f m).mode = m.mode ∧ (f m).resetNow = m.resetNow ∧ (f m).wanted = m.wanted ∧ (f m).lastReset = m.lastReset ∧
        (f m).strapTwin = m.strapTwin) →
      ∃ m : Modes, (if c = true then modModes f t else t) = { s with modes := m } ∧ m.mode = s.modes.mode ∧
      m.resetNow = s.modes.resetNow ∧ m.wanted = s.modes.wanted ∧ m.lastReset = s.modes.lastReset ∧ m.strapTwin = s.modes.strapTwin := by
    rintro c f t ⟨m, rfl, h⟩ hf
    cases c
    · exact ⟨m, rfl, h⟩
    · obtain ⟨h1, h2, h3, h4, h5⟩ := hf m
      exact ⟨f m, rfl, h1.trans h.1, h2.trans h.2.1, h3.trans h.2.2.1, h4.trans h.2.2.2.1, h5.trans h.2.2.2.2⟩
  exact one _ _ _ (one _ _ _ ⟨s.modes, rfl, rfl, rfl, rfl, rfl, rfl⟩ fun _ => ⟨rfl, rfl, rfl, rfl, rfl⟩) fun _ => ⟨rfl, rfl, rfl, rfl, rfl⟩

/-- What a package reset leaves, but for its last two acts (the sensor lanes of a twin member, the enables). -/
def resetCore (k : ResetKind) (cause rail : Nat) (s : State) : State :=
  let t := outside (k = .por || k = .pin) s
  let t := if k = .por then t else keepSentry s t
  let t := if k = .chain || k = .soft then keepLocked false s t else t
  let t := if k = .soft then keepPostcode s t else t
  modModes (fun m => { m with
    lastReset := k.code + 256 * cause
    resetRail := rail
    clockRan := if k = .por then false else s.modes.clockRan
    pinCount := if k = .pin then sat 16 (m.pinCount + 1) else m.pinCount
    chainCount := if k = .chain then sat 16 (m.chainCount + 1) else m.chainCount
    softCount := if k = .soft then sat 16 (m.softCount + 1) else m.softCount }) t

/-- A package reset is its core with other lanes and enables; darkening the lanes sends and draws. -/
theorem packageReset_core (k : ResetKind) (cause rail : Nat) (s : State) : ∃ l m b f,
    packageReset k cause rail s =
        { resetCore k cause rail s with lanes := l, modes := m, sent := b, sys := { (resetCore k cause rail s).sys with free := f } } ∧
      m.resetNow = (resetCore k cause rail s).modes.resetNow ∧ m.wanted = (resetCore k cause rail s).modes.wanted ∧
      m.lastReset = (resetCore k cause rail s).modes.lastReset := by
  show ∃ l m b f, (if k = .por then (if (resetCore k cause rail s).modes.strapTwin = true then darkenSensors true (resetCore k cause rail s)
    else resetCore k cause rail s) else tryPower (if (resetCore k cause rail s).modes.strapTwin = true then
    darkenSensors true (resetCore k cause rail s) else resetCore k cause rail s)) = _ ∧ _
  generalize resetCore k cause rail s = t
  have h1 : OnlyLanes t (if t.modes.strapTwin = true then darkenSensors true t else t) := by
    split
    · exact darkenSensors_only true t
    · exact OnlyLanes.refl t
  obtain ⟨l, b, f, h1⟩ := h1
  rw [h1]
  split
  · exact ⟨l, t.modes, b, f, rfl, rfl, rfl, rfl⟩
  · obtain ⟨m, h2, -, h3, h4, h5, -⟩ := tryPower_modes { t with lanes := l, sent := b, sys := { t.sys with free := f } }
    exact ⟨l, m, b, f, h2, h3, h4, h5⟩

end Sys2Proof.Machine
end

