-- ==== Sys2Proof/Laws/Vault.lean ====
section
/-!
SUPPORT. Sys2Proof/Laws/Vault.lean: what the vault's operations on its sectors can do, once for all: they touch the vault, and raise its events.
-/
namespace Sys2Proof.Machine

/-- t is s but for the vault and what is raised. -/
def OnlyVault (s t : State) : Prop := ∃ v rs, t = { s with vault := v, frame := { s.frame with raised := rs } }

theorem OnlyVault.refl (s : State) : OnlyVault s s := ⟨s.vault, s.frame.raised, rfl⟩

theorem OnlyVault.trans {s t u : State} (h : OnlyVault s t) (g : OnlyVault t u) : OnlyVault s u := by
  obtain ⟨v, rs, rfl⟩ := h
  obtain ⟨v', rs', rfl⟩ := g
  exact ⟨v', rs', rfl⟩

theorem onlyVault_mod (f : Vault → Vault) (s : State) : OnlyVault s (modVault f s) := ⟨_, s.frame.raised, rfl⟩

theorem onlyVault_set (b : Nat) (x : Superblock) (s : State) : OnlyVault s (s.setSuperblock b x) := ⟨_, s.frame.raised, rfl⟩

theorem onlyVault_raiseIf (c : Bool) (src : Nat) (s : State) : OnlyVault s (raiseIf c src s) := by
  cases c <;> exact ⟨s.vault, _, rfl⟩

theorem onlyVault_foldl {α : Type} {f : State → α → State} (hf : ∀ s x, OnlyVault s (f s x)) (xs : List α) (s : State) :
    OnlyVault s (xs.foldl f s) := by
  induction xs generalizing s with
  | nil => exact OnlyVault.refl s
  | cons x xs ih => exact (hf s x).trans (ih _)

theorem onlyVault_checkSpare (s : State) : OnlyVault s (checkSpare s) := by
  unfold checkSpare
  exact (onlyVault_raiseIf _ 435 s).trans (onlyVault_mod ..)

theorem onlyVault_erase (b : Nat) (s : State) : OnlyVault s (eraseSuperblock b s) := by
  unfold eraseSuperblock
  exact ((onlyVault_set b _ s).trans (onlyVault_raiseIf _ 436 _)).trans (onlyVault_mod ..)

theorem onlyVault_programInto (area b n : Nat) (s : State) : OnlyVault s (programInto area b n s) := by
  unfold programInto
  exact (onlyVault_set b _ s).trans (onlyVault_mod ..)

/-- Programming sectors touches the vault only. -/
theorem onlyVault_program (area fuel n : Nat) (s : State) : OnlyVault s (programSectors area fuel n s).2 := by
  induction fuel generalizing n s with
  | zero => exact OnlyVault.refl s
  | succ fuel ih =>
    unfold programSectors
    split
    · exact OnlyVault.refl s
    · split
      · exact OnlyVault.refl s
      · dsimp only
        split
        · exact OnlyVault.refl s
        · exact (onlyVault_programInto ..).trans (ih ..)

theorem onlyVault_freePlaces (ps : List (Nat × Nat)) (s : State) : OnlyVault s (freePlaces ps s) :=
  onlyVault_foldl (fun s p => by
    dsimp only
    split
    · exact (onlyVault_set ..).trans (onlyVault_erase ..)
    · exact onlyVault_set ..) _ s

theorem onlyVault_moveSuperblock (b c : Nat) (s : State) : OnlyVault s (moveSuperblock b c s) := by
  unfold moveSuperblock
  dsimp only
  split
  · exact OnlyVault.refl s
  · exact (((onlyVault_mod ..).trans (onlyVault_programInto ..)).trans (onlyVault_erase ..)).trans (onlyVault_checkSpare ..)

theorem onlyVault_levelWear (s : State) : OnlyVault s (levelWear s) := by
  unfold levelWear
  extract_lets highest lowest oldest
  split
  · exact OnlyVault.refl s
  · split
    · exact onlyVault_moveSuperblock ..
    · exact OnlyVault.refl s

/-- The spill area's sectors follow the entries: the vault alone changes (R449, R475). -/
theorem onlyVault_fitSpill (s : State) : OnlyVault s (fitSpill s) := by
  unfold fitSpill
  dsimp only
  split
  · exact (((onlyVault_program ..).trans (onlyVault_mod ..)).trans (onlyVault_checkSpare ..)).trans (onlyVault_levelWear ..)
  · exact ((onlyVault_mod ..).trans (onlyVault_freePlaces ..)).trans (onlyVault_checkSpare ..)

end Sys2Proof.Machine
end

