-- ==== Sys2Proof/Laws/Work.lean ====
section
/-!
SUPPORT. Sys2Proof/Laws/Work.lean: what taking a packet, replying and ending a calm step leave alone (`Untouched`).
-/
namespace Sys2Proof.Machine

theorem Untouched.refl (s : State) : Untouched s s := ⟨rfl, fun _ => rfl, id, fun _ _ => rfl⟩

theorem Untouched.trans {s t u : State} (h : Untouched s t) (g : Untouched t u) : Untouched s u :=
  ⟨g.work.trans h.work, fun l => (g.lanes l).trans (h.lanes l), fun x => g.listed (h.listed x),
    fun x c => (g.channels (h.listed x) c).trans (h.channels x c)⟩

theorem Untouched.same {s t : State} (w : t.work = s.work) (l : t.lanes = s.lanes) (d : t.dram = s.dram) : Untouched s t :=
  ⟨w, fun k => by unfold State.lane; rw [l], by rw [d]; exact id, fun _ c => by unfold State.dramCh; rw [d]⟩

/-- Sending blocks touches no unit. -/
theorem Sending.untouched {s t : State} (h : Sending s t) : Untouched s t := by
  have hw := h.work
  have hr := h.rest
  obtain ⟨l, b, f, rfl⟩ := h.only
  exact ⟨by simp only [State.work]; rw [hw], hr, id, fun _ _ => rfl⟩

theorem untouched_begin (t : Nat) (s : State) : Untouched s (s.begin t) := by
  have q := queues_advance s.now (max s.now t) s.dram
  obtain ⟨c, f, e⟩ := begin_eq t s
  have hw : (s.begin t).work = s.work := by
    unfold State.begin State.slew
    dsimp only
    split <;> (simp only [State.work]; rw [q.still])
  exact ⟨hw, fun _ => by rw [e]; rfl, by rw [e]; exact q.rising, by rw [e]; exact q.rest⟩

theorem untouched_writeHost (a : Nat) (bs : List Byte) (s : State) : Untouched s (s.writeHost a bs) := .same rfl rfl rfl

theorem untouched_setBox (m : Nat) (b : Mailbox) (s : State) : Untouched s (s.setBox m b) := .same rfl rfl rfl

theorem untouched_send (k : SentKind) (d c : Nat) (b : List Byte) (s : State) : Untouched s (send k d c b s) := .same rfl rfl rfl

theorem untouched_raise (src : Nat) (s : State) : Untouched s (raise src s) := .same rfl rfl rfl

theorem untouched_raiseIf (c : Bool) (src : Nat) (s : State) : Untouched s (raiseIf c src s) := by
  cases c <;> exact .same rfl rfl rfl

theorem untouched_modJournal (f : Journal → Journal) (s : State) : Untouched s (modJournal f s) := .same rfl rfl rfl

theorem untouched_journal (c b d : Nat) (x : List Byte) (s : State) : Untouched s (journal c b d x s) := .same rfl rfl rfl

theorem untouched_sendMsix (f v : Nat) (s : State) : Untouched s (sendMsix f v s) := by
  unfold sendMsix
  split
  · exact .same rfl rfl rfl
  · split <;> exact .same rfl rfl rfl

theorem untouched_writeBack (m n : Nat) (s : State) : Untouched s (writeBack m n s) := by
  unfold writeBack
  dsimp only
  split
  · split
    · refine Untouched.trans ?_ (untouched_sendMsix ..)
      exact .same rfl rfl rfl
    · exact .same rfl rfl rfl
  · exact .same rfl rfl rfl

theorem untouched_foldl {α : Type} {f : State → α → State} (hf : ∀ s x, Untouched s (f s x)) (xs : List α) (s : State) :
    Untouched s (xs.foldl f s) := by
  induction xs generalizing s with
  | nil => exact Untouched.refl s
  | cons x xs ih => exact (hf s x).trans (ih _)

theorem untouched_writeEntries (m st : Nat) (bs : List Byte) (s : State) : Untouched s (writeEntries m st bs s) := by
  unfold writeEntries
  exact untouched_foldl (fun _ _ => untouched_writeHost ..) _ s

theorem untouched_pushReply (m : Nat) (e : List Byte) (s : State) : Untouched s (pushReply m e s) := by
  unfold pushReply
  dsimp only
  split
  · exact ((untouched_setBox ..).trans ((untouched_writeEntries ..).trans (untouched_setBox ..))).trans (untouched_writeBack ..)
  · exact .same rfl rfl rfl

theorem untouched_setLink (p : ChainPort) (l : Link) (s : State) : Untouched s (s.setLink p l) := by cases p <;> exact .same rfl rfl rfl

theorem untouched_putFrame (p : ChainPort) (x : List Byte) (s : State) : Untouched s (putFrame p x s) :=
  (sending_sendLayer ..).untouched.trans (untouched_send ..)

theorem untouched_sendFrame (p : ChainPort) (k a b : Nat) (x : List Byte) (s : State) : Untouched s (sendFrame p k a b x s) := by
  unfold sendFrame
  dsimp only
  split
  · exact (untouched_setLink ..).trans (untouched_putFrame ..)
  · exact .same rfl rfl rfl

theorem untouched_routeFrame (k a b : Nat) (x : List Byte) (s : State) : Untouched s (routeFrame k a b x s) := by
  unfold routeFrame
  split
  · exact (untouched_sendFrame ..).trans (untouched_sendFrame ..)
  · split <;> exact untouched_sendFrame ..

theorem untouched_modService (f : Service → Service) (s : State) : Untouched s (modService f s) := .same rfl rfl rfl

theorem untouched_putReply (a : Args) (h data : List Byte) (s : State) : Untouched s (putReply a h data s) := by
  unfold putReply
  split
  · refine Untouched.trans ?_ (untouched_pushReply ..)
    split <;> exact .same rfl rfl rfl
  · exact .same rfl rfl rfl
  · split
    · exact untouched_routeFrame ..
    · exact untouched_sendFrame ..

theorem untouched_countReply (k : Nat) (s : State) : Untouched s (countReply k s) := .same rfl rfl rfl

/-- A reply touches no more than what `State.work` leaves out. -/
theorem untouched_sendReply (a : Args) (op st : Nat) (data : List Byte) (s : State) : Untouched s (sendReply a op st data s) := by
  unfold sendReply
  split
  · exact .same rfl rfl rfl
  · have reply : ∀ h, Untouched s (putReply a h data (countReply a.src.index s)) := fun h =>
      (untouched_countReply _ s).trans (untouched_putReply a h data _)
    dsimp only
    split
    · exact reply _
    · exact (reply _).trans (untouched_journal ..)

theorem untouched_refuse (op st : Nat) (a : Args) (s : State) : Untouched s (refuse op st a s) := untouched_sendReply ..

theorem untouched_takeEntry (x : Source) (s : State) : Untouched s (takeEntry x s) := by
  unfold takeEntry
  split
  · dsimp only
    split
    · exact (untouched_setBox ..).trans (untouched_writeBack ..)
    · exact .same rfl rfl rfl
  · exact .same rfl rfl rfl

/-- Nor does taking a packet. -/
theorem untouched_received (a : Args) (s : State) : Untouched s (received a s) := by
  unfold received
  split
  · exact (untouched_begin a.t s).trans (untouched_modService ..)
  · exact (untouched_begin a.t s).trans (untouched_takeEntry ..)

theorem untouched_storeEntry (e : JEntry) (s : State) : Untouched s (storeEntry e s) := .same rfl rfl rfl

theorem untouched_loseEntry (s : State) : Untouched s (loseEntry s) := .same rfl rfl rfl

theorem untouched_fillJournal (s : State) : Untouched s (fillJournal s) := .same rfl rfl rfl

theorem untouched_keepEntry (e : JEntry) (s : State) : Untouched s (keepEntry e s) := by
  unfold keepEntry
  dsimp only
  split
  · exact .same rfl rfl rfl
  · split
    · exact .same rfl rfl rfl
    · split
      · exact .same rfl rfl rfl
      · exact (untouched_storeEntry ..).trans (untouched_raiseIf ..)

theorem untouched_reportSuppressed (code : Nat) (s : State) : Untouched s (reportSuppressed code s) := by
  unfold reportSuppressed
  dsimp only
  split
  · exact .same rfl rfl rfl
  · exact (untouched_keepEntry ..).trans (untouched_modJournal ..)

theorem untouched_suppressEntry (e : JEntry) (b : Bucket) (s : State) : Untouched s (suppressEntry e b s) := by
  unfold suppressEntry
  exact (untouched_modJournal ..).trans (untouched_raiseIf ..)

theorem untouched_recordEntry (s : State) (e : JEntry) : Untouched s (recordEntry s e) := by
  unfold recordEntry
  split
  · exact .same rfl rfl rfl
  · split
    · exact untouched_keepEntry ..
    · dsimp only
      split
      · exact ((untouched_modJournal ..).trans (untouched_reportSuppressed ..)).trans (untouched_keepEntry ..)
      · exact untouched_suppressEntry ..

theorem untouched_recordArising (s : State) : Untouched s (recordArising s) := by
  unfold recordArising
  refine Untouched.trans ?_ (untouched_foldl (fun s _ => untouched_modJournal _ s) _ _)
  exact (untouched_modJournal _ s).trans (untouched_foldl untouched_recordEntry _ _)

theorem untouched_updateVids (s : State) : Untouched s (updateVids s) := by
  unfold updateVids
  split
  · exact .same rfl rfl rfl
  · dsimp only
    split <;> exact .same rfl rfl rfl

/-- Nor does the end of a calm step. -/
theorem untouched_settled (s : State) : Untouched s s.settled := by
  have hu : ∀ t : State, Untouched t t.unheard := fun _ => .same rfl rfl rfl
  exact (((hu s).trans (untouched_recordArising _)).trans (untouched_updateVids _)).trans (hu _)

end Sys2Proof.Machine
end

