-- ==== Sys2Proof/Machine/Clocks.lean ====
section
/-!
DEFINITION. Sys2Proof/Machine/Clocks.lean: the clock domains (R26), and which of them run in a state (R27, R28). No command reads a clock
domain: what each unit does shows in its own registers, and this file says of a state which domains that leaves running.
-/
namespace Sys2Proof.Machine

/-- A clock domain (R26). -/
inductive ClockDomain where
  | sentry (i : Fin 4)
  | laneReceive (l : Fin 58)
  | laneTransmit (g : Fin 15)
  | frontEnd (n : Fin 12)
  | crossbar
  | seamBridge
  | dieLinkHub (c : Fin 2)
  | fabric
  | core
  | dramController (c : Fin 8)
  | dramPhy (c : Fin 8)
  | pciePhy
  | pcieLayer
  | compression (e : Fin 4)
  | onfi (c : Fin 4)
  | vault
  | franking
  | sampler
  | timestamp
  | chainUp
  | chainDown
  | twinLink
  | bootSpi
  | uart
  | i2c (i : Fin 2)
  | testAccess
  | adc
  | district (d : Fin 16)
  | cluster (d : Fin 16) (c : Fin 4)
  | seamSegment (c : Fin 2)
  | dieLink (i : Fin 4)
  | management (c : Fin 2)
  deriving DecidableEq, Repr

/-- Its number (R26). -/
def ClockDomain.number : ClockDomain → Nat
  | .sentry i => i
  | .laneReceive l => 4 + l
  | .laneTransmit g => 62 + g
  | .frontEnd n => 77 + n
  | .crossbar => 89
  | .seamBridge => 90
  | .dieLinkHub c => 91 + c
  | .fabric => 93
  | .core => 94
  | .dramController c => 95 + c
  | .dramPhy c => 103 + c
  | .pciePhy => 111
  | .pcieLayer => 112
  | .compression e => 113 + e
  | .onfi c => 117 + c
  | .vault => 121
  | .franking => 122
  | .sampler => 123
  | .timestamp => 124
  | .chainUp => 125
  | .chainDown => 126
  | .twinLink => 127
  | .bootSpi => 128
  | .uart => 129
  | .i2c i => 130 + i
  | .testAccess => 132
  | .adc => 133
  | .district d => 134 + d
  | .cluster d c => 150 + 4 * d + c
  | .seamSegment c => 214 + c
  | .dieLink i => 216 + i
  | .management c => 220 + c

/-- Does a district's island run: neither clock-stopped nor power-gated? It is stopped only when its cells have finished their tiles (R27). -/
def islandRuns (d : Nat) (s : State) : Bool := !(s.district d).clockStopped && !(s.district d).gated

/-- Does a district of a die run? -/
def dieWorks (c : Nat) (s : State) : Bool := (List.range 16).any fun d => dieOf d = c && islandRuns d s

/-- Has a front end work: its group's link carries packets, or a packet or a line it has taken is still on its way; so it stops only between
packets (R27). -/
def frontWorks (n : Nat) (s : State) : Bool :=
  groupLink n s ≠ 0 || (s.port n).cur.isSome || (s.port n).buffered ≠ [] || (s.port n).outstanding.isSome

/-- Do seam values cross: lines of a station of several ports are being stitched? -/
def seamWorks (s : State) : Bool :=
  s.mode.receives && (List.range 4).any fun k => 1 < (s.station k).ports.length && (s.station k).nextLine.isSome

/-- Has the vault a program, a mount or a relocation to do? -/
def vaultWorks (s : State) : Bool :=
  !s.vault.mounted || s.vault.waiting ≠ [] || s.vault.fwWrite.isSome || s.vault.superblocks.any (fun e => e.2.marked)
    || (List.range 4).any fun k => (s.learn k).storing.isSome || (s.learn k).recalling.isSome

/-- Has the franking unit a mark to print or a rewind to make? -/
def frankWorks (s : State) : Bool := s.frank.rewind.step ≠ 0 || (List.range 2).any fun h => (s.head h).queue ≠ []

/-- Does a lane group send or receive? -/
def groupWorks (g : Nat) (s : State) : Bool :=
  (lanesOf g).any fun l =>
    !((s.lane l).state = .off || (s.lane l).state = .detect || (s.lane l).state = .idle || (s.lane l).state = .backoff)

/-- Does a unit have work that its domain must run for (R27, R28)? The lanes, front ends, link layers, DRAM channels, engines, vault, franking
unit, PCIe link and the compute dies' links, by what their own state says; the four cluster domains of a district run with its island (R28).
The hub fabric, on which the teller itself ticks, the controller core, the position sampler, the timestamp counter and die management always
have work. An I2C bus, the UART and the boot SPI work within one command; the test port works once an instruction stands in it (DESIGN CHOICE,
assumption 102). -/
def ClockDomain.hasWork (x : ClockDomain) (s : State) : Bool :=
  match x with
  | .sentry _ => true
  | .laneReceive l =>
    !((s.lane l).state = .off || (s.lane l).state = .detect || (s.lane l).state = .idle || (s.lane l).state = .backoff)
  | .laneTransmit g => (lanesOf g).any fun l => (s.lane l).sends || ((s.lane l).state = .test && !(s.lane l).txDark)
  | .frontEnd n => frontWorks n s
  | .crossbar => (List.range 12).any fun n => frontWorks n s
  | .seamBridge => seamWorks s
  | .dieLinkHub c => dieWorks c s
  | .fabric => true
  | .core => true
  | .dramController c => !(s.dramCh c).selfRefresh
  | .dramPhy c => !(s.dramCh c).selfRefresh
  | .pciePhy => !s.modes.perst
  | .pcieLayer => s.host.up
  | .compression e => (s.engine e).job.isSome
  | .onfi c => c < vaultChannels && vaultWorks s
  | .vault => vaultWorks s
  | .franking => frankWorks s
  | .sampler => true
  | .timestamp => true
  | .chainUp => groupWorks 12 s
  | .chainDown => groupWorks 13 s
  | .twinLink => groupWorks 14 s
  | .bootSpi => !s.sys.fwRunning
  | .uart => false
  | .i2c _ => false
  | .testAccess => s.elec.tap ≠ .bypass
  | .adc => (List.range 2).any fun h => (s.head h).set.role ≠ 0
  | .district d => islandRuns d s
  | .cluster d _ => islandRuns d s
  | .seamSegment c => seamWorks s && dieWorks c s
  | .dieLink i => dieWorks (if i.val < 2 then 0 else 1) s
  | .management _ => true

/-- Does a domain run? The Sentry's four run through everything but a POR; no other runs in a POR, a pin reset, SENTRY or while the switched
rails are on their way (R27, R81, R538). -/
def ClockDomain.runs (x : ClockDomain) (s : State) : Bool :=
  match x with
  | .sentry _ => !s.modes.por
  | _ => !s.ballsReleased && x.hasWork s

end Sys2Proof.Machine
end

