-- ==== Sys2Proof/WellFormed.lean ====
section
/-!
DEFINITION. Sys2Proof/WellFormed.lean: which commands hardware can send: every field of a packet within its width (R34, R40), every
frame and event with operands its layout can carry. The meanings take every command, well-formed or not; these are the ones that occur.
-/
namespace Sys2Proof

/-- A packet whose every field fits its place in the header, with no more parameters than PARAM_LENGTH can state (R34, R40). -/
def Args.wellFormed (a : Args) : Bool :=
  decide (a.t < 2 ^ 64 ∧ a.flags < 2 ^ 8 ∧ a.cls < 2 ^ 8 ∧ a.tag < 2 ^ 16 ∧ a.postcode < 2 ^ 8 ∧ a.block < 2 ^ 8)
    && decide (a.plen < 2 ^ 16 ∧ a.resv < 2 ^ 48 ∧ a.params.length = a.plen)
    && decide (a.paramAddr < 2 ^ 64 ∧ a.replyAddr < 2 ^ 64 ∧ a.replySize < 2 ^ 32)
    && match a.src with
      | .mailbox m => decide (m < 16)
      | .service => decide (16 + a.params.length ≤ 256)
      | .chain origin ref => decide (origin < 16 ∧ ref < 2 ^ 16)

/-- A chain frame's header (R486). -/
def ChainFrame.wellFormed (f : ChainFrame) : Bool := decide (f.source < 2 ^ 8 ∧ f.dest < 2 ^ 8 ∧ f.linkSeq < 2 ^ 8)

/-- A twin frame's header (R486, R506). -/
def TwinFrame.wellFormed (f : TwinFrame) : Bool := decide (f.source < 2 ^ 8 ∧ f.dest < 2 ^ 8 ∧ f.linkSeq < 2 ^ 8)

/-- An ORIGIN (R486). -/
def originOk (origin ref : Nat) : Bool := decide (origin < 2 ^ 8 ∧ ref < 2 ^ 16)

/-- Is a command one that can occur? -/
def Instr.wellFormed : Instr → Bool
  | .commandDispatch t => decide (t < 2 ^ 64)
  | .nop a => a.wellFormed
  | .getIdentity a => a.wellFormed
  | .readCapability a => a.wellFormed
  | .getHealth a => a.wellFormed
  | .cancel a => a.wellFormed
  | .keyChallenge a => a.wellFormed
  | .keyResponse a => a.wellFormed
  | .keyRevoke a => a.wellFormed
  | .writePacket t frame => decide (t < 2 ^ 64) && (decide (frame.length ≤ 256))
  | .readStatus t => decide (t < 2 ^ 64)
  | .readReply t n => decide (t < 2 ^ 64) && (decide (n ≤ 256))
  | .stagingTimeout t => decide (t < 2 ^ 64)
  | .frIdentify a => a.wellFormed
  | .frSetPort a => a.wellFormed
  | .frSetPitch a => a.wellFormed
  | .frLearn a => a.wellFormed
  | .frInspect a => a.wellFormed
  | .frHalt a => a.wellFormed
  | .frSetThreshold a => a.wellFormed
  | .frReadDefects a => a.wellFormed
  | .frJournalPolicy a => a.wellFormed
  | .registerWrite t _ size offset value _ => decide (t < 2 ^ 64) && (decide (size ≤ 8 ∧ offset < 2 ^ 26 ∧ value < 2 ^ 64))
  | .setMode a => a.wellFormed
  | .enterSentry a => a.wellFormed
  | .wake a => a.wellFormed
  | .getResetCause a => a.wellFormed
  | .setSafeState a => a.wellFormed
  | .reset a => a.wellFormed
  | .softResetBegin t => decide (t < 2 ^ 64)
  | .forceSafe a => a.wellFormed
  | .wakeNAsserted t => decide (t < 2 ^ 64)
  | .chainWakeDetect t => decide (t < 2 ^ 64)
  | .alarmWake t => decide (t < 2 ^ 64)
  | .bootComplete t _ version trainedMask => decide (t < 2 ^ 64) && (decide (version < 2 ^ 24 ∧ trainedMask < 2 ^ 8))
  | .porRelease t _ _ _ => decide (t < 2 ^ 64)
  | .railBelowReset t x => decide (t < 2 ^ 64) && (decide (x.2.mv < 2 ^ 16))
  | .resetNAsserted t => decide (t < 2 ^ 64)
  | .pinResetRelease t _ _ _ => decide (t < 2 ^ 64)
  | .railBelowWarning t _ x => decide (t < 2 ^ 64) && (decide (x.mv < 2 ^ 16))
  | .railRecovered t _ x => decide (t < 2 ^ 64) && (decide (x.mv < 2 ^ 16 ∧ x.lowest ≤ x.mv))
  | .brownoutPauseEnd t => decide (t < 2 ^ 64)
  | .watchdogWarn t => decide (t < 2 ^ 64)
  | .watchdogExpiry t => decide (t < 2 ^ 64)
  | .autoDrainStopDetect t => decide (t < 2 ^ 64)
  | .drainComplete t => decide (t < 2 ^ 64)
  | .railGroupUp t _ => decide (t < 2 ^ 64)
  | .railGroupTimeout t _ => decide (t < 2 ^ 64)
  | .railRetry t => decide (t < 2 ^ 64)
  | .railDischarged t _ => decide (t < 2 ^ 64)
  | .laneSet a => a.wellFormed
  | .laneRegRead a => a.wellFormed
  | .laneRegWrite a => a.wellFormed
  | .laneSlip t _ => decide (t < 2 ^ 64)
  | .laneRestart t _ => decide (t < 2 ^ 64)
  | .laneCountClear t _ => decide (t < 2 ^ 64)
  | .laneInjectOne t _ => decide (t < 2 ^ 64)
  | .laneInjectPeriodic t _ => decide (t < 2 ^ 64)
  | .laneTestEnter t _ _ _ => decide (t < 2 ^ 64)
  | .laneSignalDetected t _ => decide (t < 2 ^ 64)
  | .laneBitLocked t _ => decide (t < 2 ^ 64)
  | .laneBlockLocked t _ _ => decide (t < 2 ^ 64)
  | .laneTrainReceived t _ payload _ _ _ => decide (t < 2 ^ 64) && (decide (payload.length = 7))
  | .laneBlindAdaptDone t _ _ => decide (t < 2 ^ 64)
  | .laneAlignReceived t _ _ _ _ _ => decide (t < 2 ^ 64)
  | .laneCapsReceived t _ caps => decide (t < 2 ^ 64) && (decide (caps.length = 7))
  | .laneBringupTimeout t _ => decide (t < 2 ^ 64)
  | .laneBlockLockLost t _ => decide (t < 2 ^ 64)
  | .laneBackoffExpired t _ => decide (t < 2 ^ 64)
  | .laneElasticSlip t _ => decide (t < 2 ^ 64)
  | .laneErrWindow t _ _ => decide (t < 2 ^ 64)
  | .laneMarkerSend t _ _ => decide (t < 2 ^ 64)
  | .linePacketReceived t _ p => decide (t < 2 ^ 64) && (decide (p.start ≠ some 0xB1 ∧ p.arrival ≤ t))
  | .lineRateWindow t _ => decide (t < 2 ^ 64)
  | .clockMapWindow t _ => decide (t < 2 ^ 64)
  | .cameraAckReceived t _ msg => decide (t < 2 ^ 64) && (decide (7 ≤ msg.length))
  | .cameraInfoReceived t _ head _ _ => decide (t < 2 ^ 64) && (decide (head.length = 7))
  | .vendorReplyReceived t _ head _ _ => decide (t < 2 ^ 64) && (decide (head.length = 7))
  | .cameraMsgResend t _ => decide (t < 2 ^ 64)
  | .portSet a => a.wellFormed
  | .portStatus a => a.wellFormed
  | .cameraSet a => a.wellFormed
  | .cameraMessage a => a.wellFormed
  | .cameraInfo a => a.wellFormed
  | .photoStoreBase a => a.wellFormed
  | .photoSelectBase a => a.wellFormed
  | .photoSetTrim a => a.wellFormed
  | .photoRead a => a.wellFormed
  | .photoStatus a => a.wellFormed
  | .photoCapture a => a.wellFormed
  | .photoCaptureDone t _ => decide (t < 2 ^ 64)
  | .photoCaptureTimeout t _ => decide (t < 2 ^ 64)
  | .baseSetLoadDone t _ => decide (t < 2 ^ 64)
  | .encoderEdge t _ _ => decide (t < 2 ^ 64)
  | .indexEdge t _ => decide (t < 2 ^ 64)
  | .ssiFrame t _ data _ sampled => decide (t < 2 ^ 64) && (decide (data < 2 ^ 32 ∧ sampled ≤ t))
  | .latchPeriodic t _ => decide (t < 2 ^ 64)
  | .latchTrigger t _ => decide (t < 2 ^ 64)
  | .compareArm t _ => decide (t < 2 ^ 64)
  | .compareFlush t _ => decide (t < 2 ^ 64)
  | .encoderClearFault t _ => decide (t < 2 ^ 64)
  | .speedWindow t _ => decide (t < 2 ^ 64)
  | .posEncoderSet a => a.wellFormed
  | .posSetCount a => a.wellFormed
  | .posStatus a => a.wellFormed
  | .posLatchSet a => a.wellFormed
  | .posCompareArm a => a.wellFormed
  | .placeExtrapolate t _ => decide (t < 2 ^ 64)
  | .outputLineIssue t _ => decide (t < 2 ^ 64)
  | .resampleSet a => a.wellFormed
  | .resamplePlaneOffset a => a.wellFormed
  | .resampleStatus a => a.wellFormed
  | .seamValuesArrive t _ _ line => decide (t < 2 ^ 64) && (decide (line < 2 ^ 64))
  | .outletRateWindow t _ => decide (t < 2 ^ 64)
  | .stationSet a => a.wellFormed
  | .stitchMap a => a.wellFormed
  | .colourMatrix a => a.wellFormed
  | .colourXyz a => a.wellFormed
  | .outletSet a => a.wellFormed
  | .outletTable a => a.wellFormed
  | .stitchStatus a => a.wellFormed
  | .outletStatus a => a.wellFormed
  | .learnFinaliseDone t _ => decide (t < 2 ^ 64)
  | .specimenStoreDone t _ _ => decide (t < 2 ^ 64)
  | .specimenRecallDone t _ _ => decide (t < 2 ^ 64)
  | .learnSet a => a.wellFormed
  | .goldenFreeSet a => a.wellFormed
  | .learnStatus a => a.wellFormed
  | .specimenStore a => a.wellFormed
  | .specimenRecall a => a.wellFormed
  | .specimenDelete a => a.wellFormed
  | .specimenList a => a.wellFormed
  | .tileRowRegister t _ => decide (t < 2 ^ 64)
  | .acquireDone t _ => decide (t < 2 ^ 64)
  | .regSet a => a.wellFormed
  | .compareThresholds a => a.wellFormed
  | .streakSet a => a.wellFormed
  | .regStatus a => a.wellFormed
  | .streakList a => a.wellFormed
  | .regFieldRead a => a.wellFormed
  | .fragmentSummaryArrive t _ _ line => decide (t < 2 ^ 64) && (decide (line < 2 ^ 64))
  | .segSet a => a.wellFormed
  | .segRules a => a.wellFormed
  | .segRulesRead a => a.wellFormed
  | .segStatus a => a.wellFormed
  | .cropDeliver t => decide (t < 2 ^ 64)
  | .gateClose t _ => decide (t < 2 ^ 64)
  | .backlogDeliver t _ => decide (t < 2 ^ 64)
  | .ledgerSet a => a.wellFormed
  | .ledgerChain a => a.wellFormed
  | .outputRules a => a.wellFormed
  | .outputForce a => a.wellFormed
  | .ledgerStatus a => a.wellFormed
  | .ledgerExport a => a.wellFormed
  | .slJobStart t _ => decide (t < 2 ^ 64)
  | .slJobDone t _ _ => decide (t < 2 ^ 64)
  | .slNetworkLoad a => a.wellFormed
  | .slSet a => a.wellFormed
  | .slNetworkRead a => a.wellFormed
  | .slStatus a => a.wellFormed
  | .frankFireDeferred t _ => decide (t < 2 ^ 64)
  | .headFaultAsserted t _ => decide (t < 2 ^ 64)
  | .headTempSample t _ codes => decide (t < 2 ^ 64) && (decide (codes.length = 16))
  | .rewindWebStopped t => decide (t < 2 ^ 64)
  | .rewindTimeout t => decide (t < 2 ^ 64)
  | .rewindHoldRelease t => decide (t < 2 ^ 64)
  | .frankHeadSet a => a.wellFormed
  | .frankWaveform a => a.wellFormed
  | .frankDensity a => a.wellFormed
  | .frankMask a => a.wellFormed
  | .frankSelect a => a.wellFormed
  | .frankMachine a => a.wellFormed
  | .frankStatus a => a.wellFormed
  | .channelFire t _ => decide (t < 2 ^ 64)
  | .swFire t _ => decide (t < 2 ^ 64)
  | .channelLock t _ _ => decide (t < 2 ^ 64)
  | .heldEventRelease t _ => decide (t < 2 ^ 64)
  | .owedActivation t _ => decide (t < 2 ^ 64)
  | .eventChannelSet a => a.wellFormed
  | .eventInputSet a => a.wellFormed
  | .eventFire a => a.wellFormed
  | .eventLock a => a.wellFormed
  | .eventBridgeSet a => a.wellFormed
  | .eventStatus a => a.wellFormed
  | .tellerTick t energy _ _ => decide (t < 2 ^ 64) && (decide (energy.length = 17))
  | .throttleExit t => decide (t < 2 ^ 64)
  | .reductionStep t => decide (t < 2 ^ 64)
  | .reductionRevert t => decide (t < 2 ^ 64)
  | .hotDistrictCheck t => decide (t < 2 ^ 64)
  | .poolPointReselect t _ => decide (t < 2 ^ 64)
  | .districtPowerGate t _ => decide (t < 2 ^ 64)
  | .cellDispatch t _ _ _ => decide (t < 2 ^ 64)
  | .tileDone t _ _ _ => decide (t < 2 ^ 64)
  | .routeChangeDone t => decide (t < 2 ^ 64)
  | .districtReady t _ _ => decide (t < 2 ^ 64)
  | .dvfsStepDone t _ => decide (t < 2 ^ 64)
  | .retrainSliceGrant t _ _ _ drift => decide (t < 2 ^ 64) && (decide (drift < 2 ^ 16))
  | .tellerSet a => a.wellFormed
  | .tellerStationSet a => a.wellFormed
  | .tellerCheck a => a.wellFormed
  | .tellerStatus a => a.wellFormed
  | .tellerRemap a => a.wellFormed
  | .refreshDue t _ _ => decide (t < 2 ^ 64)
  | .refreshMr4Poll t _ _ => decide (t < 2 ^ 64)
  | .refreshMakeup t _ => decide (t < 2 ^ 64)
  | .retrainDue t _ _ => decide (t < 2 ^ 64)
  | .eccWriteback t _ => decide (t < 2 ^ 64)
  | .scrubRead t _ => decide (t < 2 ^ 64)
  | .dramInfo a => a.wellFormed
  | .dramSet a => a.wellFormed
  | .dramStatus a => a.wellFormed
  | .dramErrorLog a => a.wellFormed
  | .dramTrain a => a.wellFormed
  | .dramRetrain a => a.wellFormed
  | .dramTest a => a.wellFormed
  | .mailboxDoorbell t _ _ _ _ => decide (t < 2 ^ 64)
  | .mailboxEnable t _ _ _ => decide (t < 2 ^ 64)
  | .msixCoalesceTimer t _ => decide (t < 2 ^ 64)
  | .hostMemoryError t _ => decide (t < 2 ^ 64)
  | .courierStart t _ _ => decide (t < 2 ^ 64)
  | .courierStop t _ => decide (t < 2 ^ 64)
  | .courierBurst t _ _ => decide (t < 2 ^ 64)
  | .courierRunDone t _ _ => decide (t < 2 ^ 64)
  | .functionLevelReset t _ => decide (t < 2 ^ 64)
  | .hostLinkDown t => decide (t < 2 ^ 64)
  | .perstNChange t _ => decide (t < 2 ^ 64)
  | .mailboxSet a => a.wellFormed
  | .mailboxStatus a => a.wellFormed
  | .courierSet a => a.wellFormed
  | .hostLinkStatus a => a.wellFormed
  | .compJob a => a.wellFormed
  | .compJobDone t _ _ => decide (t < 2 ^ 64)
  | .compStatus a => a.wellFormed
  | .vaultMountDone t _ => decide (t < 2 ^ 64)
  | .vaultReplayDone t _ => decide (t < 2 ^ 64)
  | .vaultObjectCommit t _ => decide (t < 2 ^ 64)
  | .vaultProgramFail t _ _ _ _ _ => decide (t < 2 ^ 64)
  | .vaultCheckpoint t => decide (t < 2 ^ 64)
  | .vaultScrubDue t _ _ => decide (t < 2 ^ 64)
  | .vaultReadDisturb t _ => decide (t < 2 ^ 64)
  | .vaultInfo a => a.wellFormed
  | .vaultFormat a => a.wellFormed
  | .vaultSet a => a.wellFormed
  | .vaultStatus a => a.wellFormed
  | .vaultFwWrite a => a.wellFormed
  | .vaultFwActivate a => a.wellFormed
  | .daybookJobs a => a.wellFormed
  | .daybookJobSet a => a.wellFormed
  | .journalSuppressTimer t _ => decide (t < 2 ^ 64)
  | .journalSpill t => decide (t < 2 ^ 64)
  | .journalPolicy a => a.wellFormed
  | .journalRate a => a.wellFormed
  | .journalRead a => a.wellFormed
  | .journalRelease a => a.wellFormed
  | .journalStatus a => a.wellFormed
  | .headDetectTimer t => decide (t < 2 ^ 64)
  | .enumToken t f body => decide (t < 2 ^ 64) && (f.wellFormed && decide (body.length = 16))
  | .enumLastTimer t => decide (t < 2 ^ 64)
  | .enumDone t f body => decide (t < 2 ^ 64) && (f.wellFormed && decide (body.length = 8))
  | .chainHello t f postcode headSerial => decide (t < 2 ^ 64) && (f.wellFormed && decide (postcode < 2 ^ 8 ∧ headSerial < 2 ^ 64))
  | .chainCommandFrame t f origin ref packet => decide (t < 2 ^ 64) && (f.wellFormed && originOk origin ref && decide (16 ≤ packet.length))
  | .chainReplyFrame t f origin ref reply => decide (t < 2 ^ 64) && (f.wellFormed && originOk origin ref && decide (16 ≤ reply.length))
  | .staged t f origin ref tag status failedBlocks => decide (t < 2 ^ 64) && (f.wellFormed && originOk origin ref && decide (tag < 2 ^ 16 ∧ status < 2 ^ 16 ∧ failedBlocks < 2 ^ 16))
  | .commit t f origin ref tag => decide (t < 2 ^ 64) && (f.wellFormed && originOk origin ref && decide (tag < 2 ^ 16))
  | .abort t f origin ref tag => decide (t < 2 ^ 64) && (f.wellFormed && originOk origin ref && decide (tag < 2 ^ 16))
  | .commitAck t f origin ref tag => decide (t < 2 ^ 64) && (f.wellFormed && originOk origin ref && decide (tag < 2 ^ 16))
  | .ledgerFrame t f record => decide (t < 2 ^ 64) && (f.wellFormed && decide (record.length = 64 ∨ record.length = 128))
  | .eventFrame t f _ mult hops => decide (t < 2 ^ 64) && (f.wellFormed && decide (1 ≤ mult ∧ mult ≤ 7 ∧ hops < 2 ^ 8))
  | .chainAck t _ _ => decide (t < 2 ^ 64)
  | .chainNak t _ _ => decide (t < 2 ^ 64)
  | .chainAckTimer t _ => decide (t < 2 ^ 64)
  | .probeTimer t => decide (t < 2 ^ 64)
  | .probe t _ t1 residence => decide (t < 2 ^ 64) && (decide (t1 < 2 ^ 48 ∧ residence < 2 ^ 32))
  | .probeReply t _ residence => decide (t < 2 ^ 64) && (decide (residence < 2 ^ 32))
  | .sync t value _ => decide (t < 2 ^ 64) && (decide (value < 2 ^ 56))
  | .chainResetBlock t _ => decide (t < 2 ^ 64)
  | .chainStatus a => a.wellFormed
  | .chainEnumerate a => a.wellFormed
  | .chainTimeSet a => a.wellFormed
  | .chainReset a => a.wellFormed
  | .chainWake a => a.wellFormed
  | .twinSenseFree t => decide (t < 2 ^ 64)
  | .twinSenseHeld t => decide (t < 2 ^ 64)
  | .interlockTakeTimer t => decide (t < 2 ^ 64)
  | .contentionBackoff t => decide (t < 2 ^ 64)
  | .heartbeat t _ counter => decide (t < 2 ^ 64) && (decide (counter < 2 ^ 16))
  | .heartbeatSend t => decide (t < 2 ^ 64)
  | .heartbeatLoss t => decide (t < 2 ^ 64)
  | .twinHello t f serial _ _ digest resv => decide (t < 2 ^ 64) && (f.wellFormed && decide (serial < 2 ^ 64 ∧ digest < 2 ^ 128 ∧ resv < 2 ^ 48))
  | .stateFrame t f _ block part parts x => decide (t < 2 ^ 64) && (f.wellFormed && decide (block < 2 ^ 32 ∧ part < parts ∧ parts < 2 ^ 16 ∧ x.bytes.length ≤ 131056))
  | .digestFrame t f _ _ block records digest => decide (t < 2 ^ 64) && (f.wellFormed && decide (block < 2 ^ 32 ∧ records < 2 ^ 32 ∧ digest < 2 ^ 128))
  | .replayDone t => decide (t < 2 ^ 64)
  | .replayResultFrame t f _ _ block => decide (t < 2 ^ 64) && (f.wellFormed && decide (block < 2 ^ 32))
  | .replayResultTimeout t => decide (t < 2 ^ 64)
  | .handoverFrame t f _ block => decide (t < 2 ^ 64) && (f.wellFormed && decide (block < 2 ^ 32))
  | .specimenFrame t f _ offset image => decide (t < 2 ^ 64) && (f.wellFormed && decide (offset < 2 ^ 64 ∧ image.length ≤ 131056))
  | .twinSet a => a.wellFormed
  | .twinJoin a => a.wellFormed
  | .twinHandover a => a.wellFormed
  | .twinStatus a => a.wellFormed
  | .calRun a => a.wellFormed
  | .calStepDone t calres _ => decide (t < 2 ^ 64) && (decide (calres < 2 ^ 16))
  | .calRunTimeout t => decide (t < 2 ^ 64)
  | .calRecompute t sentry => decide (t < 2 ^ 64) && (decide (-2 ^ 15 ≤ sentry ∧ sentry < 2 ^ 15))
  | .calOffsetSet a => a.wellFormed
  | .calStatus a => a.wellFormed
  | .gpioEdge t _ _ => decide (t < 2 ^ 64)
  | .gpioPulseEnd t _ => decide (t < 2 ^ 64)
  | .gpioSet a => a.wellFormed
  | .gpioStatus a => a.wellFormed
  | .adcRead a => a.wellFormed
  | .i2cTransfer a => a.wellFormed
  | .timeUnsynced t => decide (t < 2 ^ 64)
  | .twinHoldRelease t => decide (t < 2 ^ 64)
  | .headChainReset t => decide (t < 2 ^ 64)
  | .districtFault t _ => decide (t < 2 ^ 64)
  | .hostLinkUp t _ _ _ => decide (t < 2 ^ 64)
  | .vidSettled t _ => decide (t < 2 ^ 64)
  | .frkFaultReleased t _ => decide (t < 2 ^ 64)
  | .testAccessInstruction t _ => decide (t < 2 ^ 64)

end Sys2Proof
end

