-- ==== Sys2Proof/Tests/Slice0.lean ====
section
/-!
SUPPORT. Sys2Proof/Tests/Slice0.lean: what the well-formedness checks refuse, a few worked values of the manual, and for every statement
with hypotheses a concrete state and operands that meet all of them together.
-/
namespace Sys2Proof.Machine

set_option Elab.async false

/-! ### WellFormed: one ill-formed term for each check -/

/-- Each field of a packet, one too large for its place, and a good one. -/
theorem test_illFormed_args : ([{ t := 2 ^ 64 }, { flags := 256 }, { cls := 256 }, { tag := 65536 }, { postcode := 256 }, { block := 256 },
    { plen := 65536 }, { resv := 2 ^ 48 }, { plen := 1 }, { paramAddr := 2 ^ 64 }, { replyAddr := 2 ^ 64 }, { replySize := 2 ^ 32 },
    { src := .mailbox 16 }, { src := .service, plen := 241, params := List.replicate 241 0 }, { src := .chain 16 0 },
    { src := .chain 0 65536 }] : List Args).all (fun a => !a.wellFormed) = true ∧ ({} : Args).wellFormed = true := by decide +kernel

theorem test_illFormed_frames : ([{ source := 256 }, { dest := 256 }, { linkSeq := 256 }] : List ChainFrame).all (fun f => !f.wellFormed) = true ∧
    originOk 256 0 = false ∧ originOk 0 65536 = false ∧ originOk 255 65535 = true := by decide +kernel

/-- What an event's operands say cannot be: a message of the wrong kind, a packet that arrives after it has, a lane block of the wrong length. -/
theorem test_illFormed_lines : ([.linePacketReceived 0 0 { start := some 0xB1 }, .linePacketReceived 0 0 { arrival := 1 },
    .cameraAckReceived 0 0 [], .cameraInfoReceived 0 0 (zeros 6) [] 0, .vendorReplyReceived 0 0 [] [] 0,
    .laneTrainReceived 0 0 [] false {} 0, .laneCapsReceived 0 0 []] : List Instr).all (fun i => !i.wellFormed) = true ∧
    Instr.wellFormed (.linePacketReceived 0 0 {}) = true := by decide +kernel

theorem test_illFormed_commands : ([.nop { tag := 65536 }, .commandDispatch (2 ^ 64), .testAccessInstruction (2 ^ 64) .bypass,
    .writePacket 0 (List.replicate 257 0), .readReply 0 257, .registerWrite 0 0 9 0 0 [], .registerWrite 0 0 4 (2 ^ 26) 0 [],
    .registerWrite 0 0 8 0 (2 ^ 64) [], .bootComplete 0 true (2 ^ 24) 0, .bootComplete 0 true 0 256, .railBelowReset 0 (0, ⟨65536, 0⟩),
    .railBelowWarning 0 0 ⟨65536, 0⟩, .railRecovered 0 0 ⟨65536, 0⟩, .railRecovered 0 0 ⟨0, 1⟩, .ssiFrame 0 0 (2 ^ 32) true 0, .ssiFrame 5 0 0 true 6,
    .seamValuesArrive 0 0 true (2 ^ 64), .fragmentSummaryArrive 0 0 0 (2 ^ 64), .headTempSample 0 0 [], .tellerTick 0 [] (0, 0) 0,
    .retrainSliceGrant 0 0 0 0 65536] : List Instr).all (fun i => !i.wellFormed) = true := by decide +kernel

theorem test_illFormed_chain : ([.enumToken 0 {} (zeros 15), .enumToken 0 { source := 256 } (zeros 16), .enumDone 0 {} [], .chainHello 0 {} 256 0,
    .chainHello 0 {} 0 (2 ^ 64), .chainCommandFrame 0 {} 0 0 [], .chainCommandFrame 0 {} 256 0 (zeros 16), .chainReplyFrame 0 {} 0 0 [],
    .staged 0 {} 0 0 65536 0 0, .staged 0 {} 0 0 0 65536 0, .staged 0 {} 0 0 0 0 65536, .commit 0 {} 0 0 65536, .abort 0 {} 0 0 65536,
    .commitAck 0 {} 0 0 65536, .ledgerFrame 0 {} [], .eventFrame 0 {} 0 0 0, .eventFrame 0 {} 0 8 0, .eventFrame 0 {} 0 1 256,
    .probe 0 0 (2 ^ 48) 0, .probe 0 0 0 (2 ^ 32), .probeReply 0 0 (2 ^ 32), .sync 0 (2 ^ 56) 0, .heartbeat 0 0 65536,
    .calStepDone 0 65536 [], .calRecompute 0 (2 ^ 15), .calRecompute 0 (-2 ^ 15 - 1)] : List Instr).all (fun i => !i.wellFormed) = true := by
  decide +kernel

theorem test_illFormed_twin : ([.twinHello 0 { linkSeq := 256 } 0 0 0 0 0, .twinHello 0 {} (2 ^ 64) 0 0 0 0, .twinHello 0 {} 0 0 0 (2 ^ 128) 0,
    .twinHello 0 {} 0 0 0 0 (2 ^ 48),
    .stateFrame 0 {} 0 0 1 1 {}, .digestFrame 0 {} 0 false 0 0 (2 ^ 128), .replayResultFrame 0 { dest := 256 } 0 0 0,
    .handoverFrame 0 { source := 256 } 0 0, .specimenFrame 0 {} 0 (2 ^ 64) []] : List Instr).all (fun i => !i.wellFormed) = true := by
  decide +kernel

/-! ### States and packets -/

/-- A head of a chain of one with its firmware running, in a mode, its vault mounted. -/
def runningIn (m : Mode) : State :=
  let s := State.reset
  { s with sys := { s.sys with fwRunning := true, grantDebug := true, grantBase := true }
           modes := { s.modes with por := false, mode := m, rail1En := true, rail2En := true }
           chain := { s.chain with postcode := 0, isHead := true, synced := true, size := 1 }
           vault := { s.vault with mounted := true, formatted := true } }

/-- A packet over the service port. -/
def svc (b : Nat) (p : List Byte) : Args := { src := .service, block := b, plen := p.length, params := p }

/-- A packet by reference over mailbox 0, with room for a large reply. -/
def byRef (b : Nat) (p : List Byte) : Args :=
  { src := .mailbox 0, flags := 2, block := b, plen := p.length, params := p, paramAddr := 64, replyAddr := 64, replySize := 2 ^ 24 }

/-! What some commands need beside that. -/

def withRegion (s : State) : State := { s with host := { s.host with userBase := 0, userBytes := 65536 } }
def withImage (s : State) : State := s.setFwSlot 1 { image := [(0, 1)], done := [(0, 1)] }
def withStrap (s : State) : State := { s with modes := { s.modes with strapTwin := true } }
def withSync (s : State) : State := { withStrap s with twin := { s.twin with role := .active, up := true, partnerRole := .inSync } }
def withJob (s : State) : State := { s with vault := { s.vault with jobs := [{ job := 7 }] } }
def withLoaded (s : State) : State := s.setLearn 0 { s.learn 0 with loaded := some {} }
def withStored (s : State) : State :=
  let t : State := { s with vault := { s.vault with objects := [{ kind := .specimen, key := 7, spec := some { pitch := (s.grid 0).pitch } }] } }
  t.setStation 0 { t.station 0 with mono := false, width := 0 }
def withNetwork (s : State) : State := s.setStLook 0 { s.stLook 0 with image := [1] }
def withWaiting (s : State) : State := { s with sys := { s.sys with waiting := [{ op := 0, args := { src := .mailbox 3, cls := 3, tag := 7 } }] } }
def withChallenge (s : State) : State := { s with sys := { s.sys with challenge := some (1, 1, 0) } }
def withForerunner (s : State) : State :=
  let t := (s.setStation 0 { s.station 0 with ports := [0], width := 64 }).setLearn 0
    { s.learn 0 with set := { (s.learn 0).set with k := 16, options := 1 } }
  t.setPort 0 { t.port 0 with configured := true, pixels := 64 }
def withPort (s : State) : State :=
  let t := (List.range 4).foldl (fun s l => s.setLane l { s.lane l with state := .active }) s
  t.setPort 0 { t.port 0 with configured := true, lineRate := 1000 }
def withInfo (s : State) : State := s.setPort 0 { s.port 0 with info := [1] }
def withWide (s : State) : State := s.setStation 0 { s.station 0 with width := 64 }
def withField (s : State) : State :=
  let t := s.setLearn 0 { s.learn 0 with loaded := some { width := 64, lines := 64 } }
  t.setReg 0 { t.reg 0 with searched := true }

/-- A base set of one plane of 64 pixels, all offsets and gains zero; its CRC-32C is worked out by hand. -/
def baseImage : List Byte := le 2 1 ++ [1, 1] ++ le 2 64 ++ [1] ++ zeros 53 ++ le 4 0x917DD6B6 ++ zeros 256

/-! ### Worked values of the manual -/

/-- Chapter 06: plane 1, pixel 5,000 of the worked example. -/
theorem test_photo_example : blendCoef 1040 1680 160 = 1440 ∧ blendCoef 18944 19456 160 = 19264 ∧
    photoC 10 612 1440 19264 (-48) 16640 = 739087440 ∧ photoRound 739087440 = 2819 := by decide +kernel

/-- Chapter 25: L29's termination at 71.5 degrees. -/
theorem test_factory_example : factoryAt 112 118 124 1144 = 121 := by decide +kernel

/-- Chapter 15: the codewords and pads of the worked example's mark. -/
theorem test_mark_example : dmData 12 (contentCodes 2 1718400123456 4800005) =
    [130, 134, 130, 142, 164, 186, 134, 210, 130, 135, 129, 147] := by decide +kernel

/-- Chapter 23: package 3's answer to the PROBE gives a delay of 199 ns. -/
theorem test_hop_example :
    let s := [52, 53, 54, 55].foldl (fun s l => s.setLane l { s.lane l with state := .active }) (runningIn .standby)
    let u : State := { s with chain := { s.chain with probeT1 := 1000000000, probeSeq := 1 } }
    (probeReply 0 802 (State.begin 1000001200 u)).chain.delay = 199 := by decide +kernel

/-- The published check value of CRC-32C, and FIPS 180's of SHA-384 for the message abc. -/
theorem test_published_values : crc32c [0x31, 0x32, 0x33, 0x34, 0x35, 0x36, 0x37, 0x38, 0x39] = 0xE3069283 ∧
    ofBe (sha384 [0x61, 0x62, 0x63]) =
      0xCB00753F45A35E8BB5A03D699AC65007272C32AB0EDED1631A8B605A43FF5BED8086072BA1E7CC2358BAECA134C825A7 := by decide +kernel

/-- Chapter 05: two 10-bit samples as a little-endian stream, 1,023 and 1, take 20 bits: 3 bytes, FF 07 00. -/
theorem test_samples : unpackSamples 10 2 (ofLe [0xFF, 0x07, 0x00]) = [1023, 1] ∧ fieldBytes 2 10 = 3 := by decide +kernel

/-- Chapter 04: the scrambler answers a single 1 with itself and, 39 bits later, its first echo; PRBS7 from seven ones goes on with six zeros
and a one. -/
theorem test_line_code : (scramble 40 0 1).1 = 1 + 2 ^ 39 ∧ (descramble 40 0 (1 + 2 ^ 39)).1 = 1 ∧
    (generate 0 0 7 127 0).1 = [false, false, false, false, false, false, true] := by decide +kernel

/-- Chapter 01: the last domain is 221; at reset, in POR, none runs, and in SENTRY the Sentry's alone. -/
theorem test_clocks : (ClockDomain.management 1).number = 221 ∧ (ClockDomain.sampler).number = 123 ∧
    ([.core, .district 3, .sentry 0] : List ClockDomain).all (fun x => !x.runs State.reset) = true ∧
    (ClockDomain.sentry 2).runs (runningIn .sentry) = true ∧ ClockDomain.core.runs (runningIn .sentry) = false := by decide +kernel

/-! ### Witnesses of the general statements -/

/-- A running package with nothing due is calm, and so is the package at reset. -/
theorem test_calm : Calm (runningIn .standby) ∧ Calm State.reset := by
  constructor <;> constructor <;>
    first | rfl | (intro e h; cases h; done) | exact .inl rfl | decide +kernel

/-- A command in front, whose step answers a next state with the queue's rest. -/
theorem test_front : ∃ t, step { runningIn .standby with pending := [.nop (svc 0 []), .softResetBegin 5] } = .next t ∧ t.pending = [.softResetBegin
      5] :=
  ⟨_, rfl, rfl⟩

theorem test_reader : readsOnly (.getIdentity (svc 0 [])) = true ∧ packetOf (.getIdentity (svc 0 [])) = some (cmdGetIdentity, svc 0 []) ∧
    Accepted cmdGetIdentity (svc 0 []) (runningIn .standby) = true := ⟨rfl, rfl, by decide +kernel⟩

/-- Refused by the checks (a length), in staging (a scope), and with CHECK_ONLY set a command whose refusal acts. -/
theorem test_refused :
    (packetOf (.nop (svc 0 [1])) = some (cmdNop, svc 0 [1]) ∧ Delivered 0x0000 (svc 0 [1]) (runningIn .standby) = true ∧
      Prompt cmdNop (svc 0 [1]) (received (svc 0 [1]) (runningIn .standby)) = true ∧
      commandStatus cmdNop (svc 0 [1]) (received (svc 0 [1]) (runningIn .standby)) = stBadLength) ∧
    (packetOf (.keyChallenge (svc 0 (zeros 8))) = some (cmdKeyChallenge, svc 0 (zeros 8)) ∧
      Delivered 0x0005 (svc 0 (zeros 8)) (runningIn .standby) = true ∧
      Prompt cmdKeyChallenge (svc 0 (zeros 8)) (received (svc 0 (zeros 8)) (runningIn .standby)) = true ∧
      stageStatus (stageAll cmdKeyChallenge (svc 0 (zeros 8)) (received (svc 0 (zeros 8)) (runningIn .standby))) = stOutOfRange) ∧
    (Delivered 0x0006 { svc 0 [] with flags := 1 } (runningIn .standby) = true ∧ ({ svc 0 [] with flags := 1 } : Args).checkOnly = true ∧
      commandStatus cmdKeyResponse { svc 0 [] with flags := 1 } (received { svc 0 [] with flags := 1 } (runningIn .standby)) =
        stBadLength) := ⟨⟨rfl, by decide +kernel⟩, ⟨rfl, by decide +kernel⟩, by decide +kernel⟩

/-- A tag that is outstanding from mailbox 0. -/
theorem test_outstanding :
    let a := byRef 0 []
    let s := runningIn .standby
    let u : State := { s with sys := { s.sys with started := [{ op := 0x0105, args := a }] } }
    packetOf (.nop a) = some (cmdNop, a) ∧ Delivered 0x0000 a u = true ∧ cmdNop.blockOk a = true ∧ a.cls ≠ 0 ∧ (received a u).mode ≠ .sentry ∧
      u.sys.started.any (fun x => x.args.src = a.src && x.args.tag = a.tag) = true := by
  refine ⟨rfl, ?_⟩; decide +kernel

/-- The premises of the four clauses on POSTCODE: 16 and 0xFD; 1, of a chain of one; 0 and 0xFF before enumeration; 0xFE. -/
theorem test_postcodes : ([(runningIn .standby, 16), (runningIn .standby, 0xFD), (runningIn .standby, 1), (State.reset, 0),
    (State.reset, 0xFF), (State.reset, 0xFE)] : List (State × Nat)).all (fun e =>
      let a := { svc 0 [] with postcode := e.2 }
      let s : State := { e.1 with sys := { e.1.sys with fwRunning := true } }
      serviceFree (s.begin a.t) && mayStart 0x0000 a (received a s) && headerStatus { a with postcode := 0xFE } (received a s) = stDone) = true ∧
    (received (svc 0 []) (runningIn .standby)).chain.size ≤ 1 ∧ (received (svc 0 []) State.reset).chain.enumerated = false := by
  decide +kernel

/-- A frame with opcode 0x00FF, which no chapter defines. -/
theorem test_undefined_opcode :
    let frame := le 2 0x00FF ++ [0, 1, 0, 0, 0xFE, 0] ++ zeros 8
    let s := runningIn .standby
    let p := readPacket .service frame (s.begin 9)
    let u := modService (fun x => { x with busy := true, reply := [] }) (s.begin 9)
    frame.length = 16 ∧ u16 frame 8 = 0 ∧ (commandOf p.1).isNone = true ∧ serviceFree (s.begin 9) = true ∧ mayStart p.1 p.2 u = true ∧
      headerStatus p.2 u = stDone ∧ p.2.postcode = 0xFE ∧ u.mode ≠ .sentry := by decide +kernel

theorem test_doorbell : State.reset.sys.fwRunning = false ∧ (State.reset.box 0).owner = 0 ∧ (State.reset.box 15).owner = 1 := by
  decide +kernel

theorem test_running : (runningIn .inspect).sys.fwRunning = true ∧ (runningIn .sentry).mode = .sentry ∧
    1000 * 700 < 880 * railNominal 3 (runningIn .sentry).modes := ⟨rfl, rfl, by decide +kernel⟩

/-- CAPS that do not pair, on a lane of the upstream chain port and on one of SP0. -/
theorem test_caps :
    ([0, 48].all fun l => ((State.reset.setLane l { State.reset.lane l with state := .caps }).lane l).state = .caps) = true ∧
    capsCompatible 0 (zeros 7) = false ∧ capsCompatible (groupOf 48) ([4, 1, 0, 4, 0, 0, 0]) = true := by decide +kernel

theorem test_quadrature : (State.reset.encoder 0).indexCheck = false ∧ (State.reset.encoder 3).rezero = false ∧
    ((State.reset.setEncoder 3 { State.reset.encoder 3 with enable := true }).encoder 3).enable = true ∧
    0 < filterNs (State.reset.encoder 3) State.reset ∧ filterNs (State.reset.encoder 3) State.reset ≤ 50000 := by decide +kernel

/-- A limited code whose bucket is empty. -/
theorem test_bucket :
    let s := runningIn .standby
    let u : State := { s with journal := s.journal.setBucket 0x0100 { rate := 0, level := 0 } }
    u.mode ≠ .sentry ∧ limitedCode 0x0100 = true ∧ ((u.journal.bucket 0x0100).take u.now).1 = false := by decide +kernel

theorem test_stop_policy : State.reset.journal.policy = false ∧
    (((modChain (fun c => { c with resetAt := some 7 }) State.reset).begin 20007).chain.resetAt = some 7 ∧
      7 + 20000 ≤ ((modChain (fun c => { c with resetAt := some 7 }) State.reset).begin 20007).now) := ⟨rfl, by decide +kernel⟩

/-- A channel of eight bytes from DRAM to DRAM has the burst slot. -/
theorem test_courier :
    let s := runningIn .inspect
    let u := (s.setCourier 5 { s.courier 5 with busy := true, count := 8, dst := 4096 }).begin 9
    workHeld 1 u = false ∧ pickCourier u = some 5 ∧ (u.courier 5).dstHost = false := by decide +kernel

/-- The invariant's premise, of a state whose step runs a command, and of one in which ENTER_SENTRY waits for a compression job. -/
theorem test_nothing_half_done : NothingHalfDone { runningIn .standby with pending := [.nop (svc 0 [])] } ∧
    NothingHalfDone (modModes (fun m => { m with wanted := some (.sentry, 0) })
      (modEngine 0 (fun e => { e with job := some {} }) (runningIn .standby))) := ⟨⟨rfl, by decide +kernel⟩, rfl, fun _ => by decide +kernel⟩

/-- Every field of a packet at the top of its range. -/
theorem test_packet_ranges :
    let a : Args := { flags := 3, cls := 0xFF, tag := 0xFFFF, postcode := 0xFF, block := 0xFF, plen := 2, params := [1, 2] }
    a.flags < 4 ∧ a.cls < 2 ^ 8 ∧ a.tag < 2 ^ 16 ∧ a.postcode < 2 ^ 8 ∧ a.block < 2 ^ 8 ∧ a.plen = a.params.length ∧ a.plen < 2 ^ 16 := by
  decide +kernel


/-! ### Accepted packets: what the statements of the command families assume, for each command -/

/-- What acceptance by one target comes to. -/
theorem accepted_one {d : CommandDef} {a : Args} {s : State} {k : Nat}
    (h : (Delivered d.opcode a s && !a.checkOnly && decide (commandStatus d a (received a s) = stDone) && Prompt d a (received a s)
      && (received a s).sys.staged.isEmpty) = true)
    (ht : (d.call a).targets = [k]) (hc : d.check (d.call a) k (received a s) = stDone) : Accepted d a s = true := by
  simp only [Bool.and_eq_true, List.isEmpty_iff] at h
  have hs : stageStatus (stageAll d a (received a s)) = stDone := by
    have hf : ∀ b, stagedHolds d (received a s) b = false := fun b => by simp [stagedHolds, h.2]
    simp only [stageAll, ht, List.map_cons, List.map_nil, stageStatus, hc, hf, List.any_eq_true, Bool.false_eq_true, and_false, exists_false,
      if_false]
    rfl
  show (Delivered d.opcode a s && !a.checkOnly && decide (commandStatus d a (received a s) = stDone)
    && decide (stageStatus (stageAll d a (received a s)) = stDone) && Prompt d a (received a s)) = true
  rw [h.1.1.1.1, h.1.1.1.2, h.1.1.2, h.1.2, hs]; rfl

/-- Whatever is fitted, channel 0 is there. -/
theorem channelStatus_zero : channelStatus 0 = stDone := by
  unfold channelStatus Config.dramChannels; split <;> rfl

/-- Whatever is fitted, there are 16 GiB at least. -/
theorem dramCapacity_large : 2 ^ 34 ≤ Config.dramCapacity := by
  have h1 : 4 ≤ Config.dramChannels := by unfold Config.dramChannels; split <;> omega
  have h2 : 1 ≤ Config.dramRanks := by unfold Config.dramRanks; split <;> omega
  have h3 : 4 ≤ 4 * Config.dramDensity / 8 := by unfold Config.dramDensity; omega
  have := Nat.mul_le_mul (Nat.mul_le_mul (Nat.mul_le_mul h1 h2) h3) (le_refl (2 ^ 30))
  exact le_trans (by norm_num) this

/-- The parameters of a packet that names its block are its command's own. -/
theorem call_p (d : CommandDef) (b : Nat) (p : List Byte) (h : b ≠ 0xFE) : (d.call (svc b p)).p = p := by
  simp [CommandDef.call, svc, h]

/-- SystemCommandsRun: what is accepted of the system commands and keys. -/
theorem test_SystemCommandsRun : ([
    Accepted cmdNop (svc 0 ([])) (runningIn .standby),
    Accepted cmdGetIdentity (svc 0 ([])) (runningIn .standby),
    Accepted cmdReadCapability (byRef 0 (le 2 1 ++ le 2 0)) (runningIn .standby),
    Accepted cmdGetHealth (svc 0 ([])) (runningIn .standby),
    Accepted cmdCancel (svc 0 (le 2 3 ++ le 2 7)) (withWaiting (runningIn .standby)),
    Accepted cmdKeyChallenge (svc 0 (le 4 1 ++ le 4 0)) (runningIn .standby),
    Accepted cmdKeyRevoke (svc 0 ([])) (runningIn .standby)] : List Bool).all id = true := by
  decide +kernel

/-- ForerunnerCommandsRun: what is accepted of the forerunner subset. -/
theorem test_ForerunnerCommandsRun : ([
    Accepted cmdFrIdentify (svc 0 ([])) (runningIn .configure),
    Accepted cmdFrSetPort (svc 0 (le 1 0 ++ zeros 3 ++ le 2 64 ++ le 1 1 ++ le 1 8 ++ le 4 1000 ++ le 2 0 ++ le 2 0 ++ le 2 0xFFFF ++ le 2 0 ++ le 4
      100 ++ le 2 0x100 ++ le 2 0)) (withForerunner (runningIn .configure)),
    Accepted cmdFrSetPitch (svc 0 (le 2 320 ++ le 2 0)) (withForerunner (runningIn .configure)),
    Accepted cmdFrLearn (svc 0 ([])) (withForerunner (runningIn .learn)),
    Accepted cmdFrInspect (svc 0 ([])) (withForerunner (runningIn .inspect)),
    Accepted cmdFrHalt (svc 0 ([])) (withForerunner (runningIn .configure)),
    Accepted cmdFrReadDefects (byRef 0 ([])) (withForerunner (runningIn .configure)),
    Accepted cmdFrJournalPolicy (svc 0 ([])) (withForerunner (runningIn .configure))] : List Bool).all id = true := by
  decide +kernel

/-- ModeCommandsRun: what is accepted of modes, resets and retention. -/
theorem test_ModeCommandsRun : ([
    Accepted cmdSetMode (svc 0 (le 1 2 ++ le 1 0 ++ le 2 0)) (runningIn .configure),
    Accepted cmdEnterSentry (svc 0 (zeros 16)) (runningIn .standby),
    Accepted cmdWake (svc 0 ([])) (runningIn .standby),
    Accepted cmdGetResetCause (svc 0 ([])) (runningIn .standby),
    Accepted cmdSetSafeState (svc 0 (zeros 4)) (runningIn .standby),
    Accepted cmdReset (svc 0 (le 2 0xA55A ++ le 2 0)) (runningIn .standby),
    Accepted cmdForceSafe (svc 0 ([])) (runningIn .standby)] : List Bool).all id = true := by
  decide +kernel

/-- LaneAndPortCommandsRun: what is accepted of the lanes and the sensor ports. -/
theorem test_LaneAndPortCommandsRun : ([
    Accepted cmdLaneSet (svc 0 (le 8 0xF ++ le 1 0 ++ le 1 0 ++ le 2 0)) (runningIn .standby),
    Accepted cmdLaneRegRead (svc 0 (le 2 0 ++ le 2 1)) (runningIn .standby),
    Accepted cmdLaneRegWrite (svc 0 (zeros 12)) (runningIn .standby),
    Accepted cmdPortSet (svc 16 (le 2 64 ++ le 1 1 ++ le 1 8 ++ le 4 1000 ++ le 2 0 ++ le 2 0 ++ le 2 0xFFFF ++ le 2 0 ++ le 4 100 ++ le 2 0x100 ++
      le 2 0)) (runningIn .standby),
    Accepted cmdPortStatus (svc 16 (zeros 4)) (runningIn .standby),
    Accepted cmdCameraSet (svc 16 (le 4 100 ++ le 2 0x100 ++ le 2 0)) (withPort (runningIn .configure)),
    Accepted cmdCameraMessage (byRef 16 (le 2 1 ++ le 2 0 ++ le 1 5)) (withPort (runningIn .configure)),
    Accepted cmdCameraInfo (svc 16 ([])) (withInfo (runningIn .standby))] : List Bool).all id = true := by
  decide +kernel

/-- PhotometricCommandsRun: what is accepted of photometric correction. -/
theorem test_PhotometricCommandsRun : ([
    Accepted cmdPhotoSelectBase (svc 16 (zeros 16)) (runningIn .standby),
    Accepted cmdPhotoSetTrim (svc 16 (zeros 8)) (runningIn .standby),
    Accepted cmdPhotoRead (byRef 16 (le 1 1 ++ zeros 3)) (withPort (runningIn .standby)),
    Accepted cmdPhotoStatus (svc 16 (zeros 4)) (runningIn .standby),
    Accepted cmdPhotoCapture (byRef 16 (le 4 16 ++ le 1 0 ++ zeros 3)) (withPort (runningIn .configure))] : List Bool).all id = true := by
  decide +kernel

/-- PositionCommandsRun: what is accepted of the web position. -/
theorem test_PositionCommandsRun : ([
    Accepted cmdPosEncoderSet (svc 88 (le 1 1 ++ le 1 0 ++ le 2 5 ++ le 4 1 ++ le 4 0 ++ le 2 0 ++ le 2 1 ++ le 1 0 ++ le 1 0 ++ le 2 0 ++ le 4 0))
      (runningIn .standby),
    Accepted cmdPosSetCount (svc 88 (zeros 8)) (runningIn .standby),
    Accepted cmdPosStatus (svc 88 (zeros 4)) (runningIn .standby),
    Accepted cmdPosLatchSet (svc 0 (zeros 8)) (runningIn .standby),
    Accepted cmdPosCompareArm (svc 0 (le 1 0 ++ le 1 0 ++ le 1 0 ++ zeros 5 ++ le 8 100)) (runningIn .standby)] : List Bool).all id = true := by
  decide +kernel

/-- ResampleAndStitchCommandsRun: what is accepted of resampling, stitching and outlets. -/
theorem test_ResampleAndStitchCommandsRun : ([
    Accepted cmdResampleSet (svc 48 (le 2 320 ++ le 1 0 ++ le 1 0 ++ le 1 50 ++ le 1 0 ++ le 2 0 ++ le 8 0)) (runningIn .standby),
    Accepted cmdResamplePlaneOffset (svc 16 (zeros 16)) (runningIn .standby),
    Accepted cmdResampleStatus (svc 16 (zeros 4)) (runningIn .standby),
    Accepted cmdStationSet (svc 48 (le 1 0 ++ le 1 0 ++ le 2 0 ++ le 4 0 ++ List.replicate 6 0xFF ++ zeros 2)) (runningIn .standby),
    Accepted cmdStitchMap (svc 16 (le 1 1 ++ zeros 3 ++ le 4 0)) (runningIn .standby),
    Accepted cmdColourMatrix (svc 16 (zeros 32)) (runningIn .standby)] : List Bool).all id = true := by
  decide +kernel

/-- ResampleAndStitchCommandsRun: what is accepted of resampling, stitching and outlets. -/
theorem test_ResampleAndStitchCommandsRun_rest : ([
    Accepted cmdColourXyz (svc 48 (zeros 20)) (runningIn .standby),
    Accepted cmdOutletSet (svc 0 (le 1 0 ++ le 1 0 ++ le 1 0 ++ le 1 0 ++ le 4 0 ++ le 4 64 ++ le 1 1 ++ le 1 1 ++ le 2 1 ++ le 2 32 ++ le 2 0))
      (withWide (runningIn .standby)),
    Accepted cmdOutletTable (svc 0 (zeros 4)) (runningIn .standby),
    Accepted cmdStitchStatus (svc 48 (zeros 4)) (runningIn .standby),
    Accepted cmdOutletStatus (svc 0 (zeros 4)) (runningIn .standby)] : List Bool).all id = true := by
  decide +kernel

/-- SpecimenCommandsRun: what is accepted of specimens and learning. -/
theorem test_SpecimenCommandsRun : ([
    Accepted cmdLearnSet (svc 48 (le 1 1 ++ le 1 16 ++ le 1 1 ++ le 1 1 ++ le 4 0 ++ le 4 5000 ++ le 4 5000 ++ le 2 16 ++ le 1 30 ++ le 1 0 ++ le 1
      25 ++ le 1 0 ++ le 2 100 ++ le 2 16 ++ le 1 16 ++ le 1 0 ++ le 4 0 ++ (List.range 14).flatMap (fun i => le 2 (i + 1)) ++ le 2 512 ++ le 2 0))
      (runningIn .standby),
    Accepted cmdGoldenFreeSet (svc 48 (le 1 0 ++ le 1 0 ++ le 2 8 ++ le 1 1 ++ le 1 0 ++ le 2 10 ++ le 2 16 ++ le 1 50 ++ zeros 5)) (runningIn
      .standby),
    Accepted cmdLearnStatus (svc 48 ([])) (runningIn .standby),
    Accepted cmdSpecimenDelete (svc 0 (le 8 7)) (withStored (runningIn .configure)),
    Accepted cmdSpecimenList (svc 0 (le 2 0 ++ le 2 1)) (runningIn .standby)] : List Bool).all id = true := by
  decide +kernel

/-- RegistrationAndSegmentationCommandsRun: what is accepted of registration, compare and segmentation. -/
theorem test_RegistrationAndSegmentationCommandsRun : ([
    Accepted cmdFrSetThreshold (svc 0 (le 1 0 ++ zeros 3 ++ le 2 100 ++ le 2 50)) (withForerunner (runningIn .configure)),
    Accepted cmdRegSet (svc 48 (le 2 0 ++ le 1 1 ++ le 1 1 ++ le 2 0 ++ le 2 16 ++ le 2 0 ++ le 1 1 ++ le 1 0 ++ le 2 512 ++ le 2 0)) (runningIn
      .standby),
    Accepted cmdCompareThresholds (svc 48 (le 2 1 ++ le 2 0 ++ le 2 100 ++ le 2 50 ++ le 2 100 ++ le 2 50 ++ zeros 120)) (runningIn .standby),
    Accepted cmdStreakSet (svc 48 (le 1 0 ++ le 1 0 ++ le 2 8 ++ le 2 4 ++ le 2 4 ++ le 1 50 ++ le 1 0 ++ le 2 0 ++ le 4 1000 ++ zeros 64))
      (runningIn .standby),
    Accepted cmdRegStatus (svc 48 (zeros 4)) (runningIn .standby),
    Accepted cmdStreakList (byRef 48 ([])) (runningIn .standby),
    Accepted cmdSegSet (svc 48 (le 1 0 ++ le 1 0 ++ le 2 1 ++ le 4 256 ++ le 2 1 ++ le 1 0 ++ zeros 5)) (runningIn .standby),
    Accepted cmdSegRulesRead (byRef 48 ([])) (runningIn .standby),
    Accepted cmdSegStatus (byRef 48 (zeros 4)) (runningIn .standby)] : List Bool).all id = true := by
  decide +kernel

/-- LedgerAndSecondLookCommandsRun: what is accepted of the ledger, the outputs and second look. -/
theorem test_LedgerAndSecondLookCommandsRun : ([
    Accepted cmdLedgerSet (svc 48 (le 8 0 ++ List.replicate 8 0xFF ++ le 8 0 ++ le 8 0 ++ zeros 4 ++ List.replicate 2 0xFF ++ zeros 10)) (runningIn
      .standby),
    Accepted cmdLedgerChain (svc 0 (le 2 0xFFFF ++ le 2 0)) (runningIn .standby),
    Accepted cmdOutputRules (svc 0 ((List.replicate 16 (zeros 9 ++ le 1 1 ++ le 2 1 ++ zeros 20)).flatten)) (runningIn .standby),
    Accepted cmdOutputForce (svc 0 (zeros 4)) (runningIn .learn),
    Accepted cmdLedgerStatus (svc 48 (zeros 4)) (runningIn .standby)] : List Bool).all id = true := by
  decide +kernel

/-- LedgerAndSecondLookCommandsRun: what is accepted of the ledger, the outputs and second look. -/
theorem test_LedgerAndSecondLookCommandsRun_rest : ([
    Accepted cmdLedgerExport (svc 0 (le 8 0 ++ le 8 0 ++ le 4 1 ++ le 1 0 ++ zeros 3)) (runningIn .standby),
    Accepted cmdSlNetworkLoad (svc 48 (zeros 8)) (runningIn .standby),
    Accepted cmdSlSet (svc 48 (le 2 64 ++ zeros 38)) (runningIn .standby),
    Accepted cmdSlNetworkRead (svc 48 ([])) (withNetwork (runningIn .standby)),
    Accepted cmdSlStatus (svc 0 (zeros 4)) (runningIn .standby)] : List Bool).all id = true := by
  decide +kernel

/-- FrankingCommandsRun: what is accepted of the franking unit. -/
theorem test_FrankingCommandsRun : ([
    Accepted cmdFrankHeadSet (svc 80 (le 1 0 ++ le 1 0 ++ le 2 0 ++ le 1 1 ++ le 1 1 ++ le 2 20 ++ le 4 0 ++ le 2 0 ++ le 2 16 ++ le 2 0 ++ le 2 1
      ++ le 2 1000 ++ zeros 2)) (runningIn .standby),
    Accepted cmdFrankWaveform (svc 80 (le 2 0 ++ le 2 0 ++ le 2 0 ++ le 2 0 ++ le 2 100 ++ le 2 0 ++ le 2 0 ++ le 2 0 ++ le 2 0 ++ le 2 100 ++ le 2
      0 ++ le 2 0 ++ le 2 0 ++ le 2 0 ++ le 2 100 ++ zeros 2)) (runningIn .standby),
    Accepted cmdFrankDensity (svc 0 ((List.replicate 4 (le 1 1 ++ le 1 1 ++ le 1 1 ++ le 1 0 ++ le 1 0 ++ le 1 0 ++ le 1 1 ++ zeros 9)).flatten))
      (runningIn .standby),
    Accepted cmdFrankMask (svc 80 (zeros 640)) (runningIn .standby),
    Accepted cmdFrankSelect (svc 80 (le 1 0 ++ le 1 0 ++ le 1 10 ++ le 1 0 ++ le 4 0 ++ le 1 0 ++ le 1 0 ++ zeros 2 ++ le 4 1000000 ++ le 4 0))
      (runningIn .standby),
    Accepted cmdFrankMachine (svc 0 (le 1 0 ++ zeros 3 ++ le 4 1 ++ le 2 100 ++ le 2 100 ++ le 4 0 ++ le 4 0)) (runningIn .standby),
    Accepted cmdFrankStatus (svc 80 (zeros 4)) (runningIn .standby)] : List Bool).all id = true := by
  decide +kernel

/-- FrameCommandsRun: what is accepted of the sorting frame. -/
theorem test_FrameCommandsRun : ([
    Accepted cmdEventChannelSet (svc 0 (zeros 8)) (runningIn .standby),
    Accepted cmdEventInputSet (svc 0 (le 2 0 ++ le 1 0 ++ le 1 0 ++ le 2 1 ++ zeros 2)) (runningIn .standby),
    Accepted cmdEventFire (svc 0 (le 1 1 ++ zeros 23)) (runningIn .standby),
    Accepted cmdEventLock (svc 0 (le 1 0 ++ le 1 0 ++ le 2 0xA55A)) (runningIn .standby),
    Accepted cmdEventBridgeSet (svc 0 (zeros 4)) (runningIn .standby),
    Accepted cmdEventStatus (svc 0 (zeros 4)) (runningIn .standby)] : List Bool).all id = true := by
  decide +kernel

/-- TellerCommandsRun: what is accepted of the teller. -/
theorem test_TellerCommandsRun : ([
    Accepted cmdTellerSet (svc 0 (le 2 320 ++ le 2 0 ++ zeros 4)) (runningIn .standby),
    Accepted cmdTellerStationSet (svc 48 (zeros 8)) (runningIn .standby),
    Accepted cmdTellerCheck (svc 0 ([])) (runningIn .standby),
    Accepted cmdTellerStatus (byRef 0 (zeros 4)) (runningIn .standby),
    Accepted cmdTellerRemap (svc 0 (le 1 0 ++ le 1 12 ++ le 2 0)) (runningIn .configure)] : List Bool).all id = true := by
  decide +kernel

/-- DramCommandsRun: what is accepted of the DRAM controller. -/
theorem test_DramCommandsRun : ([
    Accepted cmdDramInfo (svc 0 ([])) (runningIn .standby),
    Accepted cmdDramSet (svc 0 (le 1 0 ++ le 1 0 ++ le 1 0 ++ le 1 4 ++ le 2 10 ++ le 2 0)) (runningIn .standby)] : List Bool).all id = true := by
  decide +kernel

/-- HostAndCompressionCommandsRun: what is accepted of mailboxes, the Courier, the host link and compression. -/
theorem test_HostAndCompressionCommandsRun : ([
    Accepted cmdMailboxSet (svc 0 (le 2 32 ++ le 1 1 ++ le 1 0 ++ le 1 4 ++ le 1 0 ++ le 1 0 ++ le 1 0 ++ le 8 0 ++ le 8 0 ++ le 4 0 ++ zeros 4))
      (runningIn .standby),
    Accepted cmdMailboxStatus (svc 0 (zeros 4)) (runningIn .standby),
    Accepted cmdHostLinkStatus (svc 0 (zeros 4)) (runningIn .standby),
    Accepted cmdCompStatus (svc 72 (zeros 4)) (runningIn .standby)] : List Bool).all id = true := by
  decide +kernel

/-- VaultAndJournalCommandsRun: what is accepted of the vault, the day book and the journal. -/
theorem test_VaultAndJournalCommandsRun : ([
    Accepted cmdVaultInfo (svc 0 ([])) (runningIn .standby),
    Accepted cmdVaultFormat (svc 0 (le 1 20 ++ le 1 0 ++ le 2 0xA55A)) (runningIn .maintain),
    Accepted cmdVaultSet (svc 0 (le 1 0 ++ le 1 20 ++ le 2 16)) (runningIn .standby),
    Accepted cmdVaultStatus (svc 0 ([])) (runningIn .standby),
    Accepted cmdVaultFwWrite (svc 0 (le 1 1 ++ zeros 3 ++ le 4 0 ++ le 4 64 ++ zeros 4 ++ le 8 0)) (withRegion (runningIn .maintain)),
    Accepted cmdDaybookJobs (svc 0 (le 2 0 ++ le 2 1)) (runningIn .standby)] : List Bool).all id = true := by
  decide +kernel

/-- VaultAndJournalCommandsRun: what is accepted of the vault, the day book and the journal. -/
theorem test_VaultAndJournalCommandsRun_rest : ([
    Accepted cmdDaybookJobSet (svc 0 (le 8 7 ++ le 1 0 ++ zeros 3)) (withJob (runningIn .standby)),
    Accepted cmdJournalPolicy (svc 0 (le 1 1 ++ le 1 0 ++ le 2 0xA55A)) (runningIn .standby),
    Accepted cmdJournalRate (svc 0 (le 2 0x0100 ++ le 2 100 ++ le 1 1 ++ zeros 3)) (runningIn .standby),
    Accepted cmdJournalRead (svc 0 (le 8 0 ++ le 4 1 ++ zeros 4)) (runningIn .standby),
    Accepted cmdJournalRelease (svc 0 (zeros 8)) (runningIn .standby),
    Accepted cmdJournalStatus (svc 0 (zeros 4)) (runningIn .standby)] : List Bool).all id = true := by
  decide +kernel

/-- ChainAndTwinCommandsRun: what is accepted of the chain and twin operation. -/
theorem test_ChainAndTwinCommandsRun : ([
    Accepted cmdChainStatus (svc 0 (zeros 4)) (runningIn .standby),
    Accepted cmdChainEnumerate (svc 0 (le 2 0xA55A ++ le 2 0)) (runningIn .standby),
    Accepted cmdChainTimeSet (svc 0 (zeros 8)) (runningIn .standby),
    Accepted cmdChainReset (svc 0 (le 2 0xA55A ++ le 2 0)) (runningIn .standby),
    Accepted cmdChainWake (svc 0 ([])) (runningIn .standby),
    Accepted cmdTwinSet (svc 0 (le 1 0 ++ le 1 0 ++ le 2 0 ++ zeros 12)) (withStrap (runningIn .standby)),
    Accepted cmdTwinHandover (svc 0 ([])) (withSync (runningIn .inspect)),
    Accepted cmdTwinStatus (svc 0 (zeros 4)) (runningIn .standby)] : List Bool).all id = true := by
  decide +kernel

/-- CalibrationAndPinCommandsRun: what is accepted of calibration and the pins. -/
theorem test_CalibrationAndPinCommandsRun : ([
    Accepted cmdCalRun (svc 0 (le 4 1 ++ le 1 0 ++ zeros 3)) (runningIn .calibrate),
    Accepted cmdCalOffsetSet (svc 0 (le 1 1 ++ le 1 0 ++ le 2 0 ++ le 2 0 ++ le 2 0)) (runningIn .standby),
    Accepted cmdCalStatus (svc 0 (le 1 1 ++ le 1 0 ++ le 2 0)) (runningIn .standby),
    Accepted cmdGpioSet (svc 0 (zeros 16)) (runningIn .standby),
    Accepted cmdGpioStatus (svc 0 ([])) (runningIn .standby),
    Accepted cmdAdcRead (svc 0 (le 1 1 ++ le 1 0 ++ le 2 1)) (runningIn .standby),
    Accepted cmdI2cTransfer (svc 0 (le 1 0 ++ le 1 8 ++ le 1 1 ++ le 1 0 ++ zeros 36)) (runningIn .standby)] : List Bool).all id = true := by
  decide +kernel

theorem test_DramStatus_accepted :
    Accepted cmdDramStatus (svc 64 (zeros 4)) (runningIn .standby) = true :=
  accepted_one (k := 0) (by decide +kernel) (by decide +kernel) channelStatus_zero

theorem test_DramTrain_accepted :
    Accepted cmdDramTrain (svc 64 ([])) (runningIn .standby) = true :=
  accepted_one (k := 0) (by decide +kernel) (by decide +kernel) channelStatus_zero

theorem test_DramRetrain_accepted :
    Accepted cmdDramRetrain (svc 64 ([])) (runningIn .configure) = true :=
  accepted_one (k := 0) (by decide +kernel) (by decide +kernel) channelStatus_zero

theorem test_DramErrorLog_accepted :
    Accepted cmdDramErrorLog (byRef 64 ([])) (runningIn .standby) = true :=
  accepted_one (k := 0) (by decide +kernel) (by decide +kernel) channelStatus_zero

theorem test_DramTest_accepted :
    Accepted cmdDramTest (svc 64 (le 1 0 ++ le 1 0 ++ le 2 1 ++ le 8 0)) (runningIn .standby) = true :=
  accepted_one (k := 0) (by decide +kernel) (by decide +kernel) channelStatus_zero

/-- A package with no station in use has nothing in its DRAM. -/
theorem dramUse_idle : dramUse (received (svc 0 (zeros 8)) (runningIn .standby)) = 0 := by decide +kernel

theorem test_CourierSet_accepted : Accepted cmdCourierSet (svc 0 (zeros 8)) (runningIn .standby) = true := by
  refine accepted_one (k := 0) (by decide +kernel) (by decide +kernel) ?_
  have hp : u64 (CommandDef.call cmdCourierSet (svc 0 (zeros 8))).p 0 = 0 := by decide +kernel
  have hu := dramUse_idle
  have hb : (List.range 64).any (fun k => ((received (svc 0 (zeros 8)) (runningIn .standby)).courier k).busy) = false := by decide +kernel
  have := dramCapacity_large
  generalize received (svc 0 (zeros 8)) (runningIn .standby) = u at *
  have e : ∀ c k (s : State), cmdCourierSet.check c k s = (let n := u64 c.p 0
    if n % 2 ^ 20 ≠ 0 || Config.dramCapacity / 2 < n then stOutOfRange
    else if (List.range 64).any (fun k => (s.courier k).busy) then stBusy
    else if Config.dramCapacity < dramUse s - s.host.userBytes + n then stNoSpace
    else stDone) := fun _ _ _ => rfl
  rw [e]
  dsimp only
  rw [hp, hb, if_neg (by simp), if_neg (by simp), if_neg (by omega)]

/-- With an image in slot 1 that authenticates. -/
theorem test_VaultFwActivate_accepted (h : Config.imageAuthentic [1] = true) :
    Accepted cmdVaultFwActivate (svc 0 (le 1 1 ++ zeros 3 ++ le 4 1)) (withImage (runningIn .maintain)) = true := by
  refine accepted_one (k := 0) (by decide +kernel) (by decide +kernel) ?_
  have e : ∀ c k s, cmdVaultFwActivate.check c k s = (let x := s.fwSlot (u8 c.p 0)
    if 1 < u8 c.p 0 || !zeroAt c.p 1 3 || u32 c.p 4 = 0 || 2 ^ 26 < u32 c.p 4 then stOutOfRange
    else if !s.vault.mounted then stBusy
    else if !slotComplete x (u32 c.p 4) then stConflict
    else if x.lost then stHwFault
    else if Config.imageAuthentic (Mem.readN x.image 0 (u32 c.p 4)) then stDone
    else stDenied) := fun _ _ _ => rfl
  have hi : Mem.readN (State.fwSlot (received (svc 0 (le 1 1 ++ zeros 3 ++ le 4 1)) (withImage (runningIn .maintain))) 1).image 0 1 = [1] := by
    decide +kernel
  rw [e, call_p _ _ _ (by decide)]
  dsimp only
  rw [show u8 (le 1 1 ++ zeros 3 ++ le 4 1) 0 = 1 by decide +kernel, show u32 (le 1 1 ++ zeros 3 ++ le 4 1) 4 = 1 by decide +kernel,
    if_neg (by decide +kernel), if_neg (by decide +kernel), if_neg (by decide +kernel), if_neg (by decide +kernel), hi, if_pos h]

/-- What SPECIMEN_STORE comes to with an empty specimen loaded. -/
theorem specimenStore_of {s : State}
    (h : vaultWriteStatus .specimen (storedImage {}).length s = stDone) (h1 : ((s.learn 0).storing.isSome) = false) (h2 : (s.learn 0).loaded = some
      {}) :
    cmdSpecimenStore.check (cmdSpecimenStore.call (svc 48 (le 8 7))) 0 s = stDone := by
  have e : ∀ c k (s : State), cmdSpecimenStore.check c k s = (let l := s.learn k
    if u64 c.p 0 = 0 then stOutOfRange
    else if l.storing.isSome then stBusy
    else match l.loaded with
      | none => stConflict
      | some sp => vaultWriteStatus .specimen (storedImage sp).length s) := fun _ _ _ => rfl
  rw [e, call_p _ _ _ (by decide)]
  dsimp only
  rw [if_neg (by decide +kernel), h1, h2, if_neg (by decide)]
  exact h

/-- With room in the library, whose size is fixed at manufacture. -/
theorem test_SpecimenStore_accepted
    (h : vaultWriteStatus .specimen (storedImage {}).length (received (svc 48 (le 8 7)) (withLoaded (runningIn .standby))) = stDone) :
    Accepted cmdSpecimenStore (svc 48 (le 8 7)) (withLoaded (runningIn .standby)) = true :=
  accepted_one (k := 0) (by decide +kernel) (by decide +kernel) (specimenStore_of h (by decide +kernel) (by decide +kernel))

/-- The CRC-32C of the image, in parts of 32 bytes. -/
theorem baseImage_crc : imgCrc baseImage = 0x917DD6B6 := by
  have hb : baseImage.take 60 ++ zeros 4 ++ baseImage.drop 64 = (le 2 1 ++ [1, 1] ++ le 2 64 ++ [1] ++ zeros 25) ++ zeros 32
      ++ zeros 32 ++ zeros 32 ++ zeros 32 ++ zeros 32 ++ zeros 32 ++ zeros 32 ++ zeros 32 ++ zeros 32 := by decide +kernel
  have h0 : (le 2 1 ++ [1, 1] ++ le 2 64 ++ [1] ++ zeros 25).foldl crcByte 0xFFFFFFFF#32 = 0x9089B315#32 := by decide +kernel
  have h1 : (zeros 32).foldl crcByte 0x9089B315#32 = 0xF47587E9#32 := by decide +kernel
  have h2 : (zeros 32).foldl crcByte 0xF47587E9#32 = 0xD76E26E0#32 := by decide +kernel
  have h3 : (zeros 32).foldl crcByte 0xD76E26E0#32 = 0x96EF17BE#32 := by decide +kernel
  have h4 : (zeros 32).foldl crcByte 0x96EF17BE#32 = 0x8248AFEF#32 := by decide +kernel
  have h5 : (zeros 32).foldl crcByte 0x8248AFEF#32 = 0x71B2A0F8#32 := by decide +kernel
  have h6 : (zeros 32).foldl crcByte 0x71B2A0F8#32 = 0xE83F9DBD#32 := by decide +kernel
  have h7 : (zeros 32).foldl crcByte 0xE83F9DBD#32 = 0xC437AFCE#32 := by decide +kernel
  have h8 : (zeros 32).foldl crcByte 0xC437AFCE#32 = 0xA95196D4#32 := by decide +kernel
  have h9 : (zeros 32).foldl crcByte 0xA95196D4#32 = 0x6E822949#32 := by decide +kernel
  rw [imgCrc, hb, crc32c]
  simp only [List.foldl_append] at h0 ⊢
  rw [h0, h1, h2, h3, h4, h5, h6, h7, h8, h9]
  rfl

theorem test_PhotoStoreBase_accepted : Accepted cmdPhotoStoreBase (svc 0 (baseImage)) (runningIn .configure) = true := by
  refine accepted_one (k := 0) (by decide +kernel) (by decide +kernel) ?_
  have hs : imgStatus baseImage 1 = stDone := by
    unfold imgStatus
    rw [baseImage_crc]
    decide +kernel
  have hc : (cmdPhotoStoreBase.call (svc 0 baseImage)).p = baseImage := call_p _ _ _ (by decide)
  generalize hcc : cmdPhotoStoreBase.call (svc 0 baseImage) = c at *
  unfold cmdPhotoStoreBase
  dsimp only
  rw [hc, hs]
  decide +kernel

theorem test_CompJob_accepted : Accepted cmdCompJob (svc 0 (le 1 0 ++ le 1 0 ++ le 1 1 ++ le 1 4 ++ le 1 1 ++ zeros 3 ++ le 8 0 ++ le 4 64 ++ le 4
      64 ++ le 8 4096 ++ le 8 0 ++ zeros 24)) (withRegion (runningIn .configure)) = true := by
  refine accepted_one (k := 0) (by decide +kernel) (by decide +kernel) ?_
  generalize hp : le 1 0 ++ le 1 0 ++ le 1 1 ++ le 1 4 ++ le 1 1 ++ zeros 3 ++ le 8 0 ++ le 4 64 ++ le 4 64 ++ le 8 4096 ++ le 8 0 ++ zeros 24 = p
  have cap : decide (Config.dramCapacity < jobSrc p + jobSrcBytes p) = false := by
    have h : jobSrc p + jobSrcBytes p = 64 := by rw [← hp]; decide +kernel
    have := dramCapacity_large
    rw [h, decide_eq_false_iff_not]; omega
  have hc : (cmdCompJob.call (svc 0 p)).p = p := call_p _ _ _ (by decide)
  generalize hcc : cmdCompJob.call (svc 0 p) = c at *
  unfold cmdCompJob
  dsimp only
  rw [hc, cap, ← hcc, ← hp]
  decide +kernel

/-- A member beside an active partner with equal settings. -/
def withJoin (s : State) : State :=
  let t := withStrap s
  { t with twin := { t.twin with up := true, helloSeen := true, partnerRole := .active, partnerDigest := configDigest t } }

theorem test_TwinJoin_accepted : Accepted cmdTwinJoin (svc 0 []) (withJoin (runningIn .configure)) = true := by
  refine accepted_one (k := 0) (by decide +kernel) (by decide +kernel) ?_
  generalize hu : received (svc 0 []) (withJoin (runningIn .configure)) = u
  have h1 : digestsEqual u = true := by
    rw [← hu]
    show decide (configDigest _ = configDigest _) = true
    exact decide_eq_true rfl
  have h2 : dramFits 0 u = true := by
    have h : dramUse u = 0 := by rw [← hu]; decide +kernel
    have := dramCapacity_large
    unfold dramFits
    rw [h]; simp
  unfold cmdTwinJoin
  dsimp only
  rw [h1, h2, ← hu]
  decide +kernel

/-- Every rule of zeros is in range. -/
theorem rule_of_zeros {r : Nat} (h : r < 64) : ruleOk (ruleAt (zeros 3072) r) = true := by
  have : ruleAt (zeros 3072) r = zeros 48 := by
    unfold ruleAt zeros
    rw [List.drop_replicate, List.take_replicate]
    congr 1; omega
  rw [this]; decide +kernel

theorem test_SegRules_accepted : Accepted cmdSegRules (svc 48 (zeros 3072)) (runningIn .standby) = true := by
  refine accepted_one (k := 0) (by decide +kernel) (by decide +kernel) ?_
  have e : ∀ c k s, cmdSegRules.check c k s =
    if (List.range 64).all (fun r => ruleOk (ruleAt c.p r)) then stDone else stOutOfRange := fun _ _ _ => rfl
  rw [e, call_p _ _ _ (by decide), if_pos]
  simp only [List.all_eq_true, List.mem_range]
  exact fun r h => rule_of_zeros h

/-- With a key hash in OTP and a response that the keys vouch for. -/
theorem test_KeyResponse_accepted (hk : Config.keySlots.val ≠ 0)
    (h : keyStatus (le 4 1 ++ zeros 204) (received (svc 0 (le 4 1 ++ zeros 204)) (withChallenge (runningIn .standby))) = stDone) :
    Accepted cmdKeyResponse (svc 0 (le 4 1 ++ zeros 204)) (withChallenge (runningIn .standby)) = true := by
  refine accepted_one (k := 0) (by decide +kernel) (by decide +kernel) ?_
  have e : ∀ c k s, cmdKeyResponse.check c k s = (if Config.keySlots.val = 0 then stDenied
    else if !zeroAt c.p 4 4 || !zeroAt c.p 105 7 then stOutOfRange else keyStatus c.p s) := fun _ _ _ => rfl
  rw [e, call_p _ _ _ (by decide), if_neg hk, if_neg (by decide +kernel)]
  exact h

theorem test_RegFieldRead_accepted : Accepted cmdRegFieldRead (byRef 48 (le 1 0 ++ le 1 0 ++ le 2 0 ++ le 2 1 ++ le 2 0)) (withField (runningIn
      .standby)) = true := by
  decide +kernel

/-- With an empty specimen in the library, as narrow as the station. -/
theorem test_SpecimenRecall_accepted : Accepted cmdSpecimenRecall (svc 48 (le 8 7)) (withStored (runningIn .standby)) = true := by
  refine accepted_one (k := 0) (by decide +kernel) (by decide +kernel) ?_
  generalize hu : received (svc 48 (le 8 7)) (withStored (runningIn .standby)) = u
  have hf : dramFits 0 (modLearn 0 (fun l => { l with recalling := some 7 }) u) = true := by
    have h : dramUse (modLearn 0 (fun l => { l with recalling := some 7 }) u) < 2 ^ 34 := by rw [← hu]; decide +kernel
    have := dramCapacity_large
    unfold dramFits
    rw [decide_eq_true_eq]; omega
  have hv : vaultFind .specimen 7 u = some { kind := .specimen, key := 7, spec := some { pitch := (u.grid 0).pitch } } := by
    rw [← hu]; decide +kernel
  have hq : ((u.learn 0).storing.isSome || (u.learn 0).recalling.isSome) = false ∧ vaultUser stDone u = stDone := by rw [← hu]; decide +kernel
  have hs : (u.station 0).width = 0 ∧ (u.station 0).mono = false := by rw [← hu]; decide +kernel
  have e : ∀ c k (s : State), cmdSpecimenRecall.check c k s = (let l := s.learn k
    if u64 c.p 0 = 0 then stOutOfRange
    else if l.storing.isSome || l.recalling.isSome then stBusy
    else if vaultUser stDone s ≠ stDone then vaultUser stDone s
    else match vaultFind .specimen (u64 c.p 0) s with
      | none => stAbsent
      | some o => match o.spec with
        | none => stAbsent
        | some sp =>
          if sp.width ≠ (s.station k).width || sp.pitch ≠ (s.grid k).pitch || sp.mono ≠ (s.station k).mono then stConflict
          else if !dramFits 0 (modLearn k (fun l => { l with recalling := some (u64 c.p 0) }) s) then stNoSpace
          else stDone) := fun _ _ _ => rfl
  rw [e, call_p _ _ _ (by decide), show u64 (le 8 7) 0 = 7 by decide +kernel]
  dsimp only
  rw [hv, hq.1, hq.2]
  dsimp only
  rw [hs.1, hs.2, hf]
  simp

end Sys2Proof.Machine
end

section
/-!
R17 and R88: no kind of package reset keeps an entry of the crossbar's route table, and an empty table routes port n to district n.
-/
namespace Sys2Proof.Machine

/-! ### The route table through a package reset -/

@[simp] theorem outside_routes (replay : Bool) (s : State) : (outside replay s).teller.routes = [] := rfl

@[simp] theorem keepSentry_routes (s t : State) : (keepSentry s t).teller.routes = t.teller.routes := rfl

@[simp] theorem keepLocked_teller (sleeps : Bool) (s t : State) : (keepLocked sleeps s t).teller = t.teller := rfl

@[simp] theorem keepPostcode_teller (s t : State) : (keepPostcode s t).teller = t.teller := rfl

/-- Each kind starts from `outside`, whose table is empty; what the kinds keep besides is no route. -/
theorem resetCore_routes (k : ResetKind) (cause rail : Nat) (s : State) : (resetCore k cause rail s).teller.routes = [] := by
  cases k <;> simp [resetCore]

/-- The last acts of a reset, on the sensor lanes and the rail enables, leave the teller alone. -/
theorem packageReset_routes (k : ResetKind) (cause rail : Nat) (s : State) : (packageReset k cause rail s).teller.routes = [] := by
  obtain ⟨l, m, b, f, h, -⟩ := packageReset_core k cause rail s
  rw [h]
  exact resetCore_routes k cause rail s

/-! ### What an empty route table means -/

theorem route_of_routes_nil {s : State} (h : s.teller.routes = []) (n : Nat) : s.route n = n := by
  simp [State.route, h, Tab.get]

/-- A district serves only a port that is routed to it. -/
theorem servedPort_eq_none_of_route_ne {d : Nat} {s : State} (h : ∀ n < 12, s.route n ≠ d) : servedPort d s = none := by
  rw [servedPort, List.find?_eq_none]
  intro n hn
  simp [h n (List.mem_range.mp hn)]

theorem servedPort_pool_of_routes_nil {s : State} (h : s.teller.routes = []) {d : Nat} (hd : 12 ≤ d) : servedPort d s = none := by
  refine servedPort_eq_none_of_route_ne fun n hn => ?_
  rw [route_of_routes_nil h]
  omega

/-- Settles O18: the route table is empty after every kind of package reset, as it is at reset. -/
theorem resetRestoresRoutes : Obligations.ResetRestoresRoutes := by
  have hreset : State.reset.teller.routes = [] := rfl
  refine ⟨fun k cause rail s => ?_, fun n _ => route_of_routes_nil hreset n, fun d => servedPort_pool_of_routes_nil hreset⟩
  have hafter := packageReset_routes k cause rail s
  exact ⟨fun n _ => route_of_routes_nil hafter n, fun d => servedPort_pool_of_routes_nil hafter⟩

end Sys2Proof.Machine
end

section
/-!
R36 and R53: what every packet comes to whose header's POSTCODE or whose tag is refused.
-/
namespace Sys2Proof.Machine

/-! ### The step of a packet's row -/

/-- A row that delivers a packet is the packet's command, whatever the row. -/
theorem exec_of_packetOf {i : Instr} {d : CommandDef} {a : Args} (h : packetOf i = some (d, a)) (s : State) :
    exec i s = answer s (runCommand d a s) := by
  cases i <;> cases h <;> rfl

/-- A packet that its source delivers arrives in the state it meets. -/
theorem runCommand_arrives {d : CommandDef} {a : Args} {s : State} (h : a.src = .service → serviceFree (s.begin a.t) = true) :
    runCommand d a s = arrive (some d) d.opcode a (received a s) := by
  unfold runCommand takePacket received
  by_cases hs : a.src = .service
  · simp [hs, h hs]
  · simp [hs]

/-- Where a packet's command comes to a refusal, the step of its row turns the packet away. -/
theorem exec_turnedAway {i : Instr} {d : CommandDef} {a : Args} {s : State} {st : Nat} (hi : packetOf i = some (d, a))
    (h : runCommand d a s = refuse d.opcode st a (received a s)) : exec i s = .next (s.turnedAway a d.opcode (received a s) st) := by
  rw [exec_of_packetOf hi, h]
  rfl

/-! ### A tag that is outstanding (R53) -/

/-- A started command with its source and its tag takes a packet's tag. -/
theorem tagTaken_of_started {a : Args} {s : State} (h : ∃ x ∈ s.sys.started, x.args.src = a.src ∧ x.args.tag = a.tag) :
    tagTaken a s = true := by
  obtain ⟨x, hx, hsrc, htag⟩ := h
  have hany : s.sys.started.any (fun x => x.args.src = a.src && x.args.tag = a.tag) = true :=
    List.any_eq_true.mpr ⟨x, hx, by simp [hsrc, htag]⟩
  simp only [tagTaken, hany, Bool.true_or]

/-- After class and block the packet's own checks look at the tag. -/
theorem packetStatus_tagTaken {d : CommandDef} {a : Args} {s : State} (hcls : a.cls = 0 → d.registered = true)
    (hblock : d.blockOk a = true) (htag : tagTaken a s = true) : packetStatus d a s = stConflict := by
  have hc : (decide (a.cls = 0) && !d.registered) = false := by simpa using hcls
  simp only [packetStatus, hc, hblock, htag, Bool.not_true, Bool.false_eq_true, if_false, if_true]

/-- So do a command's checks, after the Sentry subset. -/
theorem commandStatus_tagTaken {d : CommandDef} {a : Args} {s : State} (hsentry : s.mode = .sentry → d.sentry = true)
    (hcls : a.cls = 0 → d.registered = true) (hblock : d.blockOk a = true) (htag : tagTaken a s = true) :
    commandStatus d a s = stConflict := by
  have hm : (decide (s.mode = .sentry) && !d.sentry) = false := by simpa using hsentry
  have hc : (decide (a.cls = 0) && !d.registered) = false := by simpa using hcls
  simp only [commandStatus, hm, hc, hblock, htag, Bool.not_true, Bool.false_eq_true, if_false, if_true]

/-- A delivered packet whose tag is outstanding is refused, and its command's own early refusal does not act. -/
theorem startKnown_tagTaken {d : CommandDef} {a : Args} {s : State} {st : Nat} (h : Delivered d.opcode a s = true)
    (htag : tagTaken a (received a s) = true) (hc : commandStatus d a (received a s) = st) (hst : st ≠ stDone) :
    startKnown d a (received a s) = refuse d.opcode st a (received a s) := by
  unfold startKnown
  simp only [delivered_single h, Bool.false_and, Bool.false_eq_true, if_false, hc, ne_eq, hst, not_false_eq_true, if_true, htag,
    Bool.or_true]

/-- Settles O9: the tag's check is the first that fails, so the packet waits for no block and is refused; a refusal leaves the started
commands alone. -/
theorem outstandingTagConflicts : Obligations.OutstandingTagConflicts := by
  intro i d a s hi hdel hsentry hcls hblock hout
  have hstarted : (received a s).sys.started = s.sys.started := (sameWork_received a s).started
  have htag : tagTaken a (received a s) = true := tagTaken_of_started (by rwa [hstarted])
  have hfails : stConflict ≠ stDone := by decide
  have hwait : mustWait (some d) a (received a s) = false :=
    mustWait_refused (by rw [packetStatus_tagTaken hcls hblock htag]; exact hfails)
  refine ⟨exec_turnedAway hi ?_, ?_⟩
  · rw [runCommand_delivered hdel hwait, startKnown_tagTaken hdel htag (commandStatus_tagTaken hsentry hcls hblock htag) hfails]
  · exact (sameWork_sendReply ..).started.trans hstarted

/-! ### The postcode (R36) -/

/-- What is left of the header's checks when all but those on POSTCODE pass. -/
theorem headerStatus_of_rest {a : Args} {s : State} (h : headerStatus { a with postcode := 0xFE } s = stDone) :
    headerStatus a s =
      if 16 ≤ a.postcode ∧ a.postcode < 0xFE then stOutOfRange
      else if a.postcode ≠ 0xFE ∧ (s.chain.enumerated = false ∨ a.postcode ≠ 0xFF ∧ s.chain.size ≤ a.postcode) then stAbsent
      else stDone := by
  have hlen : stBadLength ≠ stDone := by decide
  have hrange : stOutOfRange ≠ stDone := by decide
  unfold headerStatus at h ⊢
  have href : ({ a with postcode := 0xFE } : Args).byRef = a.byRef := rfl
  simp only [ite_eq_iff, hlen, hrange, href, and_false, false_or] at h
  obtain ⟨hform, hrelayed, hcls, -, hservice, hbuffer, hinline, -⟩ := h
  simp only [hform, hrelayed, hcls, hservice, hbuffer, hinline, if_false, Bool.and_eq_true, Bool.or_eq_true, decide_eq_true_eq,
    Bool.not_eq_true', Bool.false_eq_true]

/-- A packet that its header's checks refuse waits for no block. -/
theorem mustWait_header {d : CommandDef} {a : Args} {s : State} (h : headerStatus a s ≠ stDone) : mustWait (some d) a s = false := by
  simp [mustWait, h]

/-- A packet that may start, does not reach this package and fails its header's checks gets their status and has no other effect. -/
theorem runCommand_headerRefused {d : CommandDef} {a : Args} {s : State} {st : Nat}
    (hsrc : a.src = .service → serviceFree (s.begin a.t) = true) (hstart : mayStart d.opcode a (received a s) = true)
    (hst : headerStatus a (received a s) = st) (hbad : st ≠ stDone) (hfar : reaches a (received a s) = false) :
    runCommand d a s = refuse d.opcode st a (received a s) := by
  have hwait : mustWait (some d) a (received a s) = false := mustWait_header (by rwa [hst])
  rw [runCommand_arrives hsrc, arrive, hstart, hwait]
  simp only [startPacket, hst, hfar, hbad, ne_eq, not_false_eq_true, Bool.not_false, Bool.and_self, Bool.or_true, if_true]

/-- No packet reaches a package by a postcode above the chain's last, nor before enumeration by any but 0xFE. -/
theorem reaches_eq_false {a : Args} {s : State} (h : a.postcode ≠ 0xFE)
    (hfar : s.chain.enumerated = false ∨ a.postcode ≠ 0xFF ∧ (16 ≤ a.postcode ∨ s.chain.size ≤ a.postcode)) : reaches a s = false := by
  unfold reaches
  rcases hfar with hnone | ⟨hall, hfar⟩
  · simp [h, hnone]
  · have hsmall : ¬ a.postcode < min 16 s.chain.size := by omega
    simp [h, hall, hsmall]

/-- Settles O10: with the header otherwise in order POSTCODE alone decides the status, and a packet refused for it does not reach this
package, so that its command does not act. A selector from 16 to 0xFD is OUT_OF_RANGE before enumeration too, by the order of the checks
(assumption 75). -/
theorem postcodeIsChecked : Obligations.PostcodeIsChecked := by
  intro i d a s hi hsrc hstart hrest
  have hstatus := headerStatus_of_rest hrest
  have refused : ∀ st, headerStatus a (received a s) = st → st ≠ stDone → reaches a (received a s) = false →
      exec i s = .next (s.turnedAway a d.opcode (received a s) st) := fun st hst hbad hfar =>
    exec_turnedAway hi (runCommand_headerRefused hsrc hstart hst hbad hfar)
  refine ⟨fun hlow hhigh => ?_, fun hlow hsize => ?_, fun hnone hpost => ?_, fun hown => ?_⟩
  · refine refused _ (hstatus.trans (if_pos ?_)) (by decide) (reaches_eq_false ?_ (.inr ?_)) <;> omega
  · refine refused _ (hstatus.trans ((if_neg ?_).trans (if_pos ⟨?_, .inr ⟨?_, hsize⟩⟩))) (by decide)
      (reaches_eq_false ?_ (.inr ⟨?_, .inr hsize⟩)) <;> omega
  · refine refused _ (hstatus.trans ((if_neg ?_).trans (if_pos ⟨?_, .inl hnone⟩))) (by decide) (reaches_eq_false ?_ (.inl hnone)) <;> omega
  · rw [hstatus, if_neg (by omega), if_neg (by simp [hown])]

end Sys2Proof.Machine
end

section
/-!
R67: what a doorbell does before firmware runs.
-/
namespace Sys2Proof.Machine

/-- As a step begins and the host writes its memory, the mailboxes stand as they were. -/
theorem hostWrites_begin_host (ws : List HostWrite) (t : Nat) (s : State) : (hostWrites ws (s.begin t)).host = s.host := by
  obtain ⟨m, hw⟩ := hostWrites_eq ws (s.begin t)
  obtain ⟨c, f, hb⟩ := begin_eq t s
  rw [hw, hb]

/-- So do the commands and the state of the firmware. -/
theorem hostWrites_begin_sys (ws : List HostWrite) (t : Nat) (s : State) : (hostWrites ws (s.begin t)).sys = s.sys := by
  obtain ⟨m, hw⟩ := hostWrites_eq ws (s.begin t)
  obtain ⟨c, f, hb⟩ := begin_eq t s
  rw [hw, hb]

@[simp] theorem raiseIf_host (c : Bool) (src : Nat) (s : State) : (raiseIf c src s).host = s.host := by
  cases c <;> rfl

@[simp] theorem raiseIf_sys (c : Bool) (src : Nat) (s : State) : (raiseIf c src s).sys = s.sys := by
  cases c <;> rfl

/-- BAD_DOORBELL is marked in the mailbox; its indices and all else of it stay (R421). -/
theorem badDoorbell_box (m : Nat) (s : State) : (badDoorbell m s).box m = { s.box m with badDoorbell := true } := by
  simp only [badDoorbell, State.box, raiseIf_host]
  exact box_setBox m _ s

@[simp] theorem badDoorbell_sys (m : Nat) (s : State) : (badDoorbell m s).sys = s.sys := by
  simp [badDoorbell, modHost]

/-- A doorbell that its function rings before firmware runs is a bad one. -/
theorem doorbell_beforeFirmware {fn m : Nat} {s : State} (v : Nat) (hown : (s.box m).owner = fn) (hfw : s.sys.fwRunning = false) :
    doorbell fn m v s = badDoorbell m s := by
  simp [doorbell, boxAnswers, hown, hfw]

/-- Settles O12: the doorbell is a bad one, which marks the mailbox and leaves its indices and every command alone. -/
theorem doorbellBeforeFirmwareIsDiscarded : Obligations.DoorbellBeforeFirmwareIsDiscarded := by
  intro t f m index host s _ hfw hown
  have hhost := hostWrites_begin_host host t s
  have hsys := hostWrites_begin_sys host t s
  have hbox : (hostWrites host (s.begin t)).box m.val = s.box m.val := by simp only [State.box, hhost]
  have hbad := doorbell_beforeFirmware index.toNat (hbox ▸ hown) (hsys ▸ hfw)
  refine ⟨_, congrArg (answer s) hbad, ?_⟩
  simp [badDoorbell_box, hbox, hsys]

end Sys2Proof.Machine
end

section
/-!
R86: what the firmware's watchdog does while firmware runs.
-/
namespace Sys2Proof.Machine

theorem watchdogWarn_running {s : State} (h : s.sys.fwRunning = true) :
    watchdogWarn s = raise 6 (journal 0x0104 0 0 [] (modModes (fun m => { m with watchdogWarned := true }) s)) := if_pos h

theorem watchdogExpiry_running {s : State} (h : s.sys.fwRunning = true) :
    watchdogExpiry s = packageReset .soft 0x01 0xFF (modModes (fun m => { m with outputs := m.faultSafe.setWidth 7 }) s) := if_pos h

/-- Settles O13: firmware still runs as the step begins, so the warning and the expiry each have their whole effect. DOMAIN 0 of the warning's journal
entry is the model's choice; R86 names none. -/
theorem watchdogWarnsThenResets : Obligations.WatchdogWarnsThenResets := by
  have hbegin : ∀ (t : Nat) (s : State), s.sys.fwRunning = true → (s.begin t).sys.fwRunning = true :=
    fun t s h => (sameWork_begin t s).running.trans h
  exact ⟨fun t s h => congrArg (answer s) (watchdogWarn_running (hbegin t s h)),
    fun t s h => congrArg (answer s) (watchdogExpiry_running (hbegin t s h))⟩

end Sys2Proof.Machine
end

section
/-!
R90 and R93: which readings of a rail act in SENTRY.
-/
namespace Sys2Proof.Machine

/-! ### Rails that are not watched -/

/-- In SENTRY VDD_SENTRY, rail 3, is the one rail watched. -/
theorem railWatched_sentry {r : Nat} {s : State} (hm : s.mode = .sentry) : railWatched r s = decide (r = 3) := by
  simp [railWatched, hm]

theorem railBelowReset_unwatched {r : Nat} {s : State} (h : railWatched r s = false) (mv ns : Nat) : railBelowReset r mv ns s = s := by
  simp [railBelowReset, h]

theorem railWarn_unwatched {r : Nat} {s : State} (h : railWatched r s = false) (mv ns : Nat) : railWarn r mv ns s = s := by
  simp [railWarn, h]

theorem railRecovered_sentry {r : Nat} {s : State} (hm : s.mode = .sentry) (hr : r ≠ 3) (mv lowest : Nat) :
    railRecovered r mv lowest s = s := by
  simp [railRecovered, hm, hr]

/-! ### VDD_SENTRY -/

/-- VDD_SENTRY is watched in every mode: 500 ns below 88 % of its voltage are a POR with RAIL 3. -/
theorem railBelowReset_vddSentry {mv ns : Nat} {s : State} (hns : 500 ≤ ns) (hmv : 1000 * mv < 880 * railNominal 3 s.modes) :
    railBelowReset 3 mv ns s = packageReset .por 1 3 s := by
  have hwatched : railWatched 3 s = true := rfl
  have hunder : railUnder 3 mv 880 s = true := decide_eq_true hmv
  simp [railBelowReset, hwatched, hunder, Nat.not_lt.mpr hns]

/-- Settles O14: the beginning of a step keeps the mode, in which no rail but VDD_SENTRY is watched; that rail's reading meets its level and
its time. -/
theorem sentryWatchesOneRail : Obligations.SentryWatchesOneRail := by
  have hbegin : ∀ (t : Nat) (s : State), (s.begin t).modes = s.modes := fun t s => (sameWork_begin t s).modes
  refine ⟨fun t r mv ns s hm hr => ?_, fun t mv ns s _ hns hmv => ?_⟩
  · have hmode : (s.begin t).mode = .sentry := (congrArg Modes.mode (hbegin t s)).trans hm
    have hun : railWatched r.val (s.begin t) = false := by rw [railWatched_sentry hmode, decide_eq_false hr]
    exact ⟨congrArg (answer s) (railBelowReset_unwatched hun mv ns), congrArg (answer s) (railWarn_unwatched hun mv ns),
      congrArg (answer s) (railRecovered_sentry hmode hr mv ns)⟩
  · exact congrArg (answer s) (railBelowReset_vddSentry hns (by rwa [hbegin]))

end Sys2Proof.Machine
end

section
/-!
R110: which CAPS pair, and what one that does not pair does to a lane that waits for it in CAPS.
-/
namespace Sys2Proof.Machine

/-! ### The LAYER a group asks of its partner -/

/-- A sensor port pairs with an ASL camera, LAYER 1 (R100); a chain's upstream end, LAYER 3, with a downstream end, LAYER 4, and the other way
round (R482); a twin with a twin. -/
theorem layersOf_partner (g : Nat) : (layersOf g).2 = if g < 12 then 1 else if g = 12 then 4 else if g = 13 then 3 else 5 := by
  simp only [layersOf, apply_ite Prod.snd]

theorem capsCompatible_iff (g : Nat) (caps : List Byte) :
    capsCompatible g caps = true ↔ u8 caps 0 = (layersOf g).2 ∧ u8 caps 1 = 1 ∧ u8 caps 3 = (lanesOf g).length := by
  simp [capsCompatible, and_assoc]

/-! ### The lane of a mismatch -/

/-- As a step begins, the lanes stand as they were. -/
theorem begin_lane (t : Nat) (s : State) (l : Nat) : (s.begin t).lane l = s.lane l := by
  obtain ⟨c, f, hb⟩ := begin_eq t s
  rw [hb]
  rfl

@[simp] theorem raiseIf_lane (c : Bool) (src : Nat) (s : State) (l : Nat) : (raiseIf c src s).lane l = s.lane l := by
  cases c <;> rfl

/-- The causes set join those that the lane has; nothing else of it changes (R118). -/
theorem setCause_lane (l : Nat) (b : BitVec 9) (s : State) : (setCause l b s).lane l = { s.lane l with cause := (s.lane l).cause ||| b } := by
  simp [setCause]

/-- BACKOFF asks a lane to send nothing (R105). -/
theorem sendDue_backoff {l : Nat} {s : State} (h : (s.lane l).state = .backoff) : sendDue l s = s := by
  simp [sendDue, h]

theorem enterLane_backoff_state (l : Nat) (f : Lane → Lane) (s : State) : ((enterLane l .backoff f s).lane l).state = .backoff := by
  rw [enterLane, sendDue_backoff] <;> simp

/-- In CAPS a partner's CAPS that does not pair sets TRAIN_FAILED and CAPS_MISMATCH, bits 4 and 8, as the lane enters BACKOFF (R105, R117). -/
theorem laneCaps_mismatch {l : Nat} {caps : List Byte} {s : State} (hstate : (s.lane l).state = .caps)
    (hcaps : capsCompatible (groupOf l) caps = false) : laneCaps l caps s = setCause l 0x110 (enterLane l .backoff Lane.fresh s) := by
  simp [laneCaps, hstate, hcaps]

/-- Settles O15: the compatible LAYER values are those that R100 and R482 give each group's partner, and a lane that was in CAPS when the step
began is in BACKOFF, as R105's table has it, with CAPS_MISMATCH among its causes. -/
theorem capsMustPair : Obligations.CapsMustPair := by
  refine ⟨fun g caps => ?_, fun t l caps s hstate hcaps => ?_⟩
  · rw [capsCompatible_iff, layersOf_partner]
  · have hbegin : ((s.begin t).lane l.val).state = .caps := by rwa [begin_lane]
    refine ⟨_, congrArg (answer s) (laneCaps_mismatch hbegin hcaps), ?_, ?_⟩
    · simp [setCause_lane]
    · rw [setCause_lane]
      exact enterLane_backoff_state ..

end Sys2Proof.Machine
end

section
/-!
R164, R165, R168 and R171: what an edge of a quadrature channel and of its Z input does to the channel's count.
-/
namespace Sys2Proof.Machine

/-! ### Positions modulo 2^48 -/

/-- A count that is wrapped as it moves ends where one wrapped only at the end does (R168). -/
theorem pos48_add_pos48 (x d : Int) : pos48 (pos48 x + d) = pos48 (x + d) := by
  obtain ⟨k, hx, -, -⟩ := toInt48 x
  have hwrapped : pos48 x = x + k * 281474976710656 := hx
  have hsame : (x + k * 281474976710656 + d) % ((2 ^ 48 : Nat) : Int) = (x + d) % ((2 ^ 48 : Nat) : Int) := by
    norm_num
    omega
  rw [hwrapped, pos48, wrapInt, hsame]
  rfl

/-! ### What leaves every channel as it is -/

theorem SameCounts.encoder {s t : State} (h : SameCounts s t) (q : Nat) : t.encoder q = s.encoder q := by
  rw [State.encoder, h.1]
  rfl

/-- The filter's time is the channel's MIN_EDGE_NS and a matter of the mode (R165). -/
theorem filterNs_of_modes {s t : State} (h : t.modes = s.modes) (e : Encoder) : filterNs e t = filterNs e s := by
  have hmode : t.mode = s.mode := congrArg Modes.mode h
  simp only [filterNs, hmode]

theorem begin_counts (t : Nat) (s : State) : SameCounts s (s.begin t) := by
  obtain ⟨c, f, hb⟩ := begin_eq t s
  rw [hb]
  exact ⟨rfl, rfl⟩

theorem begin_encoder (t : Nat) (s : State) (q : Nat) : (s.begin t).encoder q = s.encoder q := (begin_counts t s).encoder q

theorem filterNs_begin (e : Encoder) (t : Nat) (s : State) : filterNs e (s.begin t) = filterNs e s :=
  filterNs_of_modes (begin_counts t s).2 e

theorem raiseIf_counts (c : Bool) (src : Nat) (s : State) : SameCounts s (raiseIf c src s) := by
  cases c <;> exact ⟨rfl, rfl⟩

theorem channelEvent_counts (src : Nat) (s : State) : SameCounts s (channelEvent src s) := by
  unfold channelEvent
  split <;> exact ⟨rfl, rfl⟩

/-! ### A count that moves -/

/-- The channel follows its new count; judging the units and DIRECTION_REVERSED leave it so. -/
theorem moveCount_encoder (q : Nat) (d : Int) (s : State) :
    (moveCount q d s).encoder q = ((s.encoder q).follow (pos48 ((s.encoder q).count + d))).1 := by
  unfold moveCount
  rw [(judgeCompares_counts ..).encoder]
  split
  · rw [(channelEvent_counts ..).encoder, encoder_setEncoder]
  · rw [encoder_setEncoder]

theorem moveCount_modes (q : Nat) (d : Int) (s : State) : (moveCount q d s).modes = s.modes := by
  unfold moveCount
  rw [(judgeCompares_counts ..).2]
  split
  · exact (channelEvent_counts ..).2
  · rfl

@[simp] theorem follow_count (e : Encoder) (c : Int) : (e.follow c).1.count = c := rfl
@[simp] theorem follow_enable (e : Encoder) (c : Int) : (e.follow c).1.enable = e.enable := rfl
@[simp] theorem follow_dirInvert (e : Encoder) (c : Int) : (e.follow c).1.dirInvert = e.dirInvert := rfl
@[simp] theorem follow_minEdge (e : Encoder) (c : Int) : (e.follow c).1.minEdge = e.minEdge := rfl

theorem moveCount_count (q : Nat) (d : Int) (s : State) :
    ((moveCount q d s).encoder q).count = pos48 ((s.encoder q).count + d) := by
  rw [moveCount_encoder, follow_count]

/-! ### Edges of A and B -/

/-- Channel q takes a level that is held so long: it is enabled, and its filter asks for no more. -/
def AcceptsEdge (q held : Nat) (s : State) : Prop := (s.encoder q).enable = true ∧ filterNs (s.encoder q) s ≤ held

/-- The beginning of a step changes neither. -/
theorem AcceptsEdge.begin {q held : Nat} {s : State} (h : AcceptsEdge q held s) (t : Nat) : AcceptsEdge q held (s.begin t) := by
  rwa [AcceptsEdge, begin_encoder, filterNs_begin]

/-- Nor does a move of the count. -/
theorem AcceptsEdge.moveCount {q held : Nat} {s : State} (h : AcceptsEdge q held s) (d : Int) :
    AcceptsEdge q held (moveCount q d s) := by
  rw [AcceptsEdge, moveCount_encoder, filterNs_of_modes (moveCount_modes q d s)]
  exact h

/-- An accepted edge that follows A-leads-B is a move by one, down where DIR_INVERT is set (R164). -/
theorem encoderEdge_aLeads {q held : Nat} {s : State} (h : AcceptsEdge q held s) :
    encoderEdge q .aLeads held s = moveCount q (if (s.encoder q).dirInvert then -1 else 1) s := by
  obtain ⟨henable, hfilter⟩ := h
  unfold encoderEdge
  simp [henable, Nat.not_lt.mpr hfilter]

/-- The opposite edge moves the other way. -/
theorem encoderEdge_bLeads {q held : Nat} {s : State} (h : AcceptsEdge q held s) :
    encoderEdge q .bLeads held s = moveCount q (if (s.encoder q).dirInvert then 1 else -1) s := by
  obtain ⟨henable, hfilter⟩ := h
  unfold encoderEdge
  simp [henable, Nat.not_lt.mpr hfilter]

/-- n + 1 accepted edges in the sense A leads B move the count by n + 1, wrapped once. -/
theorem encoderEdge_iterate_count {q held : Nat} (n : Nat) {s : State} (h : AcceptsEdge q held s) :
    (((encoderEdge q .aLeads held)^[n + 1] s).encoder q).count =
      pos48 ((s.encoder q).count + (n + 1) * if (s.encoder q).dirInvert then -1 else 1) := by
  induction n generalizing s with
  | zero => simp [encoderEdge_aLeads h, moveCount_count]
  | succ n ih =>
    rw [Function.iterate_succ_apply, encoderEdge_aLeads h, ih (h.moveCount _), moveCount_encoder, follow_count, follow_dirInvert,
      pos48_add_pos48]
    congr 1
    push_cast
    ring

/-! ### Pulses too short for the filter -/

theorem encoderEdge_aLeads_short {q held : Nat} {s : State} (henable : (s.encoder q).enable = true)
    (hshort : held < filterNs (s.encoder q) s) : encoderEdge q .aLeads held s = edgeFault q s := by
  unfold encoderEdge
  simp [henable, hshort]

/-- A short pulse is counted in EDGE_FAULTS; the rest of the channel but the time of the event stays. -/
theorem edgeFault_encoder (q : Nat) (s : State) :
    ∃ shown, (edgeFault q s).encoder q =
      { s.encoder q with edgeFaults := sat 32 ((s.encoder q).edgeFaults + 1), edgeFaultAt := shown } := by
  unfold edgeFault
  rw [(raiseIf_counts ..).encoder, encoder_setEncoder]
  exact ⟨_, rfl⟩

/-! ### Edges of Z -/

theorem indexEdge_unchecked {q held : Nat} {s : State} (hfilter : filterNs (s.encoder q) s ≤ held)
    (hcheck : (s.encoder q).indexCheck = false) : indexEdge q held s = s := by
  simp [indexEdge, Nat.not_lt.mpr hfilter, hcheck]

/-- The event of a flag waits in `missed` in SENTRY; it moves no count. -/
theorem flagEvent_count (q src : Nat) (s : State) : ((flagEvent q src s).encoder q).count = (s.encoder q).count := by
  unfold flagEvent
  split
  · rw [modEncoder_eq, encoder_setEncoder]
  · rfl

/-- Without REZERO_AT_Z an index that is off its place shifts nothing: the count stays, at most wrapped anew (R172). -/
theorem indexEdge_count {q held : Nat} {s : State} (hrezero : (s.encoder q).rezero = false) :
    pos48 ((indexEdge q held s).encoder q).count = pos48 (s.encoder q).count := by
  unfold indexEdge
  simp only [hrezero, Bool.and_false, Bool.false_eq_true, if_false, sub_zero, if_true]
  split
  · rfl
  split
  · obtain ⟨shown, hfault⟩ := edgeFault_encoder q s
    rw [hfault]
  split
  · rfl
  split
  · rw [encoder_setEncoder]
  split
  · rw [flagEvent_count, encoder_setEncoder]
    exact pos48_idem _
  · rw [encoder_setEncoder]
    exact pos48_idem _

/-- Settles O16: an accepted edge is a move of the count by one in its sense, and four of them add up before they wrap (R168); a short one
reaches EDGE_FAULTS alone; a Z edge writes the count only to wrap it, as long as R172's step is not asked for. -/
theorem quadratureEdgesCount : Obligations.QuadratureEdgesCount := by
  refine ⟨fun t held q s henable hfilter => ?_, fun t held q s henable hshort => ?_, fun t held q s hfilter hcheck => ?_,
    fun t held q s hrezero => ⟨rfl, ?_⟩⟩
  · have haccepts : AcceptsEdge q.val held (s.begin t) := AcceptsEdge.begin ⟨henable, hfilter⟩ t
    refine ⟨rfl, rfl, ?_, ?_, ?_⟩
    · rw [encoderEdge_aLeads haccepts, moveCount_count, begin_encoder]
    · rw [encoderEdge_bLeads haccepts, moveCount_count, begin_encoder]
    · refine (encoderEdge_iterate_count 3 haccepts).trans ?_
      rw [begin_encoder]
      cases (s.encoder q.val).dirInvert <;> norm_num
  · obtain ⟨shown, hfault⟩ := edgeFault_encoder q.val (s.begin t)
    refine ⟨rfl, ?_⟩
    rw [encoderEdge_aLeads_short, hfault, begin_encoder]
    · exact ⟨rfl, rfl⟩
    · rwa [begin_encoder]
    · rwa [begin_encoder, filterNs_begin]
  · refine congrArg (fun u => answer s (moved u)) (indexEdge_unchecked ?_ ?_)
    · rwa [begin_encoder, filterNs_begin]
    · rwa [begin_encoder]
  · rw [indexEdge_count, begin_encoder]
    rwa [begin_encoder]

end Sys2Proof.Machine
end

section
/-!
The operations that R463 to R477 rest on, as far as the journal is concerned: an entry that arises, the buckets, what other work leaves alone.
-/
namespace Sys2Proof.Machine

@[simp] theorem raiseIf_journal (c : Bool) (src : Nat) (s : State) : (raiseIf c src s).journal = s.journal := by
  cases c <;> rfl

/-- Sectors of the spill area are taken and freed in the vault; the entries stay. -/
@[simp] theorem fitSpill_journal (s : State) : (fitSpill s).journal = s.journal := by
  obtain ⟨v, r, h⟩ := onlyVault_fitSpill s
  rw [h]

/-- An entry that arises is the last of those that have arisen in the step, and changes nothing else of the journal. -/
theorem journal_journal (code block domain : Nat) (data : List Byte) (s : State) : ∃ e : JEntry, e.code = code ∧
    (journal code block domain data s).journal = { s.journal with arising := s.journal.arising ++ [e] } :=
  ⟨_, rfl, rfl⟩

@[simp] theorem Journal.bucket_setBucket (j : Journal) (code : Nat) (b : Bucket) : (j.setBucket code b).bucket code = b := by
  simp [Journal.bucket, Journal.setBucket]

end Sys2Proof.Machine
end

section
/-!
R477: the journal through each kind of package reset, and the first entry of the firmware that boots after a POR or a pin reset.
-/
namespace Sys2Proof.Machine

/-! ### The journal through a package reset -/

/-- The last acts of a reset, on the sensor lanes and the rail enables, leave the journal alone. -/
theorem packageReset_journal (k : ResetKind) (cause rail : Nat) (s : State) :
    (packageReset k cause rail s).journal = (resetCore k cause rail s).journal := by
  obtain ⟨l, m, b, f, h, -⟩ := packageReset_core k cause rail s
  rw [h]

/-- A POR and a pin reset start from the journal's reset state. -/
theorem packageReset_journal_cold {k : ResetKind} (hk : k = .por ∨ k = .pin) (cause rail : Nat) (s : State) :
    (packageReset k cause rail s).journal = {} := by
  rw [packageReset_journal]
  rcases hk with rfl | rfl <;> rfl

/-- Hub SRAM keeps its contents through a chain reset and a soft reset. -/
theorem packageReset_journal_warm {k : ResetKind} (hk : k = .chain ∨ k = .soft) (cause rail : Nat) (s : State) :
    (packageReset k cause rail s).journal = s.journal := by
  rw [packageReset_journal]
  rcases hk with rfl | rfl <;> rfl

/-- LAST_RESET carries the kind in its low byte (R78). -/
theorem packageReset_lastReset (k : ResetKind) (cause rail : Nat) (s : State) :
    (packageReset k cause rail s).modes.lastReset = k.code + 256 * cause := by
  obtain ⟨l, m, b, f, h, -, -, hlast⟩ := packageReset_core k cause rail s
  rw [h]
  exact hlast

/-! ### The boot after a POR or a pin reset -/

/-- The role that a twin member has lost makes an entry behind those that stand, or none. -/
theorem recordEndedRole_arising (s : State) : ∃ es, (recordEndedRole s).journal.arising = s.journal.arising ++ es := by
  unfold recordEndedRole
  split
  · exact ⟨[], (List.append_nil _).symm⟩
  · exact ⟨_, rfl⟩

/-- The boot after a POR or a pin reset, as far as the journal goes: JOURNAL_STARTED arises, and then the end of a twin member's role. -/
theorem bootReset_cold {s : State} (hcold : s.modes.lastReset % 256 ≤ 2) : ∃ u : State,
    u.journal = (journal 0x0001 0 0 (le 2 s.modes.lastReset ++ le 1 s.modes.resetRail) s).journal ∧
    bootReset s = raise 2 (recordEndedRole u) := by
  simp only [bootReset, hcold, if_true]
  refine ⟨_, ?_, rfl⟩
  split
  · split <;> rfl
  · rfl

/-- JOURNAL_STARTED is the first entry of that boot; what the boot records besides stands behind it. -/
theorem bootReset_arising {s : State} (hcold : s.modes.lastReset % 256 ≤ 2) : ∃ (e : JEntry) (es : List JEntry), e.code = 0x0001 ∧
    (bootReset s).journal.arising = s.journal.arising ++ e :: es := by
  obtain ⟨u, hu, hboot⟩ := bootReset_cold hcold
  obtain ⟨e, hcode, he⟩ := journal_journal 0x0001 0 0 (le 2 s.modes.lastReset ++ le 1 s.modes.resetRail) s
  obtain ⟨es, hes⟩ := recordEndedRole_arising u
  exact ⟨e, es, hcode, by rw [hboot, raise_journal, hes, hu, he, List.append_assoc, List.singleton_append]⟩

/-- Settles O19: a warm reset keeps the whole journal; a cold one leaves its reset state, behind which JOURNAL_STARTED is the first to arise,
since LAST_RESET names the kind. -/
theorem journalSurvivesWarmResets : Obligations.JournalSurvivesWarmResets := by
  refine ⟨fun cause rail s => ⟨packageReset_journal_warm (.inl rfl) .., packageReset_journal_warm (.inr rfl) ..⟩,
    fun k cause rail s hk => ?_⟩
  have hempty := packageReset_journal_cold hk cause rail s
  have hcold : (packageReset k cause rail s).modes.lastReset % 256 ≤ 2 := by
    rw [packageReset_lastReset, Nat.add_mul_mod_self_left]
    rcases hk with rfl | rfl <;> decide
  obtain ⟨e, es, hcode, harising⟩ := bootReset_arising hcold
  rw [hempty] at harising ⊢
  exact ⟨rfl, rfl, rfl, by rw [harising]; exact congrArg some hcode⟩

end Sys2Proof.Machine
end

section
/-!
R469: what an entry of a limited code comes to when its bucket is empty.
-/
namespace Sys2Proof.Machine

/-- Out of SENTRY an entry of a limited code whose bucket gives no token is suppressed, with the bucket brought up to date. -/
theorem recordEntry_emptyBucket {e : JEntry} {s : State} (hmode : s.mode ≠ .sentry) (hlimited : limitedCode e.code = true)
    (hempty : ((s.journal.bucket e.code).take s.now).1 = false) :
    recordEntry s e = suppressEntry e ((s.journal.bucket e.code).take s.now).2 s := by
  simp [recordEntry, hmode, hlimited, hempty]

/-- The note of a suppressed entry in its code's bucket: its count, and the times of the first and the last. -/
def Bucket.noted (b : Bucket) (time : Nat) : Bucket :=
  { b with supCount := sat 32 (b.supCount + 1), supFirst := if b.supCount = 0 then time else b.supFirst, supLast := time }

/-- A suppressed entry reaches its code's note, SUPPRESSED_TOTAL and the time of the last JOURNAL_SUPPRESSED event, nothing else. -/
theorem suppressEntry_journal (e : JEntry) (b : Bucket) (s : State) : (suppressEntry e b s).journal =
    { s.journal.setBucket e.code (b.noted e.time) with
      suppressedTotal := sat 32 (s.journal.suppressedTotal + 1)
      suppressedAt := if elapsed 1000000 s.journal.suppressedAt s.now then some s.now else s.journal.suppressedAt } :=
  raiseIf_journal ..

/-- The note is what the code's bucket reads afterwards. -/
theorem suppressEntry_bucket (e : JEntry) (b : Bucket) (s : State) :
    (suppressEntry e b s).journal.bucket e.code = b.noted e.time := by
  rw [suppressEntry_journal]
  exact Journal.bucket_setBucket ..

/-- Settles O21: the entry is suppressed, which writes its code's note and SUPPRESSED_TOTAL and neither SRAM nor the spill area. -/
theorem emptyBucketSuppresses : Obligations.EmptyBucketSuppresses := by
  intro e s hmode hlimited hempty b t
  have ht : t = suppressEntry e b s := recordEntry_emptyBucket hmode hlimited hempty
  rw [ht, suppressEntry_bucket, suppressEntry_journal]
  exact ⟨rfl, rfl, rfl, rfl, rfl, rfl⟩

end Sys2Proof.Machine
end

section
/-!
R472: the policy at reset, and what a policy change discards, keeps and records.
-/
namespace Sys2Proof.Machine

/-- What a policy change leaves of the journal before its own entry arises: no entry is held, and NEXT_SEQ stands. -/
def Journal.afresh (p : Bool) (j : Journal) : Journal :=
  { j with policy := p, sram := [], spill := [], keptFrom := j.nextSeq, full := false, stopped := false, lostSince := 0 }

/-- POLICY_CHANGED is the one entry that a policy change makes. -/
theorem setPolicy_journal (p : Bool) (s : State) : ∃ e : JEntry, e.code = 0x0004 ∧
    (setPolicy p s).journal = { s.journal.afresh p with arising := s.journal.arising ++ [e] } := by
  obtain ⟨e, hcode, he⟩ := journal_journal 0x0004 0 93 (le 1 (b2n p)) (fitSpill (modJournal (Journal.afresh p) s))
  rw [fitSpill_journal] at he
  exact ⟨e, hcode, he⟩

/-- Settles O22: STOP is the reset value, to which a POR returns; both commands commit to `setPolicy`, which empties what is held and
lets NEXT_SEQ stand. -/
theorem policyChangeStartsAfresh : Obligations.PolicyChangeStartsAfresh := by
  refine ⟨rfl, fun cause rail s => ?_, fun p s => ?_, fun a s hacc => answer_reply hacc rfl, fun a s hacc => answer_reply hacc rfl⟩
  · rw [packageReset_journal_cold (.inl rfl)]
  · obtain ⟨e, hcode, hjournal⟩ := setPolicy_journal p s
    rw [hjournal]
    exact ⟨rfl, rfl, rfl, rfl, e, hcode, rfl⟩

end Sys2Proof.Machine
end

section
/-!
R495: what a chain reset does at the head, at a package that relays it, and at one that it reaches from downstream.
-/
namespace Sys2Proof.Machine

theorem headChainReset_due {r : Nat} {s : State} (hat : s.chain.resetAt = some r) (hdue : r + 20000 ≤ s.now) :
    headChainReset s = packageReset .chain 0 0xFF s := by
  simp [headChainReset, hat, hdue]

/-- A RESET from upstream is relayed where the downstream link is active, and the package performs its own chain reset. -/
theorem chainReset_up_running {s : State} (h : s.sys.fwRunning = true) :
    chainReset .up s = packageReset .chain 0 0xFF (if chainActive .down s then putControl .down 0xC9 true resetBlock s else s) := by
  simp [chainReset, h]

theorem chainReset_down (s : State) : chainReset .down s = s := rfl

/-- Settles O23: CHAIN_RESET's commit is the RESET block and the note of its time; the time noted is 20 us past when the head resets itself;
firmware still runs as the step begins, so a RESET from upstream has its whole effect, and one from downstream has none. -/
theorem chainResetRunsDown : Obligations.ChainResetRunsDown := by
  refine ⟨fun a s hacc => answer_reply hacc rfl, fun t r s hat hdue => ?head, fun t s hrun => ?up, fun t s => ?down⟩
  case head => exact congrArg (answer s) (headChainReset_due hat hdue)
  case up =>
    have hbegin : (s.begin t).sys.fwRunning = true := (sameWork_begin t s).running.trans hrun
    exact congrArg (answer s) (chainReset_up_running hbegin)
  case down => exact congrArg (answer s) (chainReset_down (s.begin t))

end Sys2Proof.Machine
end

section
/-!
R550: the instruction the test access port acts on, and what IDCODE shifts out.
-/
namespace Sys2Proof.Machine

/-- The beginning of a step leaves the grants and the firmware's state as they were. -/
theorem begin_sys (t : Nat) (s : State) : (s.begin t).sys = s.sys := by
  obtain ⟨c, f, hb⟩ := begin_eq t s
  rw [hb]

/-- The four that are always offered are taken whether or not a grant is held. -/
theorem testAccess_offered_tap {i : TapInstr} (hoffered : ∀ c, i ≠ .other c) (s : State) : (testAccess i s).elec.tap = i := by
  cases i with
  | other c => exact absurd rfl (hoffered c)
  | bypass | idcode | sample | extest => rfl

/-- Any other is taken under the DEBUG grant of R62, and is BYPASS without it; neither sends IDCODE's value. -/
theorem testAccess_other (c : Nat) (s : State) :
    testAccess (.other c) s = modElec (fun e => { e with tap := if s.sys.grantDebug then .other c else .bypass }) s := by
  cases h : s.sys.grantDebug <;> simp [testAccess, h]

theorem testAccess_idcode (s : State) :
    testAccess .idcode s = send .bus 3 1 (le 4 0x112967AB) (modElec (fun e => { e with tap := .idcode }) s) := rfl

theorem exec_testAccessInstruction (t : Nat) (i : TapInstr) (s : State) :
    exec (.testAccessInstruction t i) s = .next (s.ends (testAccess i (s.begin t))) := rfl

/-- Settles O24: the port takes each of the four as it is, and asks the DEBUG grant, which the beginning of the step keeps, for any other. -/
theorem testAccessPortOffers : Obligations.TestAccessPortOffers := by
  refine ⟨fun t ins s => ⟨_, exec_testAccessInstruction t ins s, ?taken⟩, fun t s => ?identity⟩
  case taken =>
    cases ins with
    | other c => rw [testAccess_other, begin_sys]; rfl
    | bypass | idcode | sample | extest => exact testAccess_offered_tap (by simp) _
  case identity => rw [exec_testAccessInstruction, testAccess_idcode]

end Sys2Proof.Machine
end

section
/-!
No step leaves a reset or an entry into SENTRY half done (R83, R84): both are taken at the end of the step, in `settle`.
-/
namespace Sys2Proof.Machine

/-! ### Where the step of any row ends -/

/-- Every row of the table ends in `answer`: an effect, settled, over the queue that stood. -/
theorem exec_ends (i : Instr) (s : State) : ∃ u, exec i s = .next (s.ends u) := by
  cases i <;> exact ⟨_, rfl⟩

/-! ### SENTRY is entered or waits for an engine -/

theorem sentryDue_eq_false_iff (s : State) :
    sentryDue s = false ↔ (s.modes.wanted = some (.sentry, 0) → enginesRun s = true) := by
  simp [sentryDue]

theorem OnlyLanes.modes {s t : State} (h : OnlyLanes s t) : t.modes = s.modes := by
  obtain ⟨l, b, f, rfl⟩ := h
  rfl

/-- What SENTRY keeps of the mode registers holds no reset and no mode change. -/
theorem asleep_wanted_resetNow (saved : Bool) (s : State) :
    (asleep saved s).modes.wanted = none ∧ (asleep saved s).modes.resetNow = none := by
  have dark : ∀ t : State, (if s.modes.strapTwin then darkenSensors true t else t).modes = t.modes := fun t => by
    split
    · exact (darkenSensors_only true t).modes
    · rfl
  unfold asleep
  dsimp only
  split <;> (rw [dark]; exact ⟨rfl, rfl⟩)

theorem enterSentry_notDue (s : State) : sentryDue (enterSentry s) = false := by
  unfold enterSentry
  split
  · obtain ⟨hwanted, -⟩ := asleep_wanted_resetNow s.modes.saveJob
      (spillAll (modVault (fun v => { v with sinceCheckpoint := 0 }) (stopCouriers (compAbort s))))
    rw [sentryDue_eq_false_iff]
    intro h
    exact absurd (hwanted.symm.trans h) (by simp)
  · rename_i h
    exact eq_false_of_ne_true h

/-! ### A soft reset acts at the end of the step -/

theorem takeReset_nothingHalfDone {s : State} (h : sentryDue s = false) : NothingHalfDone (takeReset s) := by
  unfold takeReset
  split
  · obtain ⟨l, m, b, f, he, hreset, hwanted, -⟩ :=
      packageReset_core .soft _ 0xFF (modVault (fun v => { v with sinceCheckpoint := 0 }) s)
    rw [he]
    have hnone : m.wanted = none := hwanted
    exact ⟨hreset, fun hw => absurd (hnone.symm.trans hw) (by simp)⟩
  · rename_i hnone
    exact ⟨hnone, (sentryDue_eq_false_iff s).mp h⟩

/-- However a command leaves the state, the end of its step has nothing half done. -/
theorem settle_nothingHalfDone (s : State) : NothingHalfDone (settle s) := by
  unfold settle
  exact takeReset_nothingHalfDone (enterSentry_notDue _)

/-- The queue is no part of the invariant. -/
theorem nothingHalfDone_withQueue {s : State} (h : NothingHalfDone s) (q : List Instr) : NothingHalfDone { s with pending := q } := h

theorem ends_nothingHalfDone (s u : State) : NothingHalfDone (s.ends u) :=
  nothingHalfDone_withQueue (settle_nothingHalfDone u) s.pending

/-- Settles O26: an idle step keeps the state it has; any other ends in `settle`, which enters SENTRY or leaves it to an engine, and then
takes the reset that is due, so that whatever stood before it the step leaves nothing half done. -/
theorem stepsLeaveNothingHalfDone : Obligations.StepsLeaveNothingHalfDone := by
  intro s t hs hstep
  unfold step at hstep
  split at hstep
  case h_1 =>
    cases hstep
    exact hs
  case h_2 c rest _ =>
    obtain ⟨u, hu⟩ := exec_ends c { s with pending := rest }
    rw [← Host.Outcome.next.inj (hu.symm.trans hstep)]
    exact ends_nothingHalfDone _ u

/-- Settles O27: at reset no reset is due and no mode is wanted. -/
theorem resetHasNothingHalfDone : Obligations.ResetHasNothingHalfDone := ⟨rfl, fun h => absurd h (by simp [State.reset])⟩

end Sys2Proof.Machine
end

section
/-!
A packet reads back from its bytes (R34, R486).
-/
namespace Sys2Proof.Machine

/-! ### Fields of a run of bytes -/

theorem le_take {n m : Nat} (h : n ≤ m) (x : Nat) : (le m x).take n = le n x := by
  induction n generalizing m x with
  | zero => rfl
  | succ n ih =>
    obtain ⟨m, rfl⟩ := Nat.exists_eq_add_of_le' h
    simp [le, ih (by omega : n ≤ m + n)]

/-- A field that lies within the bytes at the front. -/
theorem fld_le_zero {n m : Nat} (h : n ≤ m) (x : Nat) (q : List Byte) : fld n (le m x ++ q) 0 = x % 256 ^ n := by
  rw [fld, List.drop_zero, List.take_append_of_le_length (by rwa [le_length]), le_take h, ofLe_le]

/-- A field behind the bytes at the front. -/
theorem fld_le_skip {m off : Nat} (h : m ≤ off) (n x : Nat) (q : List Byte) : fld n (le m x ++ q) off = fld n q (off - m) := by
  rw [fld, fld, List.drop_append, le_length, List.drop_eq_nil_of_le (by rwa [le_length]), List.nil_append]

theorem drop_le_skip {m off : Nat} (h : m ≤ off) (x : Nat) (q : List Byte) : (le m x ++ q).drop off = q.drop (off - m) := by
  rw [List.drop_append, le_length, List.drop_eq_nil_of_le (by rwa [le_length]), List.nil_append]

/-- A packet's bytes field by field: the six reserved bytes of the header are the four and the two that are read. -/
theorem packetBytes_eq (op : Nat) (a : Args) (relayed : Bool) : packetBytes op a relayed =
    le 2 op ++ (le 1 (a.flags % 4 + if relayed then 4 else 0) ++ (le 1 a.cls ++ (le 2 a.tag ++ (le 1 a.postcode ++ (le 1 a.block
      ++ (le 2 a.plen ++ (le 4 0 ++ (le 2 0 ++ a.params)))))))) := by
  simp only [packetBytes, List.append_assoc]
  rfl

/-- Settles O28: the packet's bytes are its fields one behind the other, so a field is read by skipping those before it, and each fits the
width it is stored in. -/
theorem packetsReadBack : Obligations.PacketsReadBack := by
  intro src op a relayed s hop hflags hcls htag hpost hblock hplen hshort
  have hflag : (a.flags % 4 + if relayed then 4 else 0) % 256 = a.flags + if relayed then 4 else 0 := by
    cases relayed <;> simp <;> omega
  rw [packetBytes_eq]
  simp only [readPacket, u8, u16, u32, fld_le_zero, fld_le_skip, drop_le_skip, le_refl, Nat.reduceLeDiff, Nat.reduceSub, Nat.reducePow,
    List.drop_zero, pow_one, hflag]
  rw [Nat.mod_eq_of_lt (by omega : op < 65536), Nat.mod_eq_of_lt (by omega : a.cls < 256), Nat.mod_eq_of_lt (by omega : a.tag < 65536),
    Nat.mod_eq_of_lt (by omega : a.postcode < 256), Nat.mod_eq_of_lt (by omega : a.block < 256), Nat.mod_eq_of_lt (by omega : a.plen < 65536),
    hplen, List.take_length]

end Sys2Proof.Machine
end

section
/-!
The queue, the reset state, and that every row completes.
-/
namespace Sys2Proof.Machine

theorem ends_pending (s u : State) : (s.ends u).pending = s.pending := by
  unfold State.ends
  rfl

/-- Settles O1: `step` looks at the queue and at nothing else before it runs the row. -/
theorem stepRunsFrontCommand : Obligations.StepRunsFrontCommand := by
  intro c rest s hfront
  simp only [step, hfront]

/-- Settles O2: the model's choice for an empty queue (assumption 1). -/
theorem emptyQueueIdles : Obligations.EmptyQueueIdles := by
  intro s hempty
  simp only [step, hempty]

/-- Every encoder channel counts from 0 after POR, the SSI ones too (R173). -/
theorem encoderReset_count (q : Nat) : (encoderReset q).count = 0 := by
  unfold encoderReset
  split <;> rfl

/-- Settles O29: each register of the reset state is the one R71 and its neighbours name; the encoders' count is 0 in every mode they may have. -/
theorem resetState : Obligations.ResetState :=
  ⟨rfl, rfl, rfl, rfl, rfl, encoderReset_count, rfl, rfl, rfl, rfl, rfl, rfl, rfl, rfl⟩

/-! ### The replies of the DRAM commands (R411) -/

@[simp] theorem zeros_length (n : Nat) : (zeros n).length = n := List.length_replicate

@[simp] theorem drawBytes_length (n : Nat) (s : State) : (s.drawBytes n).1.length = n := by
  simp [State.drawBytes]

@[simp] theorem dramError_toBytes_length (e : DramError) : e.toBytes.length = 32 := by
  simp [DramError.toBytes]

theorem errorLog_length (es : List DramError) : (es.flatMap DramError.toBytes).length = 32 * es.length := by
  simp [List.length_flatMap, Nat.mul_comm]

theorem testResult_length (fails : Bool) (s : State) : (testResult fails s).1.length = 24 := by
  cases fails <;> simp [testResult]

/-- The results of a test, channel by channel, behind what stands. -/
theorem testResults_length (fails : Nat → Bool) (is : List Nat) (acc : List Byte × State) :
    (is.foldl (fun (acc : List Byte × State) i => (acc.1 ++ (testResult (fails i) acc.2).1, (testResult (fails i) acc.2).2)) acc).1.length =
      acc.1.length + 24 * is.length := by
  induction is generalizing acc with
  | nil => rfl
  | cons i is ih =>
    rw [List.foldl_cons, ih, List.length_append, testResult_length, List.length_cons]
    omega

/-- No channel fails where the packet's operand names none. -/
theorem channelFails_none {c : Call} (h : c.a.fails = none) (i : Nat) : channelFails c i = false := by
  simp [channelFails, h]

/-- DRAM_INFO's reply is eight fields in sixteen bytes, whatever this package's build is (R411). -/
theorem infoFields_length (a b c d e f g : Nat) :
    (le 1 a ++ le 1 b ++ le 1 c ++ le 1 d ++ le 2 e ++ le 1 f ++ zeros 1 ++ le 8 g).length = 16 := by
  simp only [List.length_append, le_length, zeros_length]

theorem dramInfo_commit (c : Call) (s : State) : ∃ data : List Byte, data.length = 16 ∧ cmdDramInfo.commit c s = .reply data s :=
  ⟨_, infoFields_length .., rfl⟩

/-- DRAM_TRAIN where no channel fails ends DONE, with the eye it found. -/
theorem dramTrain_commit {c : Call} (h : c.a.fails = none) (s : State) :
    ∃ (data : List Byte) (u : State), data.length = 4 ∧ cmdDramTrain.commit c s = .reply data u := by
  have hok : ((channelsOf c).all fun i => !channelFails c i) = true := by simp [channelFails_none h]
  unfold cmdDramTrain
  dsimp only
  rw [if_pos hok]
  exact ⟨_, _, by simp, rfl⟩

/-- Settles O3: every row ends in `answer`, which puts the queue back; the rows of the pins and supplies are their event's effect, settled; the
replies of the DRAM commands have the lengths of their fields' sum. -/
theorem everyCommandCompletes : Obligations.EveryCommandCompletes := by
  refine ⟨fun c s => ?completes, fun _ _ _ _ => rfl, fun _ _ => rfl, fun _ _ _ => rfl, fun _ _ _ => rfl, fun _ _ _ _ _ => rfl,
    fun _ _ _ => rfl, fun _ _ _ _ _ => rfl, fun _ _ _ => rfl, fun a s h => ?info, fun a s h => answer_reply h rfl,
    fun a s h => ?status, fun a s h => ?errorLog, fun a s h hfails => ?train, fun a s h => ?retrain, fun a s h => ?test⟩
  case completes =>
    obtain ⟨u, hu⟩ := exec_ends c s
    exact ⟨s.ends u, hu, ends_pending s u⟩
  case info =>
    obtain ⟨data, hlen, hcommit⟩ := dramInfo_commit (cmdDramInfo.call a) (received a s)
    exact ⟨data, hlen, answer_reply h hcommit⟩
  case status => exact ⟨_, by simp, answer_reply h rfl⟩
  case errorLog => exact ⟨_, by rw [List.length_append, le_length, errorLog_length], answer_reply h rfl⟩
  case train =>
    obtain ⟨data, u, hlen, hcommit⟩ := dramTrain_commit (c := cmdDramTrain.call a) hfails (received a s)
    exact ⟨data, u, hlen, answer_reply h hcommit⟩
  case retrain => exact ⟨_, _, by simp, answer_reply h rfl⟩
  case test => exact ⟨_, _, by simp [testResults_length], answer_reply h rfl⟩

end Sys2Proof.Machine
end

section
/-!
What a packet that changes nothing leaves as it was: only what its arrival and its reply touch differs (R34, R57).
-/
namespace Sys2Proof.Machine

/-- Settles O4: in a calm state nothing of `settle` is due. -/
theorem calmStepSettles : Obligations.CalmStepSettles := fun s _ hcalm => ends_calm s hcalm

/-- Settles O5: neither the packet's arrival nor its reply touches what `Calm` looks at. -/
theorem repliesKeepCalm : Obligations.RepliesKeepCalm := fun a op st data _ hcalm => (hcalm.received a).sendReply a op st data

/-! ### A packet that comes to no more than its reply -/

/-- A state whose step touches nothing has its queue put back. -/
theorem Untouched.withQueue {s t : State} (h : Untouched s t) : Untouched s { t with pending := s.pending } where
  work := by
    show { t.work with pending := s.pending } = s.work
    rw [h.work]
    rfl
  lanes := h.lanes
  listed := h.listed
  channels := h.channels

/-- Where a packet's command comes to a reply alone, on the state the packet met, the step of its row touches nothing else. -/
theorem exec_replyAlone {i : Instr} {d : CommandDef} {a : Args} {s : State} (hi : packetOf i = some (d, a)) (hcalm : Calm s)
    (h : ∃ st data, runCommand d a s = sendReply a d.opcode st data (received a s)) :
    ∃ t : State, exec i s = .next t ∧ Untouched s t ∧ t.pending = s.pending := by
  obtain ⟨st, data, hrun⟩ := h
  let u := sendReply a d.opcode st data (received a s)
  have hends : s.ends u = s.next u := ends_calm s ((hcalm.received a).sendReply a d.opcode st data)
  refine ⟨s.next u, ?_, ?_, rfl⟩
  · rw [exec_of_packetOf hi, hrun, ← hends]
    rfl
  · have hsettled : Untouched s u.settled :=
      ((untouched_received a s).trans (untouched_sendReply a d.opcode st data _)).trans (untouched_settled u)
    exact hsettled.withQueue

/-! ### CHECK_ONLY and refusals -/

/-- A commit under CHECK_ONLY is a reply alone (R34). -/
theorem commitCommand_checkOnly {a : Args} (h : a.checkOnly = true) (d : CommandDef) (s : State) :
    ∃ st data, commitCommand d a s = sendReply a d.opcode st data s := by
  cases hcommit : d.commit (d.call a) s <;> (simp only [commitCommand, hcommit, h, if_true]; exact ⟨_, _, rfl⟩)

/-- The two ways in which a refusal itself acts do not apply: under CHECK_ONLY, or to a command whose definition asks for neither. -/
def RefusesQuietly (d : CommandDef) (a : Args) : Prop :=
  a.checkOnly = true ∨ (∀ s, d.onEarlyRefusal s = s) ∧ ∀ c st s, d.onRefusal c st s = s

theorem RefusesQuietly.early {d : CommandDef} {a : Args} (h : RefusesQuietly d a) (s : State) :
    (if a.checkOnly || tagTaken a s then s else d.onEarlyRefusal s) = s := by
  rcases h with h | ⟨h, -⟩ <;> simp [h]

theorem RefusesQuietly.staging {d : CommandDef} {a : Args} (h : RefusesQuietly d a) (st : Nat) (s : State) : refusedStaging d a st s = s := by
  unfold refusedStaging
  rcases h with h | ⟨-, h⟩ <;> simp [h]

/-- A delivered packet that is refused quietly, by its checks or in staging, gets a reply alone; one that passes goes to its commit. -/
theorem startKnown_quiet {d : CommandDef} {a : Args} {s : State} (hdel : Delivered d.opcode a s = true) (hquiet : RefusesQuietly d a) :
    (∃ st data, startKnown d a (received a s) = sendReply a d.opcode st data (received a s)) ∨
      commandStatus d a (received a s) = stDone ∧ stageStatus (stageAll d a (received a s)) = stDone ∧
        startKnown d a (received a s) = commitCommand d a (received a s) := by
  by_cases hc : commandStatus d a (received a s) = stDone
  · by_cases hst : stageStatus (stageAll d a (received a s)) = stDone
    · exact .inr ⟨hc, hst, startKnown_staged hdel hc hst⟩
    · have hexp : exportsAll d a (received a s) = false := by
        unfold exportsAll
        rw [Bool.and_assoc, delivered_single hdel, Bool.and_false]
      let xs := stageAll d a (received a s)
      refine .inl ⟨stageStatus xs, failData d.opcode a (stageStatus xs) (failedMask xs) (received a s).chain.postcode, ?_⟩
      unfold startKnown
      simp only [delivered_single hdel, hexp, hc, hst, Bool.false_and, Bool.false_eq_true, ne_eq, not_true, if_false, hquiet.staging]
      rfl
  · let st := commandStatus d a (received a s)
    refine .inl ⟨st, failWhole d.opcode a st (received a s).chain.postcode, ?_⟩
    unfold startKnown
    simp only [delivered_single hdel, Bool.false_and, Bool.false_eq_true, if_false, ne_eq, hc, not_false_eq_true, if_true, hquiet.early]
    rfl

/-- Settles O8: the packet is refused quietly or comes to its commit, which under CHECK_ONLY is a reply alone. -/
theorem checkOnlyLeavesTheBlock : Obligations.CheckOnlyLeavesTheBlock := by
  intro i d a s hi hdel hcheck hcalm
  refine exec_replyAlone hi hcalm ?_
  rw [runCommand_delivered hdel (mustWait_checkOnly hcheck)]
  rcases startKnown_quiet hdel (.inl hcheck) with h | ⟨-, -, h⟩
  · exact h
  · rw [h]
    exact commitCommand_checkOnly hcheck d _

/-- KEY_RESPONSE and POS_COMPARE_ARM alone have a refusal that acts (R62, R183). -/
theorem packetOf_refusal {i : Instr} {d : CommandDef} {a : Args} (hi : packetOf i = some (d, a)) (hkey : d.opcode ≠ 0x0006)
    (harm : d.opcode ≠ 0x0404) : (∀ s, d.onEarlyRefusal s = s) ∧ ∀ c st s, d.onRefusal c st s = s := by
  cases i
  case keyResponse => cases hi; exact absurd rfl hkey
  case posCompareArm => cases hi; exact absurd rfl harm
  all_goals cases hi <;> exact ⟨fun _ => rfl, fun _ _ _ => rfl⟩

/-- Settles O7: a delivered packet that waits for no block and is refused gets a reply alone; that it fails rules its commit out. -/
theorem refusalsLeaveTheBlock : Obligations.RefusalsLeaveTheBlock := by
  intro i d a s hi hdel hprompt hrefused hquiet hcalm
  refine exec_replyAlone hi hcalm ?_
  rw [runCommand_delivered hdel (mustWait_prompt hprompt)]
  rcases startKnown_quiet hdel (hquiet.imp id fun h => packetOf_refusal hi h.1 h.2) with h | ⟨hc, hst, -⟩
  · exact h
  · exact absurd hst (hrefused.resolve_left (not_not.mpr hc))

/-! ### The commands that only read -/

/-- REG_FIELD_READ only reads where no burst of the field fails (R407). -/
theorem regFieldRead_commit {a : Args} (h : a.fails = none) (s : State) :
    ∃ data, cmdRegFieldRead.commit (cmdRegFieldRead.call a) s = .reply data s := by
  cases a
  cases h
  exact ⟨_, rfl⟩

/-- The commit of a command that only reads is its reply, on the state as it is. -/
theorem readsOnly_commit {i : Instr} {d : CommandDef} {a : Args} (hreads : readsOnly i = true) (hi : packetOf i = some (d, a))
    (hfield : i = .regFieldRead a → a.fails = none) (s : State) : ∃ data, d.commit (d.call a) s = .reply data s := by
  cases i
  case regFieldRead =>
    cases hi
    exact regFieldRead_commit (hfield rfl) s
  all_goals cases hreads <;> cases hi <;> exact ⟨_, rfl⟩

/-- Settles O6: the commit of a command that only reads is its reply, on the state the packet met. -/
theorem readersLeaveTheBlock : Obligations.ReadersLeaveTheBlock := by
  intro i d a s hreads hi hacc hfield hcalm
  obtain ⟨data, hcommit⟩ := readsOnly_commit hreads hi hfield (received a s)
  exact exec_replyAlone hi hcalm ⟨_, _, runCommand_reply hacc hcommit⟩

end Sys2Proof.Machine
end

section
/-!
Undefined opcodes (R60), positions (R168), sequence numbers (R464) and the bursts of the Courier (R425, R428).
-/
namespace Sys2Proof.Machine

/-! ### Undefined opcodes -/

/-- A packet with an opcode that nothing defines waits for no block and is refused where it starts (R60). -/
theorem arrive_undefined {op : Nat} {a : Args} {s : State} (hstart : mayStart op a s = true) (hhead : headerStatus a s = stDone)
    (hpost : a.postcode = 0xFE) (hawake : s.mode ≠ .sentry) : arrive none op a s = refuse op stBadOpcode a s := by
  have hwait : mustWait none a s = false := rfl
  have hnear : ¬ 0xFE < 16 := by decide
  simp only [arrive, hstart, hwait, startPacket, hhead, hpost, hawake, Bool.not_false, Bool.and_self, if_true, ne_eq, not_true,
    if_false, Nat.reduceEqDiff, hnear, decide_false, Bool.false_and, Bool.false_eq_true]

/-- Settles O11: the frame passes the port's length checks, the packet arrives with no command to its opcode and with this package's own
postcode, and `startPacket` refuses it. -/
theorem undefinedOpcodeIsRefused : Obligations.UndefinedOpcodeIsRefused := by
  intro t frame s hheader hparams hmax p u hop hfree hstart hhead hpost hawake
  have hframe : (decide (frame.length < 16) || decide (frame.length < 16 + u16 frame 8) || decide (256 < frame.length)) = false := by
    simp only [Bool.or_eq_false_iff, decide_eq_false_iff_not]
    omega
  have hsrc : p.2.src = .service := rfl
  have hwrite : writePacket frame (s.begin t) = refuse p.1 stBadOpcode p.2 u := by
    calc writePacket frame (s.begin t) = takePacket (commandOf p.1) p.1 p.2 (s.begin t) := by
          unfold writePacket
          rw [hframe]
          rfl
      _ = arrive none p.1 p.2 u := by
          simp only [takePacket, hsrc, hfree, hop, if_true]
          rfl
      _ = refuse p.1 stBadOpcode p.2 u := arrive_undefined hstart hhead hpost hawake
  exact congrArg (answer s) hwrite

/-! ### Positions -/

/-- A difference, and a wrapped count, by the multiple of the range they are off. -/
theorem posDiff_spec (x y : Int) : ∃ k : Int, posDiff x y = x - y + k * 281474976710656 ∧ -140737488355328 ≤ posDiff x y ∧
    posDiff x y < 140737488355328 := by
  obtain ⟨k, h, hlo, hhi⟩ := toInt48 (x - y)
  have hd : posDiff x y = x - y + k * 281474976710656 := h
  exact ⟨k, hd, hd ▸ hlo, hd ▸ hhi⟩

theorem pos48_spec (x : Int) : ∃ k : Int, pos48 x = x + k * 281474976710656 ∧ -140737488355328 ≤ pos48 x ∧ pos48 x < 140737488355328 := by
  obtain ⟨k, h, hlo, hhi⟩ := toInt48 x
  have hd : pos48 x = x + k * 281474976710656 := h
  exact ⟨k, hd, hd ▸ hlo, hd ▸ hhi⟩

/-- Settles O17: a difference is the true one up to a multiple of 2^48, within a signed 48-bit value; that of y and x is then its negative. -/
theorem positionsCompareModulo : Obligations.PositionsCompareModulo := by
  refine ⟨fun x y => ?_, fun x y hahead => ?_, fun x => ?_⟩
  · obtain ⟨k, h, hlo, hhi⟩ := posDiff_spec x y
    exact ⟨⟨k, by rw [h]; ring⟩, hlo, hhi⟩
  · obtain ⟨k, h, -, hhi⟩ := posDiff_spec x y
    obtain ⟨j, g, -, ghi⟩ := posDiff_spec y x
    omega
  · obtain ⟨k, h, hlo, hhi⟩ := pos48_spec x
    exact ⟨⟨k, by rw [h]; ring⟩, hlo, hhi⟩

/-! ### Sequence numbers -/

theorem storeEntry_sram_stop {s : State} (h : s.journal.policy = false) (e : JEntry) :
    (storeEntry e s).journal.sram = s.journal.sram ++ [{ e with seq := s.journal.nextSeq }] := by
  simp [storeEntry, h]

theorem storeEntry_nextSeq (e : JEntry) (s : State) : (storeEntry e s).journal.nextSeq = (s.journal.nextSeq + 1) % 2 ^ 48 := by
  simp only [storeEntry, modJournal_journal]
  split <;> rfl

/-- Settles O20: POR and the pin reset leave a journal that counts from 0; a stored entry takes NEXT_SEQ, kept by the STOP policy behind the others,
and a suppressed one leaves it. -/
theorem sequenceNumbersCount : Obligations.SequenceNumbersCount := by
  refine ⟨fun k cause rail s hk => ?_, fun e s hstop => storeEntry_sram_stop hstop e, storeEntry_nextSeq, fun e b s => ⟨?_, rfl⟩⟩
  · rw [packageReset_journal_cold hk]
  · rw [suppressEntry_journal]
    rfl

/-! ### The memories -/

/-- The bytes of host memory and of DRAM are as they were. -/
structure SameBytes (s t : State) : Prop where
  host : t.hostMem = s.hostMem
  dram : t.dramMem = s.dramMem

theorem SameBytes.refl (s : State) : SameBytes s s := ⟨rfl, rfl⟩

theorem SameBytes.trans {s t u : State} (h : SameBytes s t) (g : SameBytes t u) : SameBytes s u :=
  ⟨g.host.trans h.host, g.dram.trans h.dram⟩

theorem sameBytes_foldl {α : Type} {f : State → α → State} (hf : ∀ s x, SameBytes s (f s x)) (xs : List α) (s : State) :
    SameBytes s (xs.foldl f s) := by
  induction xs generalizing s with
  | nil => exact SameBytes.refl s
  | cons x xs ih => exact (hf s x).trans (ih _)

theorem sameBytes_begin (t : Nat) (s : State) : SameBytes s (s.begin t) := by
  obtain ⟨c, f, h⟩ := begin_eq t s
  rw [h]
  exact ⟨rfl, rfl⟩

/-- What a burst held is lost to its readers; the bytes stay (R407). -/
theorem sameBytes_spoil (a : Nat) (s : State) : SameBytes s (spoil a s) := by
  unfold spoil
  refine (sameBytes_foldl (fun s k => ?_) _ s).trans (sameBytes_foldl (fun s n => ?_) _ _)
  · split
    · dsimp only
      split <;> exact ⟨rfl, rfl⟩
    · exact SameBytes.refl s
  · dsimp only
    split <;> exact ⟨rfl, rfl⟩

theorem sameBytes_modDramCh (c : Nat) (f : DramCh → DramCh) (s : State) : SameBytes s (modDramCh c f s) :=
  ⟨setDramCh_hostMem .., setDramCh_dramMem ..⟩

theorem sameBytes_logError (e : DramError) (s : State) : SameBytes s (logError e s) := sameBytes_modDramCh ..

theorem sameBytes_raise (src : Nat) (s : State) : SameBytes s (raise src s) := ⟨raise_hostMem .., raise_dramMem ..⟩

theorem sameBytes_journal (code block domain : Nat) (data : List Byte) (s : State) : SameBytes s (journal code block domain data s) :=
  ⟨journal_hostMem .., journal_dramMem ..⟩

theorem sameBytes_correctedRead (a reader beats lane : Nat) (s : State) : SameBytes s (correctedRead a reader beats lane s) := by
  unfold correctedRead
  extract_lets logged counted
  have hcounted : SameBytes s counted := (sameBytes_logError _ s).trans (sameBytes_modDramCh _ _ logged)
  split
  · exact (hcounted.trans ⟨modDram_hostMem .., modDram_dramMem ..⟩).trans (sameBytes_raise ..)
  · exact hcounted

theorem sameBytes_uncorrectableRead (a reader beats : Nat) (s : State) : SameBytes s (uncorrectableRead a reader beats s) := by
  unfold uncorrectableRead
  extract_lets c logged counted
  have hcounted : SameBytes s counted := (sameBytes_logError _ s).trans (sameBytes_modDramCh _ _ logged)
  refine SameBytes.trans ?_ (sameBytes_spoil ..)
  exact (hcounted.trans (sameBytes_raise ..)).trans (sameBytes_journal ..)

theorem sameBytes_readOutcome (errors : List (BitVec 40)) (s : State) : SameBytes s (readOutcome errors s).2 := by
  unfold readOutcome
  dsimp only
  split
  · exact SameBytes.refl s
  · split
    · exact SameBytes.refl s
    · split <;> exact ⟨rfl, rfl⟩

/-- Reading a burst counts and logs its errors, and stores nothing. -/
theorem sameBytes_readBurst (a reader : Nat) (errors : List (BitVec 40)) (s : State) : SameBytes s (readBurst a reader errors s).2 := by
  unfold readBurst
  dsimp only
  refine (sameBytes_readOutcome errors s).trans ?_
  split
  · exact SameBytes.refl _
  · exact sameBytes_correctedRead ..
  · exact sameBytes_uncorrectableRead ..

/-! ### A burst of the Courier -/

theorem destBytes_length (x : CourierCh) (draw q o len : Nat) (s : State) : (destBytes x draw q o len s).length = len := by
  unfold destBytes
  exact le_length ..

/-- Where a burst into DRAM stores: from this address on. -/
def CourierCh.burstAt (x : CourierCh) : Nat :=
  x.dst + (if x.dest.single then 0 else x.moved / max 1 x.dest.run * x.dstStride) + x.moved % max 1 x.dest.run

/-- How many bytes a burst into DRAM moves: what is left of the run, and no more than 512. -/
def CourierCh.burstLen (x : CourierCh) : Nat := min 512 (x.dest.run - x.moved % max 1 x.dest.run)

/-- A burst into DRAM stores in its own place, or, where its read fails, nowhere. -/
theorem courierBurst_stores {k : Nat} {s : State} (errors : List (BitVec 40)) (hheld : workHeld 1 s = false)
    (hpick : pickCourier s = some k) (hdram : (s.courier k).dstHost = false) :
    (courierBurst errors s).hostMem = s.hostMem ∧ ∃ bs : List Byte, bs.length ≤ (s.courier k).burstLen ∧
      (courierBurst errors s).dramMem = Mem.writeN s.dramMem (s.courier k).burstAt bs := by
  unfold courierBurst
  simp -zeta only [hheld, Bool.false_eq_true, if_false, hpick]
  extract_lets x d q off a len from_ waiting v w r u bs _ v₁ v₂
  have hx : x.dstHost = false := hdram
  have hv : SameBytes s v :=
    sameBytes_foldl (f := fun s j => modCourier j (fun y => { y with waited := y.waited + 1 }) s) (fun _ _ => ⟨rfl, rfl⟩) waiting s
  have hw : SameBytes s w := hv.trans ⟨rfl, rfl⟩
  have hu : SameBytes s u := by
    by_cases hsrc : x.srcHost = true
    · have hnone : u = w := congrArg Prod.snd (if_pos hsrc)
      exact hnone ▸ hw
    · let asked := askDram false from_ (len * x.source.width / max 1 d.width) 1 w
      have hasked : SameBytes w asked := ⟨rfl, rfl⟩
      have hread : u = (readBurst from_ 1 errors asked).2 := congrArg Prod.snd (if_neg hsrc)
      exact hread ▸ (hw.trans hasked).trans (sameBytes_readBurst ..)
  have hlen : bs.length = x.burstLen := by
    rw [destBytes_length]
    simp [len, hx, CourierCh.burstLen, off, d]
  have hv₂ : v₂ = askDram true a bs.length 1 { v₁ with dramMem := Mem.writeN v₁.dramMem a bs } := if_neg (by simp [hx])
  split
  · exact ⟨hu.host, [], Nat.zero_le _, hu.dram⟩
  · refine ⟨?_, bs, hlen.le, ?_⟩
    · rw [hv₂]
      exact hu.host
    · rw [hv₂]
      exact congrArg (fun m => Mem.writeN m a bs) hu.dram

/-- Settles O25: what goes before the store (the arbitration, the read of the source with its errors) stores no byte, and the store is of at
most `burstLen` bytes from `burstAt` on. -/
theorem courierBurstStaysInPlace : Obligations.CourierBurstStaysInPlace := by
  intro t k errors s hheld hpick hdram x a
  have hbegin := sameBytes_begin t s
  have hk : (s.begin t).courier k = s.courier k := by
    obtain ⟨c, f, h⟩ := begin_eq t s
    rw [h]
    rfl
  obtain ⟨hhost, bs, hlen, hstored⟩ := courierBurst_stores errors hheld hpick (hk ▸ hdram)
  rw [hk] at hlen hstored
  refine ⟨courierBurst errors (s.begin t), rfl, hhost.trans hbegin.host, fun b hb => ?_⟩
  rw [hstored, Mem.read_writeN_outside, hbegin.dram]
  exact hb.imp id fun h => (Nat.add_le_add_left hlen _).trans h

end Sys2Proof.Machine
end

section
/-!
The accepted packet of each command: its commit replies at once (`answer_reply`), leaves the command outstanding (`answer_later`), or ends as what
it asks of the state or the operands has it.
-/
namespace Sys2Proof.Machine

/-- A command that ends as its commit answers: the step is what that answer comes to. -/
theorem answer_committed {d : CommandDef} {a : Args} {s t : State} (h : Accepted d a s = true)
    (ht : d.after a s (d.commit (d.call a) (received a s)) = t) : answer s (runCommand d a s) = .next t :=
  (answer_commit h).trans (congrArg Host.Outcome.next ht)

/-- Settles O30: CANCEL's commit looks for the waiting command it names, the others reply at once. -/
theorem systemCommandsRun : Obligations.SystemCommandsRun := by
  refine ⟨fun _ _ h => answer_reply h rfl, fun _ _ h => answer_reply h rfl, fun _ _ h => answer_reply h rfl, fun _ _ h => answer_reply h rfl,
    fun a s h => answer_committed h ?cancel, fun _ _ h => answer_reply h rfl, fun _ _ h => answer_reply h rfl,
    fun _ _ h => answer_reply h rfl⟩
  case cancel =>
    unfold cmdCancel
    dsimp only
    generalize List.find? _ _ = o
    cases o <;> rfl

/-- Settles O31: each commit replies at once. The reply of FR_IDENTIFY and the layouts of the parameters are the model's choice (assumption 73). -/
theorem forerunnerCommandsRun : Obligations.ForerunnerCommandsRun :=
  ⟨fun _ _ h => answer_reply h rfl, fun _ _ h => answer_reply h rfl, fun _ _ h => answer_reply h rfl, fun _ _ h => answer_reply h rfl,
    fun _ _ h => answer_reply h rfl, fun _ _ h => answer_reply h rfl, fun _ _ h => answer_reply h rfl, fun _ _ h => answer_reply h rfl⟩

/-- Settles O32: a commit that asks whether its change takes time, and begins it where it does (the model's choice, assumption 108), is
followed into both answers. -/
theorem modeCommandsRun : Obligations.ModeCommandsRun :=
  ⟨fun _ _ h => answer_committed h (after_ite rfl (after_ite rfl rfl)), fun _ _ h => answer_committed h (after_ite rfl rfl),
    fun _ _ h => answer_reply h rfl, fun _ _ h => answer_reply h rfl, fun _ _ h => answer_reply h rfl,
    fun _ _ h => answer_committed h (after_ite rfl rfl), fun _ _ h => answer_reply h rfl⟩

/-- Settles O33: each commit replies at once but for the two that send the camera a message. That LAST_TEMP and LAST_LINE_COUNT read 0 is
the model's choice (assumption 88). -/
theorem laneAndPortCommandsRun : Obligations.LaneAndPortCommandsRun :=
  ⟨fun _ _ h => answer_reply h rfl, fun _ _ h => answer_reply h rfl, fun _ _ h => answer_reply h rfl, fun _ _ h => answer_reply h rfl,
    fun _ _ h => answer_reply h rfl, fun _ _ h => answer_later h rfl, fun _ _ h => answer_later h rfl, fun _ _ h => answer_reply h rfl⟩

/-- Settles O34: storing a base set and a capture stay outstanding, the others reply at once. -/
theorem photometricCommandsRun : Obligations.PhotometricCommandsRun :=
  ⟨fun _ _ h => answer_later h rfl, fun _ _ h => answer_reply h rfl, fun _ _ h => answer_reply h rfl, fun _ _ h => answer_reply h rfl,
    fun _ _ h => answer_reply h rfl, fun _ _ h => answer_later h rfl⟩

/-- Settles O35: each commit replies at once with the effect it names. -/
theorem positionCommandsRun : Obligations.PositionCommandsRun :=
  ⟨fun _ _ h => answer_reply h rfl, fun _ _ h => answer_reply h rfl, fun _ _ h => answer_reply h rfl, fun _ _ h => answer_reply h rfl,
    fun _ _ h => answer_reply h rfl⟩

/-- Settles O36: each commit replies at once. The grid fields of a port without station, the WIDTH of no ports and the stop of the coarse
stage are the model's choices (assumptions 90, 92, 111). -/
theorem resampleAndStitchCommandsRun : Obligations.ResampleAndStitchCommandsRun :=
  ⟨fun _ _ h => answer_reply h rfl, fun _ _ h => answer_reply h rfl, fun _ _ h => answer_reply h rfl, fun _ _ h => answer_reply h rfl,
    fun _ _ h => answer_reply h rfl, fun _ _ h => answer_reply h rfl, fun _ _ h => answer_reply h rfl, fun _ _ h => answer_reply h rfl,
    fun _ _ h => answer_reply h rfl, fun _ _ h => answer_reply h rfl, fun _ _ h => answer_reply h rfl⟩

/-- Settles O37: SPECIMEN_STORE's commit asks for a loaded specimen; it and SPECIMEN_RECALL stay outstanding. -/
theorem specimenCommandsRun : Obligations.SpecimenCommandsRun := by
  refine ⟨fun _ _ h => answer_reply h rfl, fun _ _ h => answer_reply h rfl, fun _ _ h => answer_reply h rfl,
    fun a s h => answer_committed h ?specimenStore, fun _ _ h => answer_later h rfl, fun _ _ h => answer_reply h rfl,
    fun _ _ h => answer_reply h rfl⟩
  case specimenStore =>
    unfold cmdSpecimenStore
    dsimp only
    generalize (State.learn _ _).loaded = o
    cases o <;> rfl

/-- Settles O38: REG_FIELD_READ's commit asks whether a burst it reads fails, which is an operand (the model's choice, assumptions 73,
94 and 100); the others reply at once. -/
theorem registrationAndSegmentationCommandsRun : Obligations.RegistrationAndSegmentationCommandsRun := by
  refine ⟨fun _ _ h => answer_reply h rfl, fun _ _ h => answer_reply h rfl, fun _ _ h => answer_reply h rfl, fun _ _ h => answer_reply h rfl,
    fun _ _ h => answer_reply h rfl, fun _ _ h => answer_reply h rfl, fun a s h => answer_committed h ?regFieldRead,
    fun _ _ h => answer_reply h rfl, fun _ _ h => answer_reply h rfl, fun _ _ h => answer_reply h rfl, fun _ _ h => answer_reply h rfl⟩
  case regFieldRead =>
    unfold cmdRegFieldRead
    dsimp only [CommandDef.call]
    cases a.fails <;> rfl

/-- Settles O39: LEDGER_EXPORT's commit asks a condition, the others reply at once; the layout of what it sends is assumption 31. -/
theorem ledgerAndSecondLookCommandsRun : Obligations.LedgerAndSecondLookCommandsRun :=
  ⟨fun _ _ h => answer_reply h rfl, fun _ _ h => answer_reply h rfl, fun _ _ h => answer_reply h rfl, fun _ _ h => answer_reply h rfl,
    fun _ _ h => answer_reply h rfl, fun _ _ h => answer_committed h (after_ite rfl rfl), fun _ _ h => answer_reply h rfl,
    fun _ _ h => answer_reply h rfl, fun _ _ h => answer_reply h rfl, fun _ _ h => answer_reply h rfl⟩

/-- Settles O40: each commit replies at once; the rows of FRANK_STATUS and FRANK_MACHINE are read as assumption 36 has them. -/
theorem frankingCommandsRun : Obligations.FrankingCommandsRun :=
  ⟨fun _ _ h => answer_reply h rfl, fun _ _ h => answer_reply h rfl, fun _ _ h => answer_reply h rfl, fun _ _ h => answer_reply h rfl,
    fun _ _ h => answer_reply h rfl, fun _ _ h => answer_reply h rfl, fun _ _ h => answer_reply h rfl⟩

/-- Settles O41: each commit replies at once with the effect it names. -/
theorem frameCommandsRun : Obligations.FrameCommandsRun :=
  ⟨fun _ _ h => answer_reply h rfl, fun _ _ h => answer_reply h rfl, fun _ _ h => answer_reply h rfl, fun _ _ h => answer_reply h rfl,
    fun _ _ h => answer_reply h rfl, fun _ _ h => answer_reply h rfl⟩

/-- Settles O42: TELLER_REMAP's commit looks for a district to move to, and begins the move or finds no space. -/
theorem tellerCommandsRun : Obligations.TellerCommandsRun := by
  refine ⟨fun _ _ h => answer_reply h rfl, fun _ _ h => answer_reply h rfl, fun _ _ h => answer_reply h rfl, fun _ _ h => answer_reply h rfl,
    fun a s h => answer_committed h ?tellerRemap⟩
  case tellerRemap =>
    unfold cmdTellerRemap
    dsimp only
    generalize remapTarget _ _ _ = o
    cases o <;> rfl

/-- Settles O43: DRAM_TRAIN's commit asks whether every channel trains; the others reply at once. -/
theorem dramCommandsRun : Obligations.DramCommandsRun :=
  ⟨fun _ _ h => answer_reply h rfl, fun _ _ h => answer_reply h rfl, fun _ _ h => answer_reply h rfl, fun _ _ h => answer_reply h rfl,
    fun _ _ h => answer_committed h (after_ite rfl rfl), fun _ _ h => answer_reply h rfl, fun _ _ h => answer_reply h rfl⟩

/-- Settles O44: COMP_JOB stays outstanding, the others reply at once. The user region's BASE and CORRECTABLE are the model's choices
(assumptions 58, 37). -/
theorem hostAndCompressionCommandsRun : Obligations.HostAndCompressionCommandsRun :=
  ⟨fun _ _ h => answer_reply h rfl, fun _ _ h => answer_reply h rfl, fun _ _ h => answer_reply h rfl, fun _ _ h => answer_reply h rfl,
    fun _ _ h => answer_later h rfl, fun _ _ h => answer_reply h rfl⟩

/-- Settles O45: a firmware image is stored by a later event, DAYBOOK_JOB_SET's commit asks what is to be done. The order of jobs and what DELETE
raises are the model's choices (assumptions 31, 43, 107). -/
theorem vaultAndJournalCommandsRun : Obligations.VaultAndJournalCommandsRun :=
  ⟨fun _ _ h => answer_reply h rfl, fun _ _ h => answer_reply h rfl, fun _ _ h => answer_reply h rfl, fun _ _ h => answer_reply h rfl,
    fun _ _ h => answer_later h rfl, fun _ _ h => answer_reply h rfl, fun _ _ h => answer_reply h rfl,
    fun _ _ h => answer_committed h (after_ite rfl rfl), fun _ _ h => answer_reply h rfl, fun _ _ h => answer_reply h rfl,
    fun _ _ h => answer_reply h rfl, fun _ _ h => answer_reply h rfl, fun _ _ h => answer_reply h rfl⟩

/-- Settles O46: enumeration and handover stay outstanding, the others reply at once. The interlock under role OFF and a second handover are
the model's choices (assumptions 53, 60). -/
theorem chainAndTwinCommandsRun : Obligations.ChainAndTwinCommandsRun :=
  ⟨fun _ _ h => answer_reply h rfl, fun _ _ h => answer_later h rfl, fun _ _ h => answer_reply h rfl, fun _ _ h => answer_reply h rfl,
    fun _ _ h => answer_reply h rfl, fun _ _ h => answer_reply h rfl, fun _ _ h => answer_reply h rfl, fun _ _ h => answer_later h rfl,
    fun _ _ h => answer_reply h rfl⟩

/-- Settles O47: CAL_RUN stays outstanding; I2C_TRANSFER ends as the bus answers, which is an operand. CAL_STATUS before the first recompute is the
model's choice (assumption 41). -/
theorem calibrationAndPinCommandsRun : Obligations.CalibrationAndPinCommandsRun := by
  refine ⟨fun _ _ h => answer_later h rfl, fun _ _ h => answer_reply h rfl, fun _ _ h => answer_reply h rfl, fun _ _ h => answer_reply h rfl,
    fun _ _ h => answer_reply h rfl, fun _ _ h => answer_reply h rfl, fun a s h => answer_committed h ?i2cTransfer⟩
  case i2cTransfer =>
    unfold cmdI2cTransfer
    dsimp only [CommandDef.call]
    rcases a.fails with _ | _ | _ | _ <;> rfl

end Sys2Proof.Machine
end

section
/-!
The events: the row of each is `answer` of its effect on the state the step begins with, and the statement writes that effect out, so that each
clause holds by the definitions of the row and of the effect, whatever the state and the operands.
-/
namespace Sys2Proof.Machine

/-- Settles O48: the events of the packet path. That a dispatch ends a transition and that a frame over 256 bytes is refused are the model's choices
(assumptions 108, 55). -/
theorem packetPathEvents : Obligations.PacketPathEvents :=
  ⟨fun _ _ => rfl, fun _ _ _ => rfl, fun _ _ => rfl, fun _ _ _ => rfl, fun _ _ => rfl, fun _ _ _ _ _ _ _ => rfl⟩

/-- Settles O49: the events of resets and supplies. The domain 0 of the entries of BROWNOUT and WATCHDOG_WARN is the model's choice
(assumption 47 has the first), as are the readings of assumptions 48 and 78. -/
theorem resetAndPowerEvents : Obligations.ResetAndPowerEvents :=
  ⟨fun _ _ => rfl, fun _ _ => rfl, fun _ _ => rfl, fun _ _ => rfl, fun _ _ _ _ _ => rfl, fun _ _ _ _ _ => rfl, fun _ _ _ => rfl,
    fun _ _ => rfl, fun _ _ _ _ _ => rfl, fun _ _ _ _ => rfl, fun _ _ _ _ => rfl, fun _ _ => rfl, fun _ _ => rfl, fun _ _ => rfl,
    fun _ _ => rfl, fun _ _ => rfl, fun _ _ _ => rfl, fun _ _ _ => rfl, fun _ _ => rfl, fun _ _ _ => rfl⟩

/-- Settles O50: the events of the lanes; the bring-up's enables, the injections and the overheard preset are the model's choices
(assumption 109). -/
theorem laneEvents : Obligations.LaneEvents :=
  ⟨fun _ _ _ => rfl, fun _ _ _ => rfl, fun _ _ _ => rfl, fun _ _ _ => rfl, fun _ _ _ => rfl, fun _ _ _ _ _ => rfl, fun _ _ _ => rfl,
    fun _ _ _ => rfl, fun _ _ _ _ => rfl, fun _ _ _ _ _ _ _ => rfl, fun _ _ _ _ => rfl, fun _ _ _ _ _ _ _ => rfl, fun _ _ _ _ => rfl,
    fun _ _ _ => rfl, fun _ _ _ => rfl, fun _ _ _ => rfl, fun _ _ _ => rfl, fun _ _ _ _ => rfl, fun _ _ _ _ => rfl⟩

/-- Settles O51: the events of ports and photometric correction; the rate window is the model's choice (assumptions 87, 110). -/
theorem portAndPhotometricEvents : Obligations.PortAndPhotometricEvents :=
  ⟨fun _ _ _ _ => rfl, fun _ _ _ => rfl, fun _ _ _ => rfl, fun _ _ _ _ => rfl, fun _ _ _ _ _ _ => rfl, fun _ _ _ _ _ _ => rfl,
    fun _ _ _ => rfl, fun _ _ _ => rfl, fun _ _ _ => rfl, fun _ _ _ => rfl⟩

/-- Settles O52: the events of the web position; the speed over the window's own length is the model's choice (assumptions 12, 80). -/
theorem positionEvents : Obligations.PositionEvents :=
  ⟨fun _ _ _ _ => rfl, fun _ _ _ => rfl, fun _ _ _ _ _ _ => rfl, fun _ _ _ => rfl, fun _ _ _ => rfl, fun _ _ _ => rfl, fun _ _ _ => rfl,
    fun _ _ _ => rfl, fun _ _ _ => rfl⟩

/-- Settles O53: the events of lines and specimens; where acquisition puts P is the model's choice (assumptions 23, 91). -/
theorem lineAndSpecimenEvents : Obligations.LineAndSpecimenEvents :=
  ⟨fun _ _ _ => rfl, fun _ _ _ => rfl, fun _ _ _ _ _ => rfl, fun _ _ _ => rfl, fun _ _ _ => rfl, fun _ _ _ _ => rfl, fun _ _ _ _ => rfl,
    fun _ _ _ => rfl, fun _ _ _ => rfl, fun _ _ _ _ _ => rfl⟩

/-- Settles O54: the events of ledger, second look and franking; that a head fault ends every mark is the model's choice
(assumption 35, with 33 and 101). -/
theorem ledgerLookAndFrankingEvents : Obligations.LedgerLookAndFrankingEvents :=
  ⟨fun _ _ => rfl, fun _ _ _ => rfl, fun _ _ _ => rfl, fun _ _ _ => rfl, fun _ _ _ _ => rfl, fun _ _ _ => rfl, fun _ _ _ => rfl,
    fun _ _ _ _ => rfl, fun _ _ => rfl, fun _ _ => rfl, fun _ _ => rfl, fun _ _ _ => rfl⟩

/-- Settles O55: the events of frame and host; the split at 4 KiB, STOP at once and what a function's reset leaves are the model's choices
(assumptions 10, 37). -/
theorem frameAndHostEvents : Obligations.FrameAndHostEvents :=
  ⟨fun _ _ _ => rfl, fun _ _ _ => rfl, fun _ _ _ _ => rfl, fun _ _ _ => rfl, fun _ _ _ => rfl, fun _ _ _ _ _ _ => rfl,
    fun _ _ _ _ _ => rfl, fun _ _ _ => rfl, fun _ _ _ => rfl, fun _ _ _ _ => rfl, fun _ _ _ => rfl, fun _ _ _ _ => rfl,
    fun _ _ _ _ => rfl, fun _ _ _ => rfl, fun _ _ => rfl⟩

/-- Settles O56: the events of teller and DRAM; the temperatures and energies are operands (the model's choice, assumptions 42, 93, 100). -/
theorem tellerAndDramEvents : Obligations.TellerAndDramEvents :=
  ⟨fun _ _ _ _ _ => rfl, fun _ _ => rfl, fun _ _ => rfl, fun _ _ => rfl, fun _ _ => rfl, fun _ _ _ => rfl, fun _ _ _ => rfl,
    fun _ _ _ _ _ => rfl, fun _ _ _ _ _ => rfl, fun _ _ => rfl, fun _ _ _ _ => rfl, fun _ _ _ => rfl, fun _ _ _ => rfl,
    fun _ _ _ _ _ _ => rfl, fun _ _ _ _ => rfl, fun _ _ _ _ => rfl, fun _ _ _ => rfl, fun _ _ _ _ => rfl, fun _ _ _ => rfl,
    fun _ _ _ => rfl⟩

/-- Settles O57: the events of storage; that a part's source is read as the part completes is the model's choice (assumptions 43, 66). -/
theorem storageEvents : Obligations.StorageEvents :=
  ⟨fun _ _ _ _ => rfl, fun _ _ _ => rfl, fun _ _ _ => rfl, fun _ _ _ => rfl, fun _ _ _ _ _ _ _ => rfl, fun _ _ => rfl,
    fun _ _ _ _ => rfl, fun _ _ _ => rfl, fun _ _ _ => rfl, fun _ _ => rfl⟩

/-- Settles O58: the events of the chain; the lower median and what is discarded from downstream are the model's choices (assumption 53). -/
theorem chainEvents : Obligations.ChainEvents :=
  ⟨fun _ _ => rfl, fun _ _ _ _ => rfl, fun _ _ => rfl, fun _ _ _ _ => rfl, fun _ _ _ _ _ => rfl, fun _ _ _ _ _ _ => rfl,
    fun _ _ _ _ _ _ => rfl, fun _ _ _ _ _ _ _ _ => rfl, fun _ _ _ _ _ _ => rfl, fun _ _ _ _ _ _ => rfl, fun _ _ _ _ _ _ => rfl,
    fun _ _ _ _ => rfl, fun _ _ _ _ _ _ => rfl, fun _ _ _ _ => rfl, fun _ _ _ _ => rfl, fun _ _ _ => rfl, fun _ _ => rfl,
    fun _ _ _ _ _ => rfl, fun _ _ _ _ => rfl, fun _ _ _ _ => rfl, fun _ _ _ => rfl, fun _ _ => rfl, fun _ _ => rfl⟩

/-- Settles O59: the events of twin operation; contention binding a driving package and HELLO after a lost heartbeat are the model's choices
(assumptions 59, 60). -/
theorem twinEvents : Obligations.TwinEvents :=
  ⟨fun _ _ => rfl, fun _ _ => rfl, fun _ _ => rfl, fun _ _ => rfl, fun _ _ _ _ => rfl, fun _ _ => rfl, fun _ _ => rfl,
    fun _ _ _ _ _ _ _ _ => rfl, fun _ _ _ _ _ _ _ _ => rfl, fun _ _ _ _ _ _ _ _ => rfl, fun _ _ => rfl, fun _ _ _ _ _ _ => rfl,
    fun _ _ => rfl, fun _ _ _ _ _ => rfl, fun _ _ _ _ _ _ => rfl, fun _ _ => rfl⟩

/-- Settles O60: the events of calibration and the pins; SET_MODE waiting at the last step, and where the second's bound is judged, are the
model's choices (assumptions 41, 104). -/
theorem calibrationAndPinEvents : Obligations.CalibrationAndPinEvents :=
  ⟨fun _ _ _ _ => rfl, fun _ _ => rfl, fun _ _ _ => rfl, fun _ _ _ => rfl, fun _ _ _ _ => rfl, fun _ _ _ => rfl, fun _ _ _ _ _ => rfl,
    fun _ _ _ => rfl, fun _ _ _ => rfl⟩

end Sys2Proof.Machine
end
